-- ==== Sys2Proof/Word.lean ====
section
/-! DEFINITION. The word types: a byte, and the 32-bit and 64-bit register words of R8. -/

namespace Sys2Proof

/-- One byte. -/
abbrev Byte := BitVec 8

/-- A 32-bit register word. -/
abbrev Word32 := BitVec 32

/-- A 64-bit register word; a 32-bit register is held zero-extended in one. -/
abbrev Word64 := BitVec 64

end Sys2Proof
end

