-- ==== Sys2Proof/Agents.lean ====
section
/-! DEFINITION. Who sends a request: the masters of Table 02-3, each with what identifies the requester behind the port. -/

namespace Sys2Proof

/-- A requester. The master port stamps the request from it (R59, R423); the requester chooses none of the stamp.
A Bed or a Trellis makes requests for a context; an Eliravy port carries the Plot, class and context of a remote
requester (R59); the host bridge makes them for an instance of the host interface. -/
inductive Who where
  | core (n : Fin 16)
  | bed (n : Fin 128) (ctx : Fin 1024)
  | trellis (p : Fin 16) (ctx : Fin 1024)
  | orangery (c : Fin 16)
  | display (pipe : Fin 6)
  | sensor (stream : Fin 96)
  | gateway (plot : Fin 16)
  | host (inst : Fin 32)
  | dma (ch : Fin 64)
  | eliravy (port : Fin 4) (plot : Fin 16) (cls : Fin 8) (ctx : BitVec 16)
  | gatehouse
  | keeper
  | glasshouse
deriving DecidableEq, Repr

/-- What a memory read met on the die or on the channel link (R72, R73, R74): nothing, a corrected on-die error, an
uncorrectable on-die error, a corrected single-bit link error, a link error corrected by `n` retries (1 or 2), or a
link error that all three attempts met. -/
inductive EccEvent where
  | clean
  | onDieCorrected
  | onDieUncorrectable
  | linkCorrected
  | linkRetried (n : Fin 3)
  | linkFailed
deriving DecidableEq, Repr

/-- What a memory of a Bed met while a command used it (R126): nothing, or an ECC error of a unit (0 scratchpad, 1 instruction
SRAM, 2 data SRAM, 3 accumulator buffer), corrected or not, in a bank of the scratchpad; `after` counts the rows of a descriptor
that moved before it. -/
inductive BedEcc where
  | clean
  | event (uncorrectable : Bool) (unit : Fin 4) (bank : Fin 32) (after : Nat)
deriving DecidableEq, Repr

/-- A step of the CTRL TIME exchange (R271, R374): the member's next one is due; member 0 receives one from a device, with the
time-stamps t_a, t_b and t_c once there was an earlier one; a member receives member 0's, with the δ of the exchange once it
is measured, and t_a. -/
inductive TimeMsg where
  | due
  | request (device : Fin 8) (times : Option (BitVec 64 × BitVec 64 × BitVec 64))
  | reply (delta : Option Int) (ta : BitVec 64)
deriving DecidableEq, Repr

/-- The Orangery's instructions (Table 10-1). -/
inductive OgxOp where
  | tex
  | texl
  | res
  | interp
  | out
deriving DecidableEq, Repr

/-- What a register access names: an address of register space, a control of GPIO pin `n` (0 level, 1 direction, 2 function, 3
interrupt state) (R426), or one of the 64 words in which a system DMA channel holds its descriptors, registers and completion
state (R427). The spec gives the last two no address. -/
inductive RegTarget where
  | addr (a : BitVec 48)
  | pin (n : Fin 128) (control : Fin 4)
  | channel (ch : Fin 64) (word : Fin 64)
deriving DecidableEq, Repr

/-- What a DRAM request asks of the system cache (R432 to R434): nothing, a lookup and an allocation, or maintenance of the
requester's lines. -/
inductive CacheUse where
  | bypass
  | cached
  | maintain
deriving DecidableEq, Repr

/-- A JTAG instruction (R573): those of every life-cycle state, boundary scan, and any other. -/
inductive JtagIns where
  | bypass
  | idcode
  | debug
  | boundary
  | other (code : Nat)
deriving DecidableEq, Repr

/-- An access over JTAG: an instruction is loaded, bits are shifted through its data register, or the debug access of R454: an
empty token reads a challenge, another one is a signed token. -/
inductive JtagOp where
  | load (i : JtagIns)
  | shift (tdi : List Bool)
  | debug (token : List Byte)
deriving DecidableEq, Repr

/-- A Keeper mailbox: that of a Plot (KPR_Mp) or that of an instance of the host interface (HIF_Ii) (R482). -/
inductive Mbx where
  | plot (p : Fin 16)
  | inst (i : Fin 32)
deriving DecidableEq, Repr

/-- A descriptor ring of spec/11: TX or RX of an internal port, or TXH (0), TXL (1) or RX (2) of a CAN controller. -/
inductive RingName where
  | gwy (n : Fin 8) (rx : Bool)
  | can (n : Fin 16) (x : Fin 3)
deriving DecidableEq, Repr

end Sys2Proof
end

