-- ==== Sys2Proof/Config.lean ====
section
/-! DEFINITION. The free values: what the manual leaves open is an opaque constant here, so that no proof can see a value
of it. Each is applied to what it may depend on; a counter of the state gives a fresh value each time. -/

namespace Sys2Proof.Config

/-- A fresh free value: applied to the counter of State that the step reads and advances (entropy, and every result for
which the manual states no value). -/
opaque freeValue : Nat → BitVec 64

/-- One free byte: the contents of a memory that lost them (R111), by the number of the loss and the offset. -/
opaque freeByte : Nat → Nat → BitVec 8

/-- The bytes of the boot ROM. -/
opaque bootRom : Nat → BitVec 8

/-- The bits of the vector-unit functions that R153 does not publish: a fixed function of the operation's number and
its operand. The machine takes them where they lie within the bounds of Table 04-10. -/
opaque vecBits : Nat → BitVec 32 → BitVec 32

/-- A raw pixel that the link data of a frame passed through an ISP-lite pipeline does not hold: by a number taken afresh
for the frame, and the position. -/
opaque lostPixel : Nat → Nat → BitVec 64

/-- The rule records (Table 13-3) in a Gatehouse firmware image: the manual does not say where the image holds them. -/
opaque ruleTable : List (BitVec 8) → List (List (BitVec 8))

/-- The golden image of a stream in a Gatehouse firmware image, and the address that its configuration names (R408). -/
opaque goldenImage : List (BitVec 8) → Nat → List (BitVec 8)
opaque goldenAddr : List (BitVec 8) → Nat → BitVec 48

/-- The keys derived from DEVICE_SECRET by label (0 attest, 1 agree, 2 store) and life-cycle byte: the manual names
HKDF-SHA-384 (R449) and states neither its salt nor how a private key is made of its output. -/
opaque derivedKey : Nat → Nat → Nat → BitVec 384

/-- The count that Brodec stores in an operator's parameters for its WAIT_PSEM (R180): the manual does not say where. -/
opaque psemCount : List (BitVec 8) → Nat

/-- FP32 results of NORM and SOFTMAX, for which the manual states no order of operations: by the kind (0 RMS, 1 layer, 2
softmax), eps, the row and the position in it. -/
opaque rowFn : Nat → BitVec 32 → List Nat → Nat → BitVec 32

/-- What an operator writes for a row whose contents the manual does not state (a GATHER index that names no row, a TOPK row that
holds a NaN): by the operator kind, the bytes of its inputs, the row and the place in it. -/
opaque rowOpen : Nat → List (BitVec 8) → Nat → Nat → BitVec 32

/-- Credits that an Eliravy port holds at first for a buffer of its peer, beyond one (R260): by the virtual channel. -/
opaque elxCredits : Nat → Nat

/-- Whether a division whose rounding the manual does not state rounds up: by the place, the dividend and the divisor. -/
opaque roundUp : Nat → Int → Nat → Bool

/-- The transfer function of the SRGB formats, which the manual does not give: an 8-bit code to linear FP32, and back. -/
opaque srgbToLinear : Nat → BitVec 32
opaque linearToSrgb : BitVec 32 → BitVec 8

/-- The level of detail that the derivatives of a pixel quad select (spec/10, R310), for which the manual gives no formula: FP32,
by the coordinates of the quad and the size of the texture. -/
opaque quadLod : List (BitVec 32) → Nat → Nat → BitVec 32

/-- Whether a triangle with a coordinate that is not finite covers a pixel: by its coordinates and the pixel. -/
opaque rasterOpen : List (BitVec 32) → Nat → Nat → Bool

/-- A result of the raster and display arithmetic that the manual does not state: by the place and the operands. -/
opaque pixelOpen : Nat → List Nat → BitVec 32

end Sys2Proof.Config
end

