-- ==== Sys2Proof/Machine/Bits.lean ====
section
/-! DEFINITION. Bit fields, little-endian numbers and sparse maps: the helpers that every block uses. A sparse map is a
list of (key, value) pairs in one canonical form (keys strictly rising, no entry equal to what an unlisted key reads
as), so that equal maps are equal data. -/

namespace Sys2Proof.Machine

/-- NAME[hi:lo] of a number. -/
def bits (x hi lo : Nat) : Nat := x / 2 ^ lo % 2 ^ (hi + 1 - lo)

/-- One bit of a number. -/
def bit (x i : Nat) : Bool := x / 2 ^ i % 2 == 1

/-- 1 for true, 0 for false. -/
def b2n (b : Bool) : Nat := if b then 1 else 0

/-- Bits lo upwards of `x` (`w` bits wide) replaced by `v`. -/
def setField (x lo w v : Nat) : Nat :=
  x % 2 ^ lo + (v % 2 ^ w) * 2 ^ lo + x / 2 ^ (lo + w) * 2 ^ (lo + w)

/-- Set one bit. -/
def setBit (x i : Nat) : Nat := if bit x i then x else x + 2 ^ i

/-- Clear one bit. -/
def clrBit (x i : Nat) : Nat := if bit x i then x - 2 ^ i else x

/-- The number of set bits among the low `n` bits. -/
def popcount : Nat → Nat → Nat
  | 0, _ => 0
  | n + 1, x => x % 2 + popcount n (x / 2)

/-- The positions of the set bits among the low `n` bits, in ascending order. -/
def bitList (n x : Nat) : List Nat := (List.range n).filter (fun i => bit x i)

/-- The bitmask with the listed bits set. -/
def maskOf (l : List Nat) : Nat := l.foldl (fun m i => setBit m i) 0

/-- Saturating addition at 2^32 − 1 (the event counters of the register tables). -/
def satAdd32 (a b : Nat) : Nat := min (a + b) 0xFFFFFFFF

/-- Saturating addition at 2^64 − 1 (R244). -/
def satAdd64 (a b : Nat) : Nat := min (a + b) 0xFFFFFFFFFFFFFFFF

/-- Division rounded up. -/
def ceilDiv (a b : Nat) : Nat := (a + b - 1) / b

/-- Division whose rounding the manual does not state: exact where it comes out even, else one of the two neighbours,
which is free. `site` names the place. -/
def divOpen (site : Nat) (x : Int) (d : Nat) : Int :=
  if x % (d : Int) = 0 then x / (d : Int) else x / (d : Int) + (if Config.roundUp site x d then 1 else 0)

/-- Round a quotient to the nearest integer, ties to even (R145). -/
def roundRne (x : Int) (d : Nat) : Int :=
  let q := x / (d : Int)
  let r := x % (d : Int)
  if 2 * r < d then q else if (d : Int) < 2 * r then q + 1 else if q % 2 = 0 then q else q + 1

/-- An integer clamped to ± `m`. -/
def clampI (m x : Int) : Int := if m < x then m else if x < -m then -m else x

/-- Two's complement of an integer in `w` bits. -/
def toTwos (w : Nat) (i : Int) : Nat := (i % (2 ^ w : Int)).toNat

/-- The integer that `w` bits of two's complement stand for. -/
def ofTwos (w : Nat) (x : Nat) : Int :=
  let y := x % 2 ^ w
  if y < 2 ^ (w - 1) then (y : Int) else (y : Int) - 2 ^ w

/-- The little-endian number of a list of bytes. -/
def leNat : List Byte → Nat
  | [] => 0
  | b :: r => b.toNat + 256 * leNat r

/-- The `n` little-endian bytes of a number. -/
def leBytes : Nat → Nat → List Byte
  | 0, _ => []
  | n + 1, x => BitVec.ofNat 8 x :: leBytes n (x / 256)

/-- The big-endian number of a list of bytes. -/
def beNat (l : List Byte) : Nat := leNat l.reverse

/-- The `n` big-endian bytes of a number. -/
def beBytes (n x : Nat) : List Byte := (leBytes n x).reverse

/-- `n` zero bytes. -/
def zeros (n : Nat) : List Byte := List.replicate n 0

/-- The little-endian field of `size` bytes at offset `off` of a record. -/
def fld (r : List Byte) (off size : Nat) : Nat := leNat ((r.drop off).take size)

/-- `size` bytes at offset `off`. -/
def sub (r : List Byte) (off size : Nat) : List Byte := (r.drop off).take size

/-- Every byte of a range of a record is 0. -/
def allZero (r : List Byte) (off size : Nat) : Bool := (sub r off size).all (· == 0)

/-- The first index of a list whose element satisfies `p`. -/
def firstIdx {α : Type} (p : α → Bool) : List α → Option Nat
  | [] => none
  | a :: r => if p a then some 0 else (firstIdx p r).map (· + 1)

/-- Replace the element at an index. -/
def setAt {α : Type} : List α → Nat → α → List α
  | [], _, _ => []
  | _ :: r, 0, v => v :: r
  | a :: r, n + 1, v => a :: setAt r n v

/-- Insert into a list sorted by `lt`, after the elements that are not above it. -/
def insBy {α : Type} (lt : α → α → Bool) (x : α) : List α → List α
  | [] => [x]
  | y :: r => if lt x y then x :: y :: r else y :: insBy lt x r

/-- Sort a list by `lt`, keeping the order of equals. -/
def sortBy {α : Type} (lt : α → α → Bool) (l : List α) : List α := l.foldl (fun acc x => insBy lt x acc) []

/-- The sum of a list of numbers. -/
def sumL (l : List Nat) : Nat := l.foldl (· + ·) 0

/-- The largest of a list of numbers; 0 for the empty list. -/
def maxL (l : List Nat) : Nat := l.foldl max 0

/-- Change the elements that satisfy `p`. -/
def updWhere {α : Type} (p : α → Bool) (f : α → α) (l : List α) : List α := l.map (fun a => if p a then f a else a)

/-- What a sparse map holds at a key: the listed value, or the default of that key. -/
def sget {β : Type} (d : Nat → β) : List (Nat × β) → Nat → β
  | [], k => d k
  | (k', v) :: r, k => if k = k' then v else sget d r k

/-- Remove a key. -/
def sdel {β : Type} : List (Nat × β) → Nat → List (Nat × β)
  | [], _ => []
  | (k', v) :: r, k => if k = k' then r else if k < k' then (k', v) :: r else (k', v) :: sdel r k

/-- Insert a key in its place. -/
def sins {β : Type} : List (Nat × β) → Nat → β → List (Nat × β)
  | [], k, v => [(k, v)]
  | (k', v') :: r, k, v =>
    if k = k' then (k, v) :: r else if k < k' then (k, v) :: (k', v') :: r else (k', v') :: sins r k v

/-- Write a value: a value equal to the default removes the entry. -/
def sset {β : Type} [DecidableEq β] (d : Nat → β) (m : List (Nat × β)) (k : Nat) (v : β) : List (Nat × β) :=
  if v = d k then sdel m k else sins m k v

/-- The keys strictly rise and no entry equals its default. -/
def swf {β : Type} [DecidableEq β] (d : Nat → β) : List (Nat × β) → Bool
  | [] => true
  | [(k, v)] => decide (v ≠ d k)
  | (k, v) :: (k', v') :: r => decide (v ≠ d k) && decide (k < k') && swf d ((k', v') :: r)

/-- The entries of a sparse map inside a key range. -/
def srange {β : Type} (m : List (Nat × β)) (lo n : Nat) : List (Nat × β) :=
  m.filter (fun e => decide (lo ≤ e.1) && decide (e.1 < lo + n))

/-- A sparse map with every entry of a key range dropped (back to the default). -/
def sclear {β : Type} (m : List (Nat × β)) (lo n : Nat) : List (Nat × β) :=
  m.filter (fun e => !(decide (lo ≤ e.1) && decide (e.1 < lo + n)))

/-- The default of a memory that is cleared to zeros, and of an erased flash. -/
abbrev zeroAt : Nat → Byte := fun _ => 0
abbrev oneAt : Nat → Byte := fun _ => 0xFF

/-- Read `n` consecutive bytes of a byte memory whose unlisted bytes read `d`. -/
def readBytes (d : Nat → Byte) (m : List Host.Cell) (a n : Nat) : List Byte :=
  (List.range n).map (fun i => sget d m (a + i))

/-- Write consecutive bytes. -/
def writeBytes (d : Nat → Byte) (m : List Host.Cell) (a : Nat) : List Byte → List Host.Cell
  | [] => m
  | b :: r => writeBytes d (sset d m a b) (a + 1) r

/-- Write the bytes whose enable is set. -/
def writeMasked (d : Nat → Byte) (m : List Host.Cell) (a : Nat) : List (Bool × Byte) → List Host.Cell
  | [] => m
  | (e, b) :: r => writeMasked d (if e then sset d m a b else m) (a + 1) r

end Sys2Proof.Machine
end

