-- ==== Sys2Proof/Machine/Numerics.lean ====
section
/-! DEFINITION. Number formats and arithmetic (spec/04): exact values, the element formats of Table 04-1, rounding
(R145), conversion (R146, R147), the array's multiply-accumulate (R141 to R143) and the vector unit (R152, R153, R577).
-/

namespace Sys2Proof.Machine

/-- An exact value of a number format: NaN, an infinity, or (−1)^neg × m × 2^e. -/
inductive Num where
  | nan
  | inf (neg : Bool)
  | fin (neg : Bool) (m : Nat) (e : Int)
deriving DecidableEq, Repr

/-- The sticky flags of R149. -/
structure NumFlags where
  invalid : Bool := false
  overflow : Bool := false
  saturated : Bool := false
deriving DecidableEq, Repr

def NumFlags.none : NumFlags := ⟨false, false, false⟩

/-- Flags collected over two events. -/
def NumFlags.or (a b : NumFlags) : NumFlags :=
  ⟨a.invalid || b.invalid, a.overflow || b.overflow, a.saturated || b.saturated⟩

/-- The FLAGS_OUT word of Table 05-9. -/
def NumFlags.word (a : NumFlags) : Nat := b2n a.invalid + 2 * b2n a.overflow + 4 * b2n a.saturated

/-- A floating-point layout: exponent bits, mantissa bits, bias, whether the largest exponent encodes infinity and NaN as
in IEEE 754 (`ieee`), and whether only its all-ones mantissa encodes NaN (`topNan`, FP8 E4M3). -/
structure FloatFmt where
  eb : Nat
  mb : Nat
  bias : Nat
  ieee : Bool
  topNan : Bool
deriving DecidableEq, Repr

/-- The floating-point rows of Table 04-1 by ELEM code. -/
def floatFmt : Nat → Option FloatFmt
  | 0x01 => some ⟨8, 23, 127, true, false⟩
  | 0x02 => some ⟨8, 7, 127, true, false⟩
  | 0x03 => some ⟨5, 10, 15, true, false⟩
  | 0x04 => some ⟨4, 3, 7, false, true⟩
  | 0x05 => some ⟨5, 2, 15, true, false⟩
  | 0x08 => some ⟨3, 2, 3, false, false⟩
  | 0x09 => some ⟨2, 3, 1, false, false⟩
  | 0x0A => some ⟨2, 1, 1, false, false⟩
  | _ => none

def f32Fmt : FloatFmt := ⟨8, 23, 127, true, false⟩

/-- The value of a floating-point element (R131). -/
def FloatFmt.decode (f : FloatFmt) (x : Nat) : Num :=
  let s := bit x (f.eb + f.mb)
  let e := x / 2 ^ f.mb % 2 ^ f.eb
  let m := x % 2 ^ f.mb
  if f.ieee && e == 2 ^ f.eb - 1 then (if m == 0 then .inf s else .nan)
  else if f.topNan && e == 2 ^ f.eb - 1 && m == 2 ^ f.mb - 1 then .nan
  else if e == 0 then .fin s m (1 - (f.bias : Int) - f.mb)
  else .fin s (2 ^ f.mb + m) ((e : Int) - f.bias - f.mb)

/-- The width in bits of an element in memory (Table 04-1; FP6 takes one byte, R134). -/
def elemBits : Nat → Nat
  | 0x01 => 32
  | 0x02 => 16
  | 0x03 => 16
  | 0x04 => 8
  | 0x05 => 8
  | 0x06 => 8
  | 0x07 => 4
  | 0x08 => 8
  | 0x09 => 8
  | 0x0A => 4
  | 0x0B => 2
  | _ => 0

/-- The exact value of an integer. -/
def Num.ofInt (i : Int) : Num := .fin (decide (i < 0)) i.natAbs 0

/-- The value of an element of Table 04-1 or 04-2. -/
def decodeElem (elem x : Nat) : Num :=
  match floatFmt elem with
  | some f => f.decode (x % 2 ^ (1 + f.eb + f.mb))
  | none =>
    if elem == 0x06 then Num.ofInt (ofTwos 8 x)
    else if elem == 0x07 then Num.ofInt (ofTwos 4 x)
    else match x % 4 with
      | 0 => .fin false 0 0
      | 1 => .fin false 1 0
      | 3 => .fin true 1 0
      | _ => .nan

/-- The value of an E8M0 scale (R132). -/
def decodeE8M0 (x : Nat) : Num := if x == 255 then .nan else .fin false 1 ((x : Int) - 127)

/-- m × 2^e rounded to a multiple of 2^q, ties to even (R145), as that multiple. -/
def roundAt (m : Nat) (e q : Int) : Nat :=
  if e ≥ q then m * 2 ^ (e - q).toNat
  else
    let k := (q - e).toNat
    let d := m / 2 ^ k
    let r := m % 2 ^ k
    if 2 * r > 2 ^ k || (2 * r == 2 ^ k && d % 2 == 1) then d + 1 else d

/-- The exponent of the unit in the last place of m × 2^e in a layout, subnormals included (R144). -/
def FloatFmt.ulpExp (f : FloatFmt) (m : Nat) (e : Int) : Int :=
  max (e + Nat.log2 m - f.mb) (1 - (f.bias : Int) - f.mb)

/-- The largest finite magnitude's encoding (Table 04-1). -/
def FloatFmt.maxCode (f : FloatFmt) : Nat :=
  if f.ieee then (2 ^ f.eb - 1) * 2 ^ f.mb - 1
  else if f.topNan then 2 ^ (f.eb + f.mb) - 2
  else 2 ^ (f.eb + f.mb) - 1

/-- The encoding, without sign, of a finite magnitude rounded once under RNE; it may lie above `maxCode` when the
magnitude overflows. -/
def FloatFmt.roundCode (f : FloatFmt) (m : Nat) (e : Int) : Nat :=
  if m == 0 then 0
  else
    let q := f.ulpExp m e
    let d := roundAt m e q
    let qmin := 1 - (f.bias : Int) - f.mb
    -- codes of one binade run on into the next, so a carry needs no special case
    if q == qmin then d else ((q - qmin).toNat) * 2 ^ f.mb + d

/-- The sign bit of a layout. -/
def FloatFmt.signBit (f : FloatFmt) (neg : Bool) : Nat := if neg then 2 ^ (f.eb + f.mb) else 0

/-- Round an exact value to FP32 under RNE; NaN is 0x7FC0_0000 (R142, R148). -/
def toF32 : Num → Nat
  | .nan => 0x7FC00000
  | .inf s => f32Fmt.signBit s + 0x7F800000
  | .fin s m e => f32Fmt.signBit s + min (f32Fmt.roundCode m e) 0x7F800000

/-- The exact value of FP32 bits. -/
def ofF32 (x : Nat) : Num := f32Fmt.decode (x % 2 ^ 32)

def Num.isNan : Num → Bool
  | .nan => true
  | _ => false

def Num.isInf : Num → Bool
  | .inf _ => true
  | _ => false

def Num.neg? : Num → Bool
  | .nan => false
  | .inf s => s
  | .fin s _ _ => s

def Num.isZero : Num → Bool
  | .fin _ m _ => m == 0
  | _ => false

def Num.negate : Num → Num
  | .nan => .nan
  | .inf s => .inf (!s)
  | .fin s m e => .fin (!s) m e

def Num.abs : Num → Num
  | .nan => .nan
  | .inf _ => .inf false
  | .fin _ m e => .fin false m e

/-- The exact product; infinity × 0 is NaN. -/
def Num.mul : Num → Num → Num
  | .nan, _ => .nan
  | _, .nan => .nan
  | .inf s, .inf t => .inf (s != t)
  | .inf s, .fin t m _ => if m == 0 then .nan else .inf (s != t)
  | .fin s m _, .inf t => if m == 0 then .nan else .inf (s != t)
  | .fin s m e, .fin t n f => .fin (s != t) (m * n) (e + f)

/-- The signed mantissa of a finite value at exponent `q` at or below its own. -/
def alignInt (s : Bool) (m : Nat) (e q : Int) : Int :=
  let x : Int := (m * 2 ^ (e - q).toNat : Nat)
  if s then -x else x

/-- The exact sum. An exact zero sum is −0 only when both addends are −0 (R143); +∞ with −∞ is NaN (R142). -/
def Num.add : Num → Num → Num
  | .nan, _ => .nan
  | _, .nan => .nan
  | .inf s, .inf t => if s == t then .inf s else .nan
  | .inf s, .fin _ _ _ => .inf s
  | .fin _ _ _, .inf t => .inf t
  | .fin s m e, .fin t n f =>
    let q := min e f
    let z := alignInt s m e q + alignInt t n f q
    if z = 0 then .fin (m == 0 && n == 0 && s && t) 0 0 else .fin (decide (z < 0)) z.natAbs q

/-- x < y of two values that are not NaN. -/
def Num.lt : Num → Num → Bool
  | .nan, _ => false
  | _, .nan => false
  | .inf s, .inf t => s && !t
  | .inf s, .fin _ _ _ => s
  | .fin _ _ _, .inf t => !t
  | .fin s m e, .fin t n f =>
    let q := min e f
    decide (alignInt s m e q < alignInt t n f q)

/-- Equality of two values as IEEE 754 compares them: −0 equals +0, and NaN equals nothing (R577). -/
def Num.eqv : Num → Num → Bool
  | .nan, _ => false
  | _, .nan => false
  | a, b => !(a.lt b) && !(b.lt a)

/-- The integer square root by `k` binary digits, most significant first. -/
def isqrtAux : Nat → Nat → Nat → Nat
  | 0, _, r => r
  | k + 1, x, r =>
    let t := r + 2 ^ k
    isqrtAux k x (if t * t ≤ x then t else r)

/-- The integer square root. -/
def isqrt (x : Nat) : Nat := isqrtAux (Nat.log2 x / 2 + 1) x 0

/-! ### FP32 operations, correctly rounded (Table 04-10) -/

def f32Add (a b : Nat) : Nat := toF32 ((ofF32 a).add (ofF32 b))
def f32Sub (a b : Nat) : Nat := toF32 ((ofF32 a).add (ofF32 b).negate)
def f32Mul (a b : Nat) : Nat := toF32 ((ofF32 a).mul (ofF32 b))

/-- a × b + c, rounded once. -/
def f32Fma (a b c : Nat) : Nat := toF32 (((ofF32 a).mul (ofF32 b)).add (ofF32 c))

/-- The quotient with a sticky last bit: 64 quotient bits below the larger operand keep every rounding right. -/
def Num.div : Num → Num → Num
  | .nan, _ => .nan
  | _, .nan => .nan
  | .inf _, .inf _ => .nan
  | .inf s, .fin t _ _ => .inf (s != t)
  | .fin s _ _, .inf t => .fin (s != t) 0 0
  | .fin s m e, .fin t n f =>
    if n == 0 then (if m == 0 then .nan else .inf (s != t))
    else
      let k := Nat.log2 n + 64
      let q := m * 2 ^ k / n
      let r := m * 2 ^ k % n
      .fin (s != t) (2 * q + (if r == 0 then 0 else 1)) (e - f - k - 1)

def f32Div (a b : Nat) : Nat := toF32 ((ofF32 a).div (ofF32 b))

/-- The square root with a sticky last bit; of a negative value NaN, of −0 −0 (IEEE 754). -/
def Num.sqrt : Num → Num
  | .nan => .nan
  | .inf s => if s then .nan else .inf false
  | .fin s m e =>
    if m == 0 then .fin s 0 0
    else if s then .nan
    else
      let sh : Nat := 64 + (e % 2).toNat
      let x := m * 2 ^ sh
      let r := isqrt x
      .fin false (2 * r + (if r * r == x then 0 else 1)) ((e - sh) / 2 - 1)

def f32Sqrt (a : Nat) : Nat := toF32 (ofF32 a).sqrt

/-- min and max return NaN when either operand is NaN (R153). Of two zeros of different sign, −0 is the smaller (IEEE
754-2019 minimum and maximum). -/
def f32Min (a b : Nat) : Nat :=
  let x := ofF32 a
  let y := ofF32 b
  if x.isNan || y.isNan then 0x7FC00000
  else if x.lt y then a else if y.lt x then b else if x.neg? then a else b

def f32Max (a b : Nat) : Nat :=
  let x := ofF32 a
  let y := ofF32 b
  if x.isNan || y.isNan then 0x7FC00000
  else if x.lt y then b else if y.lt x then a else if x.neg? then b else a

/-- The compare predicates of R577. -/
inductive CmpPred where
  | eq | ne | lt | le | gt | ge
deriving DecidableEq, Repr

/-- A compare writes FP32 1.0 when the predicate holds and +0 when it does not (R577). -/
def f32Cmp (p : CmpPred) (a b : Nat) : Nat :=
  let x := ofF32 a
  let y := ofF32 b
  let nan := x.isNan || y.isNan
  let r := match p with
    | .eq => x.eqv y
    | .ne => nan || !(x.eqv y)
    | .lt => x.lt y
    | .le => !nan && !(y.lt x)
    | .gt => y.lt x
    | .ge => !nan && !(x.lt y)
  if r then 0x3F800000 else 0

/-- The vector-unit functions whose bits R153 does not publish. -/
inductive VecFn where
  | recip | rsqrt | exp2 | log2 | exp | log | tanh | sigmoid | erf | gelu | sin | cos
deriving DecidableEq, Repr

/-- An operation of Table 04-10, as an ELTWISE applies it, or but for the last two a drain. -/
inductive EwOp where
  | add | sub | mul | fma | min | max | cmp (p : CmpPred) | convert | div | sqrt | fn (f : VecFn) | laneSum | laneMax
deriving DecidableEq, Repr

/-- The number by which `Config.vecBits` knows a function. -/
def VecFn.code : VecFn → Nat
  | .recip => 0 | .rsqrt => 1 | .exp2 => 2 | .log2 => 3 | .exp => 4 | .log => 5 | .tanh => 6 | .sigmoid => 7
  | .erf => 8 | .gelu => 9 | .sin => 10 | .cos => 11

/-! ### The bounds of Table 04-10 (R152, R153)

The exact results are worked out as integers in units of 2^-400, in which every FP32 value is whole; what their rounding
errors amount to lies far below the last place of any result. -/

/-- One, in units of 2^-400. -/
def fxOne : Int := 2 ^ 400

/-- A product of two numbers in units of 2^-400. -/
def fxMul (a b : Int) : Int := a * b / fxOne

/-- A quotient of two numbers in units of 2^-400. -/
def fxDiv (a b : Int) : Int := a * fxOne / b

/-- An FP32 value in units of 2^-400. -/
def Num.fx : Num → Int
  | .fin s m e => alignInt s m e (-400)
  | _ => 0

/-- A number in units of 2^-400 as an exact value. -/
def ofFx (x : Int) : Num := .fin (decide (x < 0)) x.natAbs (-400)

/-- ln 2, pi, 2 / sqrt pi and sqrt (1 / 2), in units of 2^-400. -/
def fxLn2 : Int := 0xB17217F7D1CF79ABC9E3B39803F2F6AF40F343267298B62D8A0D175B8BAAFA2BE7B876206DEBAC98559552FB4AFA1B10ED2E
def fxPi : Int := 0x3243F6A8885A308D313198A2E03707344A4093822299F31D0082EFA98EC4E6C89452821E638D01377BE5466CF34E90C6CC0AC
def fxErfScale : Int := 0x120DD750429B6D11AE3A914FED7FD8688281341D7587CEA2E7342B06199CC416180EB39F0B24E1E2281806C12D98F35D77A3E
def fxSqrtHalf : Int := 0xB504F333F9DE6484597D89B3754ABE9F1D6F60BA893BA84CED17AC85833399154AFC83043AB8A2C3A8B1FE6FDC83DB390F74

/-- The exponential series 1 + t / i × (1 + t / (i + 1) × …), of k terms. -/
def fxExpSeries (t : Int) : Nat → Nat → Int
  | 0, _ => fxOne
  | k + 1, i => fxOne + fxMul t (fxExpSeries t k (i + 1)) / i

/-- e to the power x, exact but for the last places; beyond the range of FP32 a value that is out of it too. -/
def expNum (x : Int) : Num :=
  if 200 * fxOne < x then .fin false 1 300
  else if x < -400 * fxOne then .fin false 1 (-500)
  else
    let n := x / fxLn2
    .fin false (fxExpSeries (x - n * fxLn2) 100 1).toNat (n - 400)

/-- e to the power x in units of 2^-400, for x of no more than 200. -/
def fxExp (x : Int) : Int :=
  match expNum x with
  | .fin _ m e => roundAt m e (-400)
  | _ => 0

/-- The series of artanh z / z: 1 / i + z² × (1 / (i + 2) + …), of k terms. -/
def fxAtanhSeries (z2 : Int) : Nat → Nat → Int
  | 0, _ => 0
  | k + 1, i => fxOne / i + fxMul z2 (fxAtanhSeries z2 k (i + 2))

/-- The natural logarithm of m × 2^e, m not 0. -/
def fxLn (m : Nat) (e : Int) : Int :=
  let k := Nat.log2 m
  let y : Int := (m * 2 ^ (400 - k) : Nat)
  let z := fxDiv (y - fxOne) (y + fxOne)
  (k + e) * fxLn2 + 2 * fxMul z (fxAtanhSeries (fxMul z z) 140 1)

/-- The series of sin r / r (from i = 2) or cos r (from i = 1): 1 - r² / (i (i + 1)) × (1 - …), of k terms. -/
def fxTrigSeries (r2 : Int) : Nat → Nat → Int
  | 0, _ => fxOne
  | k + 1, i => fxOne - fxMul r2 (fxTrigSeries r2 k (i + 2)) / (i * (i + 1) : Nat)

/-- The sine of x + q quarter turns, with exact argument reduction. -/
def fxSin (x : Int) (q : Nat) : Int :=
  let h := fxPi / 2
  let r := x % h
  let c := fxTrigSeries (fxMul r r) 60 1
  let s := fxMul r (fxTrigSeries (fxMul r r) 60 2)
  match ((x / h) % 4).toNat + q with
  | 0 | 4 => s
  | 1 | 5 => c
  | 2 | 6 => -s
  | _ => -c

/-- The series 1 + 2x² / i × (1 + 2x² / (i + 2) × …) of erf, of k terms. -/
def fxErfSeries (x2 : Int) : Nat → Nat → Int
  | 0, _ => fxOne
  | k + 1, i => fxOne + fxMul (2 * x2) (fxErfSeries x2 k (i + 2)) / i

/-- erf x. -/
def fxErf (x : Int) : Int :=
  if 8 * fxOne < x then fxOne
  else if x < -8 * fxOne then -fxOne
  else
    let x2 := fxMul x x
    fxMul (fxMul fxErfScale (fxExp (-x2))) (fxMul x (fxErfSeries x2 300 3))

/-- The result r differs from the exact value v by no more than k ulp of v in FP32, or where `abs24` by no more than 2^-24 if
that is larger (R152). An infinity is within the bounds where a value within them overflows. -/
def withinUlp (k : Nat) (abs24 : Bool) (v : Num) (r : Nat) : Bool :=
  match v with
  | .fin s m e =>
    let t := Num.fin false k (if m = 0 then -149 else f32Fmt.ulpExp m e)
    let tol := if abs24 && t.lt (.fin false 1 (-24)) then Num.fin false 1 (-24) else t
    match ofF32 r with
    | .nan => false
    | .inf n => n == s && (ofF32 (toF32 ((Num.fin false m e).add tol))).isInf
    | x => !(tol.lt (v.add x.negate).abs)
  | _ => false

/-- The bound of a function in ulp and whether an absolute error of 2^-24 is within it too (Table 04-10). -/
def VecFn.bound : VecFn → Nat × Bool
  | .recip | .rsqrt | .exp2 | .log2 => (1, false)
  | .exp | .log | .sin | .cos => (2, false)
  | .tanh | .sigmoid => (2, true)
  | .erf | .gelu => (4, true)

/-- The exact result of a function for a finite input of the range in which it has one. -/
def VecFn.exact (f : VecFn) (x : Num) : Num :=
  let u := x.fx
  let far := decide (64 * fxOne < u ∨ u < -64 * fxOne)
  match f with
  | .recip => (Num.fin false 1 0).div x
  | .rsqrt => (Num.fin false 1 0).div x.sqrt
  | .exp2 => if 200 * fxOne < u then .fin false 1 300 else if u < -400 * fxOne then .fin false 1 (-500)
      else .fin false (fxExpSeries (fxMul (u % fxOne) fxLn2) 100 1).toNat (u / fxOne - 400)
  | .exp => expNum u
  | .log2 => match x with
      | .fin _ m e => ofFx (fxDiv (fxLn m e) fxLn2)
      | _ => .nan
  | .log => match x with
      | .fin _ m e => ofFx (fxLn m e)
      | _ => .nan
  | .tanh => if far then .fin x.neg? 1 0
      else let w := fxExp (2 * u)
           ofFx (fxDiv (w - fxOne) (w + fxOne))
  | .sigmoid => if far then (if x.neg? then .fin false 0 0 else .fin false 1 0)
      else ofFx (fxDiv fxOne (fxOne + fxExp (-u)))
  | .erf => ofFx (fxErf u)
  | .gelu => if far then (if x.neg? then .fin true 0 0 else x)
      else ofFx (fxMul u (fxOne + fxErf (fxMul u fxSqrtHalf)) / 2)
  | .sin => ofFx (fxSin u 0)
  | .cos => ofFx (fxSin u 1)

/-- The result of a function for an input without a special result: the fixed, unpublished bits of R153, which lie within the
bounds of Table 04-10. -/
def VecFn.result (f : VecFn) (a : Nat) : Nat :=
  let free := (Config.vecBits f.code (BitVec.ofNat 32 a)).toNat
  let v := f.exact (ofF32 a)
  if withinUlp f.bound.1 f.bound.2 v free then free else toF32 v

/-- A vector-unit function: the special inputs give what IEEE 754-2019 and R152 say. -/
def f32Fn (f : VecFn) (a : Nat) : Nat :=
  let x := ofF32 a
  let free := f.result a
  let nan := 0x7FC00000
  let sgn := if x.neg? then 0x80000000 else 0
  let one := x.eqv (.fin false 1 0)
  match f with
  | .recip => if x.isNan then nan else if x.isInf then sgn else if x.isZero then sgn + 0x7F800000 else free
  | .rsqrt => if x.isNan then nan else if x.isZero then sgn + 0x7F800000 else if x.neg? then nan
      else if x.isInf then 0 else free
  | .exp2 => if x.isNan then nan else if x.isInf then (if x.neg? then 0 else 0x7F800000)
      else if x.isZero then 0x3F800000 else free
  | .exp => if x.isNan then nan else if x.isInf then (if x.neg? then 0 else 0x7F800000)
      else if x.isZero then 0x3F800000 else free
  | .log2 => if x.isNan then nan else if x.isZero then 0xFF800000 else if x.neg? then nan
      else if x.isInf then 0x7F800000 else if one then 0 else free
  | .log => if x.isNan then nan else if x.isZero then 0xFF800000 else if x.neg? then nan
      else if x.isInf then 0x7F800000 else if one then 0 else free
  | .tanh => if x.isNan then nan else if x.isInf then sgn + 0x3F800000 else if x.isZero then a else free
  | .sigmoid => if x.isNan then nan else if x.isInf then (if x.neg? then 0 else 0x3F800000) else free
  | .erf => if x.isNan then nan else if x.isInf then (Config.vecBits f.code (BitVec.ofNat 32 a)).toNat else free
  | .gelu => if x.isNan then nan else if x.isInf then (if x.neg? then 0x80000000 else 0x7F800000) else free
  | .sin => if x.isNan || x.isInf then nan else if x.isZero then a else free
  | .cos => if x.isNan || x.isInf then nan else if x.isZero then 0x3F800000 else free

/-- One lane of an operation of the lanes by themselves (a lane sum or lane max is `laneGroups`): the operands that it does not take are ignored. -/
def EwOp.apply (op : EwOp) (a b c : Nat) : Nat :=
  match op with
  | .add => f32Add a b
  | .sub => f32Sub a b
  | .mul => f32Mul a b
  | .fma => f32Fma a b c
  | .min => f32Min a b
  | .max => f32Max a b
  | .cmp p => f32Cmp p a b
  | .convert | .laneSum | .laneMax => a
  | .div => f32Div a b
  | .sqrt => f32Sqrt a
  | .fn f => f32Fn f a

/-- The operands that an operation takes. -/
def EwOp.args (op : EwOp) (a b c : Nat) : List Nat :=
  match op with
  | .fma => [a, b, c]
  | .convert | .sqrt | .fn _ | .laneSum | .laneMax => [a]
  | _ => [a, b]

/-- One fold of a lane sum or lane max: lane i with lane i + h (R153). -/
def laneFold (op : Nat → Nat → Nat) (h : Nat) (l : List Nat) : List Nat :=
  (List.range h).map (fun i => op (l.getD i 0) (l.getD (i + h) 0))

/-- The lane sum over 64 lanes: lane i with lane i + 32, then i + 16, down to i + 1 (R153). -/
def laneReduce (op : Nat → Nat → Nat) (l : List Nat) : Nat :=
  ([32, 16, 8, 4, 2, 1].foldl (fun acc h => laneFold op h acc) l).getD 0 0

/-- The flags of one operation of Table 04-10: a compare sets none (R577). -/
def EwOp.quiet : EwOp → Bool
  | .cmp _ => true
  | _ => false

/-- The INVALID event of R149: a NaN result from operands that are not NaN; the OVERFLOW event: an infinity from finite
operands. -/
def numFlags (xs : List Num) (y : Num) : NumFlags :=
  ⟨y.isNan && !(xs.any Num.isNan), y.isInf && xs.all (fun x => !x.isNan && !x.isInf), false⟩

/-- The same of FP32 operands and result. -/
def resultFlags (args : List Nat) (r : Nat) : NumFlags := numFlags (args.map ofF32) (ofF32 r)

/-- The flags of every fold of a lane sum or lane max. -/
def laneFlags (op : Nat → Nat → Nat) (l : List Nat) : NumFlags :=
  ([32, 16, 8, 4, 2, 1].foldl (fun (acc : List Nat × NumFlags) h =>
    (laneFold op h acc.1, (List.range h).foldl (fun g i =>
      let x := acc.1.getD i 0
      let y := acc.1.getD (i + h) 0
      g.or (resultFlags [x, y] (op x y))) acc.2)) (l, NumFlags.none)).2

/-! ### Conversion (R146, R147, R148) -/

/-- Round a finite value to an integer, ties to even. -/
def roundInt (s : Bool) (m : Nat) (e : Int) : Int :=
  let r : Int := roundAt m e 0
  if s then -r else r

/-- A finite magnitude overflows a layout (R146): it is at least the largest finite value plus half its ulp. -/
def FloatFmt.overflows (f : FloatFmt) (m : Nat) (e : Int) : Bool :=
  let top := f.maxCode
  !((Num.fin false m e).lt (.fin false (2 * (2 ^ f.mb + top % 2 ^ f.mb) + 1) (((top / 2 ^ f.mb : Nat) : Int) - f.bias - f.mb - 1)))

/-- Convert FP32 bits into a plain element format (Table 04-8): the element and the flags of R149. -/
def convertElem (elem : Nat) (sat : Bool) (a : Nat) : Nat × NumFlags :=
  let x := ofF32 a
  if elem == 0x06 || elem == 0x07 then
    let w := if elem == 0x06 then 8 else 4
    let hi : Int := 2 ^ (w - 1) - 1
    match x with
    | .nan => (0, ⟨true, false, false⟩)
    | .inf s => (toTwos w (if s then -hi - 1 else hi), ⟨false, false, true⟩)
    | .fin s m e =>
      let r := roundInt s m e
      if r > hi then (toTwos w hi, ⟨false, false, true⟩)
      else if r < -hi - 1 then (toTwos w (-hi - 1), ⟨false, false, true⟩)
      else (toTwos w r, NumFlags.none)
  else match floatFmt elem with
    | none => (0, NumFlags.none)
    | some f =>
      if elem == 0x01 then (a % 2 ^ 32, NumFlags.none)
      else
        let infCode := (2 ^ f.eb - 1) * 2 ^ f.mb
        let nanCode := if f.topNan then 0x7F else infCode + 2 ^ (f.mb - 1)
        match x with
        | .nan => (nanCode, NumFlags.none)
        | .inf s =>
          if sat then (f.signBit s + f.maxCode, ⟨false, false, true⟩)
          else if f.topNan then (nanCode, ⟨false, true, false⟩)
          else (f.signBit s + infCode, NumFlags.none)
        | .fin s m e =>
          if f.overflows m e then
            if sat then (f.signBit s + f.maxCode, ⟨false, false, true⟩)
            else if f.topNan then (nanCode, ⟨false, true, false⟩)
            else (f.signBit s + infCode, ⟨false, true, false⟩)
          else (f.signBit s + f.roundCode m e, NumFlags.none)

/-- emax of R147 by element code. -/
def mxEmax : Nat → Int
  | 0x04 => 8
  | 0x05 => 15
  | 0x08 => 4
  | 0x09 => 2
  | 0x0A => 2
  | _ => 0

/-- floor(log2 |x|) of a finite non-zero value. -/
def Num.floorLog2 : Num → Int
  | .fin _ m e => e + Nat.log2 m
  | _ => 0

/-- One MX block (R147): the scale byte, the 32 elements and the flags. -/
def mxBlock (elem : Nat) (xs : List Nat) : Nat × List Nat × NumFlags :=
  let v := xs.map ofF32
  if v.any (fun x => x.isNan || x.isInf) then
    (0xFF, xs.map (fun _ => 0), ⟨v.any Num.isInf && !(v.any Num.isNan), false, false⟩)
  else
    let m := v.foldl (fun a x => if a.lt x.abs then x.abs else a) (.fin false 0 0)
    if m.isZero then (0x7F, xs.map (fun _ => 0), NumFlags.none)
    else
      let e := max (-127) (min 127 (m.floorLog2 - mxEmax elem))
      let one (x : Num) : Nat × Bool :=
        match x with
        | .fin s mm ee =>
          if elem == 0x06 then
            let r := roundInt s mm (ee - e + 6)
            if r > 127 then (127, true) else if r < -128 then (toTwos 8 (-128), true) else (toTwos 8 r, false)
          else match floatFmt elem with
            | some f =>
              let clamped := (f.decode f.maxCode).lt (.fin false mm (ee - e))
              (f.signBit s + min (f.roundCode mm (ee - e)) f.maxCode, clamped)
            | none => (0, false)
        | _ => (0, false)
      let r := v.map one
      ((e + 127).toNat, r.map (·.1), ⟨false, false, r.any (·.2)⟩)

/-! ### Format words (R137, R138) -/

/-- The valid format words of Table 04-5. -/
def validFormats : List Nat :=
  [0x0001, 0x0002, 0x0102, 0x0003, 0x0103, 0x0004, 0x0104, 0x0005, 0x0105, 0x0006, 0x0007, 0x0044, 0x0045, 0x0046,
    0x0048, 0x0049, 0x004A, 0x008B, 0x00C4, 0x00C5, 0x00C6]

def fmtElem (w : Nat) : Nat := w % 64
def fmtBlock (w : Nat) : Nat := w / 64 % 4
def fmtSat (w : Nat) : Bool := bit w 8

/-- The format word with SAT clear: a SAT variant pairs as its plain word does (R139). -/
def fmtPlain (w : Nat) : Nat := if w < 0x200 then clrBit w 8 else w

/-- The group size of a block format along DIM[0] (R133, R136); 1 for none. -/
def fmtGroup (w : Nat) : Nat := match fmtBlock w with
  | 0 => 1
  | 3 => 4
  | _ => 32

/-- The operand pairs of Table 04-6: weight and activation format words. -/
def validPair (w a : Nat) : Bool :=
  let w := fmtPlain w
  let a := fmtPlain a
  (w == 0x0002 && a == 0x0002) || (w == 0x0003 && a == 0x0003)
  || ((w == 0x0004 || w == 0x0005) && (a == 0x0004 || a == 0x0005))
  || (w == 0x0006 && a == 0x0006)
  || ((w == 0x0044 || w == 0x0045) && (a == 0x0044 || a == 0x0045))
  || (w == 0x0046 && a == 0x0046)
  || ((w == 0x0048 || w == 0x0049) && (a == 0x0044 || a == 0x0045))
  || (w == 0x0007 && a == 0x0006)
  || (w == 0x004A && (a == 0x0044 || a == 0x0045 || a == 0x0046))
  || ((w == 0x00C4 || w == 0x00C5) && (a == 0x0004 || a == 0x0005))
  || (w == 0x00C6 && a == 0x0006)
  || (w == 0x008B && [0x0004, 0x0005, 0x0006, 0x0044, 0x0045, 0x0046].contains a)

/-- Exact widening of element codes (Table 04-9). -/
def widens (a b : Nat) : Bool :=
  a == b ||
  match a with
  | 0x02 => b == 0x01
  | 0x03 => b == 0x01
  | 0x04 => b == 0x01 || b == 0x02 || b == 0x03
  | 0x05 => b == 0x01 || b == 0x02 || b == 0x03
  | 0x06 => b == 0x01 || b == 0x02 || b == 0x03
  | 0x07 => b == 0x01 || b == 0x02 || b == 0x03 || b == 0x04 || b == 0x05 || b == 0x06
  | 0x08 => b == 0x01 || b == 0x02 || b == 0x03 || b == 0x04 || b == 0x05
  | 0x09 => b == 0x01 || b == 0x02 || b == 0x03 || b == 0x04
  | 0x0A => b == 0x01 || b == 0x02 || b == 0x03 || b == 0x04 || b == 0x05
  | _ => false

/-- The rows of K in an array tile per weight format (Table 03-2). -/
def tileK (w : Nat) : Nat :=
  let e := fmtElem w
  if fmtBlock w == 2 then 128
  else if fmtBlock w == 3 then 64
  else if e == 0x07 || e == 0x0A then 64
  else 32

/-- Bytes of element data of `n` elements in a format (R134); SPARSE stores two values of each group of four. -/
def fmtDataBytes (w n : Nat) : Nat :=
  if fmtBlock w == 3 then n / 2 else ceilDiv (n * elemBits (fmtElem w)) 8

/-- Bytes of the scale or index array of `n` elements (R134). -/
def fmtScaleBytes (w n : Nat) : Nat :=
  match fmtBlock w with
  | 1 => n / 32
  | 2 => n / 32 * 2
  | 3 => ceilDiv (n / 4) 2
  | _ => 0

/-! ### The array (R141 to R143) -/

/-- The exact sum of the old accumulator and every scaled product, rounded once to FP32: one array cycle of one column
(R141). `blocks` holds, per block of the tile, the weight scale, the activation scale and the element pairs. -/
def macCycle (acc : Nat) (blocks : List (Num × Num × List (Num × Num))) : Nat :=
  let terms := blocks.flatMap (fun b => b.2.2.map (fun p => (b.1.mul b.2.1).mul (p.1.mul p.2)))
  let poisoned := blocks.any (fun b => b.1.isNan || b.2.1.isNan || b.2.2.any (fun p => p.1.isNan || p.2.isNan))
  if poisoned then 0x7FC00000 else toF32 (terms.foldl Num.add (ofF32 acc))

end Sys2Proof.Machine
end

