-- ==== Sys2Proof/Machine/Types.lean ====
section
/-! DEFINITION. The status codes (Table 00-5), the fault record (Table 00-6), the request stamp (R59) and the records of
an accepted Site Plan (Tables 01-4 to 01-13). -/

namespace Sys2Proof.Machine

/-- A map with one entry per key that differs from its default, keys rising. -/
abbrev SMap (β : Type) := List (Nat × β)

/-- Status codes of Table 00-5. -/
abbrev stDONE : Nat := 0x00
abbrev stREFUSED_FIT : Nat := 0x01
abbrev stREFUSED_PLAN : Nat := 0x02
abbrev stREFUSED_FORMAT : Nat := 0x03
abbrev stREFUSED_VERSION : Nat := 0x04
abbrev stDEADLINE_MISSED : Nat := 0x05
abbrev stABORTED_GROVE : Nat := 0x06
abbrev stOWNER_FAULT : Nat := 0x07
abbrev stMEMORY_EXHAUSTED : Nat := 0x08
abbrev stDEFERRED : Nat := 0x09
abbrev stINTEGRITY : Nat := 0x0A
abbrev stHW_ERROR : Nat := 0x0B
abbrev stCANCELLED : Nat := 0x0C
abbrev stBUSY : Nat := 0x0D

/-- Common fault classes of Table 00-7. -/
abbrev fcRESERVED_WRITE : Nat := 0x01
abbrev fcACCESS_SIZE : Nat := 0x02
abbrev fcDEADLINE : Nat := 0x03
abbrev fcOWNER : Nat := 0x04
abbrev fcECC_CORRECTED : Nat := 0x05
abbrev fcECC_UNCORRECTED : Nat := 0x06
abbrev fcTIMEOUT : Nat := 0x07
abbrev fcBUSY_WRITE : Nat := 0x08

/-- A fault record (R16, Table 00-6). -/
structure FaultRec where
  time : Nat
  source : Nat
  cls : Nat
  severity : Nat
  status : Nat
  plot : Nat := 0xFF
  ctx : Nat := 0xFFFF
  addr : Nat := 0
  detail : Nat := 0
deriving DecidableEq, Repr

/-- The five items that the master port stamps on a request (R59); `plot` 0xFF stands for no Plot, `ctx` 0xFFFF for
neither context nor host-side number. -/
structure Stamp where
  port : Nat
  plot : Nat
  cls : Nat
  secure : Bool
  ctx : Nat
deriving DecidableEq, Repr

/-- Plot record (Table 01-4). -/
structure PlotRec where
  plot : Nat
  crit : Nat
  survive : Bool
  mustRun : Bool
  secure : Bool
  defaultClass : Nat
  quota : Nat
  name : List Byte
deriving DecidableEq, Repr

/-- Assignment record (Table 01-5). -/
structure AssignRec where
  kind : Nat
  plot : Nat
  first : Nat
  count : Nat
  secure : Bool
deriving DecidableEq, Repr

/-- DRAM region record (Table 01-7). -/
structure RegionRec where
  base : Nat
  length : Nat
  mask : Nat
  plot : Nat
  secure : Bool
deriving DecidableEq, Repr

/-- Bandwidth guarantee record (Table 01-8). -/
structure GuarRec where
  plot : Nat
  cls : Nat
  mbps : Nat
  mask : Nat
deriving DecidableEq, Repr

/-- Scratchpad share record (Table 01-9). -/
structure ShareRec where
  bed : Nat
  slot : Nat
  plot : Nat
  units : Nat
deriving DecidableEq, Repr

/-- Class and deadline record (Table 01-10). -/
structure ClassRec where
  kind : Nat
  plot : Nat
  index : Nat
  cls : Nat
  sev : Nat
  period : Nat
  deadline : Nat
deriving DecidableEq, Repr

/-- Sensor stream record (Table 01-11). -/
structure StreamRec where
  stream : Nat
  port : Nat
  plot : Nat
  vc : Nat
  dataType : Nat
  isp : Nat
  width : Nat
  height : Nat
  bpp : Nat
  goldenEvery : Nat
  period : Nat
  laneRate : Nat
  phy : Nat
  lanes : Nat
deriving DecidableEq, Repr

/-- Display pipe record (Table 01-12). -/
structure PipeRec where
  pipe : Nat
  bytesPp : Nat
  planes : Nat
  linkBpp : Nat
  hActive : Nat
  vActive : Nat
  hTotal : Nat
  vTotal : Nat
  refreshMhz : Nat
  lanes : Nat
  edpRate : Nat
  dsiLaneMbps : Nat
deriving DecidableEq, Repr

/-- Gate list record (Table 01-13): each entry is (gate-open mask, duration in ns). -/
structure GateRec where
  port : Nat
  rate : Nat
  cycle : Nat
  reserve : List Nat
  entries : List (Nat × Nat)
deriving DecidableEq, Repr

/-- A Site Plan: the header's fields (Table 01-1), the records of its sections, and its digest (R35). -/
structure Plan where
  planId : Nat
  version : Nat
  isAlternate : Bool
  altBound : Bool
  altDigest : List Byte
  powerLimit : Nat
  plotCount : Nat
  groveSize : Nat
  plots : List PlotRec
  assigns : List AssignRec
  regions : List RegionRec
  guars : List GuarRec
  shares : List ShareRec
  classes : List ClassRec
  streams : List StreamRec
  pipes : List PipeRec
  gates : List GateRec
  digest : List Byte
deriving DecidableEq, Repr

/-- The plan record of a Plot. -/
def Plan.plot? (p : Plan) (n : Nat) : Option PlotRec := p.plots.find? (fun r => r.plot == n)

/-- The Plot to which an index of a kind of Table 01-6 is assigned (R23, R30). -/
def Plan.owner (p : Plan) (kind ix : Nat) : Option Nat :=
  (p.assigns.find? (fun r => r.kind == kind && decide (r.first ≤ ix) && decide (ix < r.first + r.count))).map (·.plot)

/-- ATTR.SECURE of the assignment of an index. -/
def Plan.secureAttr (p : Plan) (kind ix : Nat) : Bool :=
  p.assigns.any (fun r => r.kind == kind && decide (r.first ≤ ix) && decide (ix < r.first + r.count) && r.secure)

/-- The class and deadline record of a requester (R32). DESIGN CHOICE: of two records for the same requester the first counts. -/
def Plan.classRec (p : Plan) (kind ix : Nat) : Option ClassRec :=
  p.classes.find? (fun r => r.kind == kind && r.index == ix)

/-- The class label of a requester of a Plot (R32): its record's CLASS, else the Plot's DEFAULT_CLASS. -/
def Plan.classOf (p : Plan) (kind ix plot : Nat) : Nat :=
  match p.classRec kind ix with
  | some r => r.cls
  | none => ((p.plot? plot).map (·.defaultClass)).getD 0

/-- The indices of a kind that a Plot owns. -/
def Plan.owned (p : Plan) (kind plot : Nat) : List Nat :=
  (p.assigns.filter (fun r => r.kind == kind && r.plot == plot)).flatMap
    (fun r => (List.range r.count).map (· + r.first))

/-- The number of channels of a region (R31). -/
def RegionRec.n (r : RegionRec) : Nat := popcount 128 r.mask

/-- The channels of a region, ascending. -/
def RegionRec.channels (r : RegionRec) : List Nat := bitList 128 r.mask

/-- The region of a physical address (R54). -/
def Plan.region (p : Plan) (a : Nat) : Option RegionRec :=
  p.regions.find? (fun r => decide (r.base ≤ a) && decide (a < r.base + r.length))

/-- The regions of a channel in ascending BASE, as the loader packs them (R55). -/
def Plan.channelRegions (p : Plan) (c : Nat) : List RegionRec :=
  sortBy (fun a b => decide (a.base < b.base)) (p.regions.filter (fun r => bit r.mask c))

/-- The first channel page of a region on a channel (R55): the pages of the regions below it on that channel. -/
def Plan.cbase (p : Plan) (c : Nat) (r : RegionRec) : Nat :=
  ((p.regions.filter (fun q => bit q.mask c && decide (q.base < r.base))).map
    (fun q => q.length / q.n / 8192)).foldl (· + ·) 0

/-- The guarantee of a Plot and class on a channel (R579): the summed MBPS; 0 for none. -/
def Plan.guar (p : Plan) (c plot cls : Nat) : Nat :=
  ((p.guars.filter (fun g => bit g.mask c && g.plot == plot && g.cls == cls)).map (·.mbps)).foldl (· + ·) 0

/-- The (Plot, class) pairs that hold a guarantee on a channel, one MCC_GUAR entry each (R579). -/
def Plan.guarKeys (p : Plan) (c : Nat) : List (Nat × Nat) :=
  ((List.range 128).filter (fun i => decide (0 < p.guar c (i / 8) (i % 8)))).map (fun i => (i / 8, i % 8))

/-- The share record of a slot of a Bed. -/
def Plan.share (p : Plan) (bed slot : Nat) : Option ShareRec :=
  p.shares.find? (fun r => r.bed == bed && r.slot == slot)

/-- The base of a share slot in 64 KiB units (R107): the UNITS of the lower-numbered slots of that Bed. -/
def Plan.shareBase (p : Plan) (bed slot : Nat) : Nat :=
  ((p.shares.filter (fun r => r.bed == bed && decide (r.slot < slot))).map (·.units)).foldl (· + ·) 0

/-- The stream record of a sensor stream. -/
def Plan.stream (p : Plan) (n : Nat) : Option StreamRec := p.streams.find? (fun r => r.stream == n)

/-- The record of a display pipe. -/
def Plan.pipe (p : Plan) (n : Nat) : Option PipeRec := p.pipes.find? (fun r => r.pipe == n)

/-- The gate list of a switch port. -/
def Plan.gate (p : Plan) (port : Nat) : Option GateRec := p.gates.find? (fun r => r.port == port)

/-- The must-run power of Table 01-16 in units of 0.01 mW, in which 781.25, 1,562.5 and 312.5 mW are whole numbers
(R40). -/
def Plan.mustRunCentiMw (p : Plan) : Nat :=
  let mr := (p.plots.filter (·.mustRun)).map (·.plot)
  let cnt (kind : Nat) := ((mr.map (fun q => (p.owned kind q).length)).foldl (· + ·) 0)
  let chans := (p.regions.filter (fun r => mr.contains r.plot)).foldl (fun m r => m ||| r.mask) 0
  2000000 + 1500000 + 78125 * cnt 0x03 + 156250 * cnt 0x01 + (if cnt 0x0F + cnt 0x0E > 0 then 1500000 else 0)
    + 31250 * popcount 128 chans

/-- Must-run power in mW, rounded up (SPL_MUST_RUN_MW). -/
def Plan.mustRunMw (p : Plan) : Nat := ceilDiv p.mustRunCentiMw 100

/-- The clusters that hold an assigned core. -/
def Plan.usedClusters (p : Plan) : List Nat :=
  (List.range 4).filter (fun k => (List.range 4).any (fun i => (p.owner 0x01 (4 * k + i)).isSome))

/-- The Pavilions that hold an assigned Bed. -/
def Plan.usedPavilions (p : Plan) : List Nat :=
  (List.range 16).filter (fun k => (List.range 8).any (fun b => (p.owner 0x03 (8 * k + b)).isSome))

end Sys2Proof.Machine
end

