-- ==== Sys2Proof/Machine/StCore.lean ====
section
/-! DEFINITION. State that every block shares: what the device last answered and sent out, the fault log (spec/16), the
Site Plan loader (spec/01) and the safe-state controller (spec/13): plain data. -/

namespace Sys2Proof.Machine

/-- What an access answered: a status code and the data (a read refused answers zeros). -/
structure Resp where
  status : Nat := 0
  data : List Byte := []
deriving DecidableEq, Repr

/-- The fault log: records raised and on their way to the collector in the order raised, and the records that the
collector holds until their 10 µs have passed (R520, R521). -/
structure LogSt where
  raised : List FaultRec := []
  held : List FaultRec := []
deriving DecidableEq, Repr

/-- The Site Plan loader (R50): load state, whether slot B was checked, failed checks, first failed check (check, slot,
status), and the device time of acceptance. -/
structure SplSt where
  state : Nat := 0
  altTried : Bool := false
  failCount : Nat := 0
  firstFail : Option (Nat × Nat × Nat) := none
  acceptTime : Nat := 0
deriving DecidableEq, Repr

/-- The safe-state controller (R417, R419): whether safe state holds, the source block ID and class of the first severity-4
record, and the device time of entry in ns. -/
structure SafeSt where
  safe : Bool := false
  source : Nat := 0
  cls : Nat := 0
  time : Nat := 0
deriving DecidableEq, Repr

/-- SAFE_BLOCK: the block code of that record (Table 13-11). -/
def SafeSt.block (x : SafeSt) : Nat := x.source / 256

end Sys2Proof.Machine
end

