-- ==== Sys2Proof/Machine/StSys.lean ====
section
/-! DEFINITION. State of power, clocks and thermal (spec/17, spec/18), the Gatehouse (spec/13), the Glasshouse (spec/14)
and the Keeper with its mailboxes (spec/15, spec/16): plain data. Times are device time in ns. -/

namespace Sys2Proof.Machine

/-! ### Power and reset -/

/-- Power, reset, straps, rails, limiter, thermal controller and droop response. `lim` and `th` are the limiter and
thermal levels of groups 1 to 3; `thProt` is the thermal level of the protected domains (R552). `below` is the first
tick of the unbroken run of ticks with P below 0.98 W, `cool` of the run with T at most THROTTLE_C − 3, `atFloor` of
the run of R552's power cause; `strapped` holds while the straps sampled at RESET_N rising are in force; `energy` is in units of 0.1 µJ. `normal` is since when the power state has been NORMAL (R530);
`xspi8d` tells whether the xSPI flash is read in 8D-8D-8D at 200 MHz or in 1S-1S-1S at 25 MHz (R570). -/
structure PwrSt where
  por : Bool := false
  running : Bool := false
  pll : Bool := false
  strapped : Bool := false
  groveId : Nat := 0
  hostMode : Bool := false
  rails : Nat := 0
  enabled : Nat := 0
  enabledAt : Nat := 0
  railsDone : Bool := false
  lim : List Nat := [16, 16, 16]
  th : List Nat := [16, 16, 16]
  thProt : Nat := 16
  below : Option Nat := none
  cool : Option Nat := none
  atFloor : Option Nat := none
  state : Nat := 0
  emPower : Bool := false
  emThermal : Bool := false
  tripped : Bool := false
  droop : Option (Nat × Nat) := none
  power : Nat := 0
  energy : Nat := 0
  temps : List Nat := List.replicate 28 0
  normal : Nat := 0
  xspi8d : Bool := false
deriving DecidableEq, Repr

/-- What the boot meets in hardware: the Glasshouse self-test, TRNG health, channels that fail training twice,
failures of the copied Keeper image (first and second attempt), units that fail start-up self-test as (kind, index)
pairs (Table 01-6; kind 0x20 an MCC, 0x21 a Trellis, 0x22 an ISP-lite pipeline), whether the retirement list could be
read, and the injection that the comparator did not flag (group, single-bit). -/
structure BootIn where
  noTrain : BitVec 128
  copyBad : List Bool
  unhealthy : List (Nat × Nat)
  retireReadable : Bool
  injectFail : Option (Nat × Bool)
deriving DecidableEq, Repr

/-! ### Keeper -/

/-- What the boot control block holds for one firmware kind (R504). -/
structure KindCtl where
  active : Nat := 0
  trial : Bool := false
  tried : Bool := false
deriving DecidableEq, Repr

/-- The update session (R526): its header bytes and content key, the blocks received, the start of step 6 of R531, and the mailbox
that waits for the reply to UPD_ACTIVATE. -/
structure UpdSt where
  state : Nat := 0
  session : Nat := 0
  target : Nat := 0
  owner : Nat := 0
  header : List Byte := []
  key : List Byte := []
  imageLen : Nat := 0
  received : List Nat := []
  lastStatus : Nat := 0
  readyAt : Option Nat := none
  pendingReply : Option Nat := none
deriving DecidableEq, Repr

/-- The boot control block (R504): its fields, as the two copies of flash hold them. -/
structure Bcb where
  generation : Nat
  bootCount : Nat
  kinds : List KindCtl
  staged : Option UpdSt
deriving DecidableEq, Repr

/-- Running firmware of one kind: slot, VERSION, SVN, handover format, digest, and whether it is the trial slot. -/
structure FwRun where
  slot : Nat
  version : Nat
  svn : Nat
  hoFmt : Nat
  digest : List Byte
  image : List Byte
  trial : Bool
deriving DecidableEq, Repr

/-- A boot journal entry (Table 16-5). -/
structure JournalEntry where
  step : Nat
  outcome : Nat
  status : Nat
  slot : Nat
  time : Nat
  detail : List Byte
deriving DecidableEq, Repr

/-- One stored reply: SEQ, OPCODE, STATUS and the 16-byte reply body (R483). -/
structure Reply where
  seq : Nat
  opcode : Nat
  status : Nat
  body : List Byte
deriving DecidableEq, Repr

/-- A mailbox (R482): the request being served, READY, the last reply, and the last 64 completed requests. `isOpen` and
`feat` are what an OPEN left; `serving` holds while a request is in service over several commands. -/
structure MbxSt where
  isOpen : Bool := false
  feat : Nat := 0
  busy : Bool := false
  serving : Bool := false
  ready : Bool := false
  req : List Byte := []
  arrived : Nat := 0
  status : Nat := 0
  reply : List Byte := []
  window : List Reply := []
deriving DecidableEq, Repr

/-- The Keeper: state of Table 16-14, firmware running (kinds 1 to 3), boot control block copies, mailboxes (key: Plot p,
or 16 + instance), the journal of this boot, units that failed start-up self-test, and the watchdog. `half` is the running half
of Table 16-2; `draining` holds while a handover waits for the requests in service (R531), `next` is the image that it
starts. -/
structure KprSt where
  state : Nat := 0
  logOpen : Bool := false
  recovery : Bool := false
  fw : SMap (Option FwRun) := []
  bcb : List (Option Bcb) := [none, none]
  bootCount : Nat := 0
  mbx : SMap MbxSt := []
  journal : List JournalEntry := []
  stopped : Bool := false
  reached : Bool := false
  ready : Bool := false
  unhealthy : List (Nat × Nat) := []
  skipped : Nat := 0
  overflow : Nat := 0
  wdogAt : Nat := 0
  upd : UpdSt := {}
  logWr : Nat := 0
  deadPlots : List Nat := []
  half : Nat := 0
  draining : Bool := false
  next : Option FwRun := none
deriving DecidableEq, Repr

/-! ### Gatehouse -/

/-- A plausibility rule (Table 13-3). -/
structure RuleRec where
  kind : Nat
  flags : Nat
  format : Nat
  plot : Nat
  severity : Nat
  task : Nat
  srcA : Nat
  srcB : Nat
  count : Nat
  triggerSem : Nat
  param : Nat
  lo : Nat
  hi : Nat
  tol : Nat
  rel : Nat
  verdictAddr : Nat
  expect : Nat
  reservedOk : Bool
deriving DecidableEq, Repr

/-- What a rule remembers: elements at the last passing evaluation (DELTA), the semaphore at the previous evaluation. -/
structure RuleSt where
  last : Option (List Nat) := none
  sem : Nat := 0
deriving DecidableEq, Repr

/-- A Gatehouse task: the uncompleted releases in order, each with whether its miss was logged, the number of periodic
releases made, and the semaphore values at the previous release. -/
structure TaskSt where
  open_ : List (Nat × Bool) := []
  released : Nat := 0
  sems : List (Nat × Nat) := []
deriving DecidableEq, Repr

/-- A self-test round of a unit: the next slice, the start of the slice that runs, the end of the previous round, and
whether the overdue record was logged. -/
structure RoundSt where
  next : Nat := 0
  started : Option Nat := none
  since : Nat := 0
  overdue : Bool := false
deriving DecidableEq, Repr

/-- A golden slot under test (R409): stream, COUNT, FS_TIME, and whether it was published. -/
structure GoldenSt where
  stream : Nat
  count : Nat
  fs : Nat
  published : Bool
deriving DecidableEq, Repr

/-- The Gatehouse: start, injection test, lockstep, watchdog, rule table of the verified image, tasks, self-test rounds
(key 128 × kind + unit), failed units as (kind, unit), golden slots under test. -/
structure GthSt where
  started : Option Nat := none
  kicked : Bool := false
  failed : Bool := false
  imageOk : Bool := false
  injectGroups : Nat := 0
  injectFirst : Nat := 0
  injectDone : Bool := false
  injectPass : Bool := false
  broken : Bool := false
  wdogAt : Nat := 0
  rules : List RuleRec := []
  ruleSt : SMap RuleSt := []
  tasks : SMap TaskSt := []
  rounds : SMap RoundSt := []
  failedUnits : List (Nat × Nat) := []
  golden : List GoldenSt := []
deriving DecidableEq, Repr

/-! ### Glasshouse -/

/-- An OTP key slot (Table 14-5). -/
structure KeySlot where
  x : Nat := 0
  y : Nat := 0
  usage : Nat := 0
  present : Bool := false
  revoked : Bool := false
deriving DecidableEq, Repr

/-- The OTP array (Table 14-5): LIFECYCLE as the fuse words of its three groups, the minimums as numbers of fuses blown
(Glasshouse, Keeper, Gatehouse, plan). -/
structure OtpSt where
  serial : List Byte := List.replicate 16 0
  lifecycle : List Nat := [0, 0, 0]
  secret : Nat := 0
  keys : SMap KeySlot := []
  mins : List Nat := [0, 0, 0, 0]
deriving DecidableEq, Repr

/-- An enclave (R437): context, Plot, sealed mark, content key, ranges as (BASE, PAGES, RO), permitted digests, and the
digest of its manifest. -/
structure EncSt where
  ctx : Nat
  plot : Nat
  isSealed : Bool
  key : List Byte
  ranges : List (Nat × Nat × Bool)
  progs : List (List Byte)
  manifest : List Byte
deriving DecidableEq, Repr

/-- The Glasshouse: OTP, secure SRAM, TRNG health, tamper causes, wipe, debug ports and open challenges, enclaves, and
the random values it returned as (time, bytes), which LC_ADVANCE may name (R453). -/
structure GlsSt where
  otp : OtpSt := {}
  sram : List Host.Cell := []
  rngOk : Bool := false
  tamper : Nat := 0
  halted : Bool := false
  wiping : Option Nat := none
  debugSeen : Bool := false
  debugPorts : Nat := 0
  challenges : List (List Byte) := []
  enclaves : SMap (Option EncSt) := []
  nonces : List (Nat × List Byte) := []
  jtag : JtagIns := .idcode
deriving DecidableEq, Repr

end Sys2Proof.Machine
end

