-- ==== Sys2Proof/Syntax.lean ====
section
/-! DEFINITION. The commands of the block: one constructor per row of spec/opcode_table.json, in the table's order, with the
row's operands. An event row carries what the outside supplies (the data of an arriving message, what a memory read met,
the slice of work that Brodec's code names); an operand that names a unit is a `Fin` of the unit's count. -/

namespace Sys2Proof

/-- A command or event of the block (spec/opcode_table.json). -/
inductive Instr where
  /-- POWER_ON_RESET (R539) VIN rises through 1.65 V; the always-on and Gatehouse regulators start. -/
  | powerOnReset
  /-- POWER_FAIL (R541) VIN stays below 1.60 V for 2 µs; FAULT_N goes low and rails 9 to 1 turn off. -/
  | powerFail
  /-- RESET_N_FALL (R541) RESET_N falls; FAULT_N goes low and rails 9 to 1 power down in descending order. -/
  | resetNFall
  /-- RESET_N_RISE (R540) RESET_N rises or the internal reset is released; device time starts and the power-up sequence begins. -/
  | resetNRise (groveId : Fin 8) (hostMode : Bool)
  /-- ROOT_PLL_LOCK (R371) The root PLL locks; ROOT_CLK runs, device time switches to INC stepping, and the boot ROM starts; `selfTest` says whether the Glasshouse's and the TRNG's start-up tests pass, and `sfdp8d` holds when the flash's SFDP declares 8D-8D-8D (R570). -/
  | rootPllLock (selfTest : Bool × Bool) (sfdp8d : Bool)
  /-- RAIL_IN_REGULATION (R540) A rail reaches regulation and the next rail is enabled, or step 0x05 stops when the bound is missed. -/
  | railInRegulation (rail : Fin 9) (regulated : Bool) (boot : Machine.BootIn)
  /-- REGISTER_WRITE `who` writes `size` bytes of a register, pin control or DMA channel; `hw` holds the bits of that register that hardware sets in the same cycle (R12). -/
  | registerWrite (who : Who) (at_ : RegTarget) (size : Nat) (value : BitVec 64) (hw : BitVec 64)
  /-- READ_CLEAR `who` reads a register that a read clears; `event` counts those of that register that arrive in the same cycle (R13). -/
  | readClear (who : Who) (at_ : RegTarget) (size : Nat) (event : BitVec 32)
  /-- COUNTER_READ `who` reads a register, a counter of Table 14-2 among them (R435). -/
  | counterRead (who : Who) (at_ : RegTarget) (size : Nat)
  /-- DRAM_REQUEST `who` issues one DRAM request of 64, 128 or 256 bytes (R59); `kind` says whether it writes and what it asks of the system cache, which cores and DMA channels may use (R432). -/
  | dramRequest (who : Who) (addr : BitVec 48) (len : Nat) (kind : Bool × CacheUse) (data : List Byte)
  /-- HOLD_QUEUE_GRANT One FAB_CLK cycle of grants at a master port (R82). -/
  | holdQueueGrant (port : Fin 161)
  /-- MCC_SERVE One MEM_CLK cycle of the controller of channel `c` (R84); `ecc` and `ecc2` are what the reads it serves meet. -/
  | mccServe (c : Fin 128) (ecc : EccEvent) (ecc2 : EccEvent)
  /-- SCRUB The patrol scrub of channel `c` reads a channel page (R77). -/
  | scrub (c : Fin 128) (page : Fin 131072) (ecc : EccEvent)
  /-- SET_SUB A write of OWN_CMD_s_OP with OP SET_SUB (R67). -/
  | setSub (who : Who) (slot : Fin 17) (sub : BitVec 12)
  /-- SET_RO A write of OWN_CMD_s_OP with OP SET_RO. -/
  | setRo (who : Who) (slot : Fin 17)
  /-- CLEAR_RO A write of OWN_CMD_s_OP with OP CLEAR_RO. -/
  | clearRo (who : Who) (slot : Fin 17)
  /-- QUERY A write of OWN_CMD_s_OP with OP QUERY. -/
  | query (who : Who) (slot : Fin 17)
  /-- RETIRE A write of OWN_CMD_s_OP with OP RETIRE. -/
  | retire (who : Who) (slot : Fin 17)
  /-- OWN_CMD_COMPLETE The command of an OWN slot completes (R68). -/
  | ownCmdComplete (slot : Fin 17)
  /-- COMMAND_FETCH The device reads the ring entry at HEAD of queue `q` (R488). -/
  | commandFetch (q : Fin 256)
  /-- HIF_QQ_TAIL_WRITE A write of HIF_Qq_TAIL. -/
  | hifQqTailWrite (who : Who) (q : Fin 256) (value : BitVec 32)
  /-- HIF_QQ_CFG_WRITE A write of HIF_Qq_CFG. -/
  | hifQqCfgWrite (who : Who) (q : Fin 256) (value : BitVec 32)
  /-- DISPATCH One FAB_CLK cycle of the scheduler (R231). -/
  | dispatch
  /-- NOP The dispatched NOP of queue `q` with this SEQ runs (R117). -/
  | nop (q : Fin 256) (seq : BitVec 32)
  /-- RUN The dispatched RUN makes its argument and ATTEND checks and opens its steps (R178, R195, R206). -/
  | run (q : Fin 256) (seq : BitVec 32)
  /-- COPY The dispatched COPY moves its bytes; `ueAt` is the byte offset of a DRAM read that returns poisoned. -/
  | copy (q : Fin 256) (seq : BitVec 32) (ueAt : Option Nat)
  /-- BIND The dispatched BIND runs (R185). -/
  | bind (q : Fin 256) (seq : BitVec 32)
  /-- UNBIND The dispatched UNBIND runs (R213). -/
  | unbind (q : Fin 256) (seq : BitVec 32)
  /-- ADMIT The dispatched ADMIT runs (R213). -/
  | admitSeq (q : Fin 256) (seq : BitVec 32)
  /-- LEAVE The dispatched LEAVE runs (R213). -/
  | leave (q : Fin 256) (seq : BitVec 32)
  /-- FREE The dispatched FREE runs (R201, R202). -/
  | free (q : Fin 256) (seq : BitVec 32)
  /-- OPERATION_COMPLETE The operation in a slot of a Pavilion completes (R119). -/
  | operationComplete (pav : Fin 16) (slot : Fin 64)
  /-- COMMAND_COMPLETE The completion of a command is written, then its SIGNAL and interrupt (R120). -/
  | commandComplete (q : Fin 256) (seq : BitVec 32)
  /-- COMMAND_DEADLINE_MISS Device time has reached the DEADLINE of a command in flight (R121). -/
  | commandDeadlineMiss (q : Fin 256) (seq : BitVec 32)
  /-- QUEUED_DEADLINE_MISS Device time has reached the DEADLINE of a queue's head (R235). -/
  | queuedDeadlineMiss (q : Fin 256)
  /-- MATMUL The MATMUL chosen on the Bed runs over the rows, output columns and K ranges that its code names; `post` is the element-wise function at the drain, and what the Bed's memories met (R126). -/
  | matmul (bed : Fin 128) (outs : List (Nat × Nat × Nat)) (tiles : List (Nat × Nat × Nat)) (post : Option (Machine.EwOp × BitVec 32 × BitVec 32) × BedEcc)
  /-- CONV2D The CONV2D chosen on the Bed runs over the output pixels and channels that its code names. -/
  | conv2d (bed : Fin 128) (outs : List (Nat × Nat × Nat)) (taps : List (Nat × Nat × Nat × Nat)) (stride : Nat × Nat) (dilation : Nat × Nat) (pad : Nat × Nat) (post : Option (Machine.EwOp × BitVec 32 × BitVec 32))
  /-- ELTWISE The ELTWISE chosen on the Bed applies one operation of Table 04-10 to the elements its code names; `b` and `c` stand for operands that are no tensor. -/
  | eltwise (bed : Fin 128) (elems : List (Nat × Nat × Nat)) (op : Machine.EwOp) (b : BitVec 32) (c : BitVec 32)
  /-- NORM The NORM chosen on the Bed normalises the rows its code names. -/
  | norm (bed : Fin 128) (rows : List Nat) (layer : Bool) (eps : BitVec 32)
  /-- SOFTMAX The SOFTMAX chosen on the Bed runs over the rows its code names. -/
  | softmax (bed : Fin 128) (rows : List Nat)
  /-- REDUCE The REDUCE chosen on the Bed adds the partials of its inputs in their order of arrival. -/
  | reduce (bed : Fin 128) (elems : List Nat) (arrival : List Nat)
  /-- QUANTISE The QUANTISE chosen on the Bed converts the elements its code names (whole blocks of 32 for an MX format). -/
  | quantise (bed : Fin 128) (elems : List Nat)
  /-- GATHER The GATHER chosen on the Bed copies rows that its index tensor selects. -/
  | gather (bed : Fin 128) (rows : List Nat)
  /-- COPY_OPERATOR The COPY operator chosen on the Bed moves (source byte, destination byte, length) pieces. -/
  | copyOperator (bed : Fin 128) (moves : List (Nat × Nat × Nat))
  /-- ATTEND The ATTEND chosen on the Bed appends its rows and forms its partials (R207, R208). -/
  | attend (bed : Fin 128)
  /-- EXCHANGE The EXCHANGE chosen on the Bed sends its input to, or takes its output from, two addresses: of the elements and of their scales (R269). -/
  | exchange (bed : Fin 128) (send : Bool) (addrs : BitVec 48 × BitVec 48)
  /-- TOPK The TOPK chosen on the Bed finds the k largest values of each row; `tieHigh` says that its code ranks the higher of two equal values' indices first. -/
  | topk (bed : Fin 128) (rows : List Nat) (k : Nat) (tieHigh : Bool)
  /-- OPERATOR_COMPLETE The operator running on a Bed ends (R180, R233). -/
  | operatorComplete (bed : Fin 128)
  /-- PARTIAL_MERGE The Trellis merges the i-th partial on its way to it (R209). -/
  | partialMerge (trellis : Fin 16) (i : Nat)
  /-- GROVE_ADMISSION_REPORT Member 0 receives a member's step report (R215). -/
  | groveAdmissionReport (device : Fin 8) (trellis : Fin 16) (sp : Fin 4) (epoch : BitVec 64) (digest : List Byte) (rows : List Nat) (leaving : List Nat) (uncovered : List Nat)
  /-- GROVE_ADMISSION_RESULT A member receives the joint admission (R215), or that the members' E values (`mismatch` true) or digests (false) differ. -/
  | groveAdmissionResult (trellis : Fin 16) (sp : Fin 4) (mismatch : Option Bool) (runs : List (Nat × Nat)) (leaves : List Nat) (exhausted : List Nat)
  /-- DMA_DESCRIPTOR The sequencer of the Bed gives a channel a 32-byte descriptor (R114); `met` is the row whose DRAM read is poisoned, if any, and what the Bed's memories met (R126). -/
  | dmaDescriptor (bed : Fin 128) (ch : Fin 4) (raw : List Byte) (met : Option Nat × BedEcc)
  /-- DMA_DESCRIPTOR_DONE The descriptor of a channel ends (R115). -/
  | dmaDescriptorDone (bed : Fin 128) (ch : Fin 4)
  /-- DMA_STALL An access of DMA channel `port`, or of FAB (4), has waited `cycles` cycles (R106). -/
  | dmaStall (bed : Fin 128) (port : Fin 5) (bank : Fin 32) (cycles : BitVec 32)
  /-- INBOUND_SCRATCHPAD_ACCESS A fabric access to a Bed's scratchpad window (R110), with the bytes of a write and their enables. -/
  | inboundScratchpadAccess (who : Who) (addr : BitVec 48) (size : Nat) (write : Bool) (data : List Byte × List Bool) (ecc : BedEcc)
  /-- BED_PWR_WRITE A write of BED_PWR (R112). -/
  | bedPwrWrite (who : Who) (bed : Fin 128) (value : BitVec 32)
  /-- BED_PWR_TRANSITION_DONE The power transition of a Bed ends (R112). -/
  | bedPwrTransitionDone (bed : Fin 128)
  /-- BED_SLOT_WRITE A write of BED_SLOT_s (R129). -/
  | bedSlotWrite (who : Who) (bed : Fin 128) (slot : Fin 4) (value : BitVec 32)
  /-- SHARE_CLEAR_DONE The share clear of a Bed ends (R109). -/
  | shareClearDone (bed : Fin 128)
  /-- SEQ_TRAP The sequencer of a Bed takes an exception (R124). -/
  | seqTrap (bed : Fin 128) (code : BitVec 8) (pc : BitVec 32)
  /-- LOAD The Keeper serves the LOAD request of a mailbox (R171). -/
  | load (mbx : Mbx)
  /-- UNLOAD The Keeper serves the UNLOAD request of a mailbox (R176). -/
  | unload (mbx : Mbx)
  /-- CTX_CREATE The Keeper serves CTX_CREATE (R220). -/
  | ctxCreate (mbx : Mbx)
  /-- CTX_DESTROY The Keeper serves CTX_DESTROY (R220). -/
  | ctxDestroy (mbx : Mbx)
  /-- CTX_BIND The Keeper serves CTX_BIND (R220). -/
  | ctxBind (mbx : Mbx)
  /-- CTX_UNBIND The Keeper serves CTX_UNBIND (R220). -/
  | ctxUnbind (mbx : Mbx)
  /-- CTX_STATS The Keeper serves CTX_STATS (R242). -/
  | ctxStats (mbx : Mbx)
  /-- RESIDENCY_TICK The Keeper's residency tick at a multiple of 10 µs (R239). -/
  | residencyTick
  /-- PLOT_STOP The Keeper stops a Plot that a Plot-fatal record names (R241). -/
  | plotStop (plot : Fin 16)
  /-- PLOT_RESTART The Keeper serves PLOT_RESTART (R519). -/
  | plotRestart (mbx : Mbx)
  /-- SIGNAL A write of SEM_n_VALUE (R244). -/
  | signal (who : Who) (n : Fin 16384) (value : BitVec 64)
  /-- ADD A write of SEM_n_ADD (R244). -/
  | add (who : Who) (n : Fin 16384) (value : BitVec 32)
  /-- SEM_VALUE_READ A read of SEM_n_VALUE (R245). -/
  | semValueRead (who : Who) (n : Fin 16384)
  /-- SEM_WATCH_CFG_WRITE A write of SEM_WATCH_w_CFG (R248). -/
  | semWatchCfgWrite (who : Who) (w : Fin 256) (value : BitVec 32)
  /-- SEM_WATCH_THRESH_WRITE A write of SEM_WATCH_w_THRESH (R248). -/
  | semWatchThreshWrite (who : Who) (w : Fin 256) (value : BitVec 64)
  /-- PORT_TRAIN (R256) An Eliravy port trains at full width, at half width, or goes DOWN, and routes are recomputed. -/
  | portTrain (port : Fin 4) (lanes : BitVec 4)
  /-- PORT_RETRAIN (R254) A flit fails 16 times in a row and the port retrains. -/
  | portRetrain (port : Fin 4)
  /-- FLIT_RECEIVE (R254) A flit arrives; its CRC is checked, a replay is requested on failure, and its messages are delivered. -/
  | flitReceive (port : Fin 4) (flit : List Byte)
  /-- LINK_HELLO (R258) A CTRL LINK_HELLO arrives and the wiring check runs. -/
  | linkHello (port : Fin 4) (grove : Fin 8) (peerPort : Fin 4)
  /-- WRITE (R264) An Eliravy WRITE message is performed at the target or forwarded, and is ACKed. -/
  | write (port : Fin 4)
  /-- READ (R264) An Eliravy READ message is performed and answered with READ_DATA. -/
  | read (port : Fin 4)
  /-- READ_DATA (R265) A READ_DATA message completes the source's remote read. -/
  | readData (port : Fin 4)
  /-- ACK (R265) An ACK completes a remote write or semaphore operation at the source. -/
  | ack (port : Fin 4)
  /-- SEM_SIGNAL (R264) An Eliravy SEM_SIGNAL message performs a SIGNAL on the target device. -/
  | semSignal (port : Fin 4)
  /-- SEM_ADD (R264) An Eliravy SEM_ADD message performs an ADD on the target device. -/
  | semAdd (port : Fin 4)
  /-- SEM_READ (R255) An Eliravy SEM_READ message reads a remote semaphore. -/
  | semRead (port : Fin 4)
  /-- REMOTE_WINDOW_ACCESS (R263) An access to a remote window is performed locally, sent over a link, or refused. -/
  | remoteWindowAccess (who : Who) (addr : BitVec 48) (size : Nat) (write : Bool) (data : List Byte)
  /-- JOIN (R272) Member 0 receives a CTRL JOIN and admits the device or leaves it out. -/
  | join (device : Fin 8) (digest : List Byte) (fw : BitVec 32) (feat : BitVec 64) (ta : BitVec 64) (tb : BitVec 64) (tc : BitVec 64)
  /-- ADMITTED (R270) A device receives ADMITTED from member 0. -/
  | admitted
  /-- LEFT_OUT (R270) A device receives LEFT_OUT and runs standalone. -/
  | leftOut (cause : BitVec 8)
  /-- FORMATION_WINDOW_END (R270) FORM_WINDOW ends at member 0, which sends FORMED and becomes a MEMBER. -/
  | formationWindowEnd
  /-- FORMED (R270) A device receives FORMED and sets STATE to MEMBER. -/
  | formed (mask : BitVec 8) (hb : BitVec 8)
  /-- NO_MASTER (R274) A device gets no FORMED in time, or no heartbeat for 3 periods, and becomes standalone. -/
  | noMaster
  /-- TIME (R374) A CTRL TIME exchange before JOIN disciplines device time and may trigger the JOIN; `tol` and `hb` are the tolerance and period that member 0's message carries. -/
  | time (msg : TimeMsg) (tol : BitVec 16) (hb : BitVec 8)
  /-- HEARTBEAT_SEND (R274) Member 0 sends a heartbeat to every member each HB_PERIOD. -/
  | heartbeatSend
  /-- HEARTBEAT (R374) A member receives a heartbeat, replies and adjusts its device time by δ. -/
  | heartbeat (at_ : BitVec 64) (delta : Int)
  /-- HEARTBEAT_REPLY (R271) Member 0 receives a reply, measures δ and may expel the member. -/
  | heartbeatReply (device : Fin 8) (ta : BitVec 64) (tb : BitVec 64) (tc : BitVec 64)
  /-- HEARTBEAT_MISSED (R275) A reply is late by one HB_PERIOD; the third miss in a row expels the member. -/
  | heartbeatMissed (device : Fin 8)
  /-- EXPEL (R276) A member receives EXPEL, recomputes routes and aborts Grove-spanning work. -/
  | expel (mask : BitVec 8) (cause : BitVec 8)
  /-- FRAME_START (R287) A CSI-2 Frame Start is stamped and the frame is accepted, dropped or taken as a golden slot. -/
  | frameStart (port : Fin 12) (vc : Fin 16) (fnum : BitVec 16) (hdr : Fin 3)
  /-- LONG_PACKET (R285) A CSI-2 long packet is matched to a stream, CRC-checked and buffered or discarded. -/
  | longPacket (port : Fin 12) (vc : Fin 16) (dataType : Fin 64) (data : List Byte) (crcOk : Bool) (hdr : Fin 3)
  /-- FRAME_END (R296) A CSI-2 Frame End is stamped and the frame's geometry is checked. -/
  | frameEnd (port : Fin 12) (vc : Fin 16) (hdr : Fin 3)
  /-- ISP_LINE (R295) An ISP-lite pipeline processes a waiting line, the earliest first. -/
  | ispLine (isp : Fin 8)
  /-- FRAME_PUBLISH (R290) After its writes complete, a frame's header is written, WR is incremented, the semaphore is added to and the interrupt raised. -/
  | framePublish (stream : Fin 96)
  /-- FRAME_DEADLINE (R302) A frame is not published by its deadline and is abandoned or marked LATE. -/
  | frameDeadline (stream : Fin 96)
  /-- GOLDEN_WINDOW_END (R301) The golden slot is not published when its window ends; the miss is logged and the slot abandoned. -/
  | goldenWindowEnd (stream : Fin 96)
  /-- FRAME_MISSING (R303) No Frame Start comes by 1.5 periods; the run is logged and the missing periods counted. -/
  | frameMissing (stream : Fin 96)
  /-- SNS_CFG_WRITE (R307) A stream CFG write; setting ENABLE is checked and zeroes WR, RD and the frame count. -/
  | snsCfgWrite (who : Who) (stream : Fin 96) (value : BitVec 32)
  /-- PASS_FETCH (R314) The Orangery fetches a pass record and checks and starts it when ready. -/
  | passFetch (p : Fin 16)
  /-- ORG_QP_CFG_WRITE (R340) A pass ring CFG write; setting ENABLE zeroes TAIL, HEAD and DONE_BELOW. -/
  | orgQpCfgWrite (who : Who) (p : Fin 16) (value : BitVec 32)
  /-- RENDER (R319) A RENDER pass runs its geometry phase and bins triangles. -/
  | render (p : Fin 16) (shaded : List (Nat × Nat × List (BitVec 32))) (binBytes : Nat)
  /-- TILE_PHASE (R321) Once all bins are complete, each core rasterises, tests, blends and writes its tiles. -/
  | tilePhase (core : Fin 16)
  /-- COMPUTE (R327) A COMPUTE pass dispatches its groups to free cores. -/
  | compute (p : Fin 16)
  /-- COMPUTE_GROUP_END (R317) A compute group ends; the next group starts, or the pass is pre-empted for a FRAME pass. -/
  | computeGroupEnd (core : Fin 16) (writes : List (BitVec 48 × List Byte))
  /-- PASS_COMPLETE (R315) A pass completes; caches are written back, a FRAME plane is committed, then the record, SIGNAL and interrupt. -/
  | passComplete (p : Fin 16)
  /-- PASS_DEADLINE_MISS (R316) A pass misses its deadline, and the miss is reported and handled under R122. -/
  | passDeadlineMiss (p : Fin 16) (seq : BitVec 32)
  /-- SHADER_TRAP (R311) A shader core exception aborts its pass with REFUSED_FORMAT. -/
  | shaderTrap (core : Fin 16) (code : BitVec 8) (pc : BitVec 32)
  /-- OGX_TEX (R310) The shader instruction samples a texture at derivative-selected level of detail. -/
  | ogxTex (core : Fin 16) (word : BitVec 32) (tex : BitVec 64) (mask : BitVec 64) (uv : List (BitVec 32 × BitVec 32))
  /-- OGX_TEXL (R310) The shader instruction samples a texture at an explicit level of detail. -/
  | ogxTexl (core : Fin 16) (word : BitVec 32) (tex : BitVec 64) (mask : BitVec 64) (uv : List (BitVec 32 × BitVec 32)) (lods : List (BitVec 32))
  /-- OGX_RES (R310) The shader instruction sets mask bits for elements whose texels are resident. -/
  | ogxRes (core : Fin 16) (word : BitVec 32) (tex : BitVec 64) (mask : BitVec 64) (uv : List (BitVec 32 × BitVec 32))
  /-- OGX_INTERP (R310) The shader instruction interpolates a primitive attribute perspective-correct. -/
  | ogxInterp (core : Fin 16) (word : BitVec 32) (comp : Fin 64) (mask : BitVec 64) (elems : List (Nat × Nat × Nat))
  /-- OGX_OUT (R310) The shader instruction sends fragment colours through the tests and blend; its word, and the target that its rs1 holds. -/
  | ogxOut (core : Fin 16) (insn : BitVec 32 × Fin 4) (frags : List (Nat × Nat × Nat × List (BitVec 32)))
  /-- COMMIT (R330) A write to DSP_Pn_Lj_COMMIT marks a plane's staged settings for the next latch, or is refused. -/
  | commit (who : Who) (pipe : Fin 6) (plane : Fin 4) (value : BitVec 32)
  /-- LATCH (R336) A pipe's latch activates commits, records CRCs, reports missed frames and reprojects planes. -/
  | latch (pipe : Fin 6)
  /-- DSP_LINK_DOWN (R339) HPD falls or link training fails; the pipe keeps its timing and logs LINK_DOWN. -/
  | dspLinkDown (pipe : Fin 6) (training : Bool)
  /-- HPD_RISE (R339) HPD rises and the display link retrains. -/
  | hpdRise (pipe : Fin 6)
  /-- ETH_FRAME_RECEIVE (R346) An Ethernet frame arrives; it is checked, looked up, policed and enqueued on its egress ports. -/
  | ethFrameReceive (port : Fin 14) (frame : List Byte) (ecc : Option (Fin 2 × Bool))
  /-- TRANSMIT_START (R350) A free port starts the eligible head frame of its highest class and applies any frame-path append. -/
  | transmitStart (port : Fin 14)
  /-- TRANSMIT_END (R383) A frame finishes sending; the TX descriptor may complete and a late launch is logged. -/
  | transmitEnd (port : Fin 14)
  /-- GATE_ENTRY_CHANGE (R351) A gate-list entry ends and the next gate state takes effect. -/
  | gateEntryChange (port : Fin 22)
  /-- ETH_LINK_UP (R343) An external port's partner reports the port's own speed and the link comes up. -/
  | ethLinkUp (port : Fin 14) (speed : Fin 8)
  /-- ETH_LINK_DOWN (R369) An enabled external port loses its link. -/
  | ethLinkDown (port : Fin 14)
  /-- FLW_WRITE (R352) The session command WRITE inserts an entry or replaces its action. -/
  | flwWrite (who : Who) (slot : Fin 17)
  /-- FLW_DELETE (R352) The session command DELETE removes an entry. -/
  | flwDelete (who : Who) (slot : Fin 17)
  /-- FLW_QUERY (R352) The session command QUERY writes an entry's action into the record. -/
  | flwQuery (who : Who) (slot : Fin 17)
  /-- FLW_COMMIT (R353) A session command commits atomically, in slot order with others of the cycle. -/
  | flwCommit (slots : BitVec 17)
  /-- TX_DESCRIPTOR (R355) An internal port takes a TX descriptor and injects its frame into the switch. -/
  | txDescriptor (port : Fin 8) (ecc : Option (Fin 2 × Bool))
  /-- RX_DELIVER (R355) A queued frame for an internal port is written into a posted RX descriptor and published. -/
  | rxDeliver (port : Fin 8)
  /-- RING_CFG_WRITE (R370) A gateway or CAN ring CFG write; setting ENABLE zeroes TAIL and HEAD and clears STOPPED. -/
  | ringCfgWrite (who : Who) (ring : RingName) (value : BitVec 32)
  /-- CAN_ARBITRATION (R360) A CAN controller offers its TXH or TXL head frame at arbitration. -/
  | canArbitration (n : Fin 16)
  /-- CAN_TX_DONE (R360) A CAN frame is sent, loses arbitration or meets an error, and is completed or offered again. -/
  | canTxDone (n : Fin 16) (result : Fin 3) (err : Fin 6) (tec : BitVec 8) (rec_ : BitVec 8)
  /-- CAN_FRAME_RECEIVE (R361) A CAN frame is received, filtered and written to the RX ring, or lost. -/
  | canFrameReceive (n : Fin 16) (frame : List Byte) (stamp : BitVec 64) (rec_ : BitVec 8)
  /-- ERROR_PASSIVE (R362) A CAN controller enters error passive. -/
  | errorPassive (n : Fin 16) (tec : BitVec 8) (rec_ : BitVec 8)
  /-- BUS_OFF (R362) A CAN controller enters bus-off and stops transmitting. -/
  | busOff (n : Fin 16) (err : Fin 6)
  /-- BUS_OFF_RECOVERY (R362) After 128 recessive sequences an AUTO_RECOVER controller returns to error active. -/
  | busOffRecovery (n : Fin 16)
  /-- LIN_FRAME (R363) A write to CAN_Ll_CMD sends a LIN header and sends or receives the response. -/
  | linFrame (who : Who) (l : Fin 4) (value : BitVec 32)
  /-- NO_RESPONSE (R363) A LIN response is not complete within its time and the frame ends with error. -/
  | noResponse (l : Fin 4)
  /-- CONTINUE (R366) A check-value unit continues from VALUE over LEN bytes. -/
  | cvuContinue (who : Who) (unit : Fin 32) (fromValue : Bool)
  /-- CVU_COMPUTE (R366) A check-value unit computes the final value over LEN bytes. -/
  | cvuCompute (who : Who) (unit : Fin 32) (fromValue : Bool)
  /-- APPEND (R366) A check-value unit computes and writes the value after the data. -/
  | append (who : Who) (unit : Fin 32) (fromValue : Bool)
  /-- CHECK_STRIP (R366) A check-value unit checks the trailing value against the computed one. -/
  | checkStrip (who : Who) (unit : Fin 32) (fromValue : Bool)
  /-- CVU_OP_DONE (R366) A check-value operation completes and updates VALUE, RESULT and STATUS. -/
  | cvuOpDone (unit : Fin 32)
  /-- SYNC_RECEIVE (R380) A Sync arrives on a SLAVE port; the domain corrects its clock and forwards copies. -/
  | syncReceive (port : Fin 14) (number : BitVec 8) (origin : BitVec 80) (corr : Int) (ratio : Int)
  /-- SYNC_SEND (R381) A GRANDMASTER domain sends a one-step Sync on each MASTER port each interval. -/
  | syncSend (domain : Fin 4)
  /-- PDELAY_INITIATE (R376) A port starts a Pdelay exchange each second and updates asCapable. -/
  | pdelayInitiate (port : Fin 14)
  /-- PDELAY_REQ (R376) A received Pdelay_Req is answered with Pdelay_Resp and Follow_Up. -/
  | pdelayReq (port : Fin 14)
  /-- PDELAY_RESP (R376) A Pdelay response completes an exchange and updates the mean link delay. -/
  | pdelayResp (port : Fin 14) (delay : BitVec 48)
  /-- SYNC_RECEIPT_TIMEOUT (R384) No Sync for 3 intervals; the domain enters HOLDOVER. -/
  | syncReceiptTimeout (domain : Fin 4)
  /-- HOLDOVER_EXPIRED (R384) HOLD_LIMIT seconds pass in HOLDOVER and HOLD_EXPIRED is set. -/
  | holdoverExpired (domain : Fin 4)
  /-- TIM_DK_STEP (R385) A Keeper write steps a domain clock and TIME_STEP is logged. -/
  | timDkStep (who : Who) (domain : Fin 4) (value : BitVec 64)
  /-- CAPTURE (R375) A write to TIM_Cs_GO captures device and domain times in one cycle. -/
  | capture (who : Who) (slot : Fin 17) (value : BitVec 32)
  /-- TASK_RELEASE (R401) A periodic Gatehouse task is released and its rules are evaluated; with the task stands the error that the Gatehouse SRAM met, if any (R421). -/
  | taskRelease (task : Fin 64 × Option Bool)
  /-- GTH_TASK_DONE (R402) A write completes the oldest uncompleted release of a task. -/
  | gthTaskDone (who : Who) (value : BitVec 32)
  /-- TASK_DEADLINE_MISS (R401) A release is not completed by its deadline and is logged and counted. -/
  | taskDeadlineMiss (task : Fin 64)
  /-- GOLDEN_TEST_DEADLINE (R409) The golden test window ends before TRIGGER_SEM reaches the slot's count. -/
  | goldenTestDeadline (stream : Fin 96)
  /-- GTH_WDOG_KICK (R393) The Gatehouse firmware restarts its watchdog interval. -/
  | gthWdogKick (who : Who) (value : BitVec 32)
  /-- GTH_WATCHDOG_TIMEOUT (R393) The Gatehouse watchdog lapses and TIMEOUT is logged at severity 4. -/
  | gthWatchdogTimeout
  /-- CLOCK_MONITOR (R392) SAF_CLK or the reference is out of range and safe state is entered. -/
  | clockMonitor (lossOfRef : Bool)
  /-- SUPPLY_MONITOR (R392) The Gatehouse rail leaves its band and safe state is entered. -/
  | supplyMonitor (overVoltage : Bool)
  /-- LOCKSTEP_MISMATCH (R396) The comparator finds a difference between the cores and safe state is entered. -/
  | lockstepMismatch (group : Fin 64) (pc : BitVec 32)
  /-- SLICE_START (R412) A self-test slice starts on an idle unit, or is deferred. -/
  | sliceStart (kind : Fin 5) (unit : Fin 128)
  /-- SLICE_END (R414) A self-test slice ends; a fault stops the Plot or enters safe state. -/
  | sliceEnd (kind : Fin 5) (unit : Fin 128) (fault : Bool)
  /-- SELFTEST_OVERDUE (R413) A self-test round passes its overdue time and is logged once. -/
  | selftestOverdue (kind : Fin 5) (unit : Fin 128)
  /-- SAFE_REQUEST (R417) A write to GTH_SAFE_REQ.ENTER enters safe state. -/
  | safeRequest (who : Who) (value : BitVec 32) (reason : BitVec 32)
  /-- DEBUG_TOKEN (R454) A signed debug token opens the debug ports that the life cycle allows; any other access over JTAG (R573). `signer`, `r` and `sg` belong to a token. -/
  | debugToken (op : JtagOp) (signer : BitVec 64) (r : BitVec 384) (sg : BitVec 384)
  /-- ATTEST (R459) The Glasshouse request writes a signed attestation report. -/
  | attest (mbx : Mbx)
  /-- RANDOM (R450) The Glasshouse request writes LENGTH bytes from the DRBG. -/
  | random (mbx : Mbx)
  /-- ENC_CREATE (R439) The Glasshouse request verifies a manifest, unwraps the key and seals and zeroes the enclave's ranges. -/
  | encCreate (mbx : Mbx)
  /-- ENC_IMPORT (R440) The Glasshouse request decrypts ciphertext into the sealed ranges. -/
  | encImport (mbx : Mbx)
  /-- ENC_SEAL (R441) The Glasshouse request sets RO on the marked ranges and allows LOAD. -/
  | encSeal (mbx : Mbx)
  /-- ENC_DESTROY (R443) The Glasshouse request zeroes and releases the sealed pages and erases the key. -/
  | encDestroy (mbx : Mbx)
  /-- LC_ADVANCE (R453) A signed record advances the life cycle, blows the fuse group, wipes and resets. -/
  | lcAdvance (mbx : Mbx)
  /-- REVOKE (R452) A signed REVOKE record sets REVOKED on a key slot. -/
  | revoke (signer : BitVec 64) (target : Fin 16) (record : List Byte) (r : BitVec 384) (sg : BitVec 384)
  /-- TAMPER (R456) A tamper event stops, wipes and restarts the Glasshouse and enters safe state. -/
  | tamper (cause : Fin 5)
  /-- WIPE_DONE (R457) A secure SRAM wipe ends and WIPING returns to 0. -/
  | wipeDone
  /-- RNG_HEALTH (R450) A TRNG health test fails and the source stops until reset. -/
  | rngHealth (adaptive : Bool)
  /-- GLS_CTR_POLICY_WRITE (R436) A secure-world write changes the open counter groups or sets LOCK. -/
  | glsCtrPolicyWrite (who : Who) (value : BitVec 32)
  /-- MSI_WRITE (R425) An MSI write to a core's interrupt file is accepted or discarded. -/
  | msiWrite (who : Who) (core : Fin 16) (value : BitVec 32)
  /-- INBOUND_WRITE (R479) An inbound PCIe posted write is mapped by a window and performed, or discarded and reported. -/
  | inboundWrite (port : Fin 3) (func : Fin 32) (bar : Fin 3) (addr : BitVec 64) (data : List (Option Byte)) (poisoned : Bool)
  /-- INBOUND_READ (R478) An inbound PCIe read is mapped, performed and completed, or refused. -/
  | inboundRead (port : Fin 3) (func : Fin 32) (bar : Fin 3) (addr : BitVec 64) (len : Fin 4097)
  /-- OUTBOUND_ACCESS (R470) A device access to the outbound window is mapped and sent on a PCIe port, or refused. -/
  | outboundAccess (who : Who) (addr : BitVec 48) (size : Nat) (write : Bool) (data : List Byte)
  /-- OUTBOUND_COMPLETION (R477) A completion arrives for an outbound read; an error completion ends it with HW_ERROR. -/
  | outboundCompletion (port : Fin 3) (tag : Fin 768) (err : Fin 4) (data : List Byte)
  /-- COMPLETION_TIMEOUT (R477) An outbound read gets no completion within HIF_CPL_TIMEOUT. -/
  | completionTimeout (port : Fin 3) (tag : Fin 768)
  /-- HIF_RPR_CFG_DATA_ACCESS (R502) A read or write of HIF_RPr_CFG_DATA performs a configuration request on a root port. -/
  | hifRprCfgDataAccess (who : Who) (port : Fin 3) (write : Bool) (value : BitVec 32) (reply : Option (BitVec 32))
  /-- FLR (R492) A function-level reset stops the instance's outbound requests and detaches an OPEN instance. -/
  | flr (inst : Fin 32)
  /-- VF_ENABLE_CLEAR (R492) Clearing VF Enable acts as a function reset on the VFs it covers. -/
  | vfEnableClear
  /-- PCIE_LINK_DOWN (R492) Port 0 link down or hot reset acts as a function reset on every host-backed instance. -/
  | pcieLinkDown (port : Fin 3)
  /-- OPEN (R513) The mailbox request negotiates features and opens an instance or Plot mailbox. -/
  | openMbx (mbx : Mbx)
  /-- CLOSE (R494) The mailbox request closes the instance, cancelling and destroying its work. -/
  | closeMbx (mbx : Mbx)
  /-- ATTACH (R493) The mailbox request reattaches a driver by token, resuming or flushing held commands. -/
  | attach (mbx : Mbx)
  /-- BEAT (R481) A write to HIF_Ii_HB restarts the instance heartbeat interval. -/
  | beat (who : Who) (inst : Fin 32) (value : BitVec 32)
  /-- HEARTBEAT_LAPSE (R491) The heartbeat interval ends without a beat and the instance becomes DETACHED. -/
  | heartbeatLapse (inst : Fin 32)
  /-- DETACH_EXPIRY (R494) 10 s pass in DETACHED without ATTACH and the Keeper closes the instance. -/
  | detachExpiry (inst : Fin 32)
  /-- FREEZE (R495) The request stops dispatch and waits for in-flight commands before freezing the instance. -/
  | freeze (mbx : Mbx)
  /-- FREEZE_TIMEOUT (R495) TIMEOUT_MS ends with commands in flight; the instance returns to its state and FREEZE answers BUSY. -/
  | freezeTimeout (inst : Fin 32)
  /-- SAVE (R496) The request writes the state image of a frozen instance. -/
  | save (mbx : Mbx)
  /-- RESTORE (R497) The request checks an image and recreates a frozen instance. -/
  | restore (mbx : Mbx)
  /-- THAW (R498) The request returns a frozen instance to its prior state. -/
  | thaw (mbx : Mbx)
  /-- DISCARD (R498) The request closes a frozen instance without writing completions. -/
  | discard (mbx : Mbx)
  /-- UPD_BEGIN (R526) The update request verifies a package header and opens the update session. -/
  | updBegin (mbx : Mbx)
  /-- UPD_BLOCK (R527) The update request decrypts a block and stores it again under KSTORE. -/
  | updBlock (mbx : Mbx)
  /-- UPD_STAGE (R528) The update request runs the staging checks and copies the image to flash staging. -/
  | updStage (mbx : Mbx)
  /-- UPD_ACTIVATE (R529) The update request activates a staged image, or defers it outside NORMAL. -/
  | updActivate (mbx : Mbx)
  /-- KPR_HANDOVER_READY (R531) The new firmware writes READY, resumes service and replies to UPD_ACTIVATE. -/
  | kprHandoverReady (who : Who) (value : BitVec 32)
  /-- HANDOVER_FAIL (R532) READY does not arrive within 500 ms; the old image restarts. -/
  | handoverFail
  /-- ACTIVATION_RETRY (R530) After 1 s of NORMAL the Keeper retries a deferred activation and logs UPDATE. -/
  | activationRetry
  /-- UPD_ABORT (R529) The update request abandons the session and erases staging. -/
  | updAbort (mbx : Mbx)
  /-- UPD_COMMIT (R533) The update request raises an OTP minimum to the running version. -/
  | updCommit (mbx : Mbx)
  /-- LOG_READ (R522) The request copies the requester's fault records to memory. -/
  | logRead (mbx : Mbx)
  /-- JOURNAL_READ (R518) The request copies a boot journal to memory. -/
  | journalRead (mbx : Mbx)
  /-- KPR_WDOG_KICK (R524) The Keeper firmware restarts its 100 ms watchdog interval. -/
  | kprWdogKick (who : Who) (value : BitVec 32)
  /-- KEEPER_RESTART (R524) The Keeper watchdog lapses; requests in service fail and the Keeper restarts. -/
  | keeperRestart
  /-- LOG_COLLECT (R520) A fault record reaches the log collector and may set PENDING in Plot log interrupts. -/
  | logCollect (i : Nat)
  /-- LOG_WRITE (R520) 10 µs after its device time a held record is written to the log ring in order. -/
  | logWrite
  /-- LIMITER_TICK (R549) Every 100 µs the limiter and thermal controller adjust group levels and the power state. -/
  | limiterTick (power : BitVec 32) (temps : List (BitVec 16))
  /-- DROOP (R551) A sensor sees VIN below the droop threshold and every throttlable domain is capped at level 8. -/
  | droop (sensor : Fin 8)
  /-- DROOP_RELEASE (R551) 1 µs after VIN recovers the droop cap is lifted. -/
  | droopRelease
  /-- RAIL_FAULT (R542) A rail leaves its band for more than 10 µs and safe state is entered. -/
  | railFault (rail : Fin 9)
  /-- PLL_UNLOCK (R546) The root PLL loses lock and safe state is entered. -/
  | pllUnlock
  /-- LIN_FRAME_END (R363) A LIN frame's response completes on the bus, or a read-back bit mismatches, and the controller sets STATUS (DONE, CHECKSUM, FRAMING or BIT) and clears BUSY. -/
  | linFrameEnd (l : Fin 4) (data : List Byte) (checksum : Byte) (framing : Bool) (bitErr : Bool)
  /-- PCIE_LINK_UP (R463) A PCIe port trains and its link comes up, setting HIF_STATUS.LINK_UP, SPEED and WIDTH. -/
  | pcieLinkUp (port : Fin 3) (speed : Fin 6) (width : Fin 3)
  /-- BUS_MASTER_ENABLE_SET (R492) The host sets Bus Master Enable of a function, and the instance's outbound requests and MSI-X writes stop completing with CANCELLED. -/
  | busMasterEnableSet (inst : Fin 32) (numVfs : Fin 32)
  /-- PIN_INTERRUPT (R426) An input on a GPIO pin changes and raises the pin's interrupt, which for a secure pin goes only to secure-world cores of its Plot. -/
  | pinInterrupt (pin : Fin 128) (level : Bool)
  /-- HALF_FORM_WINDOW (R374) Half of a member's own FORM_WINDOW passes before two good TIME results, and the member sends its JOIN to member 0. -/
  | halfFormWindow
deriving DecidableEq, Repr

end Sys2Proof
end

