-- ==== Sys2Proof/Decode.lean ====
section
/-! DEFINITION. Words of commands. The rows of spec/opcode_table.json give no command any bits: a command is named, not
encoded, so no word spells one. The instruction words of the Orangery (R310) are an operand of its commands. -/

namespace Sys2Proof

/-- The command that a word of `nbits` bits spells by the bits of the table: none, because no row has bits. -/
def decodeTableWord (nbits w : Nat) : Option Instr :=
  match nbits, w with
  | _, _ => none

/-- The registers that an instruction of the Orangery writes from vd on and reads from vs2 on (Table 10-1). -/
def OgxOp.span : OgxOp → Nat × Nat
  | .tex => (4, 2)
  | .texl => (4, 3)
  | .res => (1, 2)
  | .interp => (1, 2)
  | .out => (0, 4)

/-- An instruction word of the Orangery (R310): major opcode 0x5B, R-type, funct7 0, funct3 of Table 10-1; its vd and vs2. None is
illegal: the reserved values of funct3, an ogx.out whose vd is not 0, and registers beyond v31 (log entry 44). -/
def decodeOgx (w : BitVec 32) : Option (OgxOp × Nat × Nat) :=
  let vd := (w.extractLsb' 7 5).toNat
  let vs2 := (w.extractLsb' 20 5).toNat
  let fits (o : OgxOp) : Option (OgxOp × Nat × Nat) :=
    if vd + o.span.1 ≤ 32 ∧ vs2 + o.span.2 ≤ 32 then some (o, vd, vs2) else none
  if w.extractLsb' 0 7 ≠ 0x5B#7 ∨ w.extractLsb' 25 7 ≠ 0#7 then none
  else match (w.extractLsb' 12 3).toNat with
    | 0 => fits .tex
    | 1 => fits .texl
    | 2 => fits .res
    | 3 => fits .interp
    | 4 => if vd = 0 then fits .out else none
    | _ => none

end Sys2Proof
end

