-- ==== Sys2Proof/Machine/RegTable.lean ====
section
/-! DEFINITION. The register tables of spec/00 to spec/17 (Tables 01-19, 02-8, 02-21, 02-30, 03-13, 03-19, 06-12,
07-7, 08-8, 09-6, 10-12, 10-19, 11-11, 11-18, 11-22, 11-28, 12-4, 13-10, 14-10, 15-12, 16-13, 17-7): one name per
register, and one row per register giving its address, the strides of its instances, its width, its reset value and
the access code of every bit (R10). Bits of no mask are RSV. -/

namespace Sys2Proof.Machine

/-- The register blocks of Table 00-3. -/
inductive Block where
  | gcr | spl | pav | bed | trl | mcc | own | qos | sns | org | dsp | gwy | flw | can | tim | gth | gls | hif | elx
  | pct | cvu | sem | kpr
deriving DecidableEq, Repr

/-- The block code of Table 00-3, carried in bits [15:8] of a source block ID. -/
def Block.code : Block → Nat
  | .gcr => 0x01 | .spl => 0x02 | .pav => 0x03 | .bed => 0x04 | .trl => 0x05 | .mcc => 0x06 | .own => 0x07
  | .qos => 0x08 | .sns => 0x09 | .org => 0x0A | .dsp => 0x0B | .gwy => 0x0C | .flw => 0x0D | .can => 0x0E
  | .tim => 0x0F | .gth => 0x10 | .gls => 0x11 | .hif => 0x12 | .elx => 0x13 | .pct => 0x14 | .cvu => 0x15
  | .sem => 0x16 | .kpr => 0x17

/-- The registers of the device, one name per row of a register summary table. -/
inductive RegId where
  | splId | splStatus | splErrReg | splFailCount | splFirstFail | splPlanId | splPlanVersion | splPowerLimit
  | splMustRunMw | splAcceptTime | splDigest | splPlot | mccId | mccStatus | mccErrReg | mccEccCfg | mccCeCount
  | mccLinkRetry | mccUeCount | mccLastErrAddr | mccSlots | mccRetired | mccRgnPbase | mccRgnPlen | mccRgnCfg
  | mccRgnCbase | mccClsRd | mccClsWr | mccClsGrant | mccClsMaxlat | mccGuar | ownId | ownStatus | ownErrReg
  | ownTableBase | ownRetiredTotal | ownCmdAddr | ownCmdCount | ownCmdOp | ownCmdStatus | ownCmdResult | qosId
  | qosStatus | qosErrReg | qosLgNs | qosDeviceMbps | qosHeld | qosReq | qosPort | pavId | pavStatus | pavErrReg
  | pavEvictAfter | pavSlotBusy | pavCompleted | pavMisses | bedId | bedStatus | bedErrReg | bedPwr | bedShare
  | bedSlot | bedDmaStallLimit | bedEccCe | bedEccUe | bedMacCycles | bedBankConflict | bedDmaWait | bedOpsDone
  | bedDmaStatus | trlId | trlStatus | trlErrReg | trlSeqUsed | trlMerged | trlSpCfg | trlSpDesc | trlSpEpoch
  | trlSpRetired | trlSpCounts | trlSpQuar | semValue | semAdd | semInfo | semId | semStatus | semErrReg | semOps
  | semWatchCfg | semWatchThresh | elxId | elxStatus | elxErrReg | elxCfg | elxCause | elxFormTime | elxDiff
  | elxRoute | elxPStatus | elxPTxBytes | elxPRxBytes | elxPReplay | elxPRetrain | snsId | snsStatus | snsErrReg
  | snsPStatus | snsPHdrCorr | snsPHdrDrop | snsPCrcErr | snsPUnmatched | snsPOverflow | snsSCfg | snsSStatus
  | snsSRingBase | snsSRingCfg | snsSSem | snsSWr | snsSRd | snsSBlack | snsSGain | snsSLastFs | snsSGoldAddr
  | snsSGoldCrc | snsSFrames | snsSDropped | snsSFaults | orgId | orgStatus | orgErrReg | orgPreemptMargin
  | orgQBase | orgQCplBase | orgQCfg | orgQTail | orgQHead | orgQDoneBelow | orgQResMiss | orgCStatus | orgCBusy
  | dspId | dspStatus | dspErrReg | dspPStatus | dspPFrames | dspPNextLatch | dspPMisses | dspPReproj
  | dspPPoseAddr | dspLCfg | dspLPos | dspLSize | dspLStride | dspLNext | dspLCur | dspLCommit | dspTtCfg
  | dspTtPos | dspTtPal | dspCrcRect | dspCrcValue | gwyId | gwyStatus | gwyErrReg | gwyDrop | gwyPCfg | gwyPStatus
  | gwyPAccept | gwyPRxFrames | gwyPTxFrames | gwyRBase | gwyRCfg | gwyRTail | gwyRHead | flwId | flwStatus
  | flwErrReg | flwMiss | flwCmdAddr | flwCmdOp | flwCmdStatus | flwPol | flwPolDrops | canId | canErrReg | canCfg
  | canStatus | canNbt | canDbt | canXbt | canLost | canRBase | canRCfg | canRTail | canRHead | canFilter | linCfg
  | linCmd | linStatus | linData | cvuId | cvuErrReg | cvuCfg | cvuOp | cvuStatus | cvuLen | cvuSrc | cvuValue
  | cvuResult | cvuPoly | cvuInit | cvuXorout | timId | timStatus | timErrReg | timCfg | timDtNs | timDtAdj
  | timDCfg | timDStatus | timDRoles | timDOffset | timDRate | timDHoldLimit | timDStep | timDTime | timPStatus
  | timPDelay | timPAsym | timCGo | timCFrac | timCDt | timCDom | gthId | gthStatus | gthErrReg | gthSafeReq
  | gthInject | gthWdogCfg | gthWdogKick | gthTaskDone | gthSafeTime | gthRuleFails | gthTaskMisses | gthStCfg
  | gthStStatus | gthStDeferred | gthStOverdue | gthStFailedLo | gthStFailedHi | glsId | glsStatus | glsErrReg
  | glsCtrPolicy | glsCtrBlocked | glsTamper | glsTamperCfg | glsRng | glsSerial | glsMin0 | glsMin1 | glsKey
  | glsEnc | glsDebug | glsPubAk | glsPubDka | hifId | hifStatus | hifErrReg | hifHbTimeout | hifCplTimeout
  | hifRpOwner | hifRpCfgAddr | hifRpCfgData | hifObCfg | hifObBase | hifObPci | hifIbCfg | hifIbBus | hifIbTarget
  | hifIStatus | hifIHb | hifIPostedErr | hifIErrAddr | hifIMbxGo | hifIMbxStatus | hifIMbxReq | hifIMbxReply
  | hifQBase | hifQCplBase | hifQShadow | hifQCfg | hifQTail | hifQHead | hifQCplTail | hifQCplHead | kprId
  | kprStatus | kprErrReg | kprIfVersion | kprFeatDev | kprFeatReq | kprFwVersion | kprBootCount | kprLogWr
  | kprLogDropped | kprWdog | kprHandover | kprUpdStatus | kprLogLate | kprMStatus | kprMFeat | kprMMbxGo
  | kprMMbxStatus | kprMMbxReq | kprMMbxReply | kprMLogCfg | kprMLogPend | kprIFeat | pctId | pctStatus | pctErrReg
  | pctLimitMw | pctPowerMw | pctRails | pctEnergy | pctThermCfg | pctTempMax | pctDroopCfg | pctDroopCount
  | pctDom | pctTemp
deriving DecidableEq, Repr

/-- How the reset value of a register is given: one value, a value plus the instance number, the outstanding limit of a
master port (Table 02-32) or the speed code of a switch port (Table 11-13). -/
inductive ResetVal where
  | value (v : Nat)
  | plusIx (v : Nat)
  | portLimit
  | gwyPort
deriving DecidableEq, Repr

/-- One row of a register summary table: address of instance 0, strides and counts of its instances (outermost first),
width in bits, reset value, and the bits of each access code of Table 00-4. -/
structure RegDef where
  id : RegId
  block : Block
  base : Nat
  dims : List (Nat × Nat)
  width : Nat
  reset : ResetVal
  rw : Nat
  w1c : Nat
  w1s : Nat
  rc : Nat
  wo : Nat
  ro : Nat
  locked : Bool
deriving DecidableEq, Repr

/-- The registers of the SPL block. -/
def regsSpl : List RegDef := [
  ⟨.splId, .spl, 0x20000100000, [], 32, .value 0x10000, 0, 0, 0, 0, 0, 0xFFFFFFFF, false⟩,
  ⟨.splStatus, .spl, 0x20000100004, [], 32, .value 0, 0, 0, 0, 0, 0, 0xFFFF001F, false⟩,
  ⟨.splErrReg, .spl, 0x20000100008, [], 32, .value 0, 0, 0x3, 0, 0, 0, 0, false⟩,
  ⟨.splFailCount, .spl, 0x2000010000C, [], 32, .value 0, 0, 0, 0, 0, 0, 0xFFFFFFFF, false⟩,
  ⟨.splFirstFail, .spl, 0x20000100010, [], 32, .value 0, 0, 0, 0, 0, 0, 0xFF01FF, false⟩,
  ⟨.splPlanId, .spl, 0x20000100014, [], 32, .value 0, 0, 0, 0, 0, 0, 0xFFFFFFFF, false⟩,
  ⟨.splPlanVersion, .spl, 0x20000100018, [], 32, .value 0, 0, 0, 0, 0, 0, 0xFFFFFFFF, false⟩,
  ⟨.splPowerLimit, .spl, 0x2000010001C, [], 32, .value 0, 0, 0, 0, 0, 0, 0xFFFFFFFF, false⟩,
  ⟨.splMustRunMw, .spl, 0x20000100020, [], 32, .value 0, 0, 0, 0, 0, 0, 0xFFFFFFFF, false⟩,
  ⟨.splAcceptTime, .spl, 0x20000100028, [], 64, .value 0, 0, 0, 0, 0, 0, 0xFFFFFFFFFFFFFFFF, false⟩,
  ⟨.splDigest, .spl, 0x20000100030, [(0x4, 12)], 32, .value 0, 0, 0, 0, 0, 0, 0xFFFFFFFF, false⟩,
  ⟨.splPlot, .spl, 0x20000100100, [(0x4, 16)], 32, .value 0, 0, 0, 0, 0, 0, 0x7FF033F, false⟩]

/-- The registers of the MCC block. -/
def regsMcc : List RegDef := [
  ⟨.mccId, .mcc, 0x20002000000, [(0x10000, 128)], 32, .plusIx 0x10000, 0, 0, 0, 0, 0, 0xFFFF007F, false⟩,
  ⟨.mccStatus, .mcc, 0x20002000004, [(0x10000, 128)], 32, .value 0, 0, 0, 0, 0, 0, 0x7, false⟩,
  ⟨.mccErrReg, .mcc, 0x20002000008, [(0x10000, 128)], 32, .value 0, 0, 0x3, 0, 0, 0, 0, false⟩,
  ⟨.mccEccCfg, .mcc, 0x2000200000C, [(0x10000, 128)], 32, .value 0x1804, 0xFF0F, 0, 0, 0, 0, 0, false⟩,
  ⟨.mccCeCount, .mcc, 0x20002000010, [(0x10000, 128)], 32, .value 0, 0, 0, 0, 0xFFFFFFFF, 0, 0, false⟩,
  ⟨.mccLinkRetry, .mcc, 0x20002000014, [(0x10000, 128)], 32, .value 0, 0, 0, 0, 0xFFFFFFFF, 0, 0, false⟩,
  ⟨.mccUeCount, .mcc, 0x20002000018, [(0x10000, 128)], 32, .value 0, 0, 0, 0, 0, 0, 0xFFFFFFFF, false⟩,
  ⟨.mccLastErrAddr, .mcc, 0x20002000020, [(0x10000, 128)], 64, .value 0, 0, 0, 0, 0, 0, 0xFFFFFFFFFFFFFFFF, false⟩,
  ⟨.mccSlots, .mcc, 0x20002000028, [(0x10000, 128)], 32, .value 0, 0, 0, 0, 0, 0, 0x3FFFFFFF, false⟩,
  ⟨.mccRetired, .mcc, 0x2000200002C, [(0x10000, 128)], 32, .value 0, 0, 0, 0, 0, 0, 0x1FF01FF, false⟩,
  ⟨.mccRgnPbase, .mcc, 0x20002000100, [(0x10000, 128), (0x20, 16)], 64, .value 0, 0xFFFFFFFFFFFFFFFF, 0, 0, 0, 0, 0, true⟩,
  ⟨.mccRgnPlen, .mcc, 0x20002000108, [(0x10000, 128), (0x20, 16)], 64, .value 0, 0xFFFFFFFFFFFFFFFF, 0, 0, 0, 0, 0, true⟩,
  ⟨.mccRgnCfg, .mcc, 0x20002000110, [(0x10000, 128), (0x20, 16)], 32, .value 0, 0x7F7F3F, 0, 0, 0, 0, 0, true⟩,
  ⟨.mccRgnCbase, .mcc, 0x20002000114, [(0x10000, 128), (0x20, 16)], 32, .value 0, 0x1FFFF, 0, 0, 0, 0, 0, true⟩,
  ⟨.mccClsRd, .mcc, 0x20002000400, [(0x10000, 128), (0x20, 8)], 64, .value 0, 0, 0, 0, 0, 0, 0xFFFFFFFFFFFFFFFF, false⟩,
  ⟨.mccClsWr, .mcc, 0x20002000408, [(0x10000, 128), (0x20, 8)], 64, .value 0, 0, 0, 0, 0, 0, 0xFFFFFFFFFFFFFFFF, false⟩,
  ⟨.mccClsGrant, .mcc, 0x20002000410, [(0x10000, 128), (0x20, 8)], 64, .value 0, 0, 0, 0, 0, 0, 0xFFFFFFFFFFFFFFFF, false⟩,
  ⟨.mccClsMaxlat, .mcc, 0x20002000418, [(0x10000, 128), (0x20, 8)], 32, .value 0, 0, 0, 0, 0xFFFFFFFF, 0, 0, false⟩,
  ⟨.mccGuar, .mcc, 0x20002001000, [(0x10000, 128), (0x8, 128)], 64, .value 0, 0xFFFFFFFF0001FFFF, 0, 0, 0, 0, 0, true⟩]

/-- The registers of the OWN block. -/
def regsOwn : List RegDef := [
  ⟨.ownId, .own, 0x20002800000, [], 32, .value 0x10000, 0, 0, 0, 0, 0, 0xFFFF0000, false⟩,
  ⟨.ownStatus, .own, 0x20002800004, [], 32, .value 0, 0, 0, 0, 0, 0, 0x1FFFF, false⟩,
  ⟨.ownErrReg, .own, 0x20002800008, [], 32, .value 0, 0, 0x7, 0, 0, 0, 0, false⟩,
  ⟨.ownTableBase, .own, 0x20002800010, [], 64, .value 0x1fc0000000, 0, 0, 0, 0, 0, 0xFFFFFFFFFFFFFFFF, false⟩,
  ⟨.ownRetiredTotal, .own, 0x20002800018, [], 32, .value 0, 0, 0, 0, 0, 0, 0xFFFFFFFF, false⟩,
  ⟨.ownCmdAddr, .own, 0x20002801000, [(0x40, 17)], 64, .value 0, 0xFFFFFFFFE000, 0, 0, 0, 0, 0, false⟩,
  ⟨.ownCmdCount, .own, 0x20002801008, [(0x40, 17)], 32, .value 0x1, 0x1FFFFFF, 0, 0, 0, 0, 0, false⟩,
  ⟨.ownCmdOp, .own, 0x2000280100C, [(0x40, 17)], 32, .value 0, 0, 0, 0, 0, 0xFFFF, 0, false⟩,
  ⟨.ownCmdStatus, .own, 0x20002801010, [(0x40, 17)], 32, .value 0, 0, 0, 0, 0, 0, 0xFF03, false⟩,
  ⟨.ownCmdResult, .own, 0x20002801014, [(0x40, 17)], 32, .value 0, 0, 0, 0, 0, 0, 0xFFFFFFFF, false⟩]

/-- The registers of the QOS block. -/
def regsQos : List RegDef := [
  ⟨.qosId, .qos, 0x20003000000, [], 32, .value 0x10000, 0, 0, 0, 0, 0, 0xFFFF0000, false⟩,
  ⟨.qosStatus, .qos, 0x20003000004, [], 32, .value 0, 0, 0, 0, 0, 0, 0x1, false⟩,
  ⟨.qosErrReg, .qos, 0x20003000008, [], 32, .value 0, 0, 0x3, 0, 0, 0, 0, false⟩,
  ⟨.qosLgNs, .qos, 0x2000300000C, [], 32, .value 0xfa, 0, 0, 0, 0, 0, 0xFFFFFFFF, false⟩,
  ⟨.qosDeviceMbps, .qos, 0x20003000010, [], 64, .value 0, 0, 0, 0, 0, 0, 0xFFFFFFFFFFFFFFFF, false⟩,
  ⟨.qosHeld, .qos, 0x20003000100, [(0x10, 128)], 64, .value 0, 0, 0, 0, 0, 0, 0xFFFFFFFFFFFFFFFF, false⟩,
  ⟨.qosReq, .qos, 0x20003000108, [(0x10, 128)], 64, .value 0, 0, 0, 0, 0, 0, 0xFFFFFFFFFFFFFFFF, false⟩,
  ⟨.qosPort, .qos, 0x20003001000, [(0x4, 161)], 32, .portLimit, 0, 0, 0, 0, 0, 0xFFFFF, false⟩]

/-- The registers of the PAV block. -/
def regsPav : List RegDef := [
  ⟨.pavId, .pav, 0x20001000000, [(0x100000, 16)], 32, .plusIx 0x10000, 0, 0, 0, 0, 0, 0xFFFF000F, false⟩,
  ⟨.pavStatus, .pav, 0x20001000004, [(0x100000, 16)], 32, .value 0x1, 0, 0, 0, 0, 0, 0xFFFF01, false⟩,
  ⟨.pavErrReg, .pav, 0x20001000008, [(0x100000, 16)], 32, .value 0, 0, 0x7, 0, 0, 0, 0, false⟩,
  ⟨.pavEvictAfter, .pav, 0x2000100000C, [(0x100000, 16)], 32, .value 0x3e8, 0xFFFFFF, 0, 0, 0, 0, 0, false⟩,
  ⟨.pavSlotBusy, .pav, 0x20001000010, [(0x100000, 16)], 64, .value 0, 0, 0, 0, 0, 0, 0xFFFFFFFFFFFFFFFF, false⟩,
  ⟨.pavCompleted, .pav, 0x20001000018, [(0x100000, 16)], 64, .value 0, 0, 0, 0, 0, 0, 0xFFFFFFFFFFFFFFFF, false⟩,
  ⟨.pavMisses, .pav, 0x20001000020, [(0x100000, 16)], 32, .value 0, 0, 0, 0, 0xFFFFFFFF, 0, 0, false⟩]

/-- The registers of the BED block. -/
def regsBed : List RegDef := [
  ⟨.bedId, .bed, 0x20001010000, [(0x100000, 16), (0x10000, 8)], 32, .plusIx 0x10000, 0, 0, 0, 0, 0, 0xFFFF007F, false⟩,
  ⟨.bedStatus, .bed, 0x20001010004, [(0x100000, 16), (0x10000, 8)], 32, .value 0, 0, 0, 0, 0, 0, 0x3FFF, false⟩,
  ⟨.bedErrReg, .bed, 0x20001010008, [(0x100000, 16), (0x10000, 8)], 32, .value 0, 0, 0x1F, 0, 0, 0, 0, false⟩,
  ⟨.bedPwr, .bed, 0x2000101000C, [(0x100000, 16), (0x10000, 8)], 32, .value 0, 0x3, 0, 0, 0, 0, 0, false⟩,
  ⟨.bedShare, .bed, 0x20001010010, [(0x100000, 16), (0x10000, 8), (0x4, 4)], 32, .value 0, 0xF1F3F, 0, 0, 0, 0, 0, true⟩,
  ⟨.bedSlot, .bed, 0x20001010020, [(0x100000, 16), (0x10000, 8), (0x4, 4)], 32, .value 0, 0x103FF, 0, 0, 0, 0, 0, false⟩,
  ⟨.bedDmaStallLimit, .bed, 0x20001010030, [(0x100000, 16), (0x10000, 8)], 32, .value 0x10000, 0xFFFFFF, 0, 0, 0, 0, 0, false⟩,
  ⟨.bedEccCe, .bed, 0x20001010034, [(0x100000, 16), (0x10000, 8)], 32, .value 0, 0, 0, 0, 0xFFFFFFFF, 0, 0, false⟩,
  ⟨.bedEccUe, .bed, 0x20001010038, [(0x100000, 16), (0x10000, 8)], 32, .value 0, 0, 0, 0, 0, 0, 0xFFFFFFFF, false⟩,
  ⟨.bedMacCycles, .bed, 0x20001010040, [(0x100000, 16), (0x10000, 8)], 64, .value 0, 0, 0, 0, 0, 0, 0xFFFFFFFFFFFFFFFF, false⟩,
  ⟨.bedBankConflict, .bed, 0x20001010048, [(0x100000, 16), (0x10000, 8)], 64, .value 0, 0, 0, 0, 0, 0, 0xFFFFFFFFFFFFFFFF, false⟩,
  ⟨.bedDmaWait, .bed, 0x20001010050, [(0x100000, 16), (0x10000, 8)], 64, .value 0, 0, 0, 0, 0, 0, 0xFFFFFFFFFFFFFFFF, false⟩,
  ⟨.bedOpsDone, .bed, 0x20001010058, [(0x100000, 16), (0x10000, 8)], 64, .value 0, 0, 0, 0, 0, 0, 0xFFFFFFFFFFFFFFFF, false⟩,
  ⟨.bedDmaStatus, .bed, 0x20001010060, [(0x100000, 16), (0x10000, 8), (0x4, 4)], 32, .value 0, 0, 0, 0, 0, 0, 0xFFFFFF01, false⟩]

/-- The registers of the TRL block. -/
def regsTrl : List RegDef := [
  ⟨.trlId, .trl, 0x20001090000, [(0x100000, 16)], 32, .plusIx 0x10000, 0, 0, 0, 0, 0, 0xFFFF000F, false⟩,
  ⟨.trlStatus, .trl, 0x20001090004, [(0x100000, 16)], 32, .value 0, 0, 0, 0, 0, 0, 0xFF, false⟩,
  ⟨.trlErrReg, .trl, 0x20001090008, [(0x100000, 16)], 32, .value 0, 0, 0x3, 0, 0, 0, 0, false⟩,
  ⟨.trlSeqUsed, .trl, 0x2000109000C, [(0x100000, 16)], 32, .value 0, 0, 0, 0, 0, 0, 0x1FFF, false⟩,
  ⟨.trlMerged, .trl, 0x20001090010, [(0x100000, 16)], 64, .value 0, 0, 0, 0, 0, 0, 0xFFFFFFFFFFFFFFFF, false⟩,
  ⟨.trlSpCfg, .trl, 0x20001090100, [(0x100000, 16), (0x40, 4)], 32, .value 0, 0, 0, 0, 0, 0, 0x3FFFF, false⟩,
  ⟨.trlSpDesc, .trl, 0x20001090108, [(0x100000, 16), (0x40, 4)], 64, .value 0, 0, 0, 0, 0, 0, 0xFFFFFFFFFFFFFFFF, false⟩,
  ⟨.trlSpEpoch, .trl, 0x20001090110, [(0x100000, 16), (0x40, 4)], 64, .value 0, 0, 0, 0, 0, 0, 0xFFFFFFFFFFFFFFFF, false⟩,
  ⟨.trlSpRetired, .trl, 0x20001090118, [(0x100000, 16), (0x40, 4)], 64, .value 0, 0, 0, 0, 0, 0, 0xFFFFFFFFFFFFFFFF, false⟩,
  ⟨.trlSpCounts, .trl, 0x20001090120, [(0x100000, 16), (0x40, 4)], 32, .value 0, 0, 0, 0, 0, 0, 0x1FFF1FFF, false⟩,
  ⟨.trlSpQuar, .trl, 0x20001090124, [(0x100000, 16), (0x40, 4)], 32, .value 0, 0, 0, 0, 0, 0, 0x1FFFFF, false⟩]

/-- The registers of the SEM block. -/
def regsSem : List RegDef := [
  ⟨.semValue, .sem, 0x2000E000000, [(0x10, 16384)], 64, .value 0, 0xFFFFFFFFFFFFFFFF, 0, 0, 0, 0, 0, false⟩,
  ⟨.semAdd, .sem, 0x2000E000008, [(0x10, 16384)], 32, .value 0, 0, 0, 0, 0, 0xFFFFFFFF, 0, false⟩,
  ⟨.semInfo, .sem, 0x2000E00000C, [(0x10, 16384)], 32, .value 0, 0, 0, 0, 0, 0, 0x1F, false⟩,
  ⟨.semId, .sem, 0x2000E040000, [], 32, .value 0x10000, 0, 0, 0, 0, 0, 0xFFFF0000, false⟩,
  ⟨.semStatus, .sem, 0x2000E040004, [], 32, .value 0, 0, 0, 0, 0, 0, 0x7FFF, false⟩,
  ⟨.semErrReg, .sem, 0x2000E040008, [], 32, .value 0, 0, 0x7, 0, 0, 0, 0, false⟩,
  ⟨.semOps, .sem, 0x2000E040010, [], 64, .value 0, 0, 0, 0, 0, 0, 0xFFFFFFFFFFFFFFFF, false⟩,
  ⟨.semWatchCfg, .sem, 0x2000E041000, [(0x10, 256)], 32, .value 0, 0x13FFF, 0x20000, 0, 0, 0, 0, false⟩,
  ⟨.semWatchThresh, .sem, 0x2000E041008, [(0x10, 256)], 64, .value 0, 0xFFFFFFFFFFFFFFFF, 0, 0, 0, 0, 0, false⟩]

/-- The registers of the ELX block. -/
def regsElx : List RegDef := [
  ⟨.elxId, .elx, 0x2000B000000, [], 32, .value 0x10000, 0, 0, 0, 0, 0, 0xFFFF0000, false⟩,
  ⟨.elxStatus, .elx, 0x2000B000004, [], 32, .value 0, 0, 0, 0, 0, 0, 0xF7FF0F, false⟩,
  ⟨.elxErrReg, .elx, 0x2000B000008, [], 32, .value 0, 0, 0x7, 0, 0, 0, 0, false⟩,
  ⟨.elxCfg, .elx, 0x2000B00000C, [], 32, .value 0x140a03e8, 0xFFFFFFFF, 0, 0, 0, 0, 0, false⟩,
  ⟨.elxCause, .elx, 0x2000B000010, [], 32, .value 0, 0, 0, 0, 0, 0, 0x7FF, false⟩,
  ⟨.elxFormTime, .elx, 0x2000B000018, [], 64, .value 0, 0, 0, 0, 0, 0, 0xFFFFFFFFFFFFFFFF, false⟩,
  ⟨.elxDiff, .elx, 0x2000B000100, [(0x4, 8)], 32, .value 0, 0, 0, 0, 0, 0, 0xFFFFFFFF, false⟩,
  ⟨.elxRoute, .elx, 0x2000B000200, [(0x4, 8)], 32, .value 0, 0, 0, 0, 0, 0, 0xF7, false⟩,
  ⟨.elxPStatus, .elx, 0x2000B001000, [(0x40, 4)], 32, .value 0, 0, 0, 0, 0, 0, 0x1FF7, false⟩,
  ⟨.elxPTxBytes, .elx, 0x2000B001008, [(0x40, 4)], 64, .value 0, 0, 0, 0, 0, 0, 0xFFFFFFFFFFFFFFFF, false⟩,
  ⟨.elxPRxBytes, .elx, 0x2000B001010, [(0x40, 4)], 64, .value 0, 0, 0, 0, 0, 0, 0xFFFFFFFFFFFFFFFF, false⟩,
  ⟨.elxPReplay, .elx, 0x2000B001018, [(0x40, 4)], 32, .value 0, 0, 0, 0, 0xFFFFFFFF, 0, 0, false⟩,
  ⟨.elxPRetrain, .elx, 0x2000B00101C, [(0x40, 4)], 32, .value 0, 0, 0, 0, 0, 0, 0xFFFFFFFF, false⟩]

/-- The registers of the SNS block. -/
def regsSns : List RegDef := [
  ⟨.snsId, .sns, 0x20004000000, [], 32, .value 0x10000, 0, 0, 0, 0, 0, 0xFFFF0000, false⟩,
  ⟨.snsStatus, .sns, 0x20004000004, [], 32, .value 0, 0, 0, 0, 0, 0, 0x7F0FFF, false⟩,
  ⟨.snsErrReg, .sns, 0x20004000008, [], 32, .value 0, 0, 0xF, 0, 0, 0, 0, false⟩,
  ⟨.snsPStatus, .sns, 0x20004000100, [(0x20, 12)], 32, .value 0, 0, 0, 0, 0, 0, 0x1F, false⟩,
  ⟨.snsPHdrCorr, .sns, 0x20004000104, [(0x20, 12)], 32, .value 0, 0, 0, 0, 0xFFFFFFFF, 0, 0, false⟩,
  ⟨.snsPHdrDrop, .sns, 0x20004000108, [(0x20, 12)], 32, .value 0, 0, 0, 0, 0xFFFFFFFF, 0, 0, false⟩,
  ⟨.snsPCrcErr, .sns, 0x2000400010C, [(0x20, 12)], 32, .value 0, 0, 0, 0, 0xFFFFFFFF, 0, 0, false⟩,
  ⟨.snsPUnmatched, .sns, 0x20004000110, [(0x20, 12)], 32, .value 0, 0, 0, 0, 0xFFFFFFFF, 0, 0, false⟩,
  ⟨.snsPOverflow, .sns, 0x20004000114, [(0x20, 12)], 32, .value 0, 0, 0, 0, 0xFFFFFFFF, 0, 0, false⟩,
  ⟨.snsSCfg, .sns, 0x20004004000, [(0x80, 96)], 32, .value 0, 0x3FFFF, 0, 0, 0, 0, 0, false⟩,
  ⟨.snsSStatus, .sns, 0x20004004004, [(0x80, 96)], 32, .value 0, 0, 0, 0, 0, 0, 0xFF0F, false⟩,
  ⟨.snsSRingBase, .sns, 0x20004004008, [(0x80, 96)], 64, .value 0, 0xFFFFFFFF0000, 0, 0, 0, 0, 0, false⟩,
  ⟨.snsSRingCfg, .sns, 0x20004004010, [(0x80, 96)], 32, .value 0, 0x1FF00FF, 0, 0, 0, 0, 0, false⟩,
  ⟨.snsSSem, .sns, 0x20004004014, [(0x80, 96)], 32, .value 0, 0x13FFF, 0, 0, 0, 0, 0, false⟩,
  ⟨.snsSWr, .sns, 0x20004004018, [(0x80, 96)], 32, .value 0, 0, 0, 0, 0, 0, 0xFFFFFFFF, false⟩,
  ⟨.snsSRd, .sns, 0x2000400401C, [(0x80, 96)], 32, .value 0, 0xFFFFFFFF, 0, 0, 0, 0, 0, false⟩,
  ⟨.snsSBlack, .sns, 0x20004004020, [(0x80, 96)], 32, .value 0, 0xFFFF, 0, 0, 0, 0, 0, false⟩,
  ⟨.snsSGain, .sns, 0x20004004024, [(0x80, 96)], 32, .value 0x10001000, 0xFFFFFFFF, 0, 0, 0, 0, 0, false⟩,
  ⟨.snsSLastFs, .sns, 0x20004004028, [(0x80, 96)], 64, .value 0, 0, 0, 0, 0, 0, 0xFFFFFFFFFFFFFFFF, false⟩,
  ⟨.snsSGoldAddr, .sns, 0x20004004030, [(0x80, 96)], 64, .value 0, 0xFFFFFFFFE000, 0, 0, 0, 0, 0, false⟩,
  ⟨.snsSGoldCrc, .sns, 0x20004004038, [(0x80, 96)], 32, .value 0, 0xFFFFFFFF, 0, 0, 0, 0, 0, false⟩,
  ⟨.snsSFrames, .sns, 0x2000400403C, [(0x80, 96)], 32, .value 0, 0, 0, 0, 0, 0, 0xFFFFFFFF, false⟩,
  ⟨.snsSDropped, .sns, 0x20004004040, [(0x80, 96)], 32, .value 0, 0, 0, 0, 0xFFFFFFFF, 0, 0, false⟩,
  ⟨.snsSFaults, .sns, 0x20004004044, [(0x80, 96)], 32, .value 0, 0, 0, 0, 0xFFFFFFFF, 0, 0, false⟩]

/-- The registers of the ORG block. -/
def regsOrg : List RegDef := [
  ⟨.orgId, .org, 0x20005000000, [], 32, .value 0x10000, 0, 0, 0, 0, 0, 0xFFFF0000, false⟩,
  ⟨.orgStatus, .org, 0x20005000004, [], 32, .value 0, 0, 0, 0, 0, 0, 0x3FFFF, false⟩,
  ⟨.orgErrReg, .org, 0x20005000008, [], 32, .value 0, 0, 0x7, 0, 0, 0, 0, false⟩,
  ⟨.orgPreemptMargin, .org, 0x2000500000C, [], 32, .value 0x1f4, 0xFFFF, 0, 0, 0, 0, 0, false⟩,
  ⟨.orgQBase, .org, 0x20005000100, [(0x40, 16)], 64, .value 0, 0xFFFFFFFFFFC0, 0, 0, 0, 0, 0, false⟩,
  ⟨.orgQCplBase, .org, 0x20005000108, [(0x40, 16)], 64, .value 0, 0xFFFFFFFFFFC0, 0, 0, 0, 0, 0, false⟩,
  ⟨.orgQCfg, .org, 0x20005000110, [(0x40, 16)], 32, .value 0, 0xF1, 0, 0, 0, 0, 0, false⟩,
  ⟨.orgQTail, .org, 0x20005000114, [(0x40, 16)], 32, .value 0, 0xFFFFFFFF, 0, 0, 0, 0, 0, false⟩,
  ⟨.orgQHead, .org, 0x20005000118, [(0x40, 16)], 32, .value 0, 0, 0, 0, 0, 0, 0xFFFFFFFF, false⟩,
  ⟨.orgQDoneBelow, .org, 0x2000500011C, [(0x40, 16)], 32, .value 0, 0, 0, 0, 0, 0, 0xFFFFFFFF, false⟩,
  ⟨.orgQResMiss, .org, 0x20005000120, [(0x40, 16)], 32, .value 0, 0, 0, 0, 0xFFFFFFFF, 0, 0, false⟩,
  ⟨.orgCStatus, .org, 0x20005001000, [(0x10, 16)], 32, .value 0, 0, 0, 0, 0, 0, 0x7F, false⟩,
  ⟨.orgCBusy, .org, 0x20005001008, [(0x10, 16)], 64, .value 0, 0, 0, 0, 0, 0, 0xFFFFFFFFFFFFFFFF, false⟩]

/-- The registers of the DSP block. -/
def regsDsp : List RegDef := [
  ⟨.dspId, .dsp, 0x20005800000, [], 32, .value 0x10000, 0, 0, 0, 0, 0, 0xFFFF0000, false⟩,
  ⟨.dspStatus, .dsp, 0x20005800004, [], 32, .value 0, 0, 0, 0, 0, 0, 0x13F, false⟩,
  ⟨.dspErrReg, .dsp, 0x20005800008, [], 32, .value 0, 0, 0x7, 0, 0, 0, 0, false⟩,
  ⟨.dspPStatus, .dsp, 0x20005801000, [(0x1000, 6)], 32, .value 0, 0, 0, 0, 0, 0, 0x3FFF000F, false⟩,
  ⟨.dspPFrames, .dsp, 0x20005801008, [(0x1000, 6)], 64, .value 0, 0, 0, 0, 0, 0, 0xFFFFFFFFFFFFFFFF, false⟩,
  ⟨.dspPNextLatch, .dsp, 0x20005801010, [(0x1000, 6)], 64, .value 0, 0, 0, 0, 0, 0, 0xFFFFFFFFFFFFFFFF, false⟩,
  ⟨.dspPMisses, .dsp, 0x20005801018, [(0x1000, 6)], 32, .value 0, 0, 0, 0, 0xFFFFFFFF, 0, 0, false⟩,
  ⟨.dspPReproj, .dsp, 0x2000580101C, [(0x1000, 6)], 32, .value 0, 0, 0, 0, 0xFFFFFFFF, 0, 0, false⟩,
  ⟨.dspPPoseAddr, .dsp, 0x20005801020, [(0x1000, 6)], 64, .value 0, 0xFFFFFFFFFFC0, 0, 0, 0, 0, 0, false⟩,
  ⟨.dspLCfg, .dsp, 0x20005801100, [(0x1000, 6), (0x40, 4)], 32, .value 0, 0xFFFF07, 0, 0, 0, 0, 0, false⟩,
  ⟨.dspLPos, .dsp, 0x20005801104, [(0x1000, 6), (0x40, 4)], 32, .value 0, 0x3FFF3FFF, 0, 0, 0, 0, 0, false⟩,
  ⟨.dspLSize, .dsp, 0x20005801108, [(0x1000, 6), (0x40, 4)], 32, .value 0, 0x3FFF3FFF, 0, 0, 0, 0, 0, false⟩,
  ⟨.dspLStride, .dsp, 0x2000580110C, [(0x1000, 6), (0x40, 4)], 32, .value 0, 0xFFFFF, 0, 0, 0, 0, 0, false⟩,
  ⟨.dspLNext, .dsp, 0x20005801110, [(0x1000, 6), (0x40, 4)], 64, .value 0, 0xFFFFFFFFFFC0, 0, 0, 0, 0, 0, false⟩,
  ⟨.dspLCur, .dsp, 0x20005801118, [(0x1000, 6), (0x40, 4)], 64, .value 0, 0, 0, 0, 0, 0, 0xFFFFFFFFFFC0, false⟩,
  ⟨.dspLCommit, .dsp, 0x20005801120, [(0x1000, 6), (0x40, 4)], 32, .value 0, 0, 0, 0, 0, 0x1, 0, false⟩,
  ⟨.dspTtCfg, .dsp, 0x20005801200, [(0x1000, 6)], 32, .value 0, 0x7, 0, 0, 0, 0, 0, false⟩,
  ⟨.dspTtPos, .dsp, 0x20005801204, [(0x1000, 6)], 32, .value 0, 0x3FFF3FFF, 0, 0, 0, 0, 0, false⟩,
  ⟨.dspTtPal, .dsp, 0x20005801240, [(0x1000, 6), (0x4, 16)], 32, .value 0, 0xFFFFFFFF, 0, 0, 0, 0, 0, false⟩,
  ⟨.dspCrcRect, .dsp, 0x20005801300, [(0x1000, 6), (0x10, 4)], 64, .value 0, 0x3FFF3FFF1FFF1FFF, 0, 0, 0, 0, 0, false⟩,
  ⟨.dspCrcValue, .dsp, 0x20005801308, [(0x1000, 6), (0x10, 4)], 32, .value 0, 0, 0, 0, 0, 0, 0xFFFFFFFF, false⟩]

/-- The registers of the GWY block. -/
def regsGwy : List RegDef := [
  ⟨.gwyId, .gwy, 0x20006000000, [], 32, .value 0x10000, 0, 0, 0, 0, 0, 0xFFFF0000, false⟩,
  ⟨.gwyStatus, .gwy, 0x20006000004, [], 32, .value 0, 0, 0, 0, 0, 0, 0x1, false⟩,
  ⟨.gwyErrReg, .gwy, 0x20006000008, [], 32, .value 0, 0, 0x7, 0, 0, 0, 0, false⟩,
  ⟨.gwyDrop, .gwy, 0x20006000040, [(0x4, 10)], 32, .value 0, 0, 0, 0, 0xFFFFFFFF, 0, 0, false⟩,
  ⟨.gwyPCfg, .gwy, 0x20006001000, [(0x40, 22)], 32, .gwyPort, 0x7FFFF, 0, 0, 0, 0, 0, false⟩,
  ⟨.gwyPStatus, .gwy, 0x20006001004, [(0x40, 22)], 32, .value 0, 0, 0, 0, 0, 0, 0x1F, false⟩,
  ⟨.gwyPAccept, .gwy, 0x20006001008, [(0x40, 22)], 32, .value 0, 0xFFFF, 0, 0, 0, 0, 0, false⟩,
  ⟨.gwyPRxFrames, .gwy, 0x20006001010, [(0x40, 22)], 64, .value 0, 0, 0, 0, 0, 0, 0xFFFFFFFFFFFFFFFF, false⟩,
  ⟨.gwyPTxFrames, .gwy, 0x20006001018, [(0x40, 22)], 64, .value 0, 0, 0, 0, 0, 0, 0xFFFFFFFFFFFFFFFF, false⟩,
  ⟨.gwyRBase, .gwy, 0x20006004000, [(0x80, 8), (0x20, 2)], 64, .value 0, 0xFFFFFFFFFFC0, 0, 0, 0, 0, 0, false⟩,
  ⟨.gwyRCfg, .gwy, 0x20006004008, [(0x80, 8), (0x20, 2)], 32, .value 0, 0xF3, 0, 0, 0, 0, 0x4, false⟩,
  ⟨.gwyRTail, .gwy, 0x2000600400C, [(0x80, 8), (0x20, 2)], 32, .value 0, 0xFFFFFFFF, 0, 0, 0, 0, 0, false⟩,
  ⟨.gwyRHead, .gwy, 0x20006004010, [(0x80, 8), (0x20, 2)], 32, .value 0, 0, 0, 0, 0, 0, 0xFFFFFFFF, false⟩]

/-- The registers of the FLW block. -/
def regsFlw : List RegDef := [
  ⟨.flwId, .flw, 0x20006400000, [], 32, .value 0x10000, 0, 0, 0, 0, 0, 0xFFFF0000, false⟩,
  ⟨.flwStatus, .flw, 0x20006400004, [], 32, .value 0, 0, 0, 0, 0, 0, 0x1FFFFF, false⟩,
  ⟨.flwErrReg, .flw, 0x20006400008, [], 32, .value 0, 0, 0xF, 0, 0, 0, 0, false⟩,
  ⟨.flwMiss, .flw, 0x20006400100, [(0x8, 22)], 64, .value 0, 0xFFFFFFFFFFFFFFFF, 0, 0, 0, 0, 0, false⟩,
  ⟨.flwCmdAddr, .flw, 0x20006401000, [(0x10, 17)], 64, .value 0, 0xFFFFFFFFFFC0, 0, 0, 0, 0, 0, false⟩,
  ⟨.flwCmdOp, .flw, 0x20006401008, [(0x10, 17)], 32, .value 0, 0, 0, 0, 0, 0x3, 0, false⟩,
  ⟨.flwCmdStatus, .flw, 0x2000640100C, [(0x10, 17)], 32, .value 0, 0, 0, 0, 0, 0, 0x1FF01, false⟩,
  ⟨.flwPol, .flw, 0x20006402000, [(0x10, 256)], 64, .value 0, 0xFFFFFFFFFFFFFF, 0, 0, 0, 0, 0, false⟩,
  ⟨.flwPolDrops, .flw, 0x20006402008, [(0x10, 256)], 32, .value 0, 0, 0, 0, 0xFFFFFFFF, 0, 0, false⟩]

/-- The registers of the CAN block. -/
def regsCan : List RegDef := [
  ⟨.canId, .can, 0x20006800000, [], 32, .value 0x10000, 0, 0, 0, 0, 0, 0xFFFF0000, false⟩,
  ⟨.canErrReg, .can, 0x20006800008, [], 32, .value 0, 0, 0xF, 0, 0, 0, 0, false⟩,
  ⟨.canCfg, .can, 0x20006801000, [(0x1000, 16)], 32, .value 0, 0x3F, 0, 0, 0, 0, 0, false⟩,
  ⟨.canStatus, .can, 0x20006801004, [(0x1000, 16)], 32, .value 0x3, 0, 0, 0, 0, 0, 0xFFFFFF07, false⟩,
  ⟨.canNbt, .can, 0x20006801008, [(0x1000, 16)], 32, .value 0, 0xFFFFFFFF, 0, 0, 0, 0, 0, false⟩,
  ⟨.canDbt, .can, 0x2000680100C, [(0x1000, 16)], 32, .value 0, 0xFFFFFFFF, 0, 0, 0, 0, 0, false⟩,
  ⟨.canXbt, .can, 0x20006801010, [(0x1000, 16)], 32, .value 0, 0xFFFFFFFF, 0, 0, 0, 0, 0, false⟩,
  ⟨.canLost, .can, 0x20006801014, [(0x1000, 16)], 32, .value 0, 0, 0, 0, 0xFFFFFFFF, 0, 0, false⟩,
  ⟨.canRBase, .can, 0x20006801040, [(0x1000, 16), (0x20, 3)], 64, .value 0, 0xFFFFFFFFFFC0, 0, 0, 0, 0, 0, false⟩,
  ⟨.canRCfg, .can, 0x20006801048, [(0x1000, 16), (0x20, 3)], 32, .value 0, 0xF3, 0, 0, 0, 0, 0x4, false⟩,
  ⟨.canRTail, .can, 0x2000680104C, [(0x1000, 16), (0x20, 3)], 32, .value 0, 0xFFFFFFFF, 0, 0, 0, 0, 0, false⟩,
  ⟨.canRHead, .can, 0x20006801050, [(0x1000, 16), (0x20, 3)], 32, .value 0, 0, 0, 0, 0, 0, 0xFFFFFFFF, false⟩,
  ⟨.canFilter, .can, 0x20006801100, [(0x1000, 16), (0x8, 8)], 64, .value 0, 0x1FFFFFFFBFFFFFFF, 0, 0, 0, 0, 0, false⟩,
  ⟨.linCfg, .can, 0x20006820000, [(0x100, 4)], 32, .value 0x4e20, 0x17FFF, 0, 0, 0, 0, 0, false⟩,
  ⟨.linCmd, .can, 0x20006820004, [(0x100, 4)], 32, .value 0, 0, 0, 0, 0, 0xFFF, 0, false⟩,
  ⟨.linStatus, .can, 0x20006820008, [(0x100, 4)], 32, .value 0, 0, 0, 0, 0, 0, 0xFFFF01, false⟩,
  ⟨.linData, .can, 0x20006820010, [(0x100, 4)], 64, .value 0, 0xFFFFFFFFFFFFFFFF, 0, 0, 0, 0, 0, false⟩]

/-- The registers of the CVU block. -/
def regsCvu : List RegDef := [
  ⟨.cvuId, .cvu, 0x2000D000000, [], 32, .value 0x10000, 0, 0, 0, 0, 0, 0xFFFF0000, false⟩,
  ⟨.cvuErrReg, .cvu, 0x2000D000008, [], 32, .value 0, 0, 0xF, 0, 0, 0, 0, false⟩,
  ⟨.cvuCfg, .cvu, 0x2000D000100, [(0x100, 32)], 32, .value 0, 0x7FF, 0, 0, 0, 0, 0, false⟩,
  ⟨.cvuOp, .cvu, 0x2000D000104, [(0x100, 32)], 32, .value 0, 0, 0, 0, 0, 0xF, 0, false⟩,
  ⟨.cvuStatus, .cvu, 0x2000D000108, [(0x100, 32)], 32, .value 0, 0, 0, 0, 0, 0, 0xFF01, false⟩,
  ⟨.cvuLen, .cvu, 0x2000D00010C, [(0x100, 32)], 32, .value 0, 0x1FFFFFF, 0, 0, 0, 0, 0, false⟩,
  ⟨.cvuSrc, .cvu, 0x2000D000110, [(0x100, 32)], 64, .value 0, 0xFFFFFFFFFFFF, 0, 0, 0, 0, 0, false⟩,
  ⟨.cvuValue, .cvu, 0x2000D000118, [(0x100, 32)], 64, .value 0, 0xFFFFFFFFFFFFFFFF, 0, 0, 0, 0, 0, false⟩,
  ⟨.cvuResult, .cvu, 0x2000D000120, [(0x100, 32)], 64, .value 0, 0, 0, 0, 0, 0, 0xFFFFFFFFFFFFFFFF, false⟩,
  ⟨.cvuPoly, .cvu, 0x2000D000128, [(0x100, 32)], 64, .value 0, 0xFFFFFFFFFFFFFFFF, 0, 0, 0, 0, 0, false⟩,
  ⟨.cvuInit, .cvu, 0x2000D000130, [(0x100, 32)], 64, .value 0, 0xFFFFFFFFFFFFFFFF, 0, 0, 0, 0, 0, false⟩,
  ⟨.cvuXorout, .cvu, 0x2000D000138, [(0x100, 32)], 64, .value 0, 0xFFFFFFFFFFFFFFFF, 0, 0, 0, 0, 0, false⟩]

/-- The registers of the TIM block. -/
def regsTim : List RegDef := [
  ⟨.timId, .tim, 0x20007000000, [], 32, .value 0x10000, 0, 0, 0, 0, 0, 0xFFFF0000, false⟩,
  ⟨.timStatus, .tim, 0x20007000004, [], 32, .value 0, 0, 0, 0, 0, 0, 0x3F, false⟩,
  ⟨.timErrReg, .tim, 0x20007000008, [], 32, .value 0, 0, 0x7, 0, 0, 0, 0, false⟩,
  ⟨.timCfg, .tim, 0x2000700000C, [], 32, .value 0, 0x1F, 0, 0, 0, 0, 0, false⟩,
  ⟨.timDtNs, .tim, 0x20007000010, [], 64, .value 0, 0, 0, 0, 0, 0, 0xFFFFFFFFFFFFFFFF, false⟩,
  ⟨.timDtAdj, .tim, 0x20007000018, [], 32, .value 0, 0xFFFFFFFF, 0, 0, 0, 0, 0, false⟩,
  ⟨.timDCfg, .tim, 0x20007000100, [(0x40, 4)], 32, .value 0, 0x3FFF, 0, 0, 0, 0, 0, false⟩,
  ⟨.timDStatus, .tim, 0x20007000104, [(0x40, 4)], 32, .value 0, 0, 0, 0, 0, 0, 0xF, false⟩,
  ⟨.timDRoles, .tim, 0x20007000108, [(0x40, 4)], 32, .value 0, 0xFFFFFFF, 0, 0, 0, 0, 0, false⟩,
  ⟨.timDOffset, .tim, 0x2000700010C, [(0x40, 4)], 32, .value 0, 0, 0, 0, 0, 0, 0xFFFFFFFF, false⟩,
  ⟨.timDRate, .tim, 0x20007000110, [(0x40, 4)], 32, .value 0, 0, 0, 0, 0, 0, 0xFFFFFFFF, false⟩,
  ⟨.timDHoldLimit, .tim, 0x20007000114, [(0x40, 4)], 32, .value 0x3c, 0xFFFF, 0, 0, 0, 0, 0, false⟩,
  ⟨.timDStep, .tim, 0x20007000118, [(0x40, 4)], 64, .value 0, 0, 0, 0, 0, 0xFFFFFFFFFFFFFFFF, 0, false⟩,
  ⟨.timDTime, .tim, 0x20007000120, [(0x40, 4)], 64, .value 0, 0, 0, 0, 0, 0, 0xFFFFFFFFFFFFFFFF, false⟩,
  ⟨.timPStatus, .tim, 0x20007001000, [(0x10, 14)], 32, .value 0, 0, 0, 0, 0, 0, 0xFF01, false⟩,
  ⟨.timPDelay, .tim, 0x20007001004, [(0x10, 14)], 32, .value 0, 0, 0, 0, 0, 0, 0xFFFFFFFF, false⟩,
  ⟨.timPAsym, .tim, 0x20007001008, [(0x10, 14)], 32, .value 0, 0xFFFFFFFF, 0, 0, 0, 0, 0, false⟩,
  ⟨.timCGo, .tim, 0x20007002000, [(0x40, 17)], 32, .value 0, 0, 0, 0, 0, 0x1, 0, false⟩,
  ⟨.timCFrac, .tim, 0x20007002004, [(0x40, 17)], 32, .value 0, 0, 0, 0, 0, 0, 0xFFFF, false⟩,
  ⟨.timCDt, .tim, 0x20007002008, [(0x40, 17)], 64, .value 0, 0, 0, 0, 0, 0, 0xFFFFFFFFFFFFFFFF, false⟩,
  ⟨.timCDom, .tim, 0x20007002010, [(0x40, 17), (0x8, 4)], 64, .value 0, 0, 0, 0, 0, 0, 0xFFFFFFFFFFFFFFFF, false⟩]

/-- The registers of the GTH block. -/
def regsGth : List RegDef := [
  ⟨.gthId, .gth, 0x20008000000, [], 32, .value 0x10000, 0, 0, 0, 0, 0, 0xFFFF0000, false⟩,
  ⟨.gthStatus, .gth, 0x20008000004, [], 32, .value 0x10, 0, 0, 0, 0, 0, 0xFFFF1F, false⟩,
  ⟨.gthErrReg, .gth, 0x20008000008, [], 32, .value 0, 0, 0x7, 0, 0, 0, 0, false⟩,
  ⟨.gthSafeReq, .gth, 0x2000800000C, [], 32, .value 0, 0, 0, 0x1, 0, 0, 0, false⟩,
  ⟨.gthInject, .gth, 0x20008000010, [], 32, .value 0, 0, 0, 0, 0, 0, 0x3FF7F, false⟩,
  ⟨.gthWdogCfg, .gth, 0x20008000014, [], 32, .value 0x3e8, 0xFFFF, 0, 0, 0, 0, 0, false⟩,
  ⟨.gthWdogKick, .gth, 0x20008000018, [], 32, .value 0, 0, 0, 0, 0, 0x1, 0, false⟩,
  ⟨.gthTaskDone, .gth, 0x2000800001C, [], 32, .value 0, 0, 0, 0, 0, 0x3F, 0, false⟩,
  ⟨.gthSafeTime, .gth, 0x20008000020, [], 64, .value 0, 0, 0, 0, 0, 0, 0xFFFFFFFFFFFFFFFF, false⟩,
  ⟨.gthRuleFails, .gth, 0x20008000028, [], 32, .value 0, 0, 0, 0, 0xFFFFFFFF, 0, 0, false⟩,
  ⟨.gthTaskMisses, .gth, 0x2000800002C, [], 32, .value 0, 0, 0, 0, 0xFFFFFFFF, 0, 0, false⟩,
  ⟨.gthStCfg, .gth, 0x20008001000, [(0x20, 5)], 32, .value 0x903e8, 0xFFFFF, 0, 0, 0, 0, 0, false⟩,
  ⟨.gthStStatus, .gth, 0x20008001004, [(0x20, 5)], 32, .value 0, 0, 0, 0, 0, 0, 0xFFFFFF, false⟩,
  ⟨.gthStDeferred, .gth, 0x20008001008, [(0x20, 5)], 32, .value 0, 0, 0, 0, 0xFFFFFFFF, 0, 0, false⟩,
  ⟨.gthStOverdue, .gth, 0x2000800100C, [(0x20, 5)], 32, .value 0, 0, 0, 0, 0xFFFFFFFF, 0, 0, false⟩,
  ⟨.gthStFailedLo, .gth, 0x20008001010, [(0x20, 5)], 64, .value 0, 0, 0, 0, 0, 0, 0xFFFFFFFFFFFFFFFF, false⟩,
  ⟨.gthStFailedHi, .gth, 0x20008001018, [(0x20, 5)], 64, .value 0, 0, 0, 0, 0, 0, 0xFFFFFFFFFFFFFFFF, false⟩]

/-- The registers of the GLS block. -/
def regsGls : List RegDef := [
  ⟨.glsId, .gls, 0x20009000000, [], 32, .value 0x10000, 0, 0, 0, 0, 0, 0xFFFF0000, false⟩,
  ⟨.glsStatus, .gls, 0x20009000004, [], 32, .value 0, 0, 0, 0, 0, 0, 0x3F3F, false⟩,
  ⟨.glsErrReg, .gls, 0x20009000008, [], 32, .value 0, 0, 0x7, 0, 0, 0, 0, false⟩,
  ⟨.glsCtrPolicy, .gls, 0x2000900000C, [], 32, .value 0x1f, 0x1F, 0, 0x100, 0, 0, 0, false⟩,
  ⟨.glsCtrBlocked, .gls, 0x20009000010, [], 32, .value 0, 0, 0, 0, 0xFFFFFFFF, 0, 0, false⟩,
  ⟨.glsTamper, .gls, 0x20009000014, [], 32, .value 0, 0, 0, 0, 0, 0, 0x1F, false⟩,
  ⟨.glsTamperCfg, .gls, 0x20009000018, [], 32, .value 0x1, 0x1, 0, 0, 0, 0, 0, false⟩,
  ⟨.glsRng, .gls, 0x2000900001C, [], 32, .value 0, 0, 0, 0, 0xFFFFFFFF, 0, 0, false⟩,
  ⟨.glsSerial, .gls, 0x20009000020, [(0x4, 4)], 32, .value 0, 0, 0, 0, 0, 0, 0xFFFFFFFF, false⟩,
  ⟨.glsMin0, .gls, 0x20009000030, [], 32, .value 0, 0, 0, 0, 0, 0, 0x1FF01FF, false⟩,
  ⟨.glsMin1, .gls, 0x20009000034, [], 32, .value 0, 0, 0, 0, 0, 0, 0x1FF01FF, false⟩,
  ⟨.glsKey, .gls, 0x20009000040, [(0x4, 16)], 32, .value 0, 0, 0, 0, 0, 0, 0x3FF, false⟩,
  ⟨.glsEnc, .gls, 0x20009000080, [(0x4, 32)], 32, .value 0, 0, 0, 0, 0, 0, 0xFFFF, false⟩,
  ⟨.glsDebug, .gls, 0x20009000100, [], 32, .value 0, 0, 0, 0, 0, 0, 0x3F, false⟩,
  ⟨.glsPubAk, .gls, 0x20009000200, [(0x4, 24)], 32, .value 0, 0, 0, 0, 0, 0, 0xFFFFFFFF, false⟩,
  ⟨.glsPubDka, .gls, 0x20009000300, [(0x4, 24)], 32, .value 0, 0, 0, 0, 0, 0, 0xFFFFFFFF, false⟩]

/-- The registers of the HIF block. -/
def regsHif : List RegDef := [
  ⟨.hifId, .hif, 0x2000A000000, [], 32, .value 0x10000, 0, 0, 0, 0, 0, 0xFFFF0000, false⟩,
  ⟨.hifStatus, .hif, 0x2000A000004, [], 32, .value 0, 0, 0, 0, 0, 0, 0x1F03FF, false⟩,
  ⟨.hifErrReg, .hif, 0x2000A000008, [], 32, .value 0, 0, 0xF, 0, 0, 0, 0, false⟩,
  ⟨.hifHbTimeout, .hif, 0x2000A00000C, [], 32, .value 0x1f4, 0xFFFF, 0, 0, 0, 0, 0, false⟩,
  ⟨.hifCplTimeout, .hif, 0x2000A000010, [], 32, .value 0x32, 0x3FF, 0, 0, 0, 0, 0, false⟩,
  ⟨.hifRpOwner, .hif, 0x2000A000100, [(0x10, 3)], 32, .value 0, 0x1F, 0, 0, 0, 0, 0, false⟩,
  ⟨.hifRpCfgAddr, .hif, 0x2000A000104, [(0x10, 3)], 32, .value 0, 0xFFFFFFC, 0, 0, 0, 0, 0, false⟩,
  ⟨.hifRpCfgData, .hif, 0x2000A000108, [(0x10, 3)], 32, .value 0, 0xFFFFFFFF, 0, 0, 0, 0, 0, false⟩,
  ⟨.hifObCfg, .hif, 0x2000A000200, [(0x20, 16)], 32, .value 0, 0xFFFF1FFF, 0, 0, 0, 0, 0, false⟩,
  ⟨.hifObBase, .hif, 0x2000A000208, [(0x20, 16)], 64, .value 0, 0xFFFFF00000, 0, 0, 0, 0, 0, false⟩,
  ⟨.hifObPci, .hif, 0x2000A000210, [(0x20, 16)], 64, .value 0, 0xFFFFFFFFFFF00000, 0, 0, 0, 0, 0, false⟩,
  ⟨.hifIbCfg, .hif, 0x2000A001000, [(0x20, 64)], 32, .value 0, 0xFFFF03FF, 0, 0, 0, 0, 0, false⟩,
  ⟨.hifIbBus, .hif, 0x2000A001008, [(0x20, 64)], 64, .value 0, 0xFFFFFFFFFFF00000, 0, 0, 0, 0, 0, false⟩,
  ⟨.hifIbTarget, .hif, 0x2000A001010, [(0x20, 64)], 64, .value 0, 0xFFFFFFF00000, 0, 0, 0, 0, 0, false⟩,
  ⟨.hifIStatus, .hif, 0x2000A100000, [(0x10000, 32)], 32, .value 0, 0, 0, 0, 0, 0, 0xFF, false⟩,
  ⟨.hifIHb, .hif, 0x2000A100004, [(0x10000, 32)], 32, .value 0, 0, 0, 0, 0, 0x1, 0, false⟩,
  ⟨.hifIPostedErr, .hif, 0x2000A10000C, [(0x10000, 32)], 32, .value 0, 0, 0, 0, 0xFFFFFFFF, 0, 0, false⟩,
  ⟨.hifIErrAddr, .hif, 0x2000A100010, [(0x10000, 32)], 64, .value 0, 0, 0, 0, 0, 0, 0xFFFFFFFFFFFFFFFF, false⟩,
  ⟨.hifIMbxGo, .hif, 0x2000A100018, [(0x10000, 32)], 32, .value 0, 0, 0, 0, 0, 0x1, 0, false⟩,
  ⟨.hifIMbxStatus, .hif, 0x2000A10001C, [(0x10000, 32)], 32, .value 0, 0, 0, 0, 0, 0, 0xFF03, false⟩,
  ⟨.hifIMbxReq, .hif, 0x2000A100040, [(0x10000, 32), (0x4, 16)], 32, .value 0, 0xFFFFFFFF, 0, 0, 0, 0, 0, false⟩,
  ⟨.hifIMbxReply, .hif, 0x2000A100080, [(0x10000, 32), (0x4, 8)], 32, .value 0, 0, 0, 0, 0, 0, 0xFFFFFFFF, false⟩,
  ⟨.hifQBase, .hif, 0x2000A400000, [(0x40, 256)], 64, .value 0, 0xFFFFFFFFFFC0, 0, 0, 0, 0, 0, false⟩,
  ⟨.hifQCplBase, .hif, 0x2000A400008, [(0x40, 256)], 64, .value 0, 0xFFFFFFFFFFC0, 0, 0, 0, 0, 0, false⟩,
  ⟨.hifQShadow, .hif, 0x2000A400010, [(0x40, 256)], 64, .value 0, 0xFFFFFFFFFFF8, 0, 0, 0, 0, 0, false⟩,
  ⟨.hifQCfg, .hif, 0x2000A400018, [(0x40, 256)], 32, .value 0, 0x1FFFF, 0, 0, 0, 0, 0x20000, false⟩,
  ⟨.hifQTail, .hif, 0x2000A40001C, [(0x40, 256)], 32, .value 0, 0xFFFFFFFF, 0, 0, 0, 0, 0, false⟩,
  ⟨.hifQHead, .hif, 0x2000A400020, [(0x40, 256)], 32, .value 0, 0, 0, 0, 0, 0, 0xFFFFFFFF, false⟩,
  ⟨.hifQCplTail, .hif, 0x2000A400024, [(0x40, 256)], 32, .value 0, 0, 0, 0, 0, 0, 0xFFFFFFFF, false⟩,
  ⟨.hifQCplHead, .hif, 0x2000A400028, [(0x40, 256)], 32, .value 0, 0xFFFFFFFF, 0, 0, 0, 0, 0, false⟩]

/-- The registers of the KPR block. -/
def regsKpr : List RegDef := [
  ⟨.kprId, .kpr, 0x2000F000000, [], 32, .value 0x10000, 0, 0, 0, 0, 0, 0xFFFF0000, false⟩,
  ⟨.kprStatus, .kpr, 0x2000F000004, [], 32, .value 0, 0, 0, 0, 0, 0, 0x1F, false⟩,
  ⟨.kprErrReg, .kpr, 0x2000F000008, [], 32, .value 0, 0, 0x7, 0, 0, 0, 0, false⟩,
  ⟨.kprIfVersion, .kpr, 0x2000F00000C, [], 32, .value 0x10000, 0, 0, 0, 0, 0, 0xFFFFFFFF, false⟩,
  ⟨.kprFeatDev, .kpr, 0x2000F000010, [], 64, .value 0, 0, 0, 0, 0, 0, 0x7FF, false⟩,
  ⟨.kprFeatReq, .kpr, 0x2000F000018, [], 64, .value 0, 0, 0, 0, 0, 0, 0x7FF, false⟩,
  ⟨.kprFwVersion, .kpr, 0x2000F000020, [], 32, .value 0, 0, 0, 0, 0, 0, 0xFFFFFFFF, false⟩,
  ⟨.kprBootCount, .kpr, 0x2000F000024, [], 32, .value 0, 0, 0, 0, 0, 0, 0xFFFFFFFF, false⟩,
  ⟨.kprLogWr, .kpr, 0x2000F000028, [], 64, .value 0, 0, 0, 0, 0, 0, 0xFFFFFFFFFFFFFFFF, false⟩,
  ⟨.kprLogDropped, .kpr, 0x2000F000030, [], 32, .value 0, 0, 0, 0, 0xFFFFFFFF, 0, 0, false⟩,
  ⟨.kprWdog, .kpr, 0x2000F000034, [], 32, .value 0, 0, 0, 0, 0, 0x1, 0, false⟩,
  ⟨.kprHandover, .kpr, 0x2000F000038, [], 32, .value 0, 0, 0, 0, 0, 0x1, 0, false⟩,
  ⟨.kprUpdStatus, .kpr, 0x2000F00003C, [], 32, .value 0, 0, 0, 0, 0, 0, 0x3FFFF77, false⟩,
  ⟨.kprLogLate, .kpr, 0x2000F000040, [], 32, .value 0, 0, 0, 0, 0xFFFFFFFF, 0, 0, false⟩,
  ⟨.kprMStatus, .kpr, 0x2000F001000, [(0x100, 16)], 32, .value 0, 0, 0, 0, 0, 0, 0x1, false⟩,
  ⟨.kprMFeat, .kpr, 0x2000F001008, [(0x100, 16)], 64, .value 0, 0, 0, 0, 0, 0, 0x7FF, false⟩,
  ⟨.kprMMbxGo, .kpr, 0x2000F001018, [(0x100, 16)], 32, .value 0, 0, 0, 0, 0, 0x1, 0, false⟩,
  ⟨.kprMMbxStatus, .kpr, 0x2000F00101C, [(0x100, 16)], 32, .value 0, 0, 0, 0, 0, 0, 0xFF03, false⟩,
  ⟨.kprMMbxReq, .kpr, 0x2000F001040, [(0x100, 16), (0x4, 16)], 32, .value 0, 0xFFFFFFFF, 0, 0, 0, 0, 0, false⟩,
  ⟨.kprMMbxReply, .kpr, 0x2000F001080, [(0x100, 16), (0x4, 8)], 32, .value 0, 0, 0, 0, 0, 0, 0xFFFFFFFF, false⟩,
  ⟨.kprMLogCfg, .kpr, 0x2000F0010C0, [(0x100, 16)], 32, .value 0, 0xF, 0, 0, 0, 0, 0, false⟩,
  ⟨.kprMLogPend, .kpr, 0x2000F0010C4, [(0x100, 16)], 32, .value 0, 0, 0x1, 0, 0, 0, 0, false⟩,
  ⟨.kprIFeat, .kpr, 0x2000F003000, [(0x8, 32)], 64, .value 0, 0, 0, 0, 0, 0, 0x7FF, false⟩]

/-- The registers of the PCT block. -/
def regsPct : List RegDef := [
  ⟨.pctId, .pct, 0x2000C000000, [], 32, .value 0x10000, 0, 0, 0, 0, 0, 0xFFFF0000, false⟩,
  ⟨.pctStatus, .pct, 0x2000C000004, [], 32, .value 0, 0, 0, 0, 0, 0, 0x1F, false⟩,
  ⟨.pctErrReg, .pct, 0x2000C000008, [], 32, .value 0, 0, 0x7, 0, 0, 0, 0, false⟩,
  ⟨.pctLimitMw, .pct, 0x2000C00000C, [], 32, .value 0x2bf20, 0xFFFFFFFF, 0, 0, 0, 0, 0, false⟩,
  ⟨.pctPowerMw, .pct, 0x2000C000010, [], 32, .value 0, 0, 0, 0, 0, 0, 0xFFFFFFFF, false⟩,
  ⟨.pctRails, .pct, 0x2000C000014, [], 32, .value 0, 0, 0, 0, 0, 0, 0xFFF, false⟩,
  ⟨.pctEnergy, .pct, 0x2000C000018, [], 64, .value 0, 0, 0, 0, 0, 0, 0xFFFFFFFFFFFFFFFF, false⟩,
  ⟨.pctThermCfg, .pct, 0x2000C000020, [], 32, .value 0x7869, 0xFFFF, 0, 0, 0, 0, 0, false⟩,
  ⟨.pctTempMax, .pct, 0x2000C000024, [], 32, .value 0, 0, 0, 0, 0, 0, 0x1FFFFF, false⟩,
  ⟨.pctDroopCfg, .pct, 0x2000C000028, [], 32, .value 0x6a4, 0x7FF, 0, 0, 0, 0, 0, false⟩,
  ⟨.pctDroopCount, .pct, 0x2000C00002C, [], 32, .value 0, 0, 0, 0, 0xFFFFFFFF, 0, 0, false⟩,
  ⟨.pctDom, .pct, 0x2000C000100, [(0x4, 21)], 32, .value 0, 0, 0, 0, 0, 0, 0xFF1F1F, false⟩,
  ⟨.pctTemp, .pct, 0x2000C000200, [(0x4, 28)], 32, .value 0, 0, 0, 0, 0, 0, 0xFFFF, false⟩]

/-- Every register of the device, in the order of `RegId`. -/
def regTable : List RegDef :=
  regsSpl ++ regsMcc ++ regsOwn ++ regsQos ++ regsPav ++ regsBed ++ regsTrl ++ regsSem ++ regsElx ++ regsSns ++ regsOrg ++ regsDsp ++ regsGwy ++ regsFlw ++ regsCan ++ regsCvu ++ regsTim ++ regsGth ++ regsGls ++ regsHif ++ regsKpr ++ regsPct

/-- The rows of one block. -/
def Block.regs : Block → List RegDef
  | .spl => regsSpl
  | .mcc => regsMcc
  | .own => regsOwn
  | .qos => regsQos
  | .pav => regsPav
  | .bed => regsBed
  | .trl => regsTrl
  | .sem => regsSem
  | .elx => regsElx
  | .sns => regsSns
  | .org => regsOrg
  | .dsp => regsDsp
  | .gwy => regsGwy
  | .flw => regsFlw
  | .can => regsCan
  | .cvu => regsCvu
  | .tim => regsTim
  | .gth => regsGth
  | .gls => regsGls
  | .hif => regsHif
  | .kpr => regsKpr
  | .pct => regsPct
  | .gcr => []

/-- The block that holds a register. -/
def RegId.block : RegId → Block
    | .splId | .splStatus | .splErrReg | .splFailCount | .splFirstFail | .splPlanId | .splPlanVersion |
    .splPowerLimit | .splMustRunMw | .splAcceptTime | .splDigest | .splPlot => .spl
    | .mccId | .mccStatus | .mccErrReg | .mccEccCfg | .mccCeCount | .mccLinkRetry | .mccUeCount | .mccLastErrAddr
    | .mccSlots | .mccRetired | .mccRgnPbase | .mccRgnPlen | .mccRgnCfg | .mccRgnCbase | .mccClsRd | .mccClsWr |
    .mccClsGrant | .mccClsMaxlat | .mccGuar => .mcc
    | .ownId | .ownStatus | .ownErrReg | .ownTableBase | .ownRetiredTotal | .ownCmdAddr | .ownCmdCount | .ownCmdOp
    | .ownCmdStatus | .ownCmdResult => .own
    | .qosId | .qosStatus | .qosErrReg | .qosLgNs | .qosDeviceMbps | .qosHeld | .qosReq | .qosPort => .qos
    | .pavId | .pavStatus | .pavErrReg | .pavEvictAfter | .pavSlotBusy | .pavCompleted | .pavMisses => .pav
    | .bedId | .bedStatus | .bedErrReg | .bedPwr | .bedShare | .bedSlot | .bedDmaStallLimit | .bedEccCe |
    .bedEccUe | .bedMacCycles | .bedBankConflict | .bedDmaWait | .bedOpsDone | .bedDmaStatus => .bed
    | .trlId | .trlStatus | .trlErrReg | .trlSeqUsed | .trlMerged | .trlSpCfg | .trlSpDesc | .trlSpEpoch |
    .trlSpRetired | .trlSpCounts | .trlSpQuar => .trl
    | .semValue | .semAdd | .semInfo | .semId | .semStatus | .semErrReg | .semOps | .semWatchCfg | .semWatchThresh => .sem
    | .elxId | .elxStatus | .elxErrReg | .elxCfg | .elxCause | .elxFormTime | .elxDiff | .elxRoute | .elxPStatus |
    .elxPTxBytes | .elxPRxBytes | .elxPReplay | .elxPRetrain => .elx
    | .snsId | .snsStatus | .snsErrReg | .snsPStatus | .snsPHdrCorr | .snsPHdrDrop | .snsPCrcErr | .snsPUnmatched
    | .snsPOverflow | .snsSCfg | .snsSStatus | .snsSRingBase | .snsSRingCfg | .snsSSem | .snsSWr | .snsSRd |
    .snsSBlack | .snsSGain | .snsSLastFs | .snsSGoldAddr | .snsSGoldCrc | .snsSFrames | .snsSDropped | .snsSFaults => .sns
    | .orgId | .orgStatus | .orgErrReg | .orgPreemptMargin | .orgQBase | .orgQCplBase | .orgQCfg | .orgQTail |
    .orgQHead | .orgQDoneBelow | .orgQResMiss | .orgCStatus | .orgCBusy => .org
    | .dspId | .dspStatus | .dspErrReg | .dspPStatus | .dspPFrames | .dspPNextLatch | .dspPMisses | .dspPReproj |
    .dspPPoseAddr | .dspLCfg | .dspLPos | .dspLSize | .dspLStride | .dspLNext | .dspLCur | .dspLCommit | .dspTtCfg
    | .dspTtPos | .dspTtPal | .dspCrcRect | .dspCrcValue => .dsp
    | .gwyId | .gwyStatus | .gwyErrReg | .gwyDrop | .gwyPCfg | .gwyPStatus | .gwyPAccept | .gwyPRxFrames |
    .gwyPTxFrames | .gwyRBase | .gwyRCfg | .gwyRTail | .gwyRHead => .gwy
    | .flwId | .flwStatus | .flwErrReg | .flwMiss | .flwCmdAddr | .flwCmdOp | .flwCmdStatus | .flwPol |
    .flwPolDrops => .flw
    | .canId | .canErrReg | .canCfg | .canStatus | .canNbt | .canDbt | .canXbt | .canLost | .canRBase | .canRCfg |
    .canRTail | .canRHead | .canFilter | .linCfg | .linCmd | .linStatus | .linData => .can
    | .cvuId | .cvuErrReg | .cvuCfg | .cvuOp | .cvuStatus | .cvuLen | .cvuSrc | .cvuValue | .cvuResult | .cvuPoly
    | .cvuInit | .cvuXorout => .cvu
    | .timId | .timStatus | .timErrReg | .timCfg | .timDtNs | .timDtAdj | .timDCfg | .timDStatus | .timDRoles |
    .timDOffset | .timDRate | .timDHoldLimit | .timDStep | .timDTime | .timPStatus | .timPDelay | .timPAsym |
    .timCGo | .timCFrac | .timCDt | .timCDom => .tim
    | .gthId | .gthStatus | .gthErrReg | .gthSafeReq | .gthInject | .gthWdogCfg | .gthWdogKick | .gthTaskDone |
    .gthSafeTime | .gthRuleFails | .gthTaskMisses | .gthStCfg | .gthStStatus | .gthStDeferred | .gthStOverdue |
    .gthStFailedLo | .gthStFailedHi => .gth
    | .glsId | .glsStatus | .glsErrReg | .glsCtrPolicy | .glsCtrBlocked | .glsTamper | .glsTamperCfg | .glsRng |
    .glsSerial | .glsMin0 | .glsMin1 | .glsKey | .glsEnc | .glsDebug | .glsPubAk | .glsPubDka => .gls
    | .hifId | .hifStatus | .hifErrReg | .hifHbTimeout | .hifCplTimeout | .hifRpOwner | .hifRpCfgAddr |
    .hifRpCfgData | .hifObCfg | .hifObBase | .hifObPci | .hifIbCfg | .hifIbBus | .hifIbTarget | .hifIStatus |
    .hifIHb | .hifIPostedErr | .hifIErrAddr | .hifIMbxGo | .hifIMbxStatus | .hifIMbxReq | .hifIMbxReply |
    .hifQBase | .hifQCplBase | .hifQShadow | .hifQCfg | .hifQTail | .hifQHead | .hifQCplTail | .hifQCplHead => .hif
    | .kprId | .kprStatus | .kprErrReg | .kprIfVersion | .kprFeatDev | .kprFeatReq | .kprFwVersion | .kprBootCount
    | .kprLogWr | .kprLogDropped | .kprWdog | .kprHandover | .kprUpdStatus | .kprLogLate | .kprMStatus | .kprMFeat
    | .kprMMbxGo | .kprMMbxStatus | .kprMMbxReq | .kprMMbxReply | .kprMLogCfg | .kprMLogPend | .kprIFeat => .kpr
    | .pctId | .pctStatus | .pctErrReg | .pctLimitMw | .pctPowerMw | .pctRails | .pctEnergy | .pctThermCfg |
    .pctTempMax | .pctDroopCfg | .pctDroopCount | .pctDom | .pctTemp => .pct

end Sys2Proof.Machine
end

