-- ==== Sys2Proof/Machine/StGrove.lean ====
section
/-! DEFINITION. State of the Eliravy ports and the Grove (spec/08) and of time (spec/12): plain data. Times are device
time in ns where nothing else is said. -/

namespace Sys2Proof.Machine

/-! ### Eliravy -/

/-- A message (Table 08-3): `addr` and `tag` are the two parts of ADDR, `dataLen` the bytes that LEN stands for. -/
structure ElxMsg where
  kind : Nat
  src : Nat
  dest : Nat
  hop : Nat
  plot : Nat
  cls : Nat
  dataLen : Nat
  ctx : Nat
  srcPort : Nat
  status : Nat
  addr : Nat
  tag : Nat
  data : List Byte
deriving DecidableEq, Repr

/-- What a CTRL message carries (R258, R270 to R276, R215, R374). The manual gives CTRL data no layout. -/
inductive Ctrl where
  | linkHello (grove port : Nat)
  | timeRequest (grove : Nat) (times : Option (Nat × Nat × Nat))
  | timeReply (delta : Option Int) (tol hb ta : Nat)
  | join (grove : Nat) (digest : List Byte) (fw feat : Nat) (times : Option (Nat × Nat × Nat))
  | admitted
  | leftOut (cause : Nat)
  | formed (members hbPeriod : Nat)
  | heartbeat (at_ delta : Nat)
  | heartbeatReply (ta tb tc : Nat)
  | expel (mask cause : Nat)
  | stepReport (space epoch : Nat) (digest : List Byte) (rows leaving uncovered : List Nat)
  | stepResult (space : Nat) (mismatch : Option Bool) (runs : List (Nat × Nat)) (leaves exhausted : List Nat)
deriving DecidableEq, Repr

/-- One Eliravy port (R254, R256, R260, R261): STATE and LANE_OK of Table 08-16, the peer of its LINK_HELLO, whether it
has trained since reset and came up at half width, how often the flit expected failed its CRC in a row, the FSEQ expected and the
next one to send, the replay buffer (FSEQ, flit), whether a replay is requested of the peer, bytes of an unfinished message,
the messages delivered and not yet performed, the messages that wait to be sent, the pointer over SRC_PORT, the
credits returned per CREDIT_VC, those used, and those owed to the peer. -/
structure ElxPort where
  state : Nat := 0
  laneOk : Nat := 0
  peer : Nat := 0
  peerPort : Nat := 0
  trained : Bool := false
  half : Bool := false
  failRun : Nat := 0
  rxNext : Nat := 0
  txNext : Nat := 0
  replay : List (Nat × List Byte) := []
  replayReq : Bool := false
  rx : List Byte := []
  inbox : List ElxMsg := []
  txq : List ElxMsg := []
  rr : Nat := 0
  credits : List Nat := List.replicate 16 0
  used : List Nat := List.replicate 16 0
  owed : List Nat := List.replicate 16 0
deriving DecidableEq, Repr

/-- Where the answer to a remote access goes: to the requester alone, or also to a Bed's DMA channel, with the target Bed
and scratchpad offset of read data (or the DRAM address) and the part of the words read that the row wants. -/
inductive RemoteUse where
  | plain
  | dma (bed ch target off skip len : Nat)
  | mem (bed ch : Nat) (stamp : Stamp) (addr skip len : Nat)
deriving DecidableEq, Repr

/-- A remote access of this device that has not completed (R265 to R268): its stamp, message, and the devices that
forward it; `port` is the port it was sent on, none while it waits to be issued. -/
structure RemoteOp where
  stamp : Stamp
  msg : ElxMsg
  via : List Nat
  port : Option Nat
  use : RemoteUse
deriving DecidableEq, Repr

/-- What member 0 keeps of a member: heartbeats sent and not answered, misses in a row, the last δ (R271, R274, R275). -/
structure MemberSt where
  sent : List Nat := []
  missed : Nat := 0
  delta : Int := 0
deriving DecidableEq, Repr

/-- The Grove unit (R270 to R278): STATE (0 IDLE, 1 FORMING, 2 MEMBER, 3 STANDALONE), members, cause and device of the
last exclusion or departure, device time of FORMED, devices admitted, whether the JOIN was sent and answered, good TIME
results in a row, the tolerance and period that member 0 carries, the last heartbeat sent or received, the devices to
which nothing is issued until the outstanding accesses complete (R266), the outstanding accesses, and t_a and t_b of member 0's
last TIME message with the device time of the member's last one. -/
structure ElxSt where
  state : Nat := 0
  aborted : Bool := false
  members : Nat := 0
  cause : Nat := 0
  causeDev : Nat := 0
  formTime : Nat := 0
  admitted : Nat := 0
  joined : Bool := false
  isAdmitted : Bool := false
  goodTimes : Nat := 0
  tol : Nat := 0
  hbPeriod : Nat := 0
  hbAt : Nat := 0
  peers : SMap MemberSt := []
  ports : SMap ElxPort := []
  stale : List Nat := []
  ops : List RemoteOp := []
  nextTag : Nat := 0
  timeAt : Option (Nat × Nat) := none
  timeSent : Nat := 0
deriving DecidableEq, Repr

/-! ### Time -/

/-- A gPTP domain (R376 to R385): STATE of Table 12-1, HOLD_EXPIRED, domain time in units of 2^-32 ns, rate adjustment in
ppb, last offset in ns, good Syncs in a row, the last Sync received or sent and the entry to HOLDOVER in device time (ns),
and the port roles in effect. -/
structure DomainSt where
  state : Nat := 0
  expired : Bool := false
  time : Nat := 0
  rate : Int := 0
  offset : Int := 0
  good : Nat := 0
  syncAt : Nat := 0
  holdAt : Nat := 0
  roles : Nat := 0
deriving DecidableEq, Repr

/-- The link-delay state of a port (R376): asCapable, mean delay in units of 2^-16 ns, consecutive failures, and since when
an exchange is under way. -/
structure PdelaySt where
  capable : Bool := false
  delay : Nat := 0
  fails : Nat := 0
  waiting : Option Nat := none
  last : Option Nat := none
deriving DecidableEq, Repr

/-- The time unit: the adjustment a of device time in ppb (R371), domains, ports, whether device time holds until reset
after a Grove was lost (R373). -/
structure TimSt where
  adj : Int := 0
  domains : SMap DomainSt := []
  ports : SMap PdelaySt := []
  groveHold : Bool := false
deriving DecidableEq, Repr

end Sys2Proof.Machine
end

