-- ==== Sys2Proof/Machine/StHost.lean ====
section
/-! DEFINITION. State of the host interface (spec/15): plain data. Times are device time in ns. -/

namespace Sys2Proof.Machine

/-- An instance of the host interface: STATE (0 CLOSED, 1 OPEN, 2 DETACHED, 3 FROZEN), whether opened host-backed, its
token, the start of the heartbeat interval, the time at which the 10 s of DETACHED end, STATE before FREEZE with the time
left of the 10 s (ms), a FREEZE under way (mailbox key and end of the wait), whether outbound requests are stopped
(R492), and a closing under way (commands cancelled, and whether CLOSE waits for its reply). -/
structure InstSt where
  state : Nat := 0
  host : Bool := false
  token : Nat := 0
  hbAt : Nat := 0
  detEnd : Nat := 0
  prior : Nat := 0
  leftMs : Nat := 0
  freezing : Option (Nat × Nat) := none
  stopped : Bool := false
  closing : Option (Nat × Bool) := none
deriving DecidableEq, Repr

/-- A PCIe port's link: up, SPEED and WIDTH codes. -/
structure LinkSt where
  up : Bool := false
  speed : Nat := 0
  width : Nat := 0
deriving DecidableEq, Repr

/-- An outbound read that waits for its completion: tag, port, stamp, physical address, length, instance (of FUNC), the
time it was sent and its bus address. -/
structure OutRead where
  tag : Nat
  port : Nat
  stamp : Stamp
  addr : Nat
  len : Nat
  inst : Nat
  sent : Nat
  bus : Nat
deriving DecidableEq, Repr

/-- The host interface: instances, links by port, outstanding outbound reads (key: port × 1024 + tag), NumVFs with VF
Enable set, the reads that wait for a free tag, oldest first, the functions whose AER registers hold an Advisory Non-Fatal Unsupported Request, and the MSI-X tables
(key: function × 1024 + byte). -/
structure HostSt where
  insts : SMap InstSt := []
  links : SMap LinkSt := []
  reads : SMap (Option OutRead) := []
  waits : List OutRead := []
  vfs : Nat := 0
  aer : List Nat := []
  msixTable : List Host.Cell := []
deriving DecidableEq, Repr

end Sys2Proof.Machine
end

