-- ==== Sys2Proof/Machine/StTensor.lean ====
section
/-! DEFINITION. State of the memory pipeline (spec/02), the Beds and Pavilions (spec/03), the loaded programs (spec/05),
the Trellis spaces (spec/06), and the contexts, queues and semaphores (spec/07): plain data. -/

namespace Sys2Proof.Machine

/-! ### Memory pipeline -/

/-- A DRAM request as its master port stamps it (R59); `cached` holds when the system cache looked its lines up (R432). -/
structure DramReq where
  stamp : Stamp
  addr : Nat
  len : Nat
  write : Bool
  data : List Byte
  issued : Nat
  cached : Bool
deriving DecidableEq, Repr

/-- The tier of a request that holds an MCC slot (R78, R81). -/
inductive Tier where
  | device | guaranteed | shared
deriving DecidableEq, Repr

/-- A request in an MCC slot, with its tier and slot-entry time in units of 2^-32 ns (R81, R84). -/
structure SlotReq where
  req : DramReq
  tier : Tier
  entered : Nat
deriving DecidableEq, Repr

/-- A token bucket (R80): the tokens missing from a full bucket, in units of 2^-32 / 1,000 byte, and the device time (in
units of 2^-32 ns) up to which it was filled. -/
structure Bucket where
  missing : Nat := 0
  at_ : Nat := 0
deriving DecidableEq, Repr

/-- The state of one MCC: its slots in entry order, the shared-tier round-robin pointer, and the 256-byte request of which
one half has moved (R84). -/
structure MccSt where
  slots : List SlotReq := []
  rr : Nat := 0
  half : Option SlotReq := none
deriving DecidableEq, Repr

/-- The state of one master port (R82): hold queues by the index 8 × Plot + class (128 for a requester of no Plot), and
the round-robin pointer. -/
structure PortSt where
  hold : SMap (List DramReq) := []
  rr : Nat := 0
deriving DecidableEq, Repr

/-- What an OWN command slot holds while its command runs (R66 to R68). -/
structure OwnCmd where
  busy : Bool := false
  noPage : Bool := false
  status : Nat := 0
  result : Nat := 0
  pendStatus : Nat := 0
  pendNoPage : Bool := false
  pendResult : Option Nat := none
deriving DecidableEq, Repr

/-- A line of the system cache: where it is, the line of DRAM that it holds, the Plot and secure attribute of the request that
allocated it (R433), and its bytes. -/
structure CacheLine where
  way : Nat
  set : Nat
  line : Nat
  plot : Nat
  secure : Bool
  data : List Byte
deriving DecidableEq, Repr

/-- Memory system state of spec/02. `entries` holds the owner-table entries that differ from what the accepted plan
gives the page (key: channel × 131,072 + channel page). `done` lists the requests that completed, for their masters. -/
structure MemSt where
  mcc : SMap MccSt := []
  ports : SMap PortSt := []
  buckets : SMap Bucket := []
  entries : SMap Nat := []
  own : SMap OwnCmd := []
  retireLogged : List Nat := []
  cache : List CacheLine := []
deriving DecidableEq, Repr

/-! ### Beds and Pavilions -/

/-- Power states of Table 03-5. -/
inductive Pwr where
  | off | retain | waking | on
deriving DecidableEq, Repr

/-- BED_STATUS.PWR (Table 03-21). -/
def Pwr.code : Pwr → Nat
  | .off => 0 | .retain => 1 | .on => 2 | .waking => 3

/-- A DMA descriptor (Table 03-7). -/
structure Desc where
  dramAddr : Nat
  shareOff : Nat
  bed : Nat
  dir : Nat
  rows : Nat
  rowBytes : Nat
  srcStride : Nat
  shareStride : Nat
  event : Nat
  reserved : Nat
deriving DecidableEq, Repr

/-- A DMA channel of a Bed: the descriptor being executed with the stamp of the command it serves, the status its checks
and moves gave, the status of the last completed descriptor and the count of completed ones (Table 03-29); `pend` counts its
remote requests that have not completed (R265); `copy` is the queue and SEQ of the COPY whose descriptor channel 3 executes
(R117). -/
structure DmaCh where
  cur : Option (Desc × Stamp) := none
  curStatus : Nat := 0
  status : Nat := 0
  done : Nat := 0
  pend : Nat := 0
  copy : Option (Nat × Nat) := none
deriving DecidableEq, Repr

/-- A range of the scratchpads (addresses from `lo` on, below `hi`) whose unlisted bytes are zero since a clear, or free since
loss number n (R226). -/
structure PadRange where
  lo : Nat
  hi : Nat
  lost : Option Nat
deriving DecidableEq, Repr

/-- A buffer whose contents may be lost: written cells over a background that is zero, or free since loss number n
(R111, R112). -/
structure Buf where
  cells : List Host.Cell := []
  lost : Option Nat := none
deriving DecidableEq, Repr

/-- The operator running on a Bed: queue and SEQ of its command, the operator index (R233) and its KIND. -/
structure RunningOp where
  queue : Nat
  seq : Nat
  op : Nat
  kind : Nat := 0
deriving DecidableEq, Repr

/-- What an abort stopped on a Bed: the operator, the device time, and the channels whose descriptor had met a status other than
DONE, with that status. Another status of the same device time still counts (R119). -/
structure Halted where
  op : RunningOp
  at_ : Nat
  chans : List (Nat × Nat)
deriving DecidableEq, Repr

/-- The state of one Bed (R98 to R113). `goal` is the transition under way from the state `left` since device time `since`;
`want` a target written during it (R112). `clearing` is the slot whose share is being cleared (R109). `tiles` holds the two
weight-tile buffers of 2 KiB (R100) and `side` their side buffers of 512 bytes (R140). -/
structure BedSt where
  pwr : Pwr := .off
  left : Pwr := .off
  goal : Option Pwr := none
  want : Option Pwr := none
  since : Nat := 0
  clearing : Option Nat := none
  dma : SMap DmaCh := []
  imem : Buf := {}
  dmem : Buf := {}
  acc : Buf := {}
  tiles : Buf := {}
  side : Buf := {}
  vregs : Buf := {}
  events : SMap Nat := []
  running : Option RunningOp := none
  halted : Option Halted := none
deriving DecidableEq, Repr

/-- A tensor command record (Table 03-8); `args` is bytes 0x28 to 0x3F and `raw0E` the reserved bytes at 0x0E. -/
structure Cmd where
  seq : Nat
  tag : Nat
  opcode : Nat
  flags : Nat
  ctx : Nat
  waitSem : Nat
  signalSem : Nat
  raw0E : Nat
  waitValue : Nat
  signalValue : Nat
  deadline : Nat
  args : List Byte
deriving DecidableEq, Repr

/-- The part of an operation that one Bed runs: the next operator index to start there (65536 for none), the last
one started, whether the Bed has started any
operator of it, and whether it was ready but another operation's operator ran instead (R233, R234). -/
structure BedPart where
  bed : Nat
  next : Nat
  at_ : Nat := 0
  started : Bool := false
  passedOver : Bool := false
deriving DecidableEq, Repr

/-- An operation: the part of a command on one Pavilion (R94, R95). `order` is its acceptance order; `ready` the status
with which it can complete, once its work is done; `status` the one with which it has completed. -/
structure Oper where
  pav : Nat
  slot : Nat
  order : Nat
  parts : List BedPart := []
  ready : Option Nat := none
  status : Option Nat := none
  started : Bool := false
deriving DecidableEq, Repr

/-- A command in flight: dispatched and not completed. `startTime` is when it started; `bad` the first status other than
DONE, and `badAt` the device time and Pavilion of its report (R119); `doneAt` the device time at which its last operation
completed (R120); `psem` the program-semaphore values at the start of the RUN (R180), `argv` the address and length
of its arguments; `attended` the ATTEND operators that have started; `checked` that the argument block passed
(R178), `argsBad` that it did not; `spaces` the spaces whose step it holds open; `lastPav` the Pavilion that completed its last operation. -/
structure Flight where
  queue : Nat
  cmd : Cmd
  ops : List Oper
  startTime : Option Nat := none
  headTime : Nat
  semNs : Nat
  resNs : Nat
  bad : Option Nat := none
  badAt : Option (Nat × Nat) := none
  doneAt : Nat := 0
  late : Bool := false
  preempted : Bool := false
  missed : Bool := false
  checked : Bool := false
  argsBad : Bool := false
  lastOp : Nat := 0
  bytes : Nat := 0
  flags : NumFlags := {}
  flagOp : Nat := 0xFFFF
  psem : List Nat := []
  argv : List (Nat × Nat) := []
  attended : List Nat := []
  spaces : List Nat := []
  lastPav : Option Nat := none
deriving DecidableEq, Repr

/-- The head of a queue: the oldest fetched command not yet dispatched, with the accounting of R242: `phase` says what it
waited for since `lastSeen` (0 its WAIT condition, 1 residency, 2 anything else). -/
structure HeadCmd where
  cmd : Cmd
  headTime : Nat
  semNs : Nat := 0
  resNs : Nat := 0
  lastSeen : Nat
  phase : Nat := 2
  waitingSince : Option Nat := none
  late : Bool := false
  missed : Bool := false
deriving DecidableEq, Repr

/-- A completion that waits to be written: of a command, of a duplicate, or of one refused (R120). -/
structure Cpl where
  seq : Nat
  tag : Nat
  status : Nat
  flags : Nat
  ctx : Nat
  parts : Nat
  detail : Nat
  start : Nat
  stop : Nat
  signal : Option (Nat × Nat × Nat)
  irq : Bool
deriving DecidableEq, Repr

/-- The state of one submission queue: its head, the window of the last 64 completed SEQ values with their status
(newest first, R228), the duplicates that wait for their original, and the completions of duplicates
that wait for room in the completion ring (R489). -/
structure QueueSt where
  head : Option HeadCmd := none
  window : List (Nat × Nat) := []
  dups : List Cmd := []
  waiting : List Cpl := []
deriving DecidableEq, Repr

/-- The state of one Pavilion beside its registers: the acceptance counter of its dispatcher (R97, R233). -/
structure PavSt where
  accepted : Nat := 0
deriving DecidableEq, Repr

/-! ### Contexts and programs -/

/-- A context (R219): its Plot, the mailbox that created it, its bindings (Bed → home slot), its accounting record (Table 07-4), the time at which it
last became blocked per Bed (R237), and the requests of its services in order. -/
structure CtxSt where
  plot : Nat
  via : Nat
  binds : SMap Nat := []
  commands : Nat := 0
  queueNs : Nat := 0
  semNs : Nat := 0
  resNs : Nat := 0
  runNs : Nat := 0
  preemptions : Nat := 0
  evictions : Nat := 0
  residencies : Nat := 0
  misses : Nat := 0
  blocked : SMap Nat := []
deriving DecidableEq, Repr

/-- An operator record (Table 05-3). -/
structure OpRec where
  kind : Nat
  flags : Nat
  vbedFirst : Nat
  vbedCount : Nat
  tensorFirst : Nat
  nIn : Nat
  nOut : Nat
  codeRel : Nat
  codeBytes : Nat
  scratch : Nat
  waitPsem : Nat
  signalPsem : Nat
  paramBytes : Nat
  paramRel : Nat
deriving DecidableEq, Repr

/-- A tensor descriptor (Table 05-4). -/
structure TensorRec where
  format : Nat
  rank : Nat
  bind : Nat
  bindIndex : Nat
  dims : List Nat
  offset : Nat
  scaleOffset : Nat
  scale : Nat
  reserved : Nat
deriving DecidableEq, Repr

/-- A weight segment record (Table 05-5). -/
structure SegRec where
  kind : Nat
  flags : Nat
  stripes : Nat
  vbedFirst : Nat
  stripeBytes : Nat
  pinOff : Nat
  reserved : Nat
deriving DecidableEq, Repr

/-- A loaded program (R171 to R174): its context, tables and code section, the bound segment addresses, its first
program semaphore, its first virtual Bed on this device and the placement map, and the image and BIND_ADDR as loaded; `aborted` once an expulsion has aborted
it (R276). -/
structure Prog where
  gen : Nat
  ctx : Nat
  imageLen : Nat
  vbeds : Nat
  devices : Nat
  argCount : Nat
  semCount : Nat
  semFirst : Nat
  ops : List OpRec
  tensors : List TensorRec
  segs : List SegRec
  code : List Byte
  binds : List Nat
  lo : Nat
  map : List Nat
  digest : List Byte
  image : List Byte := []
  bindAddr : Nat := 0
  aborted : Bool := false
deriving DecidableEq, Repr

/-! ### Trellis -/

/-- The state of one sequence (Table 06-5), with the version that the open step reads (R195), the rows
with which it can run or join (`want`, R215), the blocks that it misses (`missing`) and the FREE of its LEAVE. -/
structure SeqSt where
  state : Nat := 0
  exhausted : Bool := false
  held : Bool := false
  last : Nat := 0
  lane : Nat := 0
  epoch : Nat := 0
  length : Nat := 0
  freeOnLeave : Bool := false
  runs : Bool := false
  rows : Nat := 0
  table : Nat := 0
  want : Nat := 0
  missing : Nat := 0
deriving DecidableEq, Repr

/-- What a member reports at a step of a GROVE space (R215): device, E, digest, the ROWS with which each sequence can run or
join, its LEAVING sequences, and those that were not covered. -/
structure StepReport where
  device : Nat
  epoch : Nat
  digest : List Byte
  rows : List Nat
  leaving : List Nat
  uncovered : List Nat
deriving DecidableEq, Repr

/-- A key-value space (R182, Table 06-1). `quar` lists the blocks in quarantine; `open_` is the step under way: the queue
and SEQ of its RUN; `aborted` holds after an expulsion until the space is bound again (R216). While a step of a GROVE space
waits for its joint admission, `prov` holds the member's own outcome (R215). -/
structure Space where
  ctx : Nat
  cslot : Nat
  plot : Nat
  desc : Nat
  kfmt : Nat
  vfmt : Nat
  qfmt : Nat
  headDim : Nat
  layers : Nat
  kvHeads : Nat
  qPerKv : Nat
  maxSeq : Nat
  lanes : Nat
  stepRows : Nat
  grove : Bool
  seqTable : Nat
  poolBase : Nat
  poolBlocks : Nat
  poolStride : Nat
  quarAddr : Nat
  relAddr : Nat
  smScale : Nat
  kScale : Nat
  vScale : Nat
  epoch : Nat := 0
  retired : Nat := 0
  produced : Nat := 0
  quar : List Nat := []
  open_ : Option (Nat × Nat) := none
  seqs : SMap SeqSt := []
  aborted : Bool := false
  agreed : Bool := false
  reports : List StepReport := []
  prov : SMap SeqSt := []
deriving DecidableEq, Repr

/-- A partial result of attention (R209): running maximum, sum and weighted values, as FP32 bits, and whether a logit was
NaN or infinite (R210). -/
structure Partial where
  m : Nat
  l : Nat
  o : List Nat
  bad : Bool
deriving DecidableEq, Repr

/-- Which output row of which ATTEND a partial belongs to: queue, SEQ, operator, lane, row and query head. -/
structure AttKey where
  queue : Nat
  seq : Nat
  op : Nat
  lane : Nat
  row : Nat
  head : Nat
deriving DecidableEq, Repr

/-- A partial on its way to a Trellis; `final` when it comes from another Trellis to the lead (R209). -/
structure PartMsg where
  trellis : Nat
  final : Bool
  key : AttKey
  part : Partial
deriving DecidableEq, Repr

/-- A merge under way at a Trellis: the running result, the partials seen and the number that it waits for (R209). -/
structure Merge where
  trellis : Nat
  final : Bool
  key : AttKey
  need : Nat
  seen : Nat
  acc : Partial
deriving DecidableEq, Repr

/-- Tensor-side state of spec/03 and spec/05 to spec/07. Keys: Bed number, Pavilion number, queue number, context number,
store slot, 4 × Pavilion + space slot, semaphore number, watch unit. `gens` counts the generations of the store slots
(R174); `rr` is the round-robin pointer over queues (R231); `moves` lists the residency changes (Bed, slot, context) that
the Keeper has decided on and not yet written, a victim's removal among them (R225). -/
structure TensorSt where
  beds : SMap BedSt := []
  pavs : SMap PavSt := []
  queues : SMap QueueSt := []
  flights : List Flight := []
  rr : Nat := 0
  ctxs : SMap (Option CtxSt) := []
  progs : SMap (Option Prog) := []
  gens : SMap Nat := []
  spaces : SMap (Option Space) := []
  merges : List Merge := []
  parts : List PartMsg := []
  sems : SMap Nat := []
  armed : List Nat := []
  moves : List (Nat × Nat × Nat) := []
  stopReq : List Nat := []
  stopped : List Nat := []
deriving DecidableEq, Repr

end Sys2Proof.Machine
end

