-- ==== Sys2Proof/Machine/StNet.lean ====
section
/-! DEFINITION. State of the gateway (spec/11): switch, session table, CAN, LIN and check-value units: plain data. -/

namespace Sys2Proof.Machine

/-- A Sync copy or Sync of a domain on its way out (R380, R381): the domain, originTimestamp in ns and correctionField in
units of 2^-16 ns as received, the receive time-stamp in device time (units of 2^-32 ns), the mean link delay of the SLAVE
port (units of 2^-16 ns), and (r − 1) × 2^41; `own` for a Sync of a grandmaster. -/
structure SyncCopy where
  domain : Nat
  own : Bool
  origin : Nat := 0
  corr : Int := 0
  rx : Int := 0
  delay : Nat := 0
  ratio : Int := 0
deriving DecidableEq, Repr

/-- A frame in the switch, without its FCS: ingress port, receive time-stamp in ns, launch time in ns of the working
domain, the TX descriptor that it came from (internal port and ring position), and what a Sync carries. -/
structure EthFrame where
  bytes : List Byte
  ingress : Nat
  rx : Nat
  launch : Option Nat := none
  desc : Option (Nat × Nat) := none
  sync : Option SyncCopy := none
deriving DecidableEq, Repr

/-- A switch port: link, RATE code of the link, the frame being sent with its egress time-stamp (device time and working
domain time, units of 2^-32 ns), and the gate-list entry in force. -/
structure PortNet where
  up : Bool := false
  speed : Nat := 0
  sending : Option (EthFrame × Nat × Nat) := none
  entry : Nat := 0
deriving DecidableEq, Repr

/-- A taken TX descriptor: its ring position, the egress ports whose part is not finished, the lowest-numbered port that
sent it with the time in ns, the status so far, and whether STAMP is wanted. -/
structure TxRec where
  pos : Nat
  left : List Nat
  sent : Option (Nat × Nat)
  status : Nat
  wantStamp : Bool
deriving DecidableEq, Repr

/-- A descriptor ring: the position of the next descriptor to take, and the taken TX descriptors in order. -/
structure RingSt where
  next : Nat := 0
  open_ : List TxRec := []
deriving DecidableEq, Repr

/-- A session command slot (R352): the operation that runs, STATUS and FOUND. -/
structure FlwSlot where
  op : Option Nat := none
  status : Nat := 0
  found : Bool := false
deriving DecidableEq, Repr

/-- A CAN controller: STATE (0 ERROR_ACTIVE, 1 ERROR_PASSIVE, 2 BUS_OFF, 3 OFF), counters, LAST_ERR, the descriptor
(ring position and buffer as it is sent) taken from TXH and from TXL and not yet complete, and the ring whose frame is on
the bus; `offAt` is when it went OFF under R357. -/
structure CanSt where
  state : Nat := 3
  tec : Nat := 0
  rec_ : Nat := 0
  lastErr : Nat := 0
  high : Option (Nat × List Byte) := none
  low : Option (Nat × List Byte) := none
  tx : Option Nat := none
  offAt : Option Nat := none
deriving DecidableEq, Repr

/-- A LIN controller: the command of the frame in progress, STATUS and ERR. -/
structure LinSt where
  cmd : Option Nat := none
  status : Nat := 0
  err : Nat := 0
deriving DecidableEq, Repr

/-- A check-value unit: the running operation with FROM_VALUE, and STATUS. -/
structure CvuSt where
  op : Option (Nat × Bool) := none
  status : Nat := 0
deriving DecidableEq, Repr

/-- The gateway. Keys: `queues` 8 × port + class; `rings` 2 × n + x for internal ports (x: 0 TX, 1 RX), 16 + 3 × n + x for
CAN. `flows` lists the session entries as (key, action). -/
structure NetSt where
  queues : SMap (List EthFrame) := []
  ports : SMap PortNet := []
  rings : SMap RingSt := []
  flows : List (List Byte × Nat) := []
  seed : Nat := 0
  flw : SMap FlwSlot := []
  pol : SMap Bucket := []
  can : SMap CanSt := []
  lin : SMap LinSt := []
  cvu : SMap CvuSt := []
deriving DecidableEq, Repr

end Sys2Proof.Machine
end

