-- ==== Sys2Proof/Machine/StOrg.lean ====
section
/-! DEFINITION. State of the Orangery and the display engine (spec/10): plain data. -/

namespace Sys2Proof.Machine

/-- A shaded triangle in submission order: its draw record (Table 10-5), and for each vertex x, y, z, w and the attribute
components as FP32 bits. -/
structure OrgTri where
  draw : List Byte
  verts : List (List Nat)
deriving DecidableEq, Repr

/-- The tile in a core's tile buffer: tile number, the pixels of each colour target and of the depth target (1,024 each, row by
row), and the fragments (triangle, x, y) already tested with the result (R321). -/
structure OrgTile where
  tile : Nat
  bufs : List (List Nat)
  tested : List ((Nat × Nat × Nat) × Bool) := []
deriving DecidableEq, Repr

/-- A fetched pass that has not completed (R312 to R317): ring position and ENABLE count of its ring, record, target latch (as
the FRAMES count of its pipe), state (0 fetched, 1 checks 1 and 2 passed, 2 running, 3 pre-empted), descriptor, cores, start
time, status that ends it early, and for a render pass its triangles, next tile and open tile per core, tiles written; for a
compute pass the next group, the cores that run one, and the groups completed. -/
structure OrgPass where
  pos : Nat
  era : Nat
  raw : List Byte
  target : Nat
  state : Nat := 0
  desc : List Byte := []
  cores : List Nat := []
  start : Option Nat := none
  bad : Option Nat := none
  late : Bool := false
  preempted : Bool := false
  missed : Bool := false
  tris : Option (List OrgTri) := none
  nextTile : List (Nat × Nat) := []
  tile : List (Nat × OrgTile) := []
  nextGroup : Nat := 0
  busy : List Nat := []
  done : Nat := 0
deriving DecidableEq, Repr

/-- A pass ring: how often ENABLE was set, passes not completed in ring order, the window of R313, duplicate records that wait for
their original, and the completions written since ENABLE was set. -/
structure OrgRing where
  era : Nat := 0
  passes : List OrgPass := []
  window : List (Nat × Nat) := []
  dups : List OrgPass := []
  cpl : Nat := 0
deriving DecidableEq, Repr

/-- A shader core: its vector registers as the Orangery instructions see them (2,048 bits each), its residency cache as (address,
byte), the lines of its instruction cache (address, bytes), the dirty data of its write-back cache in order (address, bytes), its
group memory, and the vectors of 64 invocations of the group that it runs (R308, R327). -/
structure OrgCore where
  v : SMap Nat := []
  cache : List Host.Cell := []
  icache : List (Nat × List Byte) := []
  dcache : List (Nat × List Byte) := []
  group : Buf := {}
  vectors : Nat := 0
deriving DecidableEq, Repr

/-- The Orangery. Keys: Plot; core. -/
structure OrgSt where
  rings : SMap OrgRing := []
  cores : SMap OrgCore := []
deriving DecidableEq, Repr

/-- The settings of a plane: CFG, POS, SIZE, STRIDE and the buffer. -/
structure DspPlane where
  cfg : Nat := 0
  pos : Nat := 0
  size : Nat := 0
  stride : Nat := 0
  buf : Nat := 0
deriving DecidableEq, Repr

/-- A display pipe: active planes, committed planes that wait for the latch, the planes reprojected in the current frame with
their homography (nine FP32 words), the last homography read with GEN even, and whether the link is up. -/
structure DspPipe where
  planes : SMap DspPlane := []
  commits : SMap (Option DspPlane) := []
  reproj : List Nat := []
  hom : List Nat := []
  lastHom : Option (List Nat) := none
  link : Bool := false
deriving DecidableEq, Repr

/-- The display engine; `tt` is the telltale SRAM of all pipes (64 KiB each). -/
structure DspSt where
  pipes : SMap DspPipe := []
  tt : List Host.Cell := []
deriving DecidableEq, Repr

end Sys2Proof.Machine
end

