-- ==== Sys2Proof/Machine/StSns.lean ====
section
/-! DEFINITION. State of sensor ingest (spec/09): plain data. Times are device time in units of 2^-32 ns. -/

namespace Sys2Proof.Machine

/-- A line of a frame: its link bytes, arrival, whether it waits in a line buffer for its pipeline, and whether it was lost to
a full buffer (R295). -/
structure SnsLine where
  bytes : List Byte
  at_ : Nat
  waiting : Bool
  lost : Bool
deriving DecidableEq, Repr

/-- A frame between its Frame Start and its publication: frame count, golden slot (`noImage`: without an image, R300), Frame
Start and Frame End, FNUM, FLAGS of Table 09-2, the lines to be written, the sensor's lines received, whether each had the
expected length, whether reception ended, whether its deadline miss was reported, and CFG, BLACK and GAIN as latched. -/
structure SnsFrame where
  count : Nat
  golden : Bool
  noImage : Bool
  fs : Nat
  fe : Option Nat := none
  fnum : Nat
  flags : Nat
  lines : List SnsLine := []
  got : Nat := 0
  lenOk : Bool := true
  ended : Bool := false
  missed : Bool := false
  cfg : Nat
  black : Nat
  gain : Nat
deriving DecidableEq, Repr

/-- A stream: frames in progress (oldest first), the next frame count, the last accepted Frame Start since ENABLE, the missing
run and its counted periods, the repeat run, the last signature, whether FROZEN was logged for the run, the last non-zero
FNUM, STOPPED_OWNER, and what R304 needs of writes and packets of one cycle: RD before its last write and the device time of that, the
device time of the last setting of ENABLE, and LAST_FS before the last accepted Frame Start. -/
structure SnsStream where
  frames : List SnsFrame := []
  count : Nat := 0
  lastFs : Option Nat := none
  missing : Bool := false
  periods : Nat := 0
  run : Nat := 0
  lastSig : Option Nat := none
  frozen : Bool := false
  fnum : Nat := 0
  stopped : Bool := false
  rdWas : Nat := 0
  rdAt : Option Nat := none
  onAt : Option Nat := none
  fsWas : Nat := 0
deriving DecidableEq, Repr

/-- Sensor ingest: the streams, and when a valid packet header last arrived on each port. -/
structure SnsSt where
  streams : SMap SnsStream := []
  header : SMap (Option Nat) := []
deriving DecidableEq, Repr

end Sys2Proof.Machine
end

