-- ==== Sys2Proof/Machine/State.lean ====
section
/-! DEFINITION. The state of the block: every register, memory, queue, mode and pin that the spec gives the device, and
the queue of waiting commands. Plain data. -/

namespace Sys2Proof.Machine

/-- Why a command could stop. The device answers every access with a status and carries on, so no meaning raises a
fault at present; raising one would be safe. -/
inductive Fault where
  /-- Raised by no meaning: a command whose operands no hardware could produce. Safe. -/
  | illFormed
deriving DecidableEq, Repr

/-- Why a command has no meaning. -/
inductive Refusal where
  /-- Raised by `exec` for a row of the opcode table that the model gives no meaning. Safe. -/
  | notModelled (mnemonic : String)
deriving DecidableEq, Repr

/-- What the device sends out: never read back by the device. -/
inductive Out where
  /-- An interrupt to the cores of a Plot through the RISC-V AIA; `src` is its source ID register block and unit. -/
  | irq (plot : Nat) (src : Nat)
  /-- MSI-X vector `vec` of an instance. -/
  | msix (inst : Nat) (vec : Nat)
  /-- An MSI accepted by the interrupt file of a core. -/
  | msi (core : Nat) (value : Nat)
  /-- The interrupt of a GPIO pin to the cores of a Plot; `secureOnly` when only its secure-world cores get it. -/
  | pinIrq (plot : Nat) (pin : Nat) (secureOnly : Bool)
  /-- A completion of a DRAM request, to its master port: the stamp, address, whether a write, status and data. -/
  | memDone (st : Stamp) (addr : Nat) (write : Bool) (status : Nat) (data : List Byte)
  /-- A flit of an Eliravy port. -/
  | flit (port : Nat) (bytes : List Byte)
  /-- A CTRL message to a Grove device. -/
  | ctrl (dest : Nat) (c : Ctrl)
  /-- A link-delay message of a port: 0 Pdelay_Req, 1 Pdelay_Resp, 2 Pdelay_Resp_Follow_Up. -/
  | pdelay (port kind : Nat)
  /-- An Ethernet frame with its FCS on an external port. -/
  | eth (port : Nat) (bytes : List Byte)
  /-- A Sync on an external port (R380, R381): domain, originTimestamp (ns), correctionField (2^-16 ns), cumulativeScaledRateOffset. -/
  | sync (port domain origin : Nat) (corr csro : Int)
  /-- A CAN frame on the bus of a controller. -/
  | can (ctl : Nat) (frame : List Byte)
  /-- A LIN header, with the response data and checksum when the controller sends them. -/
  | lin (ctl : Nat) (pid : Nat) (response : List Byte)
  /-- A frame of a display pipe on its link: R, G and B codes of every pixel at LINK_BPP. -/
  | frame (pipe : Nat) (pixels : List Nat)
  /-- A completion of an inbound PCIe read of a function: 0 successful, 1 Unsupported Request, 4 Completer Abort. -/
  | pcieCpl (port func status : Nat) (data : List Byte)
  /-- A read request on a PCIe port: instance of FUNC, bus address, length, tag. -/
  | pcieRead (port func addr len tag : Nat)
  /-- A posted write on a PCIe port: instance of FUNC, bus address, data. -/
  | pcieWrite (port func addr : Nat) (data : List Byte)
  /-- A configuration request on a root port: CFG_ADDR, whether a write, data. -/
  | pcieCfg (port addr : Nat) (write : Bool) (data : Nat)
  /-- The answer to an access to the PCIe outbound window, to its requester. -/
  | outboundDone (st : Stamp) (addr status : Nat) (data : List Byte)
  /-- The answer to an access to a remote window, to its requester. -/
  | remoteDone (st : Stamp) (dest addr : Nat) (status : Nat) (data : List Byte)
deriving DecidableEq, Repr

/-- The state of the device. `dt` is device time in units of 2^-32 ns; `free` counts the free values taken (the model's
own field); `resp` is what the last access answered; `padLost` says what the bytes that `pads` does not list hold, newest
range first. `pins` holds the input level of every GPIO pin, `pinCtl` (key 4 × pin + control) what its owner set and `sysDma` (key
64 × channel + word) the words of the system DMA channels. -/
structure State where
  pending : List Instr
  dt : Nat
  free : Nat
  regs : SMap Word64
  resp : Resp
  out : List Out
  plan : Option Plan
  spl : SplSt
  dram : List Host.Cell
  pads : List Host.Cell
  padLost : List PadRange
  flash : List Host.Cell
  log : LogSt
  safe : SafeSt
  mem : MemSt
  tensor : TensorSt
  pwr : PwrSt
  kpr : KprSt
  gth : GthSt
  gls : GlsSt
  host : HostSt
  elx : ElxSt
  tim : TimSt
  net : NetSt
  sns : SnsSt
  org : OrgSt
  dsp : DspSt
  pins : Nat
  pinCtl : SMap Nat
  sysDma : SMap Nat
deriving DecidableEq, Repr

/-- The device before power-on reset: nothing powered, no plan, every register at its reset value, memory, flash and OTP
with nothing written. -/
def State.reset : State where
  pending := []
  dt := 0
  free := 0
  regs := []
  resp := {}
  out := []
  plan := none
  spl := {}
  dram := []
  pads := []
  padLost := []
  flash := []
  log := {}
  safe := {}
  mem := {}
  tensor := {}
  pwr := {}
  kpr := {}
  gth := {}
  gls := {}
  host := {}
  elx := {}
  tim := {}
  net := {}
  sns := {}
  org := {}
  dsp := {}
  pins := 0
  pinCtl := []
  sysDma := []

end Sys2Proof.Machine
end

