-- ==== Sys2Proof/Machine/Ops.lean ====
section
/-! DEFINITION. The named operations over the state: registers, fault records, stamps, DRAM with the owner check,
scratchpads, flash, free values and the register-write pipeline. -/

namespace Sys2Proof.Machine

/-! ### Time, free values, answers -/

/-- Device time in whole ns. -/
def State.now (s : State) : Nat := s.dt / 4294967296

/-- A fresh free value. -/
def State.fresh (s : State) : BitVec 64 × State := (Config.freeValue s.free, { s with free := s.free + 1 })

/-- `n` fresh free bytes. -/
def State.freshBytes (s : State) (n : Nat) : List Byte × State :=
  ((List.range n).map (fun i => Config.freeByte s.free i), { s with free := s.free + 1 })

/-- Answer an access. -/
def State.answer (s : State) (status : Nat) (data : List Byte) : State := { s with resp := ⟨status, data⟩ }

/-- Send something out. -/
def State.send (s : State) (o : Out) : State := { s with out := s.out ++ [o] }

/-- A device reset: everything returns to its value at reset but flash, OTP, the boot control block, the straps, and what
lies outside the device; VDD_AON and VDD_GTH stay up (R541). -/
def State.deviceReset (s : State) : State :=
  { State.reset with
    pending := s.pending, free := s.free, resp := s.resp, out := s.out, flash := s.flash,
    pwr := { por := s.pwr.por, rails := if s.pwr.por then 3 else 0, strapped := s.pwr.strapped, groveId := s.pwr.groveId,
             hostMode := s.pwr.hostMode },
    kpr := { bcb := s.kpr.bcb }, gls := { otp := s.gls.otp }, pins := s.pins }

/-! ### Registers -/

/-- The row of a register in its table. -/
def RegId.row (id : RegId) : Option RegDef := id.block.regs.find? (fun d => d.id == id)

/-- The key of a register instance in the register map. -/
def RegId.key (id : RegId) (ix : Nat) : Nat := 1048576 * id.ctorIdx + ix % 1048576

/-- The number of instances of a register. -/
def RegDef.count (d : RegDef) : Nat := d.dims.foldl (fun n p => n * p.2) 1

/-- The address of an instance of a register. -/
def RegDef.addr (d : RegDef) (ix : Nat) : Nat :=
  (d.dims.foldr (fun p (acc : Nat × Nat) => (acc.1 + p.1 * (acc.2 % p.2), acc.2 / p.2)) (d.base, ix)).1

/-- The reset value of an instance of a register. -/
def RegDef.resetVal (d : RegDef) (ix : Nat) : Nat :=
  match d.reset with
  | .value v => v
  | .plusIx v => v + ix
  | .portLimit => if ix < 144 then 400 else 300
  | .gwyPort => if ix < 2 then 5 else if ix < 6 then 4 else if ix < 14 then 1 else 4

/-- The bits of a register that are not reserved. -/
def RegDef.mask (d : RegDef) : Nat := d.rw ||| d.w1c ||| d.w1s ||| d.rc ||| d.wo ||| d.ro

/-- What a register key reads as when nothing is listed: the reset value. -/
def regDefault (k : Nat) : Word64 :=
  match regTable[k / 1048576]? with
  | some d => BitVec.ofNat 64 (d.resetVal (k % 1048576))
  | none => 0

/-- The stored value of a register. -/
def State.rd (s : State) (id : RegId) (ix : Nat) : Nat := (sget regDefault s.regs (id.key ix)).toNat

/-- Store a register. -/
def State.wr (s : State) (id : RegId) (ix v : Nat) : State :=
  { s with regs := sset regDefault s.regs (id.key ix) (BitVec.ofNat 64 v) }

/-- Add to a 32-bit counter that saturates. -/
def State.bump (s : State) (id : RegId) (ix n : Nat) : State := s.wr id ix (satAdd32 (s.rd id ix) n)

/-- Add to a 64-bit counter that wraps. -/
def State.count (s : State) (id : RegId) (ix n : Nat) : State := s.wr id ix (s.rd id ix + n)

/-- Set one bit of a register. -/
def State.setBitOf (s : State) (id : RegId) (ix b : Nat) : State := s.wr id ix (setBit (s.rd id ix) b)

/-- The ERR_REG of a block, if it has one. -/
def Block.errReg : Block → Option RegId
  | .gcr => none | .spl => some .splErrReg | .pav => some .pavErrReg | .bed => some .bedErrReg
  | .trl => some .trlErrReg | .mcc => some .mccErrReg | .own => some .ownErrReg | .qos => some .qosErrReg
  | .sns => some .snsErrReg | .org => some .orgErrReg | .dsp => some .dspErrReg | .gwy => some .gwyErrReg
  | .flw => some .flwErrReg | .can => some .canErrReg | .tim => some .timErrReg | .gth => some .gthErrReg
  | .gls => some .glsErrReg | .hif => some .hifErrReg | .elx => some .elxErrReg | .pct => some .pctErrReg
  | .cvu => some .cvuErrReg | .sem => some .semErrReg | .kpr => some .kprErrReg

/-- A block that has an ERR_REG per instance. -/
def Block.perUnit : Block → Bool
  | .mcc => true
  | .pav => true
  | .bed => true
  | .trl => true
  | _ => false

/-- Set a bit of the ERR_REG of a block, or of its instance where each has one. -/
def State.setErr (s : State) (b : Block) (inst bit : Nat) : State :=
  match b.errReg with
  | some id => s.setBitOf id (if b.perUnit then inst else 0) bit
  | none => s

/-- The address ranges of the units of a block that has one ERR_REG for all of them, as (base, stride, units, instance of the
first): DSP pipes and their telltale SRAM (R339), switch ports and internal ports, CAN and LIN controllers and check-value
units (R369), gPTP domains and link-delay ports (R387), CSI-2 ports and streams (R305), Eliravy ports (R281), root ports
(R500). -/
def Block.units : Block → List (Nat × Nat × Nat × Nat)
  | .sns => [(0x020004000100, 0x20, 12, 0), (0x020004004000, 0x80, 96, 0)]
  | .dsp => [(0x020005801000, 0x1000, 6, 0), (0x020005900000, 0x10000, 6, 0)]
  | .gwy => [(0x020006001000, 0x40, 22, 0), (0x020006004000, 0x80, 8, 14)]
  | .can => [(0x020006801000, 0x1000, 16, 0), (0x020006820000, 0x100, 4, 16)]
  | .tim => [(0x020007000100, 0x40, 4, 0), (0x020007001000, 0x10, 14, 16)]
  | .hif => [(0x02000A000100, 0x10, 3, 0)]
  | .elx => [(0x02000B001000, 0x40, 4, 0)]
  | .cvu => [(0x02000D000100, 0x100, 32, 0)]
  | _ => []

/-- The unit of a block that an address of its register space belongs to (R7); 0 for what belongs to no unit. -/
def Block.unitAt (b : Block) (a : Nat) : Nat :=
  (b.units.findSome? (fun u => if u.1 ≤ a ∧ a < u.1 + u.2.1 * u.2.2.1 then some ((a - u.1) / u.2.1 + u.2.2.2) else none)).getD 0

/-- The instance number of a register within its block (R7). -/
def RegDef.inst (d : RegDef) (ix : Nat) : Nat :=
  match d.block with
  | .mcc => ix / (d.count / 128)
  | .pav => ix / (d.count / 16)
  | .trl => ix / (d.count / 16)
  | .bed => ix / (d.count / 128)
  | b => b.unitAt (d.addr ix)

/-- A source block ID (R6, R7). -/
def srcId (b : Block) (inst : Nat) : Nat := b.code * 256 + inst % 256

/-! ### Fault records -/

/-- Entry to safe state (R417, R419): the first severity-4 record in the order of R18 is kept. -/
def State.enterSafe (s : State) (source cls : Nat) : State :=
  if s.safe.safe then
    if s.safe.time == s.now && decide (source < s.safe.source) then
      { s with safe := { s.safe with source := source, cls := cls } }
    else s
  else { s with safe := ⟨true, source, cls, s.now⟩ }

/-- Ask for the stop of a Plot (R19, R241). -/
def State.requestStop (s : State) (plot : Nat) : State :=
  if decide (plot < 16) && !s.tensor.stopReq.contains plot && !s.tensor.stopped.contains plot then
    { s with tensor := { s.tensor with stopReq := s.tensor.stopReq ++ [plot] } }
  else s

/-- Log a fault record and take the action of its severity (R16, R19). -/
def State.raise (s : State) (r : FaultRec) : State :=
  let s := { s with log := { s.log with raised := s.log.raised ++ [r] } }
  if r.severity == 4 then s.enterSafe r.source r.cls
  else if r.severity == 3 then s.requestStop r.plot
  else s

/-- Log a record whose status the manual does not state: one of the codes of Table 00-5, free. -/
def State.raiseOpen (s : State) (r : FaultRec) : State :=
  let (x, s) := s.fresh
  s.raise { r with status := x.toNat % 14 }

/-- A record of a block at this device time. -/
def State.mkRec (s : State) (b : Block) (inst cls severity status : Nat) : FaultRec :=
  { time := s.now, source := srcId b inst, cls := cls, severity := severity, status := status }

/-- The 32 bytes of a fault record (Table 00-6). -/
def FaultRec.bytes (r : FaultRec) : List Byte :=
  leBytes 8 r.time ++ leBytes 2 r.source ++ leBytes 1 r.cls ++ leBytes 1 r.severity ++ leBytes 1 r.status
    ++ leBytes 1 r.plot ++ leBytes 2 r.ctx ++ leBytes 8 r.addr ++ leBytes 8 r.detail

/-! ### Plots and requesters -/

/-- The class label of a requester of a kind of Table 01-10 (R32). -/
def State.classOf (s : State) (kind ix plot : Nat) : Nat :=
  match s.plan with
  | some p => p.classOf kind ix plot
  | none => 0

/-- The Plot that owns an index of a kind; 0xFF for none. -/
def State.ownerOf (s : State) (kind ix : Nat) : Nat :=
  match s.plan with
  | some p => (p.owner kind ix).getD 0xFF
  | none => 0xFF

/-- A Plot's record. -/
def State.plotRec (s : State) (plot : Nat) : Option PlotRec := s.plan.bind (fun p => p.plot? plot)

/-- A Plot is a SECURE Plot. -/
def State.plotSecure (s : State) (plot : Nat) : Bool := ((s.plotRec plot).map (·.secure)).getD false

/-- ATTR.SECURE of the assignment of an index. -/
def State.secureAttr (s : State) (kind ix : Nat) : Bool := (s.plan.map (fun p => p.secureAttr kind ix)).getD false

/-- A Plot's DEFAULT_CLASS. -/
def State.defaultClass (s : State) (plot : Nat) : Nat := ((s.plotRec plot).map (·.defaultClass)).getD 0

/-- A Plot runs: it is defined, the boot reached RUN, and it is not stopped (SPL_PLOT_p.STATE 1). -/
def State.plotRunning (s : State) (plot : Nat) : Bool :=
  (s.plotRec plot).isSome && s.kpr.reached && !s.tensor.stopped.contains plot

/-- The context's state. -/
def State.ctx? (s : State) (c : Nat) : Option CtxSt := sget (fun _ => none) s.tensor.ctxs c

/-- The enclave of a context. -/
def State.enclaveOf (s : State) (c : Nat) : Option (Nat × EncSt) :=
  s.gls.enclaves.findSome? (fun e => match e.2 with
    | some x => if x.ctx == c then some (e.1, x) else none
    | none => none)

/-- A Bed's state. -/
def State.bed (s : State) (n : Nat) : BedSt := sget (fun _ => {}) s.tensor.beds n

/-- Change a Bed's state. -/
def State.setBed (s : State) (n : Nat) (b : BedSt) : State :=
  { s with tensor := { s.tensor with beds := sset (fun _ => {}) s.tensor.beds n b } }

/-- The class of the command whose operator runs on a Bed, else its Plot's default (R32). -/
def State.bedClass (s : State) (n plot : Nat) : Nat :=
  match (s.bed n).running with
  | some r => s.classOf 0x05 r.queue plot
  | none => s.defaultClass plot

/-- The class of the RUN that a Pavilion has started for a context, whose Trellis requests it stamps (R211); the Plot's
DEFAULT_CLASS when none runs. -/
def State.trellisClass (s : State) (pav ctx plot : Nat) : Nat :=
  match s.tensor.flights.find? (fun f => f.cmd.ctx == ctx &&
      f.ops.any (fun o => o.pav == pav && o.started && o.status.isNone)) with
  | some f => s.classOf 0x05 f.queue plot
  | none => s.defaultClass plot

/-- The stamp of a request for a context from a Bed or Trellis port. -/
def State.ctxStamp (s : State) (port ctx cls : Nat) : Stamp :=
  let plot := ((s.ctx? ctx).map (·.plot)).getD 0xFF
  ⟨port, plot, cls, (s.enclaveOf ctx).isSome, ctx⟩

/-- The five items that the master port stamps (R59, Table 02-3, Table 14-1, R467). DESIGN CHOICE: the Gatehouse, the Keeper
and the Glasshouse have no Plot and no class record for their own accesses; they carry class 7, 0 and 0. -/
def State.stampOf (s : State) : Who → Stamp
  | .core n =>
    let plot := s.ownerOf 0x01 n.val
    ⟨144 + n.val / 4, plot, s.classOf 0x01 n.val plot, s.plotSecure plot, 0xFFFF⟩
  | .bed n ctx => s.ctxStamp n.val ctx.val (s.bedClass n.val (((s.ctx? ctx.val).map (·.plot)).getD 0xFF))
  | .trellis p ctx =>
    s.ctxStamp (128 + p.val) ctx.val (s.trellisClass p.val ctx.val (((s.ctx? ctx.val).map (·.plot)).getD 0xFF))
  | .orangery c =>
    let plot := s.ownerOf 0x0F c.val
    ⟨148, plot, s.defaultClass plot, false, 0xFFFF⟩
  | .display pipe =>
    let plot := s.ownerOf 0x0E pipe.val
    ⟨149, plot, s.classOf 0x0E pipe.val plot, false, 0xFFFF⟩
  | .sensor st =>
    let plot := ((s.plan.bind (fun p => p.stream st.val)).map (·.plot)).getD 0xFF
    ⟨150, plot, s.classOf 0x10 st.val plot, false, 0xFFFF⟩
  | .gateway plot => ⟨151, plot.val, s.defaultClass plot.val, false, 0xFFFF⟩
  | .host i =>
    let plot := s.ownerOf 0x04 i.val
    ⟨152, plot, s.defaultClass plot, false, 0x8000 + i.val⟩
  | .dma ch =>
    let plot := s.ownerOf 0x07 ch.val
    ⟨153, plot, s.classOf 0x07 ch.val plot, s.secureAttr 0x07 ch.val, 0xFFFF⟩
  | .eliravy port plot cls ctx => ⟨154 + port.val, plot.val, cls.val, false, ctx.toNat⟩
  | .gatehouse => ⟨158, 0xFF, 7, false, 0xFFFF⟩
  | .keeper => ⟨159, 0xFF, 0, false, 0xFFFF⟩
  | .glasshouse => ⟨160, 0xFF, 0, true, 0xFFFF⟩

/-- The stamp of a Gatehouse access that serves a rule, golden test or stream setting of a Plot (R394). -/
def State.ruleStamp (s : State) (plot : Nat) : Stamp := ⟨158, plot, 7, s.plotSecure plot, 0xFFFF⟩

/-- The requester is an application core of a Plot. -/
def State.isCoreOf (s : State) (who : Who) (plot : Nat) : Bool :=
  match who with
  | .core n => s.ownerOf 0x01 n.val == plot && decide (plot < 16)
  | _ => false

/-- The requester is the Keeper. -/
def isKeeper : Who → Bool
  | .keeper => true
  | _ => false

/-- The requester is the Gatehouse. -/
def isGatehouse : Who → Bool
  | .gatehouse => true
  | _ => false

/-- A self-test slice runs on a unit of a kind of Table 13-5. -/
def State.slicing (s : State) (kind unit : Nat) : Bool :=
  (sget (fun _ => ({} : RoundSt)) s.gth.rounds (128 * kind + unit)).started.isSome

/-- A record with the writer's Plot and context or instance, and an address. -/
def FaultRec.by (r : FaultRec) (st : Stamp) (addr : Nat) : FaultRec :=
  { r with plot := st.plot, ctx := st.ctx, addr := addr }

/-! ### DRAM: translation and owner check -/

/-- The bytes of DRAM (R4). -/
abbrev dramSize : Nat := 0x2000000000
/-- The reserved top 1 GiB (R5). -/
abbrev reservedBase : Nat := 0x1FC0000000
/-- First address of the Keeper range (Table 02-2). -/
abbrev keeperBase : Nat := 0x1FC4000000
/-- First address of the Gatehouse range (Table 02-2). -/
abbrev gthBase : Nat := 0x1FFC000000

/-- The channel and channel page of an address of the reserved range (R57). -/
def reservedPage (a : Nat) : Nat × Nat :=
  let k := (a - reservedBase) / 8192
  (k % 128, 130048 + k / 128)

/-- The channel and channel page of an address in a region (R54). -/
def Plan.page (p : Plan) (r : RegionRec) (a : Nat) : Nat × Nat :=
  let k := (a - r.base) / 8192
  let c := r.channels.getD (k % r.n) 0
  (c, p.cbase c r + k / r.n)

/-- The channel and channel page of a DRAM address; none in no region or outside DRAM. -/
def State.pageOf (s : State) (a : Nat) : Option (Nat × Nat) :=
  if reservedBase ≤ a ∧ a < dramSize then some (reservedPage a)
  else match s.plan with
    | some p => (p.region a).map (fun r => p.page r a)
    | none => none

/-- The physical address of the first byte of a channel page, if it lies in a region or in the reserved range. -/
def State.addrOfPage (s : State) (c j : Nat) : Option Nat :=
  if 130048 ≤ j then some (reservedBase + 8192 * ((j - 130048) * 128 + c))
  else match s.plan with
    | none => none
    | some p => ((p.channelRegions c).find? (fun r =>
        decide (p.cbase c r ≤ j) && decide (j < p.cbase c r + r.length / r.n / 8192))).map (fun r =>
          r.base + 8192 * ((j - p.cbase c r) * r.n + ((firstIdx (· == c) r.channels).getD 0)))

/-- What the accepted plan gives the entry of a channel page (R43, Table 02-2, Table 02-4). -/
def State.entryDefault (s : State) (c j : Nat) : Nat :=
  if 130048 ≤ j then
    let a := reservedBase + 8192 * ((j - 130048) * 128 + c)
    0x30 + (if a < keeperBase then 0 else if a < gthBase then 1 else 2)
  else match s.plan with
    | none => 0
    | some p => match (p.channelRegions c).find? (fun r =>
        decide (p.cbase c r ≤ j) && decide (j < p.cbase c r + r.length / r.n / 8192)) with
      | some r => r.plot + 0x10 + (if r.secure then 0x40 else 0)
      | none => 0

/-- The owner-table entry of a channel page. -/
def State.entry (s : State) (c j : Nat) : Nat :=
  sget (fun k => s.entryDefault (k / 131072) (k % 131072)) s.mem.entries (131072 * c + j)

/-- Write an owner-table entry. -/
def State.setEntry (s : State) (c j v : Nat) : State :=
  { s with mem := { s.mem with
      entries := sset (fun k => s.entryDefault (k / 131072) (k % 131072)) s.mem.entries (131072 * c + j) v } }

/-- STATE of an entry. -/
def entryState (e : Nat) : Nat := bits e 5 4
/-- PLOT of an entry. -/
def entryPlot (e : Nat) : Nat := bits e 3 0
/-- SUB of an entry. -/
def entrySub (e : Nat) : Nat := bits e 19 8

/-- A request's context or instance meets SUB (step 5 of Table 02-5). -/
def subOk (sub : Nat) (st : Stamp) : Bool :=
  let kind := bits sub 11 10
  kind == 0 || (decide (144 ≤ st.port) && decide (st.port ≤ 147))
    || (kind == 1 && st.ctx == bits sub 9 0)
    || (kind == 2 && bits sub 9 5 == 0 && st.ctx == 0x8000 + bits sub 4 0)

/-- Who may access the reserved range (R58). -/
def reservedOk (st : Stamp) (a : Nat) : Bool :=
  st.plot == 0xFF &&
    (st.port == 160 || (st.port == 159 && decide (keeperBase ≤ a) && decide (a < gthBase))
      || (st.port == 158 && decide (gthBase ≤ a)))

/-- The owner check of a DRAM address (R56, R58, R63, R74): the reason code of a refusal, or none. -/
def State.ownerCheck (s : State) (st : Stamp) (a : Nat) (write : Bool) : Option Nat :=
  if reservedBase ≤ a then
    (if !reservedOk st a then some 0x08
     else if entryState (s.entry (reservedPage a).1 (reservedPage a).2) == 2 then some 0x04
     else none)
  else match s.plan with
    | none => some 0x01
    | some p => match p.region a with
      | none => some 0x01
      | some r =>
        let (c, j) := p.page r a
        let e := s.entry c j
        if st.plot ≠ r.plot then some 0x02
        else if entryState e == 2 then some 0x04
        else if entryState e ≠ 1 || entryPlot e ≠ st.plot then some 0x03
        else if (r.secure || bit e 6) && !st.secure then some 0x05
        else if !subOk (entrySub e) st then some 0x06
        else if write && bit e 7 then some 0x07
        else none

/-- Detail of an OWNER record of a refused DRAM request (Table 02-6). -/
def ownerDetail (reason : Nat) (st : Stamp) (write : Bool) : Nat :=
  reason + 256 * b2n write + 65536 * st.port + 16777216 * (st.cls % 8)

/-- Log the refusal of a DRAM request: by the QOS block for NO_REGION (R56), else by the MCC of the channel (R64). -/
def State.logRefusal (s : State) (st : Stamp) (a reason : Nat) (write : Bool) : State :=
  let r := match s.pageOf a with
    | some (c, _) => if reason == 1 then s.mkRec .qos 0 fcOWNER 2 stOWNER_FAULT
        else s.mkRec .mcc c fcOWNER 2 stOWNER_FAULT
    | none => s.mkRec .qos 0 fcOWNER 2 stOWNER_FAULT
  s.raise { r.by st a with detail := ownerDetail reason st write }

/-! ### DRAM contents -/

/-- The owner-table entry that holds a byte of the owner table (inverse of R62): channel and page. -/
def tablePage (a : Nat) : Nat × Nat :=
  let off := a - reservedBase
  (off / 8192 % 128, 2048 * (off / 8192 / 128) + off % 8192 / 4)

/-- One byte of DRAM: of the owner table from the entries, elsewhere as written (0 when nothing has). -/
def State.dramByte (s : State) (a : Nat) : Byte :=
  if reservedBase ≤ a ∧ a < keeperBase then
    let (c, j) := tablePage a
    BitVec.ofNat 8 (s.entry c j / 256 ^ (a % 4))
  else sget (fun _ => 0) s.dram a

/-- Store one byte of DRAM. -/
def State.setDramByte (s : State) (a : Nat) (b : Byte) : State :=
  if reservedBase ≤ a ∧ a < keeperBase then
    let (c, j) := tablePage a
    s.setEntry c j (setField (s.entry c j) (8 * (a % 4)) 8 b.toNat)
  else { s with dram := sset (fun _ => 0) s.dram a b }

/-- Read DRAM without a check. -/
def State.dramGet (s : State) (a n : Nat) : List Byte := (List.range n).map (fun i => s.dramByte (a + i))

/-- Write DRAM without a check. -/
def State.dramPut (s : State) (a : Nat) : List Byte → State
  | [] => s
  | b :: r => (s.setDramByte a b).dramPut (a + 1) r

/-- The pieces of an access that lie in one 8 KiB page each, as (address, length). -/
def pagePieces (a n : Nat) : List (Nat × Nat) :=
  if n = 0 then []
  else (List.range ((a + n - 1) / 8192 - a / 8192 + 1)).map (fun i =>
    let lo := max a (8192 * (a / 8192 + i))
    (lo, min (a + n) (8192 * (a / 8192 + i + 1)) - lo))

/-- The first piece of an access that the owner check refuses, with its reason. -/
def State.firstRefused (s : State) (st : Stamp) (a n : Nat) (write : Bool) : Option (Nat × Nat) :=
  (pagePieces a n).findSome? (fun p => (s.ownerCheck st p.1 write).map (fun r => (p.1, r)))

/-- A channel that carries no data of the Keeper and the Gatehouse until the next reset: skipped at DRAM training (R510), or
under the overflow marker (R76). -/
def State.channelOut (s : State) (c : Nat) : Bool := bit s.kpr.skipped c || bit s.kpr.overflow c

/-- The Keeper places data on its reserved pages, but for those that lie on a channel it leaves out (R510). -/
def State.reservedPut (s : State) (a : Nat) (data : List Byte) : State :=
  (pagePieces a data.length).foldl (fun (s : State) p =>
    if s.channelOut (reservedPage p.1).1 then s else s.dramPut p.1 (sub data (p.1 - a) p.2)) s

/-! ### Scratchpads, flash -/

/-- The address of a scratchpad byte in the map of all scratchpads. -/
def padAddr (bed off : Nat) : Nat := 2097152 * bed + off

/-- What a scratchpad byte that is not listed holds: the newest range that covers it says, and zero where none does. -/
def padDefault (l : List PadRange) (a : Nat) : Byte :=
  match (l.find? (fun r => decide (r.lo ≤ a) && decide (a < r.hi))).bind (·.lost) with
  | some n => Config.freeByte n a
  | none => 0

/-- Read the scratchpads by address. -/
def State.padBytes (s : State) (a n : Nat) : List Byte := readBytes (padDefault s.padLost) s.pads a n

/-- Write the scratchpads by address. -/
def State.padWrite (s : State) (a : Nat) (data : List Byte) : State :=
  { s with pads := writeBytes (padDefault s.padLost) s.pads a data }

/-- Read a Bed's scratchpad. -/
def State.padGet (s : State) (bed off n : Nat) : List Byte := s.padBytes (padAddr bed off) n

/-- Write a Bed's scratchpad. -/
def State.padPut (s : State) (bed off : Nat) (data : List Byte) : State := s.padWrite (padAddr bed off) data

/-- A range of the scratchpads loses its contents to zeros or to free values; older ranges inside it no longer matter, and over
memory that was never lost a range of zeros says nothing. -/
def State.padReset (s : State) (r : PadRange) : State :=
  let older := s.padLost.filter (fun x => !(decide (r.lo ≤ x.lo) && decide (x.hi ≤ r.hi)))
  let untouched := older.all (fun x => decide (x.hi ≤ r.lo) || decide (r.hi ≤ x.lo))
  { s with pads := sclear s.pads r.lo (r.hi - r.lo), padLost := if r.lost.isNone && untouched then older else r :: older }

/-- Clear a range of a Bed's scratchpad. -/
def State.padClear (s : State) (bed off n : Nat) : State := s.padReset ⟨padAddr bed off, padAddr bed off + n, none⟩

/-- A range of a Bed's scratchpad no longer holds defined values. -/
def State.padLose (s : State) (bed off n : Nat) : State :=
  { s.padReset ⟨padAddr bed off, padAddr bed off + n, some s.free⟩ with free := s.free + 1 }

/-- Read the boot flash; an erased byte reads 0xFF. -/
def State.flashGet (s : State) (a n : Nat) : List Byte := readBytes oneAt s.flash a n

/-- Write the boot flash. -/
def State.flashPut (s : State) (a : Nat) (data : List Byte) : State :=
  { s with flash := writeBytes oneAt s.flash a data }

/-- Erase a range of the boot flash. -/
def State.flashErase (s : State) (a n : Nat) : State := { s with flash := sclear s.flash a n }

/-! ### The register-write pipeline -/

/-- An access of the wrong size or alignment (R9). -/
def State.sizeRefused (s : State) (st : Stamp) (b : Block) (inst addr : Nat) : State :=
  (s.setErr b inst 1).raise ((s.mkRec b inst fcACCESS_SIZE 0 stREFUSED_FORMAT).by st addr)

/-- Bits that hardware sets in the cycle of an access, which the access does not take away (R12, R13). -/
def State.hwSet (s : State) (d : RegDef) (ix bits : Nat) : State :=
  if bits = 0 then s else s.wr d.id ix (s.rd d.id ix ||| bits)

/-- A write ignored under R11. -/
def State.reservedRefused (s : State) (st : Stamp) (b : Block) (inst addr : Nat) : State :=
  (s.setErr b inst 0).raise ((s.mkRec b inst fcRESERVED_WRITE 0 stREFUSED_FORMAT).by st addr)

/-- A write ignored under R48 (R42). -/
def State.lockRefused (s : State) (st : Stamp) (b : Block) (addr : Nat) : State :=
  s.raise { (s.mkRec .spl 0 0x13 0 stREFUSED_PLAN).by st addr with detail := b.code + 65536 * st.port }

/-- Why a block's writer rule refuses a write: the bit of ERR_REG it sets, and the record's class, status and detail
(the writer's Plot, context and the register's address are added). -/
structure WRefusal where
  errBit : Option Nat
  inst : Nat
  cls : Nat := 0x04
  severity : Nat := 0
  status : Nat := 0x07
  detail : Nat
deriving DecidableEq, Repr

/-- A write that a writer rule refuses; in a block of units, the record names the unit of the address (R7). -/
def State.writerRefused (s : State) (st : Stamp) (b : Block) (addr : Nat) (w : WRefusal) : State :=
  let inst := if b.units.isEmpty then w.inst else b.unitAt addr
  let s := match w.errBit with
    | some e => s.setErr b w.inst e
    | none => s
  s.raise { (s.mkRec b inst w.cls w.severity w.status).by st addr with detail := w.detail }

/-- What a write leaves in a register: RW bits from the value, W1C bits cleared, W1S bits set, and the bits that hardware
sets in the same cycle (R10, R12). Write-only bits are not held. -/
def RegDef.merge (d : RegDef) (old v hw : Nat) : Nat :=
  let all := 0xFFFFFFFFFFFFFFFF
  ((old &&& (all ^^^ d.rw)) ||| (v &&& d.rw)) &&& (all ^^^ (v &&& d.w1c)) ||| (v &&& d.w1s) ||| (hw &&& d.w1c)

/-- The checks and the store of a register write, in the order size (R9), plan lock (R48), writer, reserved bits and
encodings (R11). `writer` is the block's refusal, `enc` says that every field holds a valid encoding, and `store` makes
the write with its effects. -/
def State.regWrite (s : State) (st : Stamp) (id : RegId) (ix size v : Nat) (writer : Option WRefusal) (enc : Bool)
    (store : State → State) : State :=
  match id.row with
  | none => s
  | some d =>
    if size * 8 ≠ d.width then s.sizeRefused st d.block (d.inst ix) (d.addr ix)
    else if d.locked then s.lockRefused st d.block (d.addr ix)
    else match writer with
      | some w => s.writerRefused st d.block (d.addr ix) w
      | none =>
        if v &&& (0xFFFFFFFFFFFFFFFF ^^^ d.mask) ≠ 0 || !enc then s.reservedRefused st d.block (d.inst ix) (d.addr ix)
        else store s

/-- The plain store of a register write. -/
def State.regStore (s : State) (id : RegId) (ix v hw : Nat) : State :=
  match id.row with
  | some d => s.wr id ix (d.merge (s.rd id ix) v hw)
  | none => s

end Sys2Proof.Machine
end

