-- ==== Sys2Proof/Machine/Memory.lean ====
section
/-! DEFINITION. The DRAM pipeline of spec/02: master ports and hold queues (R59, R82, R83), guarantees and token buckets
(R78 to R81), the order in which an MCC serves (R84, R87), the owner check, ECC and retirement (R72 to R77), and the
views of the MCC and QOS registers. -/

namespace Sys2Proof.Machine

/-! ### Retirement and ECC -/

/-- The listed owner entries of a channel, as (page, entry). -/
def State.channelEntries (s : State) (c : Nat) : List (Nat × Nat) :=
  (srange s.mem.entries (131072 * c) 131072).map (fun e => (e.1 % 131072, e.2))

/-- Pages of a channel with STATE RETIRED. -/
def State.retiredCount (s : State) (c : Nat) : Nat := ((s.channelEntries c).filter (fun e => entryState e.2 == 2)).length

/-- Pages of a channel with RETIRE_PENDING. -/
def State.pendingCount (s : State) (c : Nat) : Nat := ((s.channelEntries c).filter (fun e => bit e.2 24)).length

/-- Pages of a channel that are retired or pending. -/
def State.badPages (s : State) (c : Nat) : Nat :=
  ((s.channelEntries c).filter (fun e => entryState e.2 == 2 || bit e.2 24)).length

/-- The retirement list of a channel in flash (Table 16-1). -/
def State.retireList (s : State) (c : Nat) : List Nat :=
  (List.range 256).map (fun i => leNat (s.flashGet (0x30000 + 1024 * c + 4 * i) 4))

/-- Write a channel's retirement list. -/
def State.putRetireList (s : State) (c : Nat) (l : List Nat) : State :=
  s.flashPut (0x30000 + 1024 * c) (l.flatMap (leBytes 4))

/-- The Keeper records a page in the retirement list (R76); more than 256 bad pages raise RETIRE_LIMIT once and put the
overflow marker in every entry. -/
def State.recordRetire (s : State) (c j : Nat) : State :=
  let total := s.badPages c
  if 256 < total then
    let s := if s.mem.retireLogged.contains c then s
      else { (s.raise { (s.mkRec .mcc c 0x13 0 stDONE) with detail := total }) with
        mem := { s.mem with retireLogged := s.mem.retireLogged ++ [c] } }
    s.putRetireList c (List.replicate 256 0xFFFFFFFE)
  else
    let l := s.retireList c
    if l.contains j then s
    else match firstIdx (· == 0xFFFFFFFF) l with
      | some i => s.putRetireList c (setAt l i j)
      | none => s

/-- The Plot and context that an ECC record carries: the request's, or for a scrub the page's owner. -/
def State.pagePlot (s : State) (c j : Nat) : Nat :=
  let e := s.entry c j
  if entryState e == 1 || entryState e == 2 then entryPlot e else 0xFF

/-- A corrected on-die error (R72, R75). -/
def State.eccOnDie (s : State) (c j a plot ctx : Nat) : State :=
  let e := s.entry c j
  let n := min 15 (bits e 23 20 + 1)
  let s := ((s.setEntry c j (setField e 20 4 n)).bump .mccCeCount c 1).wr .mccLastErrAddr c a
  let s := s.raise { (s.mkRec .mcc c fcECC_CORRECTED 1 stDONE) with plot := plot, ctx := ctx, addr := a }
  let lim := bits (s.rd .mccEccCfg c) 3 0
  if lim ≠ 0 ∧ lim ≤ n ∧ !bit e 24 then
    let s := s.setEntry c j (setBit (s.entry c j) 24)
    let s := s.raise { (s.mkRec .mcc c 0x10 1 stDONE) with plot := plot, ctx := ctx, addr := a, detail := n }
    s.recordRetire c j
  else s

/-- An uncorrectable error (R74): the page is retired; `link` tells a link error from an on-die one. -/
def State.eccFatal (s : State) (c j a plot ctx : Nat) (link : Bool) : State :=
  let s := ((s.setEntry c j (setField (s.entry c j) 4 2 2)).bump .mccUeCount c 1).wr .mccLastErrAddr c a
  let s := s.raise { (s.mkRec .mcc c fcECC_UNCORRECTED (if 130048 ≤ j then 4 else 2) stHW_ERROR) with
    plot := plot, ctx := ctx, addr := a, detail := b2n link }
  s.recordRetire c j

/-- One retry of a beat (R73). -/
def State.linkRetry (s : State) (c a plot ctx : Nat) : State :=
  ((s.bump .mccLinkRetry c 1).wr .mccLastErrAddr c a).raise
    { (s.mkRec .mcc c 0x11 1 stDONE) with plot := plot, ctx := ctx, addr := a }

/-- What a read meets (R72 to R74): whether its data is good. -/
def State.eccRead (s : State) (c j a plot ctx : Nat) : EccEvent → State × Bool
  | .clean => (s, true)
  | .onDieCorrected => (s.eccOnDie c j a plot ctx, true)
  | .onDieUncorrectable => (s.eccFatal c j a plot ctx false, false)
  | .linkCorrected =>
    (((s.bump .mccLinkRetry c 1).wr .mccLastErrAddr c a).raise
      { (s.mkRec .mcc c fcECC_CORRECTED 1 stDONE) with plot := plot, ctx := ctx, addr := a, detail := 1 }, true)
  | .linkRetried n =>
    (if n.val = 2 then (s.linkRetry c a plot ctx).linkRetry c a plot ctx
      else if n.val = 1 then s.linkRetry c a plot ctx else s, true)
  | .linkFailed => (((s.linkRetry c a plot ctx).linkRetry c a plot ctx).eccFatal c j a plot ctx true, false)

/-- What a write meets on the link (R73): the bytes stored, and whether the beat arrived. On-die ECC concerns reads. DESIGN
CHOICE: R73 states no end for a write whose third attempt fails; it completes with HW_ERROR and its bytes are free. -/
def State.eccWrite (s : State) (c a plot ctx : Nat) (data : List Byte) : EccEvent → State × List Byte × Bool
  | .linkCorrected => ((s.eccRead c 0 a plot ctx .linkCorrected).1, data, true)
  | .linkRetried n => ((s.eccRead c 0 a plot ctx (.linkRetried n)).1, data, true)
  | .linkFailed =>
    let r := ((s.linkRetry c a plot ctx).linkRetry c a plot ctx).freshBytes data.length
    (r.2, r.1, false)
  | .clean => (s, data, true)
  | .onDieCorrected => (s, data, true)
  | .onDieUncorrectable => (s, data, true)

/-! ### Ports -/

/-- An address in one of the ranges of Table 00-2 (R4). -/
def listedAddr (a : Nat) : Bool :=
  decide (a < dramSize) || (decide (0x010000000000 ≤ a) && decide (a < 0x010010000000))
    || (decide (0x020000000000 ≤ a) && decide (a < 0x020010000000))
    || (decide (0x030000000000 ≤ a) && decide (a < 0x030000100000))
    || (decide (0x030010000000 ≤ a) && decide (a < 0x030020000000))
    || (decide (0x040000000000 ≤ a) && decide (a < 0x050000000000))
    || (decide (0x080000000000 ≤ a) && decide (a < 0x0A0000000000))

/-- An access to the Glasshouse's secure SRAM or the boot ROM (Table 00-2). Only the Glasshouse reaches the SRAM (R444), and not while
a wipe runs (R457). DESIGN CHOICE: any requester reads the boot ROM, and a write of it changes nothing. -/
def State.glsMemory (s : State) (who : Who) (a n : Nat) (write : Bool) (data : List Byte) : State :=
  let none_ : List Byte := if write then [] else zeros n
  if 0x030010000000 ≤ a then s.answer stDONE (if write then [] else (List.range n).map (fun i => Config.bootRom (a - 0x030010000000 + i)))
  else if who ≠ .glasshouse then s.answer stOWNER_FAULT none_
  else if s.gls.wiping.isSome then s.answer stBUSY none_
  else if write then { s with gls := { s.gls with sram := writeBytes zeroAt s.gls.sram (a - 0x030000000000) data } }.answer stDONE []
  else s.answer stDONE (readBytes zeroAt s.gls.sram (a - 0x030000000000) n)

/-- The address is in the Glasshouse's SRAM or the boot ROM. -/
def inGlsMemory (a : Nat) : Bool := decide (0x030000000000 ≤ a) && decide (a < 0x030020000000)

/-- What an access gets that is not one to DRAM: an answer at the Glasshouse's memories, OWNER_FAULT outside every range of Table
00-2 (R4); the other ranges have rows of their own. -/
def State.otherAccess (s : State) (who : Who) (a n : Nat) (write : Bool) (data : List Byte) : State :=
  if !listedAddr a then s.answer stOWNER_FAULT (if write then [] else zeros n)
  else if inGlsMemory a then s.glsMemory who a n write data
  else s

/-- A request may exist: 64, 128 or 256 bytes, naturally aligned, within DRAM, with as many data bytes as it writes
(R51). -/
def requestOk (a n : Nat) (write : Bool) (data : List Byte) : Bool :=
  (n == 64 || n == 128 || n == 256) && a % n == 0 && decide (a + n ≤ dramSize) && (!write || data.length == n)

/-- The hold-queue index of a stamp (R82); 128 for a requester without Plot. -/
def holdIdx (st : Stamp) : Nat := if st.plot < 16 then 8 * st.plot + st.cls % 8 else 128

/-- The state of a master port. -/
def State.port (s : State) (q : Nat) : PortSt := sget (fun _ => {}) s.mem.ports q

/-- Change a master port. -/
def State.setPort (s : State) (q : Nat) (p : PortSt) : State :=
  { s with mem := { s.mem with ports := sset (fun _ => {}) s.mem.ports q p } }

/-- The state of an MCC. -/
def State.mccOf (s : State) (c : Nat) : MccSt := sget (fun _ => {}) s.mem.mcc c

/-- Change an MCC. -/
def State.setMcc (s : State) (c : Nat) (m : MccSt) : State :=
  { s with mem := { s.mem with mcc := sset (fun _ => {}) s.mem.mcc c m } }

/-- A master issues a request (R59): the port refuses an address of no region itself (R56), else it holds the request. -/
def State.issue (s : State) (st : Stamp) (a n : Nat) (write : Bool) (data : List Byte) (cached : Bool) : State :=
  let s := if st.plot < 16 then s.count .qosReq (8 * st.plot + st.cls % 8) 1 else s
  match s.pageOf a with
  | none => (s.logRefusal st a 0x01 write).answer stOWNER_FAULT (if write then [] else zeros n)
  | some _ =>
    let p := s.port st.port
    let q := sget (fun _ => []) p.hold (holdIdx st)
    s.setPort st.port { p with
      hold := sset (fun _ => []) p.hold (holdIdx st) (q ++ [⟨st, a, n, write, data, s.now, cached⟩]) }

/-! ### Guarantees -/

/-- The rate of a Plot and class on a channel under the accepted plan (R579). -/
def State.guar (s : State) (c plot cls : Nat) : Nat :=
  if plot < 16 then (s.plan.map (fun p => p.guar c plot cls)).getD 0 else 0

/-- Reserved slots of a rate (R79). -/
def slotsFor (mbps : Nat) : Nat := ceilDiv mbps 256

/-- Reserved slots of a channel. -/
def State.reservedSlots (s : State) (c : Nat) : Nat :=
  match s.plan with
  | some p => sumL ((p.guarKeys c).map (fun k => slotsFor (p.guar c k.1 k.2)))
  | none => 0

/-- The bucket of a Plot and class on a channel, filled up to now (R80). -/
def State.bucketNow (s : State) (c plot cls : Nat) : Bucket :=
  let b := sget (fun _ => {}) s.mem.buckets (c * 128 + 8 * plot + cls)
  { missing := b.missing - (s.dt - b.at_) * s.guar c plot cls, at_ := s.dt }

/-- The bucket holds at least `n` bytes (R80). -/
def State.bucketHas (s : State) (c plot cls n : Nat) : Bool :=
  decide ((s.bucketNow c plot cls).missing + 4294967296 * (1000 * n) ≤ 4294967296 * (1000 * max (s.guar c plot cls) 256))

/-- The requests that hold a slot of an MCC. -/
def MccSt.held (m : MccSt) : List SlotReq := m.half.toList ++ m.slots

/-- The slot that a request takes on its channel, if one is free (R78, R81). -/
def State.tierFor (s : State) (c : Nat) (r : DramReq) : Option Tier :=
  let m := (s.mccOf c).held
  if 158 ≤ r.stamp.port then
    (if (m.filter (fun x => x.tier = .device)).length < 8 then some .device else none)
  else
    let cls := r.stamp.cls % 8
    let g := s.guar c r.stamp.plot cls
    let mine := (m.filter (fun x => x.tier = .guaranteed ∧ x.req.stamp.plot = r.stamp.plot ∧
      x.req.stamp.cls % 8 = cls)).length
    if 0 < g ∧ mine < slotsFor g ∧ s.bucketHas c r.stamp.plot cls r.len then some .guaranteed
    else if (m.filter (fun x => x.tier = .shared)).length < 512 - s.reservedSlots c then some .shared
    else none

/-- The channel of an address. -/
def State.channelOf (s : State) (a : Nat) : Nat := ((s.pageOf a).map (·.1)).getD 0

/-- The order in which requests enter slots (R87): by time, and in one cycle by ascending master port. -/
def slotLt (x y : SlotReq) : Bool :=
  decide (x.entered < y.entered) || (x.entered == y.entered && decide (x.req.stamp.port < y.req.stamp.port))

/-- A guaranteed request takes its tokens and counts a grant (R80, R88). -/
def State.takeTokens (s : State) (c : Nat) (r : DramReq) (t : Tier) : State :=
  let cls := r.stamp.cls % 8
  if t = .guaranteed then
    let b := s.bucketNow c r.stamp.plot cls
    let b' : Bucket := { b with missing := b.missing + 4294967296 * (1000 * r.len) }
    let s := { s with mem := { s.mem with
      buckets := sset (fun _ => {}) s.mem.buckets (c * 128 + 8 * r.stamp.plot + cls) b' } }
    s.count .mccClsGrant (8 * c + cls) 1
  else s

/-- A request enters a slot (R80, R87, R88). -/
def State.enterSlot (s : State) (r : DramReq) (t : Tier) : State :=
  let c := s.channelOf r.addr
  let m := s.mccOf c
  let s := s.setMcc c { m with slots := insBy slotLt ⟨r, t, s.dt⟩ m.slots }
  let s := if r.stamp.plot < 16 then s.count .qosHeld (8 * r.stamp.plot + r.stamp.cls % 8) (s.now - r.issued) else s
  s.takeTokens c r t

/-- Requests of a port in MCC slots (R83). -/
def State.inFlight (s : State) (q : Nat) : Nat :=
  sumL (s.mem.mcc.map (fun e => (e.2.held.filter (fun x => x.req.stamp.port == q)).length))

/-- The outstanding limit of a port (Table 02-3). -/
def portLimit (q : Nat) : Nat := if q < 144 then 400 else 300

/-- One grant of a master port (R82, R83): the first non-empty hold queue from the pointer on whose head has a slot. -/
def State.grantOne (s : State) (q : Nat) : State :=
  let p := s.port q
  if portLimit q ≤ s.inFlight q then s
  else
    let order := (List.range 129).map (fun i => (p.rr + i) % 129)
    match order.findSome? (fun i => match sget (fun _ => []) p.hold i with
        | r :: rest => (s.tierFor (s.channelOf r.addr) r).map (fun t => (i, r, rest, t))
        | [] => none) with
    | none => s
    | some (i, r, rest, t) =>
      (s.setPort q { hold := sset (fun _ => []) p.hold i rest, rr := (i + 1) % 129 }).enterSlot r t

/-! ### Service -/

/-- A waiting request that entered earlier touches the same 64-byte word (R87). -/
def blockedBy (earlier : List SlotReq) (x : SlotReq) : Bool :=
  earlier.any (fun y => decide (x.req.addr / 64 < (y.req.addr + y.req.len + 63) / 64) &&
    decide (y.req.addr / 64 < (x.req.addr + x.req.len + 63) / 64))

/-- The requests of an MCC that may be served now, with their places, in slot-entry order. -/
def serveable : List SlotReq → List SlotReq → Nat → List (Nat × SlotReq)
  | _, [], _ => []
  | before, x :: r, i =>
    (if blockedBy before x then [] else [(i, x)]) ++ serveable (before ++ [x]) r (i + 1)

/-- The rank of a request in the order of R84; smaller is served first. DESIGN CHOICE: R84 puts device slots first and orders
them no further; among themselves they go by slot entry, then lowest master port. -/
def rankKey (rr : Nat) (x : SlotReq) : Nat × Nat × Nat × Nat :=
  match x.tier with
  | .device => (0, 0, x.entered, x.req.stamp.port)
  | .guaranteed => (1, 7 - x.req.stamp.cls % 8, x.entered, x.req.stamp.port)
  | .shared => (2, (holdIdx x.req.stamp + 129 - rr) % 129, x.entered, x.req.stamp.port)

/-- Lexicographic order of ranks. -/
def rankLt (a b : Nat × Nat × Nat × Nat) : Bool :=
  if a.1 ≠ b.1 then decide (a.1 < b.1)
  else if a.2.1 ≠ b.2.1 then decide (a.2.1 < b.2.1)
  else if a.2.2.1 ≠ b.2.2.1 then decide (a.2.2.1 < b.2.2.1)
  else decide (a.2.2.2 < b.2.2.2)

/-- The request that the MCC chooses among those that satisfy `p` (R84). DESIGN CHOICE: the MCC may reorder requests within a
tier to schedule banks and rows; this one never does. -/
def MccSt.choose (m : MccSt) (p : SlotReq → Bool) : Option (Nat × SlotReq) :=
  ((serveable [] m.slots 0).filter (fun x => p x.2)).foldl (fun best x =>
    match best with
    | none => some x
    | some b => if rankLt (rankKey m.rr x.2) (rankKey m.rr b.2) then some x else some b) none

/-! ### The system cache

DESIGN CHOICE: 64-byte lines, 16 ways of 32,768 sets (32 MiB), written through; a line is indexed by its number modulo the sets. -/

/-- The masters that use the system cache (R432). -/
def usesCache : Who → Bool
  | .core _ => true
  | .dma _ => true
  | _ => false

/-- The ways into which a request allocates (R434): those assigned to its Plot, else the unassigned ones unless the Plot is
SECURE. -/
def State.cacheWays (s : State) (st : Stamp) : List Nat :=
  let mine := (List.range 16).filter (fun w => s.ownerOf 0x02 w == st.plot)
  if 16 ≤ st.plot then []
  else if !mine.isEmpty then mine
  else if s.plotSecure st.plot then []
  else (List.range 16).filter (fun w => s.ownerOf 0x02 w == 0xFF)

/-- The 64-byte lines of a request. -/
def linesOf (a n : Nat) : List Nat := (List.range (n / 64)).map (fun i => a / 64 + i)

/-- A line that requests of a Plot and attribute hit (R433). -/
def CacheLine.isFor (c : CacheLine) (st : Stamp) (line : Nat) : Bool :=
  c.line == line && c.plot == st.plot && c.secure == st.secure

/-- Change the lines of the system cache. -/
def State.setCache (s : State) (l : List CacheLine) : State := { s with mem := { s.mem with cache := l } }

/-- The lines of a request leave the cache, those of its Plot and attribute alone (R434). -/
def State.cacheDrop (s : State) (st : Stamp) (lines : List Nat) : State :=
  s.setCache (s.mem.cache.filter (fun c => !lines.any (fun l => c.isFor st l)))

/-- Every line of a request hits. -/
def State.cacheHits (s : State) (st : Stamp) (lines : List Nat) : Bool :=
  lines.all (fun l => s.mem.cache.any (fun c => c.isFor st l))

/-- What a hit reads of a line. Where DRAM has changed behind the cache, the spec says nowhere which of the two is read: either,
by a free value. -/
def State.hitLine (s : State) (st : Stamp) (line : Nat) : List Byte × State :=
  let now := s.dramGet (64 * line) 64
  match s.mem.cache.find? (fun c => c.isFor st line) with
  | none => (now, s)
  | some c =>
    if c.data = now then (now, s)
    else
      let x := s.fresh
      (if bit x.1.toNat 0 then c.data else now, x.2)

/-- What a hit reads of all its lines. -/
def State.hitLines (s : State) (st : Stamp) : List Nat → List Byte × State
  | [] => ([], s)
  | l :: r =>
    let x := s.hitLine st l
    let y := x.2.hitLines st r
    (x.1 ++ y.1, y.2)

/-- The way that takes a line of a set: the first allowed one that is empty, else a free one of the allowed. -/
def State.victimWay (s : State) (ways : List Nat) (set : Nat) : Nat × State :=
  match ways.find? (fun w => !s.mem.cache.any (fun c => c.way == w && c.set == set)) with
  | some w => (w, s)
  | none =>
    let x := s.fresh
    (ways.getD (x.1.toNat % ways.length) 0, x.2)

/-- Allocate a line with its bytes (R433, R434): only a line in one of the requester's ways is evicted. -/
def State.fillLine (s : State) (st : Stamp) (line : Nat) (data : List Byte) : State :=
  match s.cacheWays st with
  | [] => s
  | w :: r =>
    let v := (s.cacheDrop st [line]).victimWay (w :: r) (line % 32768)
    v.2.setCache (⟨v.1, line % 32768, line, st.plot, st.secure, data⟩ ::
      v.2.mem.cache.filter (fun c => !(c.way == v.1 && c.set == line % 32768)))

/-- A performed request that the cache looked up: a read fills its lines, a write leaves no line of its requester's. -/
def State.cacheDone (s : State) (r : DramReq) (data : List Byte) : State :=
  if !r.cached then s
  else if r.write then s.cacheDrop r.stamp (linesOf r.addr r.len)
  else (List.range (r.len / 64)).foldl (fun s i => s.fillLine r.stamp (r.addr / 64 + i) (data.extract (64 * i) (64 * i + 64))) s

/-- The completion of a request towards its master. -/
def State.complete (s : State) (r : DramReq) (status : Nat) (data : List Byte) : State :=
  (s.answer status data).send (.memDone r.stamp r.addr r.write status data)

/-- The latency of a guaranteed-tier request, from slot entry to completion (R85, R88): the largest of its class is kept, and
one above 250 ns is logged. DESIGN CHOICE: a latency is rounded up to whole ns, so that one above the bound reads so. -/
def State.noteLatency (s : State) (c : Nat) (x : SlotReq) : State :=
  if x.tier = .guaranteed then
    let k := 8 * c + x.req.stamp.cls % 8
    let lat := ceilDiv (s.dt - x.entered) 4294967296
    let s := s.wr .mccClsMaxlat k (max (s.rd .mccClsMaxlat k) lat)
    if 250 < lat then s.raise { (s.mkRec .mcc c 0x12 1 stDONE).by x.req.stamp x.req.addr with detail := lat } else s
  else s

/-- Perform a chosen request (R63, R64, R72 to R74, R85, R88). -/
def State.perform (s : State) (c : Nat) (x : SlotReq) (ecc : EccEvent) : State :=
  let r := x.req
  let cls := r.stamp.cls % 8
  let s := s.noteLatency c x
  match s.ownerCheck r.stamp r.addr r.write with
  | some reason =>
    (s.logRefusal r.stamp r.addr reason r.write).complete r stOWNER_FAULT (if r.write then [] else zeros r.len)
  | none =>
    if r.write then
      let e := (s.count .mccClsWr (8 * c + cls) r.len).eccWrite c r.addr r.stamp.plot r.stamp.ctx r.data ecc
      ((e.1.dramPut r.addr e.2.1).cacheDone r []).complete r (if e.2.2 then stDONE else stHW_ERROR) []
    else
      let j := ((s.pageOf r.addr).map (·.2)).getD 0
      let data := s.dramGet r.addr r.len
      let e := (s.count .mccClsRd (8 * c + cls) r.len).eccRead c j r.addr r.stamp.plot r.stamp.ctx ecc
      if e.2 then (e.1.cacheDone r data).complete r stDONE data else e.1.complete r stHW_ERROR data

/-- The MCC takes a chosen request out of its slot and performs it; serving the shared tier moves the pointer, and of a
256-byte request the first half moves (R84). -/
def State.serveOne (s : State) (c : Nat) (p : SlotReq → Bool) (ecc : EccEvent) : State × Option SlotReq :=
  let m := s.mccOf c
  match m.choose p with
  | none => (s, none)
  | some (i, x) =>
    let m' := { slots := m.slots.eraseIdx i,
                rr := if x.tier = .shared then (holdIdx x.req.stamp + 1) % 129 else m.rr : MccSt }
    if x.req.len = 256 then (s.setMcc c { m' with half := some x }, some x) else ((s.setMcc c m').perform c x ecc, some x)

/-- One MEM_CLK cycle of an MCC, which moves 128 bytes (R84): the second half of a 256-byte request, or a chosen request, and
after a 64-byte one a second 64-byte one. -/
def State.serveCycle (s : State) (c : Nat) (ecc ecc2 : EccEvent) : State :=
  match (s.mccOf c).half with
  | some x => (s.setMcc c { s.mccOf c with half := none }).perform c x ecc
  | none => match s.serveOne c (fun _ => true) ecc with
    | (s, some x) => if x.req.len = 64 then (s.serveOne c (fun y => y.req.len == 64) ecc2).1 else s
    | (s, none) => s

/-! ### Accesses of engines -/

/-- Requests that wait in the device: in hold queues and in slots. -/
def State.waitingReqs (s : State) : Nat :=
  sumL (s.mem.ports.map (fun p => sumL (p.2.hold.map (fun q => q.2.length)))) +
    sumL (s.mem.mcc.map (fun m => m.2.held.length))

/-- A request of an engine waits: behind an earlier one of its hold queue (R82), at the port's limit (R83), for a slot (R81),
or for an earlier request to one of its words (R87). -/
def State.mustWait (s : State) (r : DramReq) : Bool :=
  let c := s.channelOf r.addr
  !(sget (fun _ => []) (s.port r.stamp.port).hold (holdIdx r.stamp)).isEmpty || decide (portLimit r.stamp.port ≤ s.inFlight r.stamp.port)
    || (s.tierFor c r).isNone || blockedBy (s.mccOf c).held ⟨r, .shared, s.dt⟩

/-- One cycle of the memory system on behalf of a port: the port grants, and every MCC serves. -/
def State.memCycle (s : State) (q : Nat) : State :=
  let s := s.grantOne q
  (s.mem.mcc.map (·.1)).foldl (fun (s : State) c => s.serveCycle c .clean .clean) s

/-- The memory system works until an engine's request need not wait. -/
def State.letPass (s : State) (r : DramReq) : Nat → State
  | 0 => s
  | n + 1 => if s.mustWait r then (s.memCycle r.stamp.port).letPass r n else s

/-- A request of an engine goes through its port and a slot of its channel (R81 to R84, R87, R88): what must go before it
does, both pointers move past it, and a guaranteed one takes its tokens. Every waiting request needs at most a grant and
two cycles of service. -/
def State.passReq (s : State) (r : DramReq) : State :=
  let s := s.letPass r (3 * s.waitingReqs)
  let s := s.setPort r.stamp.port { s.port r.stamp.port with rr := (holdIdx r.stamp + 1) % 129 }
  let c := s.channelOf r.addr
  match s.tierFor c r with
  | some .guaranteed => s.takeTokens c r .guaranteed
  | some .shared => s.setMcc c { s.mccOf c with rr := (holdIdx r.stamp + 1) % 129 }
  | _ => s

/-- The requests that an access makes: one for every 256-byte block that it touches (R51). -/
def engineReqs (st : Stamp) (a n now : Nat) (write : Bool) : List DramReq :=
  if n = 0 then []
  else (List.range ((a + n - 1) / 256 - a / 256 + 1)).map (fun i =>
    let lo := max a (256 * (a / 256 + i))
    ⟨st, lo, min (a + n) (256 * (a / 256 + i + 1)) - lo, write, [], now, false⟩)

/-- Count an engine's access on its channels (R88): bytes per class. -/
def State.countAccess (s : State) (st : Stamp) (write : Bool) : List (Nat × Nat) → State
  | [] => s
  | (a, n) :: r =>
    let s := match s.pageOf a with
      | some (c, _) => if write then s.count .mccClsWr (8 * c + st.cls % 8) n else s.count .mccClsRd (8 * c + st.cls % 8) n
      | none => s
    s.countAccess st write r

/-- Count the requests that an engine issues (R88), those refused among them. -/
def State.countIssued (s : State) (st : Stamp) (a n : Nat) : State :=
  if st.plot < 16 ∧ 0 < n then s.count .qosReq (8 * st.plot + st.cls % 8) ((a + n - 1) / 256 - a / 256 + 1) else s

/-- An access of an engine that the owner check lets pass: its requests go through port and slots, and are counted. -/
def State.pass (s : State) (st : Stamp) (a n : Nat) (write : Bool) : State :=
  ((engineReqs st a n s.now write).foldl State.passReq (s.countIssued st a n)).countAccess st write (pagePieces a n)

/-- An access of an engine that the owner check refuses (R64). -/
def State.passRefused (s : State) (st : Stamp) (a n b reason : Nat) (write : Bool) : State :=
  (s.countIssued st a n).logRefusal st b reason write

/-- An engine's read of DRAM with the owner check of every page; none when refused (R64), which is logged. An address
outside DRAM is refused without a record (R4). -/
def State.memRead (s : State) (st : Stamp) (a n : Nat) : State × Option (List Byte) :=
  if dramSize < a + n then (s, none)
  else match s.firstRefused st a n false with
    | some (b, reason) => (s.passRefused st a n b reason false, none)
    | none => let s := s.pass st a n false; (s, some (s.dramGet a n))

/-- An engine's write of DRAM with the owner check of every page; a refused write changes no byte. -/
def State.memWrite (s : State) (st : Stamp) (a : Nat) (data : List Byte) : State × Bool :=
  if dramSize < a + data.length then (s, false)
  else match s.firstRefused st a data.length true with
    | some (b, reason) => (s.passRefused st a data.length b reason true, false)
    | none => ((s.pass st a data.length true).dramPut a data, true)

/-! ### Registers -/

/-- The region that MCC_RGN_n of a channel shows. DESIGN CHOICE: the spec orders the registers of a channel's regions nowhere;
they are taken by ascending BASE. -/
def State.rgn (s : State) (c n : Nat) : Option RegionRec := s.plan.bind (fun p => (p.channelRegions c)[n]?)

/-- Guarantee g of a channel as MCC_GUAR_g shows it (Table 02-20). DESIGN CHOICE: R579 gives the entries no order; they are
taken by ascending 8 × Plot + class. -/
def State.guarReg (s : State) (c g : Nat) : Nat :=
  match s.plan with
  | none => 0
  | some p => match (p.guarKeys c)[g]? with
    | none => 0
    | some (plot, cls) =>
      let m := p.guar c plot cls
      1 + 2 * cls + 16 * plot + 256 * slotsFor m + 4294967296 * m

/-- The channel is trained (R508 step 0x06). -/
def State.channelTrained (s : State) (c : Nat) : Bool := s.kpr.journal.any (fun e => e.step == 6) && !bit s.kpr.skipped c

/-- Views of the MCC registers that show state. -/
def State.mccView (s : State) (id : RegId) (ix : Nat) : Option Nat :=
  match id with
  | .mccStatus => some (b2n (s.channelTrained ix) + 2 * b2n (s.channelTrained ix && !s.kpr.unhealthy.contains (0x20, ix) &&
      s.kpr.journal.any (fun e => e.step == 8)) + 4 * b2n ((s.plan.map (fun p => !(p.guarKeys ix).isEmpty)).getD false))
  | .mccSlots => some (1048576 * (s.mccOf ix).held.length + (match s.plan with
      | none => 0
      | some _ => s.reservedSlots ix + 1024 * (512 - s.reservedSlots ix)))
  | .mccRetired => some (min 511 (s.retiredCount ix) + 65536 * min 511 (s.pendingCount ix))
  | .mccRgnPbase => some (((s.rgn (ix / 16) (ix % 16)).map (·.base)).getD 0)
  | .mccRgnPlen => some (((s.rgn (ix / 16) (ix % 16)).map (·.length)).getD 0)
  | .mccRgnCfg => some (match s.rgn (ix / 16) (ix % 16) with
      | none => 0
      | some r => 1 + 2 * r.plot + 32 * b2n r.secure +
          256 * ((firstIdx (· == ix / 16) r.channels).getD 0) + 65536 * (r.n - 1))
  | .mccRgnCbase => some (match s.plan, s.rgn (ix / 16) (ix % 16) with
      | some p, some r => p.cbase (ix / 16) r
      | _, _ => 0)
  | .mccGuar => some (s.guarReg (ix / 128) (ix % 128))
  | _ => none

/-- The time that the requests of a hold-queue index now held at the ports have waited (R88). -/
def State.heldTime (s : State) (k : Nat) : Nat :=
  sumL (s.mem.ports.map (fun p => sumL ((sget (fun _ => []) p.2.hold k).map (fun r => s.now - r.issued))))

/-- Views of the QOS registers that show state. -/
def State.qosView (s : State) (id : RegId) (ix : Nat) : Option Nat :=
  match id with
  | .qosStatus => some (b2n ((s.plan.map (fun p => p.guars.any (fun g => decide (0 < g.mbps)))).getD false))
  | .qosDeviceMbps => some ((s.plan.map (fun p => sumL (p.guars.map (fun g => g.mbps * popcount 128 g.mask)))).getD 0)
  | .qosHeld => some ((s.rd .qosHeld ix + s.heldTime ix) % 2 ^ 64)
  | .qosPort => some (portLimit ix + 1024 * s.inFlight ix)
  | _ => none

/-- Writes of the MCC block: SCRUB_HOURS is 1 to 168 (Table 02-12). -/
def State.mccWrite (s : State) (who : Who) (id : RegId) (ix size v hw : Nat) : State :=
  let enc := match id with
    | .mccEccCfg => decide (1 ≤ bits v 15 8) && decide (bits v 15 8 ≤ 168)
    | _ => true
  s.regWrite (s.stampOf who) id ix size v none enc (fun s => s.regStore id ix v hw)

/-- A request of a master that uses the system cache (R432 to R434): a read whose lines all hit is answered from them; any other
goes to its port, and a write leaves no line of its requester's. -/
def State.cacheRequest (s : State) (st : Stamp) (a n : Nat) (write : Bool) (data : List Byte) : State :=
  if write then (s.cacheDrop st (linesOf a n)).issue st a n true data true
  else if s.cacheHits st (linesOf a n) then
    let x := s.hitLines st (linesOf a n)
    (x.2.answer stDONE x.1).send (.memDone st a false stDONE x.1)
  else s.issue st a n false data true

/-- A well-formed DRAM request (R59, R432): through the system cache when its master and Plot use it and it asks to. -/
def State.dramRequest (s : State) (who : Who) (a n : Nat) (write : Bool) (data : List Byte) (cache : CacheUse) : State :=
  let st := s.stampOf who
  match cache with
  | .bypass => s.issue st a n write data false
  | .cached =>
    if usesCache who && !(s.cacheWays st).isEmpty then s.cacheRequest st a n write data else s.issue st a n write data false
  | .maintain => (if usesCache who then s.cacheDrop st (linesOf a n) else s).answer stDONE []

/-- DRAM_REQUEST (R59): a master issues a request. An address outside every range of Table 00-2 answers OWNER_FAULT (R4). -/
def execDramRequest (who : Who) (addr : BitVec 48) (len : Nat) (kind : Bool × CacheUse) (data : List Byte) (s : State) :
    Host.Outcome State Fault Refusal :=
  .next (if requestOk addr.toNat len kind.1 data then s.dramRequest who addr.toNat len kind.1 data kind.2
    else s.otherAccess who addr.toNat len kind.1 data)

/-- HOLD_QUEUE_GRANT (R82): one FAB_CLK cycle of a master port; ports 0 to 143 grant up to twice. -/
def execHoldQueueGrant (port : Fin 161) (s : State) : Host.Outcome State Fault Refusal :=
  .next (if port.val < 144 then (s.grantOne port.val).grantOne port.val else s.grantOne port.val)

/-- MCC_SERVE (R84): one MEM_CLK cycle of an MCC. -/
def execMccServe (c : Fin 128) (ecc ecc2 : EccEvent) (s : State) : Host.Outcome State Fault Refusal :=
  .next (s.serveCycle c.val ecc ecc2)

/-- SCRUB (R77): the patrol reads a channel page and the ECC rules apply. DESIGN CHOICE: the record of a scrub carries the
address of the page's first byte, or 0 for a page of no region. -/
def execScrub (c : Fin 128) (page : Fin 131072) (ecc : EccEvent) (s : State) : Host.Outcome State Fault Refusal :=
  .next (s.eccRead c.val page.val ((s.addrOfPage c.val page.val).getD 0) (s.pagePlot c.val page.val) 0xFFFF ecc).1

end Sys2Proof.Machine
end

