-- ==== Sys2Proof/Machine/Mbx.lean ====
section
/-! DEFINITION. Mailboxes: GO, service in the order of the gates, duplicates, replies (R482 to R485, R513 to R517). -/

namespace Sys2Proof.Machine

/-- FEAT_DEV: the features of Table 16-6, all of them offered (R512). -/
abbrev featDev : Nat := 0x7FF

/-- The key of a mailbox: Plot p, or 16 + instance. -/
def mbxKey : Mbx → Nat
  | .plot p => p.val
  | .inst i => 16 + i.val

/-- A mailbox. -/
def State.mbx (s : State) (k : Nat) : MbxSt := sget (fun _ => {}) s.kpr.mbx k

/-- Change a mailbox. -/
def State.setMbx (s : State) (k : Nat) (m : MbxSt) : State :=
  { s with kpr := { s.kpr with mbx := sset (fun _ => {}) s.kpr.mbx k m } }

/-- An instance. -/
def State.inst (s : State) (i : Nat) : InstSt := sget (fun _ => {}) s.host.insts i

/-- Change an instance. -/
def State.setInst (s : State) (i : Nat) (x : InstSt) : State :=
  { s with host := { s.host with insts := sset (fun _ => {}) s.host.insts i x } }

/-- Port 0 is an endpoint (R462). -/
def State.endpoint (s : State) : Bool := !s.pwr.hostMode

/-- The function of an instance is enabled (R464). -/
def State.fnEnabled (s : State) (i : Nat) : Bool := s.endpoint && decide (i ≤ s.host.vfs)

/-- An instance is host-backed (R464): as it was opened, and while CLOSED as its function is. -/
def State.hostBacked (s : State) (i : Nat) : Bool :=
  if (s.inst i).state = 0 then s.fnEnabled i else (s.inst i).host

/-- The Plot of a mailbox; 0xFF for an unassigned instance. -/
def State.mbxPlot (s : State) (k : Nat) : Nat := if k < 16 then k else s.ownerOf 0x04 (k - 16)

/-- The stamp of the memory accesses that the Keeper makes for a request: the requester's Plot (R63, R522). -/
def State.mbxStamp (s : State) (k : Nat) : Stamp :=
  ⟨159, s.mbxPlot k, s.defaultClass (s.mbxPlot k), false, if k < 16 then 0xFFFF else 0x8000 + (k - 16)⟩

/-- The context field of a record about a mailbox. -/
def mbxCtx (k : Nat) : Nat := if k < 16 then 0xFFFF else 0x8000 + (k - 16)

/-- Valid opcodes (Tables 15-7 and 16-8). -/
def opcodeValid (op : Nat) : Bool :=
  [0x0001, 0x0002, 0x0003, 0x0010, 0x0011, 0x0020, 0x0021, 0x0022, 0x0023, 0x0024, 0x0030, 0x0031, 0x0032, 0x0033, 0x0034,
   0x0035, 0x0036, 0x0040, 0x0041, 0x0042, 0x0043, 0x0044, 0x0050, 0x0051, 0x0052, 0x0053, 0x0054, 0x0055, 0x0060, 0x0061,
   0x0070].contains op

/-- The feature bit of Table 16-6 that an opcode belongs to, if any. -/
def opcodeFeature (op : Nat) : Option Nat :=
  if op = 0x10 ∨ op = 0x11 then some 2
  else if 0x20 ≤ op ∧ op ≤ 0x24 then some 3
  else if 0x30 ≤ op ∧ op ≤ 0x36 then some 6
  else if 0x40 ≤ op ∧ op ≤ 0x44 then some 7
  else if 0x50 ≤ op ∧ op ≤ 0x55 then some 8
  else if op = 0x60 ∨ op = 0x61 then some 9
  else if op = 0x70 then some 10
  else none

/-- Opcodes served in recovery (R517): the update requests, LOG_READ and JOURNAL_READ, beside OPEN. -/
def recoveryOpcode (op : Nat) : Bool := op == 1 || (decide (0x50 ≤ op) && decide (op ≤ 0x55)) || op == 0x60 || op == 0x61

/-- A mailbox is open: the Plot mailbox since an OPEN, an instance while it is not CLOSED. -/
def State.mbxOpen (s : State) (k : Nat) : Bool :=
  if k < 16 then (s.mbx k).isOpen else (s.inst (k - 16)).state ≠ 0

/-- The status with which the Keeper refuses a request before its own checks, if it does: reserved opcode or header byte
(R484), recovery (R517), a mailbox that is not open (R480, R516), a DETACHED instance (Table 15-4), a feature not
accepted (R515). -/
def State.mbxGate (s : State) (k : Nat) (req : List Byte) : Option Nat :=
  let op := fld req 4 2
  if !opcodeValid op || 1 < fld req 6 1 || !allZero req 7 9 then some stREFUSED_FORMAT
  else if s.kpr.recovery && (k ≠ 16 || !recoveryOpcode op) then some stREFUSED_PLAN
  else if op ≠ 1 && !s.mbxOpen k then some stREFUSED_PLAN
  else if decide (16 ≤ k) && (s.inst (k - 16)).state == 2 && op ≠ 3 then some stBUSY
  else if 0x40 ≤ op ∧ op ≤ 0x44 ∧ 16 ≤ k then some stREFUSED_PLAN
  else match opcodeFeature op with
    | some b => if bit (s.mbx k).feat b then none else some stREFUSED_VERSION
    | none => none

/-- The 32 bytes of a reply (Table 15-6). -/
def Reply.bytes (r : Reply) (dup : Bool) : List Byte :=
  leBytes 4 r.seq ++ leBytes 2 r.opcode ++ leBytes 1 r.status ++ leBytes 1 (b2n dup) ++ zeros 8 ++
    (r.body ++ zeros 16).take 16

/-- Raise the interrupt of a reply (R485): MSI-X vector 0 of a host-backed instance, else the HIF_MBX interrupt of the
Plot. -/
def State.mbxInterrupt (s : State) (k : Nat) : State :=
  if 16 ≤ k ∧ s.hostBacked (k - 16) then
    if (s.inst (k - 16)).stopped then s else s.send (.msix (k - 16) 0)
  else s.send (.irq (s.mbxPlot k) (if k < 16 then srcId .kpr k else srcId .hif (k - 16)))

/-- Put a reply in a mailbox; `keep` stores it in the window of 64. -/
def State.putReply (s : State) (k : Nat) (r : Reply) (dup keep : Bool) : State :=
  let m := s.mbx k
  let s := s.setMbx k { m with busy := false, serving := false, ready := true, status := r.status, reply := r.bytes dup,
                               window := if keep then (r :: m.window).take 64 else m.window }
  if bit (fld m.req 6 1) 0 then s.mbxInterrupt k else s

/-- Complete the request of a mailbox with a status and reply body. -/
def State.finishMbx (s : State) (k status : Nat) (body : List Byte) : State :=
  let req := (s.mbx k).req
  s.putReply k ⟨fld req 0 4, fld req 4 2, status, (body ++ zeros 16).take 16⟩ false true

/-- The Keeper takes requests (R531, R524): RUNNING or RECOVERY, and not before a handover. -/
def State.keeperServes (s : State) : Bool := !s.kpr.draining && (s.kpr.state == 1 || s.kpr.state == 3)

/-- The reply body of a request that is refused before its own checks: the services whose replies carry STATUS have it in
byte 0, with the context or instance that the body names; LOAD names no program. -/
def gateBody (op status : Nat) (body : List Byte) : List Byte :=
  if op = 0x10 then leBytes 1 status ++ zeros 3 ++ leBytes 4 0xFFFFFFFF ++ leBytes 8 0xFFFFFFFF
  else if 0x20 ≤ op ∧ op ≤ 0x36 then leBytes 1 status ++ zeros 1 ++ sub body 0 2
  else if 0x40 ≤ op ∧ op ≤ 0x44 ∧ op ≠ 0x42 then leBytes 1 status ++ sub body 0 1
  else if op = 0x42 then leBytes 1 status
  else []

/-- The requests that are served one at a time and in arrival order: those of one context (R175, R222), the CTX_CREATEs of one Plot
(R222), and those of the Glasshouse (R438). -/
def State.reqGroup (s : State) (k : Nat) : Option (Nat × Nat) :=
  let req := (s.mbx k).req
  let op := fld req 4 2
  if op = 0x10 ∨ op = 0x11 ∨ (0x21 ≤ op ∧ op ≤ 0x24) then some (0, fld req 0x10 2)
  else if op = 0x20 then some (1, s.mbxPlot k)
  else if 0x30 ≤ op ∧ op ≤ 0x36 then some (2, 0)
  else none

/-- No request of the same group arrived before that of a mailbox and is still unanswered; of those of one cycle, the lower
mailbox comes first (R517). -/
def State.mbxTurn (s : State) (k : Nat) : Bool :=
  let at_ := (s.mbx k).arrived
  (s.reqGroup k).isNone || s.kpr.mbx.all (fun e => e.1 == k || !e.2.busy || s.reqGroup e.1 ≠ s.reqGroup k ||
    decide (at_ < e.2.arrived) || (at_ == e.2.arrived && decide (k < e.1)))

/-- The Keeper serves the request of a mailbox with opcode `op`: a duplicate gets its stored reply (OPEN and ATTACH are
exempt), a gate may refuse, else `run` gives the state and the status and reply body, or nothing while the request stays
in service or after it ended with a reset. -/
def State.serve (s : State) (m : Mbx) (op : Nat) (run : State → Nat → List Byte → State × Option (Nat × List Byte)) :
    State :=
  let k := mbxKey m
  let b := s.mbx k
  if !b.busy || b.serving || fld b.req 4 2 ≠ op || !s.keeperServes || !s.mbxTurn k then s
  else match (if op = 1 ∨ op = 3 then none else b.window.find? (fun r => r.seq == fld b.req 0 4)) with
    | some r => s.putReply k r true false
    | none => match s.mbxGate k b.req with
      | some st => s.finishMbx k st (gateBody op st (sub b.req 0x10 48))
      | none => match run s k (sub b.req 0x10 48) with
        | (s, some (st, body)) => s.finishMbx k st body
        | (s, none) => if (s.mbx k).busy then s.setMbx k { s.mbx k with serving := true } else s

/-- A request is sent by GO (R482): BUSY is set and READY cleared; a reserved opcode is answered at once (R484). -/
def State.mbxGo (s : State) (k : Nat) (req : List Byte) : State :=
  let m := s.mbx k
  let s := s.setMbx k { m with busy := true, ready := false, req := req, arrived := s.dt }
  if opcodeValid (fld req 4 2) then s
  else match m.window.find? (fun r => r.seq == fld req 0 4) with
    | some r => s.putReply k r true false
    | none => s.finishMbx k stREFUSED_FORMAT []

/-- The body of a request holds only zeros from an offset on. -/
def bodyEnds (body : List Byte) (n : Nat) : Bool := allZero body n (48 - n)

end Sys2Proof.Machine
end

