-- ==== Sys2Proof/Machine/Heads.lean ====
section
/-! DEFINITION. Queues and heads of spec/07: the command record, the dispatch checks (Table 03-10), eligibility (R229),
quotas (R230), and what the Keeper keeps about waiting and blocked contexts (R237, R238, R242). -/

namespace Sys2Proof.Machine

/-! ### Records -/

/-- The command record of Table 03-8. -/
def readCmd (r : List Byte) : Cmd :=
  { seq := fld r 0 4, tag := fld r 4 2, opcode := fld r 6 1, flags := fld r 7 1, ctx := fld r 8 2, waitSem := fld r 0xA 2,
    signalSem := fld r 0xC 2, raw0E := fld r 0xE 2, waitValue := fld r 0x10 8, signalValue := fld r 0x18 8,
    deadline := fld r 0x20 8, args := sub r 0x28 24 }

/-- FLAGS.FENCE. -/
def Cmd.fence (c : Cmd) : Bool := bit c.flags 0
/-- FLAGS.IRQ. -/
def Cmd.irq (c : Cmd) : Bool := bit c.flags 1
/-- FLAGS.DEADLINE_VALID. -/
def Cmd.hasDeadline (c : Cmd) : Bool := bit c.flags 2

/-- A semaphore field holds no reserved value. -/
def semFieldOk (x : Nat) : Bool := decide (x < 16384) || x == 0xFFFF

/-- ARGS holds no reserved value (Tables 03-9 and 06-10). -/
def Cmd.argsOk (c : Cmd) : Bool :=
  let a := c.args
  match c.opcode with
  | 0x00 => allZero a 0 24
  | 0x01 => decide (fld a 4 2 ≤ fld a 6 2) && allZero a 16 8
  | 0x02 => decide (1 ≤ fld a 12 4) && decide (fld a 12 4 ≤ 2097152) && decide (fld a 16 1 ≤ 127) &&
      decide (fld a 17 1 ≤ 1) && allZero a 18 6
  | 0x10 => fld a 0 8 % 64 == 0 && decide (fld a 8 1 ≤ 3) && decide (fld a 9 1 ≤ 15) && allZero a 10 14
  | 0x11 => decide (fld a 0 1 ≤ 3) && allZero a 1 23
  | 0x12 => decide (fld a 0 1 ≤ 3) && fld a 1 1 == 0 && decide (1 ≤ fld a 4 2) && decide (fld a 4 2 ≤ 4096) && allZero a 6 18
  | 0x13 => decide (fld a 0 1 ≤ 3) && decide (fld a 1 1 ≤ 1) && decide (1 ≤ fld a 4 2) && decide (fld a 4 2 ≤ 4096) &&
      allZero a 6 18
  | 0x14 => decide (fld a 0 1 ≤ 3) && allZero a 1 3 && decide (1 ≤ fld a 4 4) && fld a 8 8 % 4 == 0 && allZero a 16 8
  | _ => false

/-- Dispatch check 1 (Table 03-10). -/
def Cmd.formatOk (c : Cmd) : Bool :=
  decide (c.flags < 8) && decide (c.ctx < 1024) && semFieldOk c.waitSem && semFieldOk c.signalSem && c.raw0E == 0 && c.argsOk

/-! ### Queues, programs, spaces -/

/-- A submission queue. -/
def State.queue (s : State) (q : Nat) : QueueSt := sget (fun _ => {}) s.tensor.queues q

/-- Change a queue. -/
def State.setQueue (s : State) (q : Nat) (x : QueueSt) : State :=
  { s with tensor := { s.tensor with queues := sset (fun _ => {}) s.tensor.queues q x } }

/-- The Plot of a queue. -/
def State.queuePlot (s : State) (q : Nat) : Nat := s.ownerOf 0x05 q

/-- The class label of a queue (R32). -/
def State.queueClass (s : State) (q : Nat) : Nat := s.classOf 0x05 q (s.queuePlot q)

/-- The instance a queue is bound to (R486). -/
def State.queueInst (s : State) (q : Nat) : Option Nat :=
  let c := s.rd .hifQCfg q
  if bit c 6 then some (bits c 5 1) else none

/-- The stamp of a queue's ring accesses (R487). -/
def State.queueStamp (s : State) (q : Nat) : Stamp :=
  ⟨159, s.queuePlot q, s.queueClass q, false, match s.queueInst q with
    | some i => 0x8000 + i
    | none => 0xFFFF⟩

/-- The state of an instance; 1 is OPEN. -/
def State.instState (s : State) (i : Nat) : Nat := (sget (fun _ => ({} : InstSt)) s.host.insts i).state

/-- Dispatch of the queue is stopped by its instance: it is not OPEN, or a FREEZE is under way (R486, R495). -/
def State.queueHeld (s : State) (q : Nat) : Bool :=
  match s.queueInst q with
  | some i => let x := sget (fun _ => ({} : InstSt)) s.host.insts i
              x.state ≠ 1 || x.freezing.isSome || x.closing.isSome
  | none => false

/-- A loaded program by its handle (R174). -/
def State.prog? (s : State) (h : Nat) : Option Prog :=
  match sget (fun _ => none) s.tensor.progs (h % 4096) with
  | some p => if p.gen = h / 4096 then some p else none
  | none => none

/-- The space in a space slot of a context, with its key 4 × Pavilion + slot. -/
def State.spaceOf (s : State) (c cslot : Nat) : Option (Nat × Space) :=
  s.tensor.spaces.findSome? (fun e => match e.2 with
    | some x => if x.ctx = c && x.cslot = cslot then some (e.1, x) else none
    | none => none)

/-- The space of a Trellis slot. -/
def State.space? (s : State) (k : Nat) : Option Space := sget (fun _ => none) s.tensor.spaces k

/-- Change a space. -/
def State.setSpace (s : State) (k : Nat) (x : Option Space) : State :=
  { s with tensor := { s.tensor with spaces := sset (fun _ => none) s.tensor.spaces k x } }

/-- The parameters of an ATTEND operator (Table 06-8). -/
def Prog.attendParams (p : Prog) (o : OpRec) : List Byte := sub p.code o.paramRel 16

/-- The space slots that a program's ATTEND operators name. -/
def Prog.spaceSlots (p : Prog) : List Nat :=
  ((p.ops.filter (fun o => o.kind == 0x000A)).map (fun o => fld (p.attendParams o) 0 1)).eraseDups

/-- The spaces that a program names. -/
def State.progSpaces (s : State) (p : Prog) : List Nat := p.spaceSlots.filterMap (fun k => (s.spaceOf p.ctx k).map (·.1))

/-- The program of a RUN command. -/
def State.cmdProg (s : State) (c : Cmd) : Option Prog := if c.opcode = 0x01 then s.prog? (fld c.args 0 4) else none

/-- The Beds that a command needs (R229). -/
def State.cmdBeds (s : State) (c : Cmd) : List Nat :=
  match c.opcode with
  | 0x01 => ((s.cmdProg c).map (·.map)).getD []
  | 0x02 => [fld c.args 16 1]
  | _ => []

/-! ### Shares and residency -/

/-- BED_SHARE_s as the plan gives it (R107): UNITS, BASE, PLOT. -/
def State.share (s : State) (n slot : Nat) : Nat × Nat × Nat :=
  match s.plan with
  | some p => match p.share n slot with
    | some r => (r.units, p.shareBase n slot, r.plot)
    | none => (0, 0, 0)
  | none => (0, 0, 0)

/-- A slot of a Bed holds a resident context (BED_SLOT_s). -/
def State.slotCtx (s : State) (n slot : Nat) : Option Nat :=
  let v := s.rd .bedSlot (4 * n + slot)
  if bit v 16 then some (bits v 9 0) else none

/-- The slot of a Bed in which a context is resident (R224). -/
def State.residentSlot (s : State) (c n : Nat) : Option Nat := (List.range 4).find? (fun k => s.slotCtx n k == some c)

/-- The power state in which a Bed ends, as far as it has been told. -/
def BedSt.heading (b : BedSt) : Pwr := b.want.getD (b.goal.getD b.pwr)

/-- A context is resident on a Bed for dispatch (R225): its slot is written, the clear of that slot has ended, the slot is not
promised to another context (R239), and the Bed is not on its way to OFF, where no operation may find it (R113). -/
def State.resident (s : State) (c n : Nat) : Bool :=
  match s.residentSlot c n with
  | some k => (s.bed n).clearing ≠ some k && (s.bed n).goal ≠ some .off && (s.bed n).heading ≠ .off &&
      !s.tensor.moves.any (fun m => m.1 == n && m.2.1 == k && m.2.2 ≠ c)
  | none => false

/-- The slot in which a context is bound on a Bed (home slot). -/
def CtxSt.home (c : CtxSt) (n : Nat) : Option Nat := (c.binds.find? (fun e => e.1 == n)).map (·.2)

/-- The share size of a context on a Bed: the UNITS of its home slot. -/
def State.shareSize (s : State) (c n : Nat) : Nat :=
  match (s.ctx? c).bind (fun x => x.home n) with
  | some k => (s.share n k).1
  | none => 0

/-! ### Operation slots -/

/-- The operations that hold a slot of a Pavilion, with their queues (R95). -/
def State.pavOps (s : State) (p : Nat) : List (Nat × Oper) :=
  s.tensor.flights.flatMap (fun f => (f.ops.filter (fun o => o.pav == p && o.status.isNone)).map (fun o => (f.queue, o)))

/-- Every operation of the same context that a Pavilion of the command accepted earlier has started (R97). -/
def State.inTurn (s : State) (f : Flight) : Bool :=
  s.tensor.flights.all (fun g => g.cmd.ctx ≠ f.cmd.ctx || g.ops.all (fun x => x.status.isSome || x.started ||
    f.ops.all (fun o => o.pav ≠ x.pav || decide (o.order ≤ x.order))))

/-- The slots that a Plot may hold of a Pavilion (R230). No Plot with a Bed there receives 0, since a Pavilion has eight
Beds. -/
def State.quota (s : State) (plot p : Nat) : Nat :=
  let beds := (List.range 8).map (fun b => s.ownerOf 0x03 (8 * p + b))
  let b := (beds.filter (fun o => decide (o < 16))).length
  if b = 0 then 0 else 64 * (beds.filter (fun o => o == plot)).length / b

/-- The Pavilions that a command needs, in ascending number: those of its Beds, or of its space; a BIND needs the one it
names where its Plot may hold a slot there. -/
def State.cmdPavs (s : State) (c : Cmd) : List Nat :=
  match c.opcode with
  | 0x10 => [fld c.args 9 1].filter (fun p => decide (0 < s.quota (((s.ctx? c.ctx).map (·.plot)).getD 0xFF) p))
  | 0x11 | 0x12 | 0x13 | 0x14 => ((s.spaceOf c.ctx (fld c.args 0 1)).map (fun x => x.1 / 4)).toList
  | _ => (List.range 16).filter (fun p => (s.cmdBeds c).any (fun n => n / 8 == p))

/-- A Pavilion has a free slot within the Plot's quota. -/
def State.pavFree (s : State) (plot p : Nat) : Bool :=
  let ops := s.pavOps p
  decide (ops.length < 64) && decide ((ops.filter (fun x => s.queuePlot x.1 == plot)).length < s.quota plot p)

/-! ### Dispatch checks -/

/-- The feature of R515 that a command of a bound queue lacks. -/
def State.featureMissing (s : State) (q : Nat) (c : Cmd) : Bool :=
  match s.queueInst q with
  | some i =>
    let f := (sget (fun _ => ({} : MbxSt)) s.kpr.mbx (16 + i)).feat
    !bit f 0 || (decide (0x10 ≤ c.opcode) && decide (c.opcode ≤ 0x14) && !bit f 4)
  | none => false

/-- A named semaphore is assigned to the Plot. -/
def State.semNamedOk (s : State) (plot x : Nat) : Bool := x == 0xFFFF || s.ownerOf 0x06 x == plot

/-- The status with which a command is refused at dispatch (R515, Table 03-10, R213), if it is. -/
def State.dispatchRefusal (s : State) (q : Nat) (c : Cmd) : Option Nat :=
  let plot := s.queuePlot q
  if s.featureMissing q c then some stREFUSED_VERSION
  else if !c.formatOk then some stREFUSED_FORMAT
  else if s.tensor.flights.any (fun f => f.queue == q && f.cmd.tag == c.tag) then some stREFUSED_FORMAT
  else if ((s.ctx? c.ctx).map (·.plot)) ≠ some plot || !s.semNamedOk plot c.waitSem || !s.semNamedOk plot c.signalSem then
    some stREFUSED_PLAN
  else match c.opcode with
    | 0x01 => match s.cmdProg c with
      | some p => if p.ctx = c.ctx ∧ fld c.args 6 2 < p.ops.length then (if p.aborted then some stABORTED_GROVE else none)
          else some stREFUSED_FORMAT
      | none => some stREFUSED_FORMAT
    | 0x02 =>
      let n := fld c.args 16 1
      if s.ownerOf 0x03 n ≠ plot || (s.enclaveOf c.ctx).isSome then some stREFUSED_PLAN
      else if 65536 * s.shareSize c.ctx n < fld c.args 8 4 + fld c.args 12 4 then some stREFUSED_FIT
      else none
    | 0x11 => if (s.spaceOf c.ctx (fld c.args 0 1)).isSome then none else some stREFUSED_FORMAT
    | 0x12 | 0x13 => match s.spaceOf c.ctx (fld c.args 0 1) with
      | some (_, x) => if fld c.args 2 2 + fld c.args 4 2 ≤ x.maxSeq then none else some stREFUSED_FORMAT
      | none => some stREFUSED_FORMAT
    | 0x14 => match s.spaceOf c.ctx (fld c.args 0 1) with
      | some (_, x) => if fld c.args 4 4 ≤ x.poolBlocks then none else some stREFUSED_FORMAT
      | none => some stREFUSED_FORMAT
    | _ => none

/-! ### Eligibility -/

/-- The WAIT condition of a command holds (Table 07-5). One that names no semaphore of the Plot can never hold and does not
keep the command from its refusal. -/
def State.waitHolds (s : State) (q : Nat) (c : Cmd) : Bool :=
  c.waitSem == 0xFFFF || !semFieldOk c.waitSem || s.ownerOf 0x06 c.waitSem ≠ s.queuePlot q ||
    decide (c.waitValue ≤ sget (fun _ => 0) s.tensor.sems c.waitSem)

/-- R160 and R194: no RUN of the same program, and no RUN that shares a space, is in flight. -/
def State.mayStart (s : State) (c : Cmd) : Bool :=
  match s.cmdProg c with
  | none => true
  | some p =>
    let mine := s.progSpaces p
    s.tensor.flights.all (fun f => match s.cmdProg f.cmd with
      | some p' => fld f.cmd.args 0 4 ≠ fld c.args 0 4 && (s.progSpaces p').all (fun k => !mine.contains k)
      | none => true) &&
    mine.all (fun k => ((s.space? k).map (fun x => x.open_.isNone)).getD true)

/-- The completion ring has room for one more command (R489). -/
def State.cplRoom (s : State) (q : Nat) : Bool :=
  let used := (s.rd .hifQCplTail q + 2 ^ 32 - s.rd .hifQCplHead q) % 2 ^ 32
  decide (used + (s.tensor.flights.filter (fun f => f.queue == q)).length < 2 ^ bits (s.rd .hifQCfg q) 10 7)

/-- No residency that the Keeper can bring about serves a head, because the dispatch checks refuse it whatever becomes resident:
its context is not of the queue's Plot, its RUN names a program of another context, or its COPY a Bed that the Plot does not own
or on which the context is not bound. DEDUCED: such a head meets its refusal at dispatch (Table 03-10) without the Beds and slots of
R229. -/
def State.unplaced (s : State) (q : Nat) (c : Cmd) : Bool :=
  (s.ctx? c.ctx).map (·.plot) ≠ some (s.queuePlot q) ||
    (match c.opcode with
     | 0x01 => (s.cmdProg c).any (fun p => p.ctx ≠ c.ctx)
     | 0x02 => let n := fld c.args 16 1
       s.ownerOf 0x03 n ≠ s.queuePlot q || (((s.ctx? c.ctx).bind (fun x => x.home n)).isNone && (s.residentSlot c.ctx n).isNone)
     | _ => false)

/-- The head of a queue may be taken, but for residency (R227, R229, R486, R489). -/
def State.readyBut (s : State) (q : Nat) (c : Cmd) : Bool :=
  bit (s.rd .hifQCfg q) 0 && s.waitHolds q c && s.plotRunning (s.queuePlot q) && !s.queueHeld q && s.cplRoom q &&
    (!c.fence || s.tensor.flights.all (fun f => f.queue ≠ q)) &&
    (s.unplaced q c || (s.mayStart c && (s.cmdPavs c).all (s.pavFree (s.queuePlot q))))

/-- The context of a command is resident on every Bed that it needs. -/
def State.residentAll (s : State) (q : Nat) (c : Cmd) : Bool := s.unplaced q c || (s.cmdBeds c).all (s.resident c.ctx)

/-- The set of a head (R238): the Beds that it needs on which its context is not resident (R224). -/
def State.waitSet (s : State) (q : Nat) (c : Cmd) : List Nat :=
  if s.unplaced q c then [] else (s.cmdBeds c).filter (fun n => (s.residentSlot c.ctx n).isNone)

/-- The head of a queue is eligible (R229). -/
def State.eligible (s : State) (q : Nat) : Bool :=
  match (s.queue q).head with
  | some h => s.readyBut q h.cmd && s.residentAll q h.cmd
  | none => false

/-! ### Waiting heads and blocked contexts -/

/-- Account for the time a head has waited, and note what it waits for now (R238, R242). -/
def State.touchHead (s : State) (q : Nat) : State :=
  let x := s.queue q
  match x.head with
  | none => s
  | some h =>
    let d := s.now - h.lastSeen
    let res := s.residentAll q h.cmd
    let wait := s.readyBut q h.cmd && !(s.waitSet q h.cmd).isEmpty
    s.setQueue q { x with head := some { h with
      semNs := if h.phase = 0 then h.semNs + d else h.semNs,
      resNs := if h.phase = 1 then h.resNs + d else h.resNs,
      lastSeen := s.now,
      phase := if !s.waitHolds q h.cmd then 0 else if !res then 1 else 2,
      waitingSince := if wait then some (h.waitingSince.getD s.now) else none } }

/-- A resident context is blocked on a Bed (R237). -/
def State.blockedOn (s : State) (c n : Nat) : Bool :=
  s.tensor.flights.all (fun f => f.cmd.ctx ≠ c || f.ops.all (fun o => o.status.isSome || o.parts.all (fun b => b.bed ≠ n))) &&
  s.tensor.queues.all (fun e => match e.2.head with
    | some h => h.cmd.ctx ≠ c || !(s.cmdBeds h.cmd).contains n || !s.waitHolds e.1 h.cmd ||
        (s.readyBut e.1 h.cmd && s.resident c n && !s.residentAll e.1 h.cmd)
    | none => true)

/-- Note, for every Bed on which a context is resident, since when it has been blocked there. -/
def State.touchCtx (s : State) (c : Nat) (x : CtxSt) : CtxSt :=
  { x with blocked := x.binds.filterMap (fun e =>
      if (s.residentSlot c e.1).isSome && s.blockedOn c e.1 then
        some (e.1, ((x.blocked.find? (fun b => b.1 == e.1)).map (·.2)).getD s.now)
      else none) }

/-- Bring the accounts of waiting heads and blocked contexts up to date: called after every change of a semaphore, a queue,
a command in flight, or residency. -/
def State.touch (s : State) : State :=
  let s := (s.tensor.queues.map (·.1)).foldl (fun s q => s.touchHead q) s
  { s with tensor := { s.tensor with ctxs := s.tensor.ctxs.map (fun e => (e.1, e.2.map (s.touchCtx e.1))) } }

end Sys2Proof.Machine
end

