-- ==== Sys2Proof/Machine/Sem.lean ====
section
/-! DEFINITION. The semaphores and watch units of spec/07 (R243 to R249, Tables 07-5 to 07-17). -/

namespace Sys2Proof.Machine

/-- The value of a semaphore (R243: 0 at reset). -/
def State.semVal (s : State) (n : Nat) : Nat := sget (fun _ => 0) s.tensor.sems n

/-- Set the value of a semaphore. -/
def State.setSem (s : State) (n v : Nat) : State :=
  { s with tensor := { s.tensor with sems := sset (fun _ => 0) s.tensor.sems n v } }

/-- Detail of a SEM record (R252). -/
def semDetail (n port : Nat) (write : Bool) : Nat := n + 32768 * b2n write + 65536 * port

/-- The watch fires when armed and the value has reached its threshold (R248): PENDING is set, the watch is disarmed, and
the SEM_WATCH interrupt is raised while ENABLE is 1. -/
def State.checkWatch (s : State) (w : Nat) : State :=
  let cfg := s.rd .semWatchCfg w
  if s.tensor.armed.contains w && decide (s.rd .semWatchThresh w ≤ s.semVal (bits cfg 13 0)) then
    let s := s.setBitOf .semWatchCfg w 17
    let s := { s with tensor := { s.tensor with armed := s.tensor.armed.filter (· ≠ w) } }
    if bit cfg 16 then s.send (.irq (w / 16) (srcId .sem w)) else s
  else s

/-- The armed watches and the waiting heads of a semaphore are evaluated on its value after an operation (R246). -/
def State.checkWatches (s : State) (n : Nat) : State :=
  ((s.tensor.armed.filter (fun w => bits (s.rd .semWatchCfg w) 13 0 == n)).foldl (fun s w => s.checkWatch w) s).touch

/-- SIGNAL v (R244): the value becomes the larger; a smaller v is logged. -/
def State.semSignal (s : State) (st : Stamp) (n v : Nat) : State :=
  let old := s.semVal n
  let s := (s.count .semOps 0 1).setSem n (max old v)
  let s := if v < old then
      s.raise { (s.mkRec .sem 0 0x10 0 stDONE) with plot := st.plot, ctx := st.ctx, detail := semDetail n st.port true }
    else s
  s.checkWatches n

/-- ADD a (R244): saturates at 2^64 − 1, and a sum beyond it is logged. -/
def State.semAdd (s : State) (st : Stamp) (n a : Nat) : State :=
  let old := s.semVal n
  let s := (s.count .semOps 0 1).setSem n (satAdd64 old a)
  let s := if 0xFFFFFFFFFFFFFFFF < old + a then
      s.raise { (s.mkRec .sem 0 0x11 0 stDONE) with plot := st.plot, ctx := st.ctx, detail := semDetail n st.port true }
    else s
  s.checkWatches n

/-- Who may operate on a semaphore (R245): requesters of the owning Plot and the Keeper. -/
def State.semAllowed (s : State) (st : Stamp) (n : Nat) : Bool :=
  (st.port == 159 && st.plot == 0xFF) || (s.ownerOf 0x06 n == st.plot && decide (st.plot < 16))

/-- The OWNER record of a refused semaphore access (R245, R252). -/
def semRefusal (st : Stamp) (n : Nat) (write : Bool) : WRefusal :=
  { errBit := none, inst := 0, detail := semDetail n st.port write }

/-- A SIGNAL or ADD from an agent inside the device, with the owner rule of R245. -/
def State.semSignalBy (s : State) (st : Stamp) (n v : Nat) : State :=
  if s.semAllowed st n then s.semSignal st n v
  else s.writerRefused st .sem (0x2000E000000 + 0x10 * n) (semRefusal st n true)

/-- An ADD with the owner rule of R245; an AMOUNT of 0 performs no operation (Table 07-9). -/
def State.semAddBy (s : State) (st : Stamp) (n a : Nat) : State :=
  if s.semAllowed st n then (if a = 0 then s else s.semAdd st n a)
  else s.writerRefused st .sem (0x2000E000000 + 0x10 * n + 8) (semRefusal st n true)

/-- A read of SEM_n_VALUE (R245): the value, or 0 to a requester that may not operate on it. -/
def State.semRead (s : State) (st : Stamp) (n : Nat) : State × Nat :=
  if s.semAllowed st n then (s, s.semVal n)
  else (s.writerRefused st .sem (0x2000E000000 + 0x10 * n) (semRefusal st n false), 0)

/-- Who may write a watch unit (R249), and that a CFG write names a semaphore of its Plot. -/
def State.watchRefusal (s : State) (who : Who) (st : Stamp) (w sem : Nat) (isCfg : Bool) : Option WRefusal :=
  if (s.isCoreOf who (w / 16) || isKeeper who) && (!isCfg || s.ownerOf 0x06 sem == w / 16) then none
  else some { errBit := some 2, inst := 0, detail := semDetail sem st.port true }

/-- A write of SEM_WATCH_w_CFG (R248): it arms on ENABLE 0 to 1, and on a changed SEM with ENABLE 1; ENABLE 0 disarms. -/
def State.watchCfgWrite (s : State) (who : Who) (w size v hw : Nat) : State :=
  let st := s.stampOf who
  s.regWrite st .semWatchCfg w size v (s.watchRefusal who st w (bits v 13 0) true) true (fun s =>
    let old := s.rd .semWatchCfg w
    let s := s.regStore .semWatchCfg w v hw
    let raised (c : Nat) : Bool := bit c 16 && bit c 17
    let s := if raised (s.rd .semWatchCfg w) && !raised old then s.send (.irq (w / 16) (srcId .sem w)) else s
    let arm := bit v 16 && (!bit old 16 || bits old 13 0 ≠ bits v 13 0)
    let others := s.tensor.armed.filter (· ≠ w)
    let s := if arm then { s with tensor := { s.tensor with armed := others ++ [w] } }
      else if !bit v 16 then { s with tensor := { s.tensor with armed := others } } else s
    s.checkWatch w)

/-- A write of SEM_WATCH_w_THRESH (R248): it arms while ENABLE is 1. -/
def State.watchThreshWrite (s : State) (who : Who) (w size v : Nat) : State :=
  let st := s.stampOf who
  s.regWrite st .semWatchThresh w size v (s.watchRefusal who st w (bits (s.rd .semWatchCfg w) 13 0) false) true (fun s =>
    let s := s.regStore .semWatchThresh w v 0
    let s := if bit (s.rd .semWatchCfg w) 16 then
        { s with tensor := { s.tensor with armed := s.tensor.armed.filter (· ≠ w) ++ [w] } } else s
    s.checkWatch w)

/-- A write of SEM_n_VALUE. -/
def State.semValueWrite (s : State) (who : Who) (n size v : Nat) : State :=
  let st := s.stampOf who
  s.regWrite st .semValue n size v (if s.semAllowed st n then none else some (semRefusal st n true)) true
    (fun s => s.semSignal st n v)

/-- A write of SEM_n_ADD: an AMOUNT of 0 performs no operation (Table 07-9). -/
def State.semAddWrite (s : State) (who : Who) (n size v : Nat) : State :=
  let st := s.stampOf who
  s.regWrite st .semAdd n size v (if s.semAllowed st n then none else some (semRefusal st n true)) true
    (fun s => if v = 0 then s else s.semAdd st n v)

/-- Writes of the SEM block. -/
def State.semWrite (s : State) (who : Who) (id : RegId) (ix size v hw : Nat) : State :=
  match id with
  | .semValue => s.semValueWrite who ix size v
  | .semAdd => s.semAddWrite who ix size v
  | .semWatchCfg => s.watchCfgWrite who ix size v hw
  | .semWatchThresh => s.watchThreshWrite who ix size v
  | _ => s.regWrite (s.stampOf who) id ix size v none true (fun s => s.regStore id ix v hw)

/-- Read-only registers of the SEM block that show the plan and the values. -/
def State.semView (s : State) (id : RegId) (ix : Nat) : Option Nat :=
  match id with
  | .semValue => some (s.semVal ix)
  | .semInfo => some (let o := s.ownerOf 0x06 ix; if o < 16 then o + 16 else 0)
  | .semStatus => some ((s.plan.map (fun p => sumL ((p.assigns.filter (·.kind == 0x06)).map (·.count)))).getD 0)
  | _ => none

/-- SIGNAL: a write of SEM_n_VALUE (R244). -/
def execSignal (who : Who) (n : Fin 16384) (value : BitVec 64) (s : State) : Host.Outcome State Fault Refusal :=
  .next (s.semValueWrite who n.val 8 value.toNat)

/-- ADD: a write of SEM_n_ADD (R244). -/
def execAdd (who : Who) (n : Fin 16384) (value : BitVec 32) (s : State) : Host.Outcome State Fault Refusal :=
  .next (s.semAddWrite who n.val 4 value.toNat)

/-- SEM_VALUE_READ: a read of SEM_n_VALUE (R245, R246). -/
def execSemValueRead (who : Who) (n : Fin 16384) (s : State) : Host.Outcome State Fault Refusal :=
  let r := s.semRead (s.stampOf who) n.val
  .next (r.1.answer stDONE (leBytes 8 r.2))

/-- SEM_WATCH_CFG_WRITE (R248, R249). -/
def execSemWatchCfgWrite (who : Who) (w : Fin 256) (value : BitVec 32) (s : State) : Host.Outcome State Fault Refusal :=
  .next (s.watchCfgWrite who w.val 4 value.toNat 0)

/-- SEM_WATCH_THRESH_WRITE (R248, R249). -/
def execSemWatchThreshWrite (who : Who) (w : Fin 256) (value : BitVec 64) (s : State) :
    Host.Outcome State Fault Refusal :=
  .next (s.watchThreshWrite who w.val 8 value.toNat)

end Sys2Proof.Machine
end

