-- ==== Sys2Proof/Machine/Links.lean ====
section
/-! DEFINITION. Eliravy ports and remote windows of spec/08: flits (R254), messages (R255), routes (R259, R260), the
order of sending (R261), remote accesses (R262 to R267) and their answers (R264, R265). -/

namespace Sys2Proof.Machine

/-! ### Flits and messages -/

/-- One step of CRC-64 with the ECMA-182 polynomial, over the bits of a byte, most significant first. -/
def crc64Bits : Nat → Nat → Nat
  | 0, c => c
  | n + 1, c => crc64Bits n (if 2 ^ 63 ≤ c then (2 * c % 2 ^ 64) ^^^ 0x42F0E1EBA9EA3693 else 2 * c)

/-- One byte of CRC-64. -/
def crc64Byte (c : Nat) (b : Byte) : Nat := crc64Bits 8 (c ^^^ (b.toNat <<< 56))

/-- CRC-64 of bytes from the value `c` (R254). -/
def crc64 (c : Nat) (l : List Byte) : Nat := l.foldl crc64Byte c

/-- Bytes that a LEN code stands for (Table 08-3). -/
def elxLen (code : Nat) : Nat := [0, 1, 2, 4, 8, 64, 128, 256].getD code 0

/-- The LEN code of a number of bytes. -/
def elxLenCode (n : Nat) : Nat := (firstIdx (· == n) [0, 1, 2, 4, 8, 64, 128, 256]).getD 0

/-- READ and SEM_READ name the bytes wanted in LEN and carry none. -/
def elxCarried (kind n : Nat) : Nat := if kind = 2 ∨ kind = 7 then 0 else ceilDiv n 8 * 8

/-- The bytes of a message (R255). -/
def ElxMsg.bytes (m : ElxMsg) : List Byte :=
  let d := m.data.take (elxCarried m.kind m.dataLen)
  leBytes 1 m.kind ++ leBytes 1 (m.src + 8 * m.dest + 64 * m.hop) ++ leBytes 1 (m.plot + 16 * m.cls) ++
    leBytes 1 (elxLenCode m.dataLen) ++ leBytes 2 m.ctx ++ leBytes 1 m.srcPort ++ leBytes 1 m.status ++
    leBytes 8 (m.addr % 2 ^ 48 + 2 ^ 48 * m.tag) ++ d ++ zeros (elxCarried m.kind m.dataLen - d.length)

/-- Read a message. -/
def readMsg (r : List Byte) : ElxMsg :=
  let n := elxLen (fld r 3 1)
  { kind := fld r 0 1, src := bits (fld r 1 1) 2 0, dest := bits (fld r 1 1) 5 3, hop := bits (fld r 1 1) 7 6,
    plot := bits (fld r 2 1) 3 0, cls := bits (fld r 2 1) 6 4, dataLen := n, ctx := fld r 4 2, srcPort := fld r 6 1,
    status := fld r 7 1, addr := fld r 8 6, tag := fld r 14 2,
    data := if fld r 0 1 = 2 ∨ fld r 0 1 = 7 then [] else sub r 16 n }

/-- The messages that end in a stream of bytes, and the bytes of one that goes on in the next flit. -/
def parseMsgs : Nat → List Byte → List ElxMsg × List Byte
  | 0, r => ([], r)
  | fuel + 1, r =>
    if r.isEmpty || fld r 0 1 == 0 || decide (8 < fld r 0 1) then ([], [])
    else if r.length < 16 then ([], r)
    else
      let n := 16 + elxCarried (fld r 0 1) (elxLen (fld r 3 1))
      if r.length < n then ([], r)
      else match parseMsgs fuel (r.drop n) with
        | (l, rest) => (readMsg r :: l, rest)

/-- Build a flit (Table 08-2); `credits` are returned for virtual channel `vc`. -/
def mkFlit (fseq ack credits vc : Nat) (replayReq : Bool) (payload : List Byte) : List Byte :=
  let body := leBytes 8 (fseq % 4096 + 4096 * (ack % 4096) + 2 ^ 24 * (credits % 256) + 2 ^ 32 * (vc % 16) +
      2 ^ 36 * b2n replayReq) ++ payload ++
    zeros (240 - payload.length)
  body ++ leBytes 8 (crc64 0 body)

/-! ### Ports -/

/-- The state of a port. -/
def State.elxPort (s : State) (k : Nat) : ElxPort := sget (fun _ => {}) s.elx.ports k

/-- Change a port. -/
def State.setElxPort (s : State) (k : Nat) (p : ElxPort) : State :=
  { s with elx := { s.elx with ports := sset (fun _ => {}) s.elx.ports k p } }

/-- A port carries messages: FULL or HALF. -/
def ElxPort.live (p : ElxPort) : Bool := decide (2 ≤ p.state)

/-- A port is one over which routes lead (R256, R259): one that retrains keeps its messages in its buffers. -/
def ElxPort.routed (p : ElxPort) : Bool := p.live || (p.trained && p.state == 1)

/-- GROVE_SIZE of the accepted plan; 0 without one. -/
def State.groveSize (s : State) : Nat := (s.plan.map (·.groveSize)).getD 0

/-- GROVE_ID. -/
def State.self (s : State) : Nat := s.pwr.groveId

/-- The port masks of Table 08-4. -/
def elxMasks (g : Nat) : List Nat := if g = 2 then [1, 1, 1, 1] else if g = 4 then [1, 2, 1, 2] else if g = 8 then [1, 2, 4, 7] else []

/-- The device that a port connects to (R258). -/
def State.portPeer (s : State) (k : Nat) : Nat := s.self ^^^ (elxMasks s.groveSize).getD k 0

/-- Another device is a member. -/
def State.isMember (s : State) (d : Nat) : Bool := s.elx.state == 2 && bit s.elx.members d

/-- Devices over which a path may lead: the members, and before formation every device of the Grove. -/
def State.elxNodes (s : State) : Nat := if s.elx.state = 2 then s.elx.members else 2 ^ s.groveSize - 1

/-- Device `t` is exactly `h` hops from `d`, over links taken to be live. -/
def elxReach (nodes : Nat) (masks : List Nat) : Nat → Nat → Nat → Bool
  | 0, d, t => d == t
  | h + 1, d, t => masks.any (fun m => bit nodes (d ^^^ m) && elxReach nodes masks h (d ^^^ m) t)

/-- The ports of this device over which routes lead. -/
def State.livePorts (s : State) : List Nat := (List.range 4).filter (fun k => (s.elxPort k).routed)

/-- The lowest set bit of a number below 8. -/
def lowBit (x : Nat) : Nat := if bit x 0 then 1 else if bit x 1 then 2 else 4

/-- The first hop from a device over links of `live` masks when all its ports are up (R259): hops and mask. -/
def elxDirect (nodes : Nat) (masks : List Nat) (d t : Nat) : Option (Nat × Nat) :=
  let x := d ^^^ t
  if masks.contains x then some (1, x)
  else if bit nodes (d ^^^ lowBit x) && masks.contains (lowBit x) && masks.contains (x ^^^ lowBit x) then some (2, lowBit x)
  else none

/-- The shortest path from a device over its ports of some masks, by the lowest port number: hops and the mask of the first. -/
def elxShortest (nodes : Nat) (masks own : List Nat) (d t : Nat) : Option (Nat × Nat) :=
  [1, 2, 3].findSome? (fun h =>
    (own.find? (fun m => bit nodes (d ^^^ m) && elxReach nodes masks (h - 1) (d ^^^ m) t)).map (fun m => (h, m)))

/-- The route from a device whose own ports have the masks `own` (R259). -/
def elxRoute (nodes : Nat) (masks own : List Nat) (d t : Nat) : Option (Nat × Nat) :=
  match (if own.length = masks.length then elxDirect nodes masks d t else none) with
  | some r => some r
  | none => elxShortest nodes masks own d t

/-- The route to another device (R259): hops and the mask of the first one. With all ports up it is the direct link, or the link of
the lowest set bit of x first; else the shortest path over live links, by the lowest port number. -/
def State.route (s : State) (t : Nat) : Option (Nat × Nat) :=
  let masks := elxMasks s.groveSize
  if t = s.self ∨ !bit s.elxNodes t then none
  else elxRoute s.elxNodes masks (s.livePorts.filterMap (fun k => masks[k]?)) s.self t

/-- The ports that may carry the first hop to a device, ascending. -/
def State.routePorts (s : State) (t : Nat) : List Nat :=
  match s.route t with
  | some (_, m) => s.livePorts.filter (fun k => (elxMasks s.groveSize).getD k 0 == m)
  | none => []

/-- P of R259: the target page of a message; 0 for SEM and CTRL messages. -/
def ElxMsg.page (m : ElxMsg) : Nat := if 5 ≤ m.kind then 0 else m.addr / 8192

/-- The port that a message takes from this device. -/
def State.pickPort (s : State) (m : ElxMsg) : Option Nat :=
  let l := s.routePorts m.dest
  if l.isEmpty then none else l[m.page % l.length]?

/-- The devices that forward a message from device `d` to `t`, in order. -/
def elxVia (nodes : Nat) (masks : List Nat) (t : Nat) : Nat → Nat → List Nat
  | 0, _ => []
  | fuel + 1, d =>
    if d = t then []
    else match elxRoute nodes masks masks d t with
      | some (_, m) => d :: elxVia nodes masks t fuel (d ^^^ m)
      | none => []

/-- The devices that forward messages to a device. -/
def State.viaOf (s : State) (t : Nat) : List Nat :=
  match s.route t with
  | some (_, m) => elxVia s.elxNodes (elxMasks s.groveSize) t 3 (s.self ^^^ m)
  | none => []

/-- The virtual channel of a buffer (R260): one for requests and one for responses at each HOP level. -/
def elxVc (kind hop : Nat) : Nat := hop + (if kind = 3 ∨ kind = 4 then 3 else 0)

/-- Add 1 at an index. -/
def bumpAt (l : List Nat) (i : Nat) : List Nat := setAt l i (l.getD i 0 + 1)

/-- A port has a credit for a virtual channel: one at least at first (R260). -/
def ElxPort.hasCredit (p : ElxPort) (vc : Nat) : Bool :=
  decide (p.used.getD vc 0 ≤ p.credits.getD vc 0) || decide (p.used.getD vc 0 < p.credits.getD vc 0 + 1 + Config.elxCredits vc)

/-- The lowest virtual channel for which credits are owed to the peer, with their number (at most 255). -/
def ElxPort.owes (p : ElxPort) : Nat × Nat :=
  match firstIdx (fun n => n != 0) p.owed with
  | some v => (v, min 255 (p.owed.getD v 0))
  | none => (0, 0)

/-- A port sends one flit: it is numbered, carries what is owed, and stays in the replay buffer. -/
def State.sendFlit (s : State) (k : Nat) (payload : List Byte) : State :=
  let p := s.elxPort k
  let (v, n) := p.owes
  let f := mkFlit p.txNext (p.rxNext + 4095) n v p.replayReq payload
  (s.setElxPort k { p with
    txNext := (p.txNext + 1) % 4096, replay := p.replay ++ [(p.txNext, f)], owed := setAt p.owed v (p.owed.getD v 0 - n) }).send (.flit k f)

/-- A port sends flits. -/
def State.sendFlits (s : State) (k : Nat) (l : List (List Byte)) : State := l.foldl (fun s c => s.sendFlit k c) s

/-- A flit without a message carries a replay request or credits to the peer. -/
def State.sendHeader (s : State) (k : Nat) : State :=
  if (s.elxPort k).live && decide ((s.elxPort k).replay.length < 256) then s.sendFlit k [] else s

/-- Credits owed go back to the peer at once. -/
def State.returnCredits (s : State) (k : Nat) : State := if (s.elxPort k).owes.2 = 0 then s else s.sendHeader k

/-- The bytes of messages, packed end to end, in pieces of 240. -/
def flitChunks (b : List Byte) : List (List Byte) := (List.range (ceilDiv b.length 240)).map (fun i => sub b (240 * i) 240)

/-- Which waiting message a port sends next (R261), of those for which it has a credit: CTRL, responses, then requests by class, and
by round robin over SRC_PORT within a class. -/
def ElxPort.pick (p : ElxPort) : Option ElxMsg :=
  let can := p.txq.filter (fun m => p.hasCredit (elxVc m.kind m.hop))
  match can.find? (fun m => m.kind == 8), can.find? (fun m => m.kind == 3 || m.kind == 4) with
  | some m, _ => some m
  | none, some m => some m
  | none, none =>
    let top := maxL (can.map (·.cls))
    let best := can.filter (·.cls == top)
    let dist (m : ElxMsg) : Nat := (m.srcPort + 256 - p.rr) % 256
    (sortBy (fun a b => decide (dist a < dist b)) best).head?

/-- The port after a message left its buffer: a credit is used, and the pointer moves past the port served. -/
def ElxPort.sent (p : ElxPort) (m : ElxMsg) : ElxPort :=
  { p with txq := p.txq.erase m, used := bumpAt p.used (elxVc m.kind m.hop),
           rr := if m.kind = 3 ∨ m.kind = 4 ∨ m.kind = 8 then p.rr else (m.srcPort + 1) % 256 }

/-- Take the waiting messages that may leave, in order, while the replay buffer of 256 flits has room for their bytes (R254). -/
def ElxPort.drain : Nat → ElxPort → List Byte → ElxPort × List Byte
  | 0, p, b => (p, b)
  | fuel + 1, p, b => match p.pick with
    | none => (p, b)
    | some m =>
      if 240 * (256 - p.replay.length) < b.length + m.bytes.length then (p, b)
      else ElxPort.drain fuel (p.sent m) (b ++ m.bytes)

/-- Send waiting messages, packed end to end (R254, R255). -/
def State.portFlush (s : State) (k : Nat) : State :=
  let p := s.elxPort k
  if !p.live then s
  else
    let (p', b) := p.drain p.txq.length []
    if b.isEmpty then s else ((s.setElxPort k p').count .elxPTxBytes k b.length).sendFlits k (flitChunks b)

/-- Give a message to a port. -/
def State.portSend (s : State) (k : Nat) (m : ElxMsg) : State :=
  let p := s.elxPort k
  (s.setElxPort k { p with txq := p.txq ++ [m] }).portFlush k

/-- Send a message by its route; one to a device without a path is lost. -/
def State.elxSend (s : State) (m : ElxMsg) : State :=
  match s.pickPort m with
  | some k => s.portSend k m
  | none => s

/-- A CTRL message of this device to another (R255). The manual lays out neither its data nor the rest of its header: these are
free. -/
def State.ctrlMsg (s : State) (dest : Nat) : ElxMsg × State :=
  let (v, s) := s.fresh
  let n := elxLen (bits v.toNat 2 0)
  let (b, s) := s.freshBytes n
  ({ kind := 8, src := s.self, dest := dest, hop := 0, plot := bits v.toNat 7 4, cls := bits v.toNat 10 8, dataLen := n,
     ctx := bits v.toNat 31 16, srcPort := bits v.toNat 39 32, status := 0, addr := 0, tag := bits v.toNat 63 48, data := b }, s)

/-- Send a CTRL message by its route: its content is observed as such beside its bytes. -/
def State.sendCtrl (s : State) (dest : Nat) (c : Ctrl) : State :=
  let (m, s) := (s.send (.ctrl dest c)).ctrlMsg dest
  s.elxSend m

/-- Send a CTRL message to the peer of a port. -/
def State.portCtrl (s : State) (k dest : Nat) (c : Ctrl) : State :=
  let (m, s) := (s.send (.ctrl dest c)).ctrlMsg dest
  s.portSend k m

/-- Forward a message at an intermediate device (R260). -/
def State.elxForward (s : State) (m : ElxMsg) : State := if m.hop < 2 then s.elxSend { m with hop := m.hop + 1 } else s

/-! ### Remote accesses of this device -/

/-- An operation orders a later semaphore operation of its master port (R267). -/
def RemoteOp.isWriteTo (o : RemoteOp) (m : ElxMsg) : Bool := o.msg.kind == 1 && o.msg.dest == m.dest && o.msg.srcPort == m.srcPort

/-- The operation at an index may be issued: after earlier ones of its master port to its device that wait, a semaphore
operation after the ACKs of its port's earlier writes (R267), within 1,024 READs and WRITEs of a port (R268), and not
while a changed path drains (R266). -/
def State.mayIssue (s : State) (i : Nat) (o : RemoteOp) (k : Nat) : Bool :=
  let before := s.elx.ops.take i
  before.all (fun e => e.port.isSome || e.msg.dest ≠ o.msg.dest || e.msg.srcPort ≠ o.msg.srcPort) &&
    !s.elx.stale.contains o.msg.dest &&
    (if o.msg.kind = 5 ∨ o.msg.kind = 6 then before.all (fun e => !e.isWriteTo o.msg) else true) &&
    (decide (3 ≤ o.msg.kind) ||
      decide ((s.elx.ops.filter (fun e => e.port == some k && decide (e.msg.kind ≤ 2))).length < 1024))

/-- Issue the operation at an index, if it may be. -/
def State.issueAt (s : State) (i : Nat) : State :=
  match s.elx.ops[i]? with
  | none => s
  | some o =>
    if o.port.isSome then s
    else match s.pickPort o.msg with
      | none => s
      | some k =>
        if s.mayIssue i o k then
          let s := { s with elx := { s.elx with ops := setAt s.elx.ops i { o with port := some k, via := s.viaOf o.msg.dest } } }
          s.portSend k o.msg
        else s

/-- Issue what may be issued. -/
def State.elxPump (s : State) : State :=
  let s := { s with elx := { s.elx with stale := s.elx.stale.filter (fun d =>
    s.elx.ops.any (fun o => o.msg.dest == d && o.port.isSome)) } }
  (List.range s.elx.ops.length).foldl (fun s i => s.issueAt i) s

/-- A remote operation of this device. -/
def State.elxOp (s : State) (st : Stamp) (kind dest addr len : Nat) (data : List Byte) (use : RemoteUse) : State :=
  let m : ElxMsg := {
    kind := kind, src := s.self, dest := dest, hop := 0, plot := st.plot % 16, cls := st.cls % 8,
    dataLen := len, ctx := st.ctx, srcPort := st.port, status := 0, addr := addr, tag := s.elx.nextTag, data := data }
  { s with elx := { s.elx with nextTag := (s.elx.nextTag + 1) % 65536, ops := s.elx.ops ++ [(RemoteOp.mk st m [] none use)] } }.elxPump

/-- A change of the routes (R266): targets whose path changed drain before anything more is issued to them. -/
def State.rerouted (s t : State) : State :=
  let changed := (List.range 8).filter (fun d => s.routePorts d ≠ t.routePorts d &&
    t.elx.ops.any (fun o => o.msg.dest == d && o.port.isSome) && !t.elx.stale.contains d)
  { t with elx := { t.elx with stale := t.elx.stale ++ changed } }.elxPump

/-! ### Remote windows (R262, R263) -/

/-- First address of the remote windows (Table 00-2). -/
abbrev remoteBase : Nat := 0x080000000000

/-- The window that an address lies in, with its offset. -/
def remoteWindow (a : Nat) : Option (Nat × Nat) :=
  if remoteBase ≤ a ∧ a < remoteBase + 8 * 0x4000000000 then some ((a - remoteBase) / 0x4000000000, (a - remoteBase) % 0x4000000000)
  else none

/-- What a window offset is: DRAM (0), SEM_n_VALUE (1), SEM_n_ADD (2), else unmapped (Table 08-5). -/
def windowKind (off len : Nat) : Option Nat :=
  if off + len ≤ dramSize then some 0
  else if 0x2000000000 ≤ off ∧ off < 0x2000040000 then
    (if off % 16 = 0 ∧ len = 8 then some 1 else if off % 16 = 8 ∧ len = 4 then some 2 else none)
  else none

/-- The access sizes of R263. -/
def windowSizeOk (st : Stamp) (a n : Nat) : Bool :=
  a % n == 0 &&
    (if st.port < 128 ∨ st.port = 153 then n == 64 || n == 128 || n == 256
     else if 144 ≤ st.port ∧ st.port ≤ 147 then n == 1 || n == 2 || n == 4 || n == 8
     else false)

/-- The reason with which R263 refuses an access to the window of another device, if it does. -/
def State.windowReason (s : State) (st : Stamp) (d off len : Nat) (write : Bool) : Option Nat :=
  if !s.isMember d || (s.route d).isNone then some 1
  else if st.secure then some 2
  else match windowKind off len with
    | none => some 3
    | some 2 => if write then none else some 3
    | some _ => none

/-- The record of a refused access to a remote window (R281). -/
def State.windowRefused (s : State) (st : Stamp) (a reason : Nat) : State :=
  s.raise { (s.mkRec .elx 0 fcOWNER 2 stOWNER_FAULT).by st a with detail := reason }

/-- Send an access to the window of another device: its status if it is refused, none when it is on its way. -/
def State.remoteAccess (s : State) (st : Stamp) (a len : Nat) (write : Bool) (data : List Byte) (use : RemoteUse) :
    State × Option Nat :=
  match remoteWindow a with
  | none => (s, some stOWNER_FAULT)
  | some (d, off) =>
    match s.windowReason st d off len write with
    | some r => (s.windowRefused st a r, some stOWNER_FAULT)
    | none =>
      if windowKind off len = some 0 then (s.elxOp st (if write then 1 else 2) d off len data use, none)
      else
        let n := (off - 0x2000000000) / 16
        if !write then (s.elxOp st 7 d n 8 [] use, none)
        else if len = 8 then (s.elxOp st 5 d n 8 data use, none)
        else (s.elxOp st 6 d n 4 data use, none)

/-- An access to this device's own window is performed as if to the target (R263). -/
def State.ownWindow (s : State) (who : Who) (off len : Nat) (write : Bool) (data : List Byte) : State :=
  let st := s.stampOf who
  match windowKind off len with
  | none => (s.windowRefused st (remoteBase + 0x4000000000 * s.self + off) 3).answer stOWNER_FAULT (zeros (if write then 0 else len))
  | some 0 =>
    if write then
      let (s, ok) := s.memWrite st off (data.take len)
      s.answer (if ok then stDONE else stOWNER_FAULT) []
    else match s.memRead st off len with
      | (s, some d) => s.answer stDONE d
      | (s, none) => s.answer stOWNER_FAULT (zeros len)
  | some k =>
    let n := (off - 0x2000000000) / 16
    if write then
      (if k = 1 then s.semValueWrite who n 8 (leNat (data.take 8)) else s.semAddWrite who n 4 (leNat (data.take 4))).answer
        (if s.semAllowed st n then stDONE else stOWNER_FAULT) []
    else if k = 1 then
      let (s, v) := s.semRead st n
      s.answer (if s.semAllowed st n then stDONE else stOWNER_FAULT) (leBytes 8 v)
    else s.answer stDONE (zeros len)

/-- REMOTE_WINDOW_ACCESS (R263): performed locally, sent over a link, or refused. A store of a core is posted. -/
def execRemoteWindowAccess (who : Who) (addr : BitVec 48) (size : Nat) (write : Bool) (data : List Byte) (s : State) :
    Host.Outcome State Fault Refusal :=
  .next (
    let st := s.stampOf who
    match remoteWindow addr.toNat with
    | none => s
    | some (d, off) =>
      if !windowSizeOk st addr.toNat size then
        (s.sizeRefused st .elx 0 addr.toNat).answer stREFUSED_FORMAT (zeros (if write then 0 else size))
      else if d = s.self then s.ownWindow who off size write data
      else match s.remoteAccess st addr.toNat size write (data.take size) .plain with
        | (s, some w) => s.answer w (zeros (if write then 0 else size))
        | (s, none) => s.answer stDONE [])

/-! ### Flits received -/

/-- The peer's ACK releases flits from the replay buffer. -/
def ElxPort.acked (p : ElxPort) (ack : Nat) : ElxPort :=
  { p with replay := p.replay.filter (fun e => decide (2048 ≤ (ack + 4096 - e.1) % 4096)) }

/-- A replay is requested: the flits of the replay buffer are sent again, in order. -/
def State.elxReplay (s : State) (k : Nat) : State :=
  let l := (s.elxPort k).replay
  (l.foldl (fun (s : State) e => s.send (.flit k e.2)) s).bump .elxPReplay k l.length

/-- The stamp of a message at the inbound port (R264). -/
def ElxMsg.stamp (m : ElxMsg) (k : Nat) : Stamp := ⟨154 + k, m.plot, m.cls, false, m.ctx⟩

/-- A message that is not taken: its source is no member (R264), or this device refuses Eliravy requests (R277). -/
def State.nonMember (s : State) (k : Nat) (m : ElxMsg) : State :=
  s.raise { (s.mkRec .elx k fcOWNER 0 stOWNER_FAULT).by (m.stamp k) m.addr with detail := 4 }

/-- Deliver a message at a port: to its inbox, or, a CTRL message to another device, on its way. The content of a CTRL message to this
device comes as a command of its own. -/
def State.elxDeliver (s : State) (k : Nat) (m : ElxMsg) : State :=
  let s := s.count .elxPRxBytes k (16 + elxCarried m.kind m.dataLen)
  if m.kind = 8 then
    let p := s.elxPort k
    let s := s.setElxPort k { p with owed := bumpAt p.owed (elxVc m.kind m.hop) }
    if m.dest = s.self then s else if s.elx.state = 3 then s.nonMember k m else s.elxForward m
  else let p := s.elxPort k
    s.setElxPort k { p with inbox := p.inbox ++ [m] }

/-- A flit arrives at a port (R254). One that fails its CRC is taken for the flit expected unless a replay of that is requested already
and the FSEQ it shows is another. -/
def State.flitReceive (s : State) (k : Nat) (f : List Byte) : State :=
  let p := s.elxPort k
  if !p.live then s
  else if f.length ≠ 256 ∨ crc64 0 (f.take 248) ≠ fld f 248 8 then
    (s.setElxPort k { p with
      replayReq := true, failRun := if !p.replayReq || bits (fld f 0 8) 11 0 == p.rxNext then p.failRun + 1 else p.failRun }).sendHeader k
  else
    let h := fld f 0 8
    let p := { p with credits := setAt p.credits (bits h 35 32) (p.credits.getD (bits h 35 32) 0 + bits h 31 24) }
    let s := s.setElxPort k (p.acked (bits h 23 12))
    let s := if bit h 36 then s.elxReplay k else s
    let s := s.portFlush k
    let p := s.elxPort k
    if bits h 11 0 ≠ p.rxNext then s
    else
      let (msgs, rest) := parseMsgs 40 (p.rx ++ sub f 8 240)
      let s := s.setElxPort k { p with rxNext := (p.rxNext + 1) % 4096, failRun := 0, replayReq := false, rx := rest }
      (msgs.foldl (fun (s : State) m => s.elxDeliver k m) s).returnCredits k

/-- FLIT_RECEIVE (R254). -/
def execFlitReceive (port : Fin 4) (flit : List Byte) (s : State) : Host.Outcome State Fault Refusal :=
  .next (s.flitReceive port.val flit)

/-! ### Messages performed at the target (R264, R265) -/

/-- The answer of this device to a message. -/
def ElxMsg.answer (m : ElxMsg) (self kind status len : Nat) (data : List Byte) : ElxMsg :=
  { m with kind := kind, src := self, dest := m.src, hop := 0, status := status, dataLen := len, data := data }

/-- Take the oldest message of a port, if it is of a kind: it is forwarded, discarded when its source is no member, or
performed. A device that runs standalone refuses requests that it would forward (R277). The credit of its buffer goes back. -/
def State.takeMsg (s : State) (k kind : Nat) (run : State → ElxMsg → State) : State :=
  let p := s.elxPort k
  match p.inbox with
  | [] => s
  | m :: r =>
    if m.kind ≠ kind then s
    else
      let s := s.setElxPort k { p with inbox := r, owed := bumpAt p.owed (elxVc m.kind m.hop) }
      let s := if m.dest ≠ s.self then (if s.elx.state = 3 ∧ m.kind ≠ 3 ∧ m.kind ≠ 4 then s.nonMember k m else s.elxForward m)
        else if !s.isMember m.src then s.nonMember k m
        else run s m
      s.returnCredits k

/-- WRITE at the target. -/
def State.doElxWrite (s : State) (k : Nat) (m : ElxMsg) : State :=
  let (s, ok) := s.memWrite (m.stamp k) m.addr m.data
  s.elxSend (m.answer s.self 4 (if ok then stDONE else stOWNER_FAULT) 0 [])

/-- READ at the target. -/
def State.doElxRead (s : State) (k : Nat) (m : ElxMsg) : State :=
  match s.memRead (m.stamp k) m.addr m.dataLen with
  | (s, some d) => s.elxSend (m.answer s.self 3 stDONE m.dataLen d)
  | (s, none) => s.elxSend (m.answer s.self 3 stOWNER_FAULT m.dataLen (zeros m.dataLen))

/-- The status of a semaphore operation at the target. -/
def State.semStatus (s : State) (st : Stamp) (n : Nat) : Nat := if s.semAllowed st n then stDONE else stOWNER_FAULT

/-- SEM_SIGNAL at the target. -/
def State.doElxSignal (s : State) (k : Nat) (m : ElxMsg) : State :=
  let w := s.semStatus (m.stamp k) (m.addr % 16384)
  (s.semSignalBy (m.stamp k) (m.addr % 16384) (leNat m.data)).elxSend (m.answer s.self 4 w 0 [])

/-- SEM_ADD at the target. -/
def State.doElxAdd (s : State) (k : Nat) (m : ElxMsg) : State :=
  let w := s.semStatus (m.stamp k) (m.addr % 16384)
  (s.semAddBy (m.stamp k) (m.addr % 16384) (leNat m.data)).elxSend (m.answer s.self 4 w 0 [])

/-- SEM_READ at the target. -/
def State.doElxSemRead (s : State) (k : Nat) (m : ElxMsg) : State :=
  let w := s.semStatus (m.stamp k) (m.addr % 16384)
  let (s, v) := s.semRead (m.stamp k) (m.addr % 16384)
  s.elxSend (m.answer s.self 3 w 8 (leBytes 8 v))

/-- WRITE (R264, R265). -/
def execWrite (port : Fin 4) (s : State) : Host.Outcome State Fault Refusal :=
  .next (s.takeMsg port.val 1 (fun s m => s.doElxWrite port.val m))

/-- READ (R264, R265). -/
def execRead (port : Fin 4) (s : State) : Host.Outcome State Fault Refusal :=
  .next (s.takeMsg port.val 2 (fun s m => s.doElxRead port.val m))

/-- SEM_SIGNAL (R264, R265). -/
def execSemSignal (port : Fin 4) (s : State) : Host.Outcome State Fault Refusal :=
  .next (s.takeMsg port.val 5 (fun s m => s.doElxSignal port.val m))

/-- SEM_ADD (R264, R265). -/
def execSemAdd (port : Fin 4) (s : State) : Host.Outcome State Fault Refusal :=
  .next (s.takeMsg port.val 6 (fun s m => s.doElxAdd port.val m))

/-- SEM_READ (R255, R264). -/
def execSemRead (port : Fin 4) (s : State) : Host.Outcome State Fault Refusal :=
  .next (s.takeMsg port.val 7 (fun s m => s.doElxSemRead port.val m))

end Sys2Proof.Machine
end

