-- ==== Sys2Proof/Machine/Pct.lean ====
section
/-! DEFINITION. The power limiter, thermal controller and droop response of spec/17 (R543 to R556). -/

namespace Sys2Proof.Machine

/-- Clock domains: 0 to 15 the Pavilions, 16 to 19 the clusters, 20 the Orangery (R555). A domain is parked when no plan
is accepted, and a Pavilion or cluster when the plan assigns none of its Beds or cores (R25). -/
def State.parked (s : State) (d : Nat) : Bool :=
  match s.plan with
  | none => s.pwr.running
  | some p => if d < 16 then !p.usedPavilions.contains d else if d < 20 then !p.usedClusters.contains (d - 16) else false

/-- The MUST_RUN Plot numbers. -/
def Plan.mustRun (p : Plan) (plot : Nat) : Bool := ((p.plot? plot).map (·.mustRun)).getD false

/-- An index of a kind belongs to a MUST_RUN Plot. -/
def Plan.mustRunIx (p : Plan) (kind ix : Nat) : Bool := ((p.owner kind ix).map p.mustRun).getD false

/-- The limiter group of a domain (R548); 0 is protected. -/
def State.group (s : State) (d : Nat) : Nat :=
  match s.plan with
  | none => 0
  | some p =>
    if s.parked d then 0
    else if d < 16 then (if (List.range 8).any (fun b => p.mustRunIx 0x03 (8 * d + b)) then 0 else 1)
    else if d < 20 then (if (List.range 4).any (fun i => p.mustRunIx 0x01 (4 * (d - 16) + i)) then 0 else 2)
    else if (List.range 16).any (p.mustRunIx 0x0F) || (List.range 6).any (p.mustRunIx 0x0E) then 0 else 3

/-- The clock of a domain is stopped (R545, R552): in EMERGENCY every domain of groups 1 to 3 stands at level 0. -/
def State.clockOff (s : State) (d : Nat) : Bool := (s.pwr.emPower || s.pwr.emThermal) && s.group d ≠ 0

/-- Nothing runs on a domain: in safe state (R20), and while its clock is stopped. -/
def State.still (s : State) (d : Nat) : Bool := s.safe.safe || s.clockOff d

/-- The groups that hold a domain, in ascending number. -/
def State.groups (s : State) : List Nat :=
  [1, 2, 3].filter (fun g => (List.range 21).any (fun d => s.group d == g))

/-- Lower by one the level of the lowest-numbered group whose level is above 1 (R549). -/
def lowerLevels (groups lv : List Nat) : List Nat :=
  match groups.find? (fun g => decide (1 < lv.getD (g - 1) 16)) with
  | some g => setAt lv (g - 1) (lv.getD (g - 1) 16 - 1)
  | none => lv

/-- Raise by one the level of the highest-numbered group whose level is below 16 (R549). -/
def raiseLevels (groups lv : List Nat) : List Nat :=
  match groups.reverse.find? (fun g => decide (lv.getD (g - 1) 16 < 16)) with
  | some g => setAt lv (g - 1) (lv.getD (g - 1) 16 + 1)
  | none => lv

/-- The start of an unbroken run of ticks at which a condition holds. -/
def sinceTick (old : Option Nat) (cond : Bool) (now : Nat) : Option Nat := if cond then some (old.getD now) else none

/-- A run has lasted at least `n` ns. -/
def lasted (r : Option Nat) (now n : Nat) : Bool :=
  match r with
  | some t => decide (t + n ≤ now)
  | none => false

/-- The highest reading and its sensor; readings are two's complement in 1/16 °C. -/
def hottest (temps : List Nat) : Int × Nat :=
  (temps.zipIdx.map (fun x => (ofTwos 16 x.1, x.2))).foldl (fun b x => if b.1 < x.1 then x else b)
    (ofTwos 16 (temps.getD 0 0), 0)

/-- The limiter's and thermal controller's change of levels at a tick (R549, R550), from the measurements already held. -/
def State.tickLevels (s : State) : State :=
  let w := s.rd .pctLimitMw 0
  let p := s.pwr.power
  let t := (hottest s.pwr.temps).1
  let cfg := s.rd .pctThermCfg 0
  let thr : Int := 16 * (bits cfg 7 0 : Int)
  let gs := s.groups
  let below := sinceTick s.pwr.below (decide (100 * p < 98 * w)) s.now
  let cool := sinceTick s.pwr.cool (decide (t ≤ thr - 48)) s.now
  let lim := if s.pwr.emPower then s.pwr.lim
    else if w < p then lowerLevels gs s.pwr.lim
    else if lasted below s.now 1000000 then raiseLevels gs s.pwr.lim else s.pwr.lim
  let th := if s.pwr.emThermal then s.pwr.th
    else if thr ≤ t then lowerLevels gs s.pwr.th
    else if lasted cool s.now 1000000 then raiseLevels gs s.pwr.th else s.pwr.th
  let floor := decide (w < p) && gs.all (fun g => lim.getD (g - 1) 16 == 1)
  { s with pwr := { s.pwr with lim := lim, th := th, below := below, cool := cool,
                               atFloor := sinceTick s.pwr.atFloor floor s.now } }

/-- The causes of EMERGENCY after a tick, and the levels on entering and leaving it (R552). -/
def State.tickEmergency (s : State) : State :=
  let t := (hottest s.pwr.temps).1
  let em : Int := 16 * (bits (s.rd .pctThermCfg 0) 15 8 : Int)
  let powerIn := lasted s.pwr.atFloor s.now 10000000
  let powerOut := lasted s.pwr.below s.now 10000000
  let emPower := if s.pwr.emPower then !powerOut else powerIn
  let emThermal := if s.pwr.emThermal then decide (em - 80 < t) else decide (em ≤ t)
  let lim := if emPower then s.pwr.lim.map (fun _ => 0) else if s.pwr.emPower then s.pwr.lim.map (fun _ => 1) else s.pwr.lim
  let th := if emThermal then s.pwr.th.map (fun _ => 0) else if s.pwr.emThermal then s.pwr.th.map (fun _ => 1) else s.pwr.th
  let prot := if emThermal then min 8 s.pwr.thProt else if s.pwr.emThermal then 16 else s.pwr.thProt
  { s with pwr := { s.pwr with lim := lim, th := th, thProt := prot, emPower := emPower, emThermal := emThermal } }

/-- A limiter level of a group is below 16, or EMERGENCY has the power cause (PCT_STATUS.POWER_CAUSE). -/
def State.powerCause (s : State) : Bool :=
  s.pwr.emPower || s.groups.any (fun g => decide (s.pwr.lim.getD (g - 1) 16 < 16))

/-- A thermal level is below 16, or EMERGENCY has the thermal cause (PCT_STATUS.THERMAL_CAUSE). -/
def State.thermalCause (s : State) : Bool :=
  s.pwr.emThermal || decide (s.pwr.thProt < 16) || s.groups.any (fun g => decide (s.pwr.th.getD (g - 1) 16 < 16))

/-- The power state that holds (Table 17-4): 0 NORMAL, 1 LIMIT, 2 EMERGENCY. -/
def State.powerStateNow (s : State) : Nat :=
  if s.pwr.emPower || s.pwr.emThermal then 2
  else if s.powerCause || s.thermalCause ||
      decide (16 * (bits (s.rd .pctThermCfg 0) 7 0 : Int) ≤ (hottest s.pwr.temps).1) then 1
  else 0

/-- Enter the power state that holds; a change logs POWER_STATE (R552). -/
def State.updatePowerState (s : State) : State :=
  let n := s.powerStateNow
  if n = s.pwr.state then s
  else
    let s := { s with pwr := { s.pwr with state := n, normal := if n = 0 then s.now else s.pwr.normal } }
    s.raise { (s.mkRec .pct 0 0x11 (if n = 2 then 1 else 0) stDONE) with
      detail := n + 4 * b2n s.powerCause + 8 * b2n s.thermalCause }

/-- A temperature of 130 °C trips once each time it is reached (R550). -/
def State.thermalTrip (s : State) : State :=
  let h := hottest s.pwr.temps
  let hot := decide ((2080 : Int) ≤ h.1)
  let s' := { s with pwr := { s.pwr with tripped := hot } }
  if hot && !s.pwr.tripped then
    s'.raise { (s.mkRec .pct 0 0x12 4 stHW_ERROR) with detail := h.2 + 256 * (toTwos 8 (h.1 / 16)) }
  else s'

/-- One tick of the limiter and the thermal controller (R547, R549, R550, R552). -/
def State.limiterTick (s : State) (power : Nat) (temps : List Nat) : State :=
  let s := { s with pwr := { s.pwr with power := power, energy := s.pwr.energy + power,
                                        temps := (temps ++ s.pwr.temps.drop temps.length).take 28 } }
  s.tickLevels.tickEmergency.updatePowerState.thermalTrip

/-- The effective level of a domain (R545, R551). -/
def State.effectiveLevel (s : State) (d : Nat) : Nat :=
  let g := s.group d
  let l := if g = 0 then 16 else s.pwr.lim.getD (g - 1) 16
  let t := if g = 0 then s.pwr.thProt else s.pwr.th.getD (g - 1) 16
  if s.parked d || s.plan.isNone then 0 else min (min l t) (if s.pwr.droop.isSome then 8 else 16)

/-- PCT_DOM_d (Table 17-13). -/
def State.domReg (s : State) (d : Nat) : Nat :=
  if s.parked d then 0x800000
  else if s.plan.isNone then 0
  else
    let g := s.group d
    let l := if g = 0 then 16 else s.pwr.lim.getD (g - 1) 16
    let t := if g = 0 then s.pwr.thProt else s.pwr.th.getD (g - 1) 16
    l + 256 * t + 65536 * s.effectiveLevel d + 0x200000 * g

/-- Views of the PCT registers that show state. -/
def State.pctView (s : State) (id : RegId) (ix : Nat) : Option Nat :=
  match id with
  | .pctStatus => some (s.pwr.state + 4 * b2n s.powerCause + 8 * b2n s.thermalCause + 16 * b2n s.pwr.droop.isSome)
  | .pctPowerMw => some s.pwr.power
  | .pctRails => some s.pwr.rails
  | .pctEnergy => some (s.pwr.energy / 10 % 2 ^ 64)
  | .pctTempMax => some (let h := hottest s.pwr.temps; toTwos 16 h.1 + 65536 * h.2)
  | .pctDom => some (s.domReg ix)
  | .pctTemp => some (s.pwr.temps.getD ix 0)
  | _ => none

/-- The refusal of a PCT write (R554, R556). -/
def pctNotOwner : WRefusal := { errBit := some 2, inst := 0, detail := 1 }

/-- Writes of the PCT block (R548, R556, Tables 17-11 and 17-12). -/
def State.pctWrite (s : State) (who : Who) (id : RegId) (ix size v hw : Nat) : State :=
  let st := s.stampOf who
  let keeper := if isKeeper who then none else some pctNotOwner
  match id with
  | .pctLimitMw => s.regWrite st id ix size v (if isKeeper who || st.secure then none else some pctNotOwner)
      (decide (((s.plan.map Plan.mustRunMw).getD 0) ≤ v) && decide (v ≤ 1000 * ((s.plan.map (·.powerLimit)).getD 0)))
      (fun s => s.regStore id ix v hw)
  | .pctThermCfg => s.regWrite st id ix size v keeper
      (decide (85 ≤ bits v 7 0) && decide (bits v 7 0 ≤ 120) && decide (100 ≤ bits v 15 8) &&
        decide (bits v 15 8 ≤ 125) && decide (bits v 7 0 < bits v 15 8)) (fun s => s.regStore id ix v hw)
  | .pctDroopCfg => s.regWrite st id ix size v keeper (decide (1650 ≤ bits v 10 0) && decide (bits v 10 0 ≤ 1760))
      (fun s => s.regStore id ix v hw)
  | _ => s.regWrite st id ix size v none true (fun s => s.regStore id ix v hw)

/-- LIMITER_TICK (R549): the power and the sensor readings of the window just ended. -/
def execLimiterTick (power : BitVec 32) (temps : List (BitVec 16)) (s : State) : Host.Outcome State Fault Refusal :=
  .next (s.limiterTick power.toNat (temps.map BitVec.toNat))

/-- DROOP (R551): a sensor sees VIN below the threshold; the cap takes effect and the event is counted. -/
def execDroop (sensor : Fin 8) (s : State) : Host.Outcome State Fault Refusal :=
  .next (match s.pwr.droop with
    | some _ => s
    | none => { s with pwr := { s.pwr with droop := some (s.now, sensor.val) } }.bump .pctDroopCount 0 1)

/-- DROOP_RELEASE (R551): 1 µs after VIN recovered the cap is lifted; an event longer than 10 µs is logged. -/
def execDroopRelease (s : State) : Host.Outcome State Fault Refusal :=
  .next (match s.pwr.droop with
    | none => s
    | some (t, sensor) =>
      let len := s.now - t - 1000
      let s := { s with pwr := { s.pwr with droop := none } }
      if 10000 < len then
        s.raise { (s.mkRec .pct 0 0x10 0 stDONE) with detail := min len 0xFFFFFFFF + 0x100000000 * sensor }
      else s)

/-- RAIL_FAULT (R542): a rail of positions 1 to 9 leaves its band after step 0x05. -/
def execRailFault (rail : Fin 9) (s : State) : Host.Outcome State Fault Refusal :=
  .next (if s.pwr.railsDone then
    { s with pwr := { s.pwr with rails := clrBit s.pwr.rails (rail.val + 2) } }.raise
      { (s.mkRec .pct 0 0x13 4 stHW_ERROR) with detail := rail.val + 1 } else s)

/-- PLL_UNLOCK (R546). -/
def execPllUnlock (s : State) : Host.Outcome State Fault Refusal :=
  .next (s.raise (s.mkRec .pct 0 0x14 4 stHW_ERROR))

end Sys2Proof.Machine
end

