-- ==== Sys2Proof/Machine/Beds.lean ====
section
/-! DEFINITION. The Beds of spec/03: power states, share slots and their clear, inbound accesses, DMA descriptors and
stalls (R101 to R116, R124 to R129). -/

namespace Sys2Proof.Machine

/-! ### Records and accounts -/

/-- An OWNER record of a Bed (R125). -/
def State.bedOwner (s : State) (n reason : Nat) (write : Bool) (port off : Nat) (st : Stamp) (addr : Nat) : State :=
  s.raise { (s.mkRec .bed n fcOWNER 2 stOWNER_FAULT).by st addr with
    detail := reason + 256 * b2n write + 65536 * port + 0x100000000 * (off % 2097152) }

/-- Change a context. -/
def State.updCtx (s : State) (c : Nat) (f : CtxSt → CtxSt) : State :=
  match s.ctx? c with
  | some x => { s with tensor := { s.tensor with ctxs := sset (fun _ => none) s.tensor.ctxs c (some (f x)) } }
  | none => s

/-- Change a command in flight. -/
def State.updFlight (s : State) (q seq : Nat) (f : Flight → Flight) : State :=
  { s with tensor := { s.tensor with
      flights := updWhere (fun x => x.queue == q && x.cmd.seq == seq) f s.tensor.flights } }

/-- A status other than DONE that an operation on a Pavilion reports: the first one counts, and of those of one device time that
of the lowest Pavilion (R119). -/
def Flight.report (f : Flight) (now pav w : Nat) : Flight :=
  match f.bad, f.badAt with
  | none, _ => { f with bad := some w, badAt := some (now, pav) }
  | some _, some (t, p) => if t = now ∧ pav < p then { f with bad := some w, badAt := some (now, pav) } else f
  | some _, none => f

/-- A command in flight. -/
def State.flight? (s : State) (q seq : Nat) : Option Flight :=
  s.tensor.flights.find? (fun x => x.queue == q && x.cmd.seq == seq)

/-- A Bed has an operation in flight. -/
def State.bedInFlight (s : State) (n : Nat) : Bool :=
  s.tensor.flights.any (fun f => f.ops.any (fun o => o.status.isNone && o.parts.any (fun b => b.bed == n)))

/-- The command whose operator runs on a Bed. -/
def State.runningFlight (s : State) (n : Nat) : Option Flight :=
  match (s.bed n).running with
  | some r => s.flight? r.queue r.seq
  | none => none

/-- The remote request that an operation of this device serves belongs to a channel of a Bed. -/
def RemoteUse.of (u : RemoteUse) (n : Nat) (p : Nat → Bool) : Bool :=
  match u with
  | .plain => false
  | .dma bed ch _ _ _ _ => bed == n && p ch
  | .mem bed ch _ _ _ _ => bed == n && p ch

/-- Channels of a Bed stop waiting for their remote requests: the command that these served has ended. -/
def State.orphan (s : State) (n : Nat) (p : Nat → Bool) : State :=
  let b := s.bed n
  let s := s.setBed n { b with dma := b.dma.map (fun d => if p d.1 then (d.1, { d.2 with pend := 0 }) else d) }
  { s with elx := { s.elx with ops := s.elx.ops.map (fun o => if o.use.of n p then { o with use := .plain } else o) } }

/-- A DMA channel. -/
def BedSt.ch (b : BedSt) (c : Nat) : DmaCh := sget (fun _ => {}) b.dma c

/-- Change a DMA channel. -/
def BedSt.setCh (b : BedSt) (c : Nat) (x : DmaCh) : BedSt := { b with dma := sset (fun _ => {}) b.dma c x }

/-- The command whose operator a Bed runs stops there: its channels drop their descriptors, and what they had met is kept for
reports of the same device time (R119). -/
def BedSt.halt (b : BedSt) (r : RunningOp) (now : Nat) : BedSt :=
  { b with
    running := none,
    halted := some ⟨r, now, b.dma.filterMap (fun d =>
      if d.2.copy.isNone && d.2.cur.isSome && d.2.curStatus ≠ stDONE && d.2.pend == 0 then some (d.1, d.2.curStatus) else none)⟩,
    dma := b.dma.map (fun d => if d.2.copy.isSome then d else (d.1, { d.2 with cur := none, curStatus := 0 })) }

/-- Stop what runs on Beds for a command. -/
def State.haltBeds (s : State) (q seq : Nat) : State :=
  let halted := (s.tensor.beds.filter (fun e => match e.2.running with
    | some r => r.queue == q && r.seq == seq
    | none => false)).map (·.1)
  let s := halted.foldl (fun (s : State) n => s.orphan n (fun c => ((s.bed n).ch c).copy.isNone)) s
  { s with tensor := { s.tensor with beds := s.tensor.beds.map (fun e =>
      match e.2.running with
      | some r => if r.queue == q && r.seq == seq then (e.1, e.2.halt r s.dt) else e
      | none => e) } }

/-- The COPY of a command stops: channel 3 of its Bed drops its descriptor. -/
def State.haltCopy (s : State) (n q seq : Nat) : State :=
  if ((s.bed n).ch 3).copy = some (q, seq) then
    let s := s.orphan n (· == 3)
    s.setBed n ((s.bed n).setCh 3 { (s.bed n).ch 3 with cur := none, curStatus := 0, copy := none })
  else s

/-- Complete the operations of a command that are still open with CANCELLED, count them, and stop its Beds (R119). -/
def State.cancelOps (s : State) (q seq : Nat) : State :=
  match s.flight? q seq with
  | none => s
  | some f =>
    let open_ := f.ops.filter (fun o => o.status.isNone)
    let s := open_.foldl (fun s o => s.count .pavCompleted o.pav 1) s
    let s := if f.cmd.opcode = 0x02 then s.haltCopy (fld f.cmd.args 16 1) q seq else s
    (s.updFlight q seq (fun f => { f with
      doneAt := s.dt,
      lastPav := (open_.getLast?.map (·.pav)).orElse (fun _ => f.lastPav),
      ops := f.ops.map (fun o => if o.status.isNone then { o with status := some stCANCELLED } else o) })).haltBeds q seq

/-- A command ends early with a status (R115, R119, R124): the operation that meets it, on Pavilion `pav`, reports it first,
the others are cancelled. -/
def State.endCommand (s : State) (q seq status : Nat) (pav : Nat := 0) : State :=
  (s.updFlight q seq (fun f => f.report s.dt pav status)).cancelOps q seq

/-- A Bed on which the command was stopped at this device time still reports a status, which counts by R119. -/
def State.lateReport (s : State) (n status : Nat) : State :=
  match (s.bed n).halted with
  | some h => if h.at_ = s.dt then s.updFlight h.op.queue h.op.seq (fun f => f.report s.dt (n / 8) status) else s
  | none => s

/-! ### Power (R111 to R113) -/

/-- BED_PWR.TARGET codes (Table 03-23). -/
def targetPwr : Nat → Pwr
  | 0 => .off | 1 => .retain | _ => .on

/-- Start a transition; none when the Bed already stands at the target. -/
def BedSt.start (b : BedSt) (t : Pwr) (now : Nat) : BedSt :=
  if b.pwr = t then { b with goal := none, want := none }
  else { b with goal := some t, left := b.pwr, want := none, since := now,
                pwr := if t = .on || b.pwr = .off then .waking else b.pwr }

/-- Move a Bed to a target: at once, or after the transition under way (R112). A Bed of a parked Pavilion stays OFF
(R94). -/
def State.setTarget (s : State) (n : Nat) (t : Pwr) : State :=
  let b := s.bed n
  if !((s.plan.map (fun p => p.usedPavilions.contains (n / 8))).getD false) then s
  else if b.goal.isSome then s.setBed n { b with want := some t }
  else s.setBed n (b.start t s.dt)

/-- A clear of a Bed is running: of a share (R109), or of the whole Bed in the last part of a transition from OFF, which starts
62 us after the BED_PWR write (Table 03-6). -/
def State.clearRunning (s : State) (n : Nat) : Bool :=
  let b := s.bed n
  b.clearing.isSome || (b.pwr = .waking && b.left = .off && decide (b.since + 62000 * 2 ^ 32 ≤ s.dt))

/-- The contents that a Bed loses when its array and vector unit lose their supply (Table 03-5). -/
def State.loseArray (s : State) (b : BedSt) : BedSt × State :=
  let k := s.free
  let lost (i : Nat) : Buf := { cells := [], lost := some (k + i) }
  ({ b with acc := lost 0, tiles := lost 1, side := lost 2, vregs := lost 3 }, { s with free := k + 4 })

/-- What the contents are when a transition ends: cleared after OFF (R112), the array lost in RETAIN and OFF, everything
lost in OFF. -/
def State.arriveContents (s : State) (n : Nat) (b : BedSt) (t : Pwr) : State × BedSt :=
  let (b, s) := if b.left = .off then
      ({ b with imem := {}, dmem := {}, acc := {}, tiles := {} }, s.padClear n 0 2097152)
    else (b, s)
  match t with
  | .off =>
    let (b, s) := s.loseArray b
    (s.padClear n 0 2097152, { b with imem := {}, dmem := {} })
  | .retain => if b.left = .on then let (b, s) := s.loseArray b; (s, b) else (s, b)
  | _ => (s, b)

/-- Clear RESIDENT of every slot of a Bed. -/
def State.dropResidents (s : State) (n : Nat) : State :=
  (List.range 4).foldl (fun s k => s.wr .bedSlot (4 * n + k) (clrBit (s.rd .bedSlot (4 * n + k)) 16)) s

/-- A power transition ends (R112, R113). -/
def State.pwrDone (s : State) (n : Nat) : State :=
  let b := s.bed n
  match b.goal with
  | none => s
  | some t =>
    let (s, b) := s.arriveContents n b t
    let b := { b with pwr := t, goal := none }
    let s := s.setBed n (match b.want with
      | some w => b.start w s.dt
      | none => b)
    if t = .off then (s.dropResidents n).touch else s

/-! ### ECC (R126) -/

/-- A Bed logs and counts an ECC event of one of its memories; the number of rows moved before an uncorrectable one. -/
def State.bedEcc (s : State) (n : Nat) (st : Stamp) (addr : Nat) (e : BedEcc) : State × Option Nat :=
  match e with
  | .clean => (s, none)
  | .event ue unit bank after =>
    let detail := (if unit.val = 0 then bank.val else 0) + 256 * unit.val
    let r := if ue then s.mkRec .bed n fcECC_UNCORRECTED 2 stHW_ERROR else s.mkRec .bed n fcECC_CORRECTED 1 stDONE
    ((s.bump (if ue then .bedEccUe else .bedEccCe) n 1).raise { r.by st addr with detail := detail },
      if ue then some after else none)

/-! ### Register writes of the PAV and BED blocks -/

/-- The refusal of a write by another requester than the Keeper (R129). -/
def notKeeper (inst : Nat) (st : Stamp) : WRefusal :=
  { errBit := some 2, inst := inst, detail := 4 + 256 + 65536 * st.port }

/-- A BED_BUSY refusal (Table 03-12). -/
def bedBusy (n off : Nat) : WRefusal :=
  { errBit := some 3, inst := n, cls := 0x12, status := stBUSY, detail := off }

/-- The refusal of a BED_PWR write (R113, R129, R431). -/
def State.bedPwrRefusal (s : State) (who : Who) (st : Stamp) (n v : Nat) : Option WRefusal :=
  let b := s.bed n
  if !isKeeper who then some (notKeeper n st)
  else if s.secureAttr 0x03 n && bits v 1 0 ≠ 2 then
    some { errBit := some 4, inst := n, detail := 7 + 256 + 65536 * st.port }
  else if bits v 1 0 < 2 && (s.bedInFlight n || b.dma.any (fun d => d.2.cur.isSome) || s.clearRunning n) then some (bedBusy n 0xC)
  else none

/-- The refusal of a BED_SLOT_s write (R113, R129, Table 03-25). -/
def State.bedSlotRefusal (s : State) (who : Who) (st : Stamp) (n slot v : Nat) : Option WRefusal :=
  let b := s.bed n
  let ctx := bits v 9 0
  let sh := s.share n slot
  let old := s.rd .bedSlot (4 * n + slot)
  let inFlight := match s.slotCtx n slot with
    | some c => s.tensor.flights.any (fun f => f.cmd.ctx == c &&
        f.ops.any (fun o => o.status.isNone && o.parts.any (fun x => x.bed == n)))
    | none => false
  if !isKeeper who then some (notKeeper n st)
  else if inFlight || s.clearRunning n then some (bedBusy n (0x20 + 4 * slot))
  else if bit v 16 && !bit old 16 && b.pwr ≠ .on then some (bedBusy n (0x20 + 4 * slot))
  else if bit v 16 && (sh.1 == 0 || (List.range 4).any (fun k => k ≠ slot && s.slotCtx n k == some ctx) ||
      ((s.ctx? ctx).map (·.plot)) ≠ some sh.2.2) then
    some { errBit := none, inst := n, status := stREFUSED_PLAN, detail := 5 + 256 + 65536 * st.port }
  else none

/-- The effect of a BED_SLOT_s write: a change of RESIDENT from 0 to 1 starts the share clear (R109). -/
def State.slotStore (s : State) (n slot v : Nat) : State :=
  let old := s.rd .bedSlot (4 * n + slot)
  let s := s.regStore .bedSlot (4 * n + slot) v 0
  let s := if bit v 16 && !bit old 16 then
      let sh := s.share n slot
      let s := s.padClear n (65536 * sh.2.1) (65536 * sh.1)
      let s := s.setBed n { s.bed n with clearing := some slot }
      s.updCtx (bits v 9 0) (fun x => { x with residencies := satAdd32 x.residencies 1 })
    else s
  s.touch

/-- Writes of the PAV and BED blocks (R127 to R129). -/
def State.bedWrite (s : State) (who : Who) (id : RegId) (ix size v hw : Nat) : State :=
  let st := s.stampOf who
  match id with
  | .bedPwr => s.regWrite st id ix size v (s.bedPwrRefusal who st ix v) (bits v 1 0 ≠ 3)
      (fun s => (s.regStore id ix v hw).setTarget ix (targetPwr (bits v 1 0)))
  | .bedSlot => s.regWrite st id ix size v (s.bedSlotRefusal who st (ix / 4) (ix % 4) v) true
      (fun s => s.slotStore (ix / 4) (ix % 4) v)
  | .bedDmaStallLimit => s.regWrite st id ix size v (if isKeeper who then none else some (notKeeper ix st)) true
      (fun s => s.regStore id ix v hw)
  | .pavEvictAfter => s.regWrite st id ix size v (if isKeeper who then none else some (notKeeper ix st)) true
      (fun s => s.regStore id ix v hw)
  | _ => s.regWrite st id ix size v none true (fun s => s.regStore id ix v hw)

/-! ### Pinned stripes (R165, R166) -/

/-- The pieces of stripe `v` of a segment bound at `base`, as (address, offset in the stripe, length). -/
def SegRec.pieces (g : SegRec) (base v : Nat) : List (Nat × Nat × Nat) :=
  if bit g.flags 0 then
    (List.range (g.stripeBytes / 8192)).map (fun i => (base + 8192 * (i * g.stripes + v), 8192 * i, 8192))
  else [(base + v * g.stripeBytes, 0, g.stripeBytes)]

/-- The address of byte `off` of stripe `v`. -/
def SegRec.addr (g : SegRec) (base v off : Nat) : Nat :=
  if bit g.flags 0 then base + 8192 * (off / 8192 * g.stripes + v) + off % 8192 else base + v * g.stripeBytes + off

/-- Copy DRAM pieces into a share, until one is refused; whether all were copied. -/
def State.copyIn (s : State) (st : Stamp) (n base : Nat) : List (Nat × Nat × Nat) → State × Bool
  | [] => (s, true)
  | (a, o, l) :: r => match s.memRead st a l with
    | (s, some d) => (s.padPut n (base + o) d).copyIn st n base r
    | (s, none) => (s, false)

/-- The virtual Bed that a program placed on a Bed. -/
def Prog.vbedOf (p : Prog) (n : Nat) : Option Nat := (firstIdx (· == n) p.map).map (· + p.lo)

/-- The stamp of a Bed's requests outside a command (R166). -/
def State.pinStamp (s : State) (n c : Nat) : Stamp :=
  let plot := ((s.ctx? c).map (·.plot)).getD 0xFF
  ⟨n, plot, s.defaultClass plot, (s.enclaveOf c).isSome, c⟩

/-- The PINNED copies of one program on one Bed, into the slot where its context is resident; whether none was refused. -/
def State.pinCopy (s : State) (p : Prog) (n : Nat) : State × Bool :=
  match p.vbedOf n, s.residentSlot p.ctx n with
  | some v, some slot =>
    let base := 65536 * (s.share n slot).2.1
    (p.segs.zip p.binds).foldl (fun (s : State × Bool) g =>
      if s.2 ∧ g.1.kind = 1 ∧ g.1.vbedFirst ≤ v ∧ v < g.1.vbedFirst + g.1.stripes then
        s.1.copyIn (s.1.pinStamp n p.ctx) n (base + g.1.pinOff) (g.1.pieces g.2 (v - g.1.vbedFirst))
      else s) (s, true)
  | _, _ => (s, true)

/-- The loaded programs of a context. -/
def State.ctxProgs (s : State) (c : Nat) : List Prog :=
  s.tensor.progs.filterMap (fun e => match e.2 with
    | some p => if p.ctx = c then some p else none
    | none => none)

/-! ### Residency changes (R225) -/

/-- Make a context non-resident on a Bed. -/
def State.vacate (s : State) (n slot : Nat) : State := s.wr .bedSlot (4 * n + slot) (clrBit (s.rd .bedSlot (4 * n + slot)) 16)

/-- Write the residency changes that the Keeper has decided on for a Bed, as far as the Bed allows (R225): once it reads ON, the
context in the slot leaves, and once no clear of the Bed is running, the new one takes the slot. -/
def State.runMoves (s : State) (n : Nat) : State :=
  match s.tensor.moves.find? (fun m => m.1 == n) with
  | none => s
  | some m =>
    let b := s.bed n
    if b.pwr ≠ .on then s
    else
      let s := match s.slotCtx n m.2.1 with
        | some v => if v = m.2.2 then s
            else (s.vacate n m.2.1).updCtx v (fun x => { x with evictions := satAdd32 x.evictions 1 })
        | none => s
      if b.clearing.isNone then
        let s := { s with tensor := { s.tensor with moves := s.tensor.moves.filter (· ≠ m) } }
        s.bedWrite .keeper .bedSlot (4 * n + m.2.1) 4 (m.2.2 + 65536) 0
      else s

/-- The share clear of a Bed ends (R109): the PINNED copies follow (R225 step 4), then further residency changes. -/
def State.clearDone (s : State) (n : Nat) : State :=
  let b := s.bed n
  match b.clearing with
  | none => s
  | some slot =>
    let s := s.setBed n { b with clearing := none }
    let s := match s.slotCtx n slot with
      | some c => (s.ctxProgs c).foldl (fun (s : State) p => (s.pinCopy p n).1) s
      | none => s
    (s.runMoves n).touch

/-! ### Inbound accesses (R110, R113) -/

/-- First address of the scratchpad windows (R4). -/
abbrev padBase : Nat := 0x10000000000

/-- The share slot of a Bed that holds a scratchpad offset. -/
def State.slotAt (s : State) (n off : Nat) : Option Nat :=
  (List.range 4).find? (fun k => let h := s.share n k
    decide (65536 * h.2.1 ≤ off) && decide (off < 65536 * (h.2.1 + h.1)))

/-- The reason with which R110 refuses an inbound access to a Bed that reads ON, if it does. `offs` are the offsets of the
bytes covered. -/
def State.inboundReason (s : State) (who : Who) (n off size : Nat) (write : Bool) (offs : List Nat) : Option Nat :=
  let owner := s.ownerOf 0x03 n
  let here := s.slotAt n (offs.headD off)
  let requester : Option Nat := match who with
    | .core _ => if s.isCoreOf who owner then none else some 3
    | .keeper => none
    | .bed m c =>
      if m.val ≠ n && write && ((s.ctx? c.val).map (·.plot)) == some owner && decide (owner < 16) &&
          s.ownerOf 0x03 m.val == owner then
        (if (s.residentSlot c.val n).isSome && s.residentSlot c.val n == here then none else some 2)
      else some 3
    | _ => some 3
  let enclave := here.any (fun k => (s.slotCtx n k).any (fun c => (s.enclaveOf c).isSome))
  match (if requester.isNone && enclave && !(s.stampOf who).secure then some 3 else requester) with
  | some r => some r
  | none =>
    let formOk := match who with
      | .bed _ _ => size == 64 && off % 64 == 0
      | _ => ([1, 2, 4, 8, 64].contains size) && off % size == 0
    if !formOk then some 6
    else if here.isSome && offs.all (fun o => s.slotAt n o == here) then none
    else some 1

/-- An inbound access to a scratchpad window. -/
def State.inbound (s : State) (who : Who) (addr size : Nat) (write : Bool) (data : List Byte) (en : List Bool) : State :=
  let n := (addr - padBase) / 2097152
  let off := (addr - padBase) % 2097152
  let st := s.stampOf who
  let lanes := (List.range size).filter (fun i => !write || en.getD i true)
  if (s.bed n).pwr ≠ .on then
    (s.raise { (s.mkRec .bed n 0x13 0 stBUSY).by st addr with detail := (s.bed n).pwr.code }).answer stBUSY (zeros (if write then 0 else size))
  else match s.inboundReason who n off size write (lanes.map (off + ·)) with
    | some r => (s.bedOwner n r write st.port off st addr).answer stOWNER_FAULT (zeros (if write then 0 else size))
    | none =>
      if write then
        { s with pads := writeMasked (padDefault s.padLost) s.pads (padAddr n off)
                   ((List.range size).map (fun i => (en.getD i true, data.getD i 0))) }.answer stDONE []
      else s.answer stDONE (s.padGet n off size)

/-! ### DMA (R114 to R116) -/

/-- A descriptor (Table 03-7). -/
def readDesc (r : List Byte) : Desc :=
  { dramAddr := fld r 0 8, shareOff := fld r 8 4, bed := fld r 0xC 1, dir := fld r 0xD 1, rows := fld r 0xE 2,
    rowBytes := fld r 0x10 4, srcStride := fld r 0x14 4, shareStride := fld r 0x18 4, event := fld r 0x1C 1,
    reserved := fld r 0x1D 3 }

/-- A descriptor holds no reserved value (Table 03-7). -/
def Desc.ok (d : Desc) : Bool :=
  (decide (d.bed < 128) || d.bed == 0xFF) && decide (d.dir ≤ 2) && decide (1 ≤ d.rows) && decide (1 ≤ d.rowBytes) &&
    decide (d.rowBytes ≤ 2097152) && decide (d.event ≤ 15) && d.reserved == 0 &&
    (d.dir ≠ 2 || decide (d.dramAddr < 2 ^ 32))

/-- The offset of the last byte of a range of rows. -/
def Desc.last (d : Desc) (off stride : Nat) : Nat := off + (d.rows - 1) * stride + d.rowBytes - 1

/-- The Bed of SHARE_OFF, for a channel of Bed `n`. -/
def Desc.target (d : Desc) (n : Nat) : Nat := if d.bed = 0xFF then n else d.bed

/-- BASE and length in bytes of the slot in which a context is resident. -/
def State.residentShare (s : State) (c n : Nat) : Nat × Nat :=
  match s.residentSlot c n with
  | some k => (65536 * (s.share n k).2.1, 65536 * (s.share n k).1)
  | none => (0, 0)

/-- The checks of R115 on a descriptor of a channel of Bed `n`: the refusal's status, with the state after its record. -/
def State.descRefusal (s : State) (n : Nat) (d : Desc) (st : Stamp) : State × Option Nat :=
  let t := d.target n
  let up := d.last d.shareOff d.shareStride
  let src := d.last (d.dramAddr % 2 ^ 32) d.srcStride
  let own (reason off : Nat) : State := s.bedOwner n reason (d.dir ≠ 1) 0xFF off st 0
  let base (m : Nat) : Nat := (s.residentShare st.ctx m).1
  if !d.ok || s.ownerOf 0x03 t ≠ st.plot then (s, some stREFUSED_FORMAT)
  else if t ≠ n ∧ (s.residentSlot st.ctx t).isNone then (own 2 d.shareOff, some stOWNER_FAULT)
  else if (s.residentShare st.ctx t).2 ≤ up then (own 1 (base t + up), some stOWNER_FAULT)
  else if d.dir = 2 ∧ (s.residentShare st.ctx n).2 ≤ src then (own 1 (base n + src), some stOWNER_FAULT)
  else if d.dir = 2 ∧ t = n ∧ d.shareOff ≤ src ∧ d.dramAddr ≤ up then (s, some stREFUSED_FORMAT)
  else (s, none)

/-- Read a piece of DRAM for a channel, page by page; the bytes before the first refused page, and whether it was refused.
`limit` is the number of bytes that arrive before a poisoned read. -/
def State.readPieces (s : State) (st : Stamp) : List (Nat × Nat) → State × List Byte × Bool
  | [] => (s, [], true)
  | (a, l) :: r => match s.memRead st a l with
    | (s, some d) => let (s, e, ok) := s.readPieces st r; (s, d ++ e, ok)
    | (s, none) => (s, [], false)

/-- Write a piece of DRAM for a channel, page by page; whether every page was written. -/
def State.writePages (s : State) (st : Stamp) : List (Nat × Nat) → List Byte → State × Bool
  | [], _ => (s, true)
  | (a, l) :: r, d => match s.memWrite st a (d.take l) with
    | (s, true) => s.writePages st r (d.drop l)
    | (s, false) => (s, false)

/-- Write bytes into the share side of a descriptor: this Bed's scratchpad, or another Bed's through its window in words
with byte enables. The status is DONE, or that of the access that was refused. -/
def State.putShare (s : State) (n t : Nat) (st : Stamp) (off : Nat) (data : List Byte) : State × Nat :=
  if t = n then (s.padPut n off data, stDONE)
  else if data.isEmpty then (s, stDONE)
  else
    let words := (List.range ((off + data.length - 1) / 64 - off / 64 + 1)).map (fun i => (off / 64 + i) * 64)
    let go (x : State × Nat) (w : Nat) : State × Nat :=
      if x.2 ≠ stDONE then x
      else
        let en := (List.range 64).map (fun i => decide (off ≤ w + i) && decide (w + i < off + data.length))
        let d := (List.range 64).map (fun i => data.getD (w + i - off) 0)
        let r := x.1.resp
        let y := x.1.inbound (.bed (Fin.ofNat 128 n) (Fin.ofNat 1024 st.ctx)) (padBase + padAddr t w) 64 true d en
        ({ y with resp := r }, y.resp.status)
    words.foldl go (s, stDONE)

/-- An address of this device's own remote window stands for the DRAM behind it (R263). -/
def State.localAddr (s : State) (a : Nat) : Nat :=
  match remoteWindow a with
  | some (d, off) => if d = s.self ∧ off < dramSize then off else a
  | none => a

/-- The naturally aligned requests of 64, 128 or 256 bytes that cover whole words (R263). -/
def remotePieces : Nat → Nat → Nat → List (Nat × Nat)
  | 0, _, _ => []
  | fuel + 1, a, n =>
    if n = 0 then []
    else
      let l := if a % 256 = 0 ∧ 256 ≤ n then 256 else if a % 128 = 0 ∧ 128 ≤ n then 128 else 64
      (a, l) :: remotePieces fuel (a + l) (n - l)

/-- Send one request of a channel to a remote window, after the earlier ones of its row were not refused. -/
def State.remotePiece (n c : Nat) (st : Stamp) (x : State × Nat) (a l : Nat) (write : Bool) (data : List Byte)
    (use : RemoteUse) : State × Nat :=
  if x.2 ≠ stDONE then x
  else match x.1.remoteAccess st a l write data use with
    | (s, some w) => (s, w)
    | (s, none) =>
      let b := s.bed n
      (s.setBed n (b.setCh c { b.ch c with pend := (b.ch c).pend + 1 }), stDONE)

/-- Read a row from a remote window into a share: every word that the row touches is asked for. -/
def State.remoteRead (s : State) (n c t : Nat) (st : Stamp) (a up len : Nat) : State × Nat :=
  let lo := a / 64 * 64
  (remotePieces (len / 64 + 2) lo ((a + len + 63) / 64 * 64 - lo)).foldl (fun x p =>
    let from_ := max a p.1
    State.remotePiece n c st x p.1 p.2 false [] (.dma n c t (up + (from_ - a)) (from_ - p.1) (min (a + len) (p.1 + p.2) - from_)))
    (s, stDONE)

/-- Write a row of whole words to a remote window; one that is not whole words is no access that R263 allows. -/
def State.remoteWrite (s : State) (n c : Nat) (st : Stamp) (a : Nat) (data : List Byte) : State × Nat :=
  if a % 64 ≠ 0 ∨ data.length % 64 ≠ 0 then (s.sizeRefused st .elx 0 a, stREFUSED_FORMAT)
  else (remotePieces (data.length / 64 + 1) a data.length).foldl (fun x p =>
    State.remotePiece n c st x p.1 p.2 true (sub data (p.1 - a) p.2) (.dma n c n 0 0 0)) (s, stDONE)

/-- A read of a channel comes back poisoned (R74): the page of its first byte is retired and the error logged by the MCC. -/
def State.poisonRead (s : State) (st : Stamp) (a : Nat) : State :=
  match s.pageOf a with
  | some (c, j) => s.eccFatal c j a st.plot st.ctx false
  | none => s

/-- Move one row of a descriptor of channel `c` (R116). `ue` is the number of bytes of this row that arrive before a
poisoned read. -/
def State.moveRow (s : State) (n c : Nat) (d : Desc) (st : Stamp) (k : Nat) (ue : Option Nat) : State × Nat :=
  let t := d.target n
  let up := (s.residentShare st.ctx t).1 + d.shareOff + k * d.shareStride
  let a := s.localAddr (d.dramAddr + k * d.srcStride)
  match d.dir with
  | 0 =>
    if (remoteWindow a).isSome then s.remoteRead n c t st a up d.rowBytes
    else
      let want := match ue with
        | some u => min u d.rowBytes
        | none => d.rowBytes
      let (s, data, ok) := s.readPieces st (pagePieces a want)
      let s := if ok ∧ want < d.rowBytes then s.poisonRead st (a + want) else s
      let (s, w) := s.putShare n t st up data
      (s, if w ≠ stDONE then w else if !ok then stOWNER_FAULT else if want < d.rowBytes then stHW_ERROR else stDONE)
  | 1 =>
    if t ≠ n then
      (s.bedOwner t 3 false n up st (padBase + padAddr t up), stOWNER_FAULT)
    else if (remoteWindow a).isSome then s.remoteWrite n c st a (s.padGet n up d.rowBytes)
    else
      let (s, ok) := s.writePages st (pagePieces a d.rowBytes) (s.padGet n up d.rowBytes)
      (s, if ok then stDONE else stOWNER_FAULT)
  | _ =>
    let src := (s.residentShare st.ctx n).1 + d.dramAddr + k * d.srcStride
    s.putShare n t st up (s.padGet n src d.rowBytes)

/-- Move the rows of a descriptor in ascending order, until one ends with another status than DONE. `ueAt` is the offset,
counted over the rows, of a byte whose DRAM read returns poisoned: none of its 64-byte word arrives. -/
def State.moveRows (s : State) (n c : Nat) (d : Desc) (st : Stamp) (ueAt : Option Nat) : Nat → Nat → State × Nat
  | 0, _ => (s, stDONE)
  | left + 1, k =>
    let ue := match ueAt with
      | some u => if u / d.rowBytes = k then
          let a := d.dramAddr + k * d.srcStride
          some (max a ((a + u % d.rowBytes) / 64 * 64) - a)
        else none
      | none => none
    match s.moveRow n c d st k ue with
    | (s, w) => if w = stDONE then s.moveRows n c d st ueAt left (k + 1) else (s, w)

/-- Run a descriptor on channel `c` of a Bed: its status so far (remote requests may still change it). An uncorrectable ECC
error of the Bed ends it with HW_ERROR after the rows moved before it. -/
def State.runDesc (s : State) (n c : Nat) (d : Desc) (st : Stamp) (ueAt : Option Nat) (ecc : BedEcc := .clean) : State × Nat :=
  match s.descRefusal n d st with
  | (s, some w) => (s, w)
  | (s, none) => match s.bedEcc n st 0 ecc with
    | (s, none) => s.moveRows n c d st ueAt d.rows 0
    | (s, some after) => match s.moveRows n c d st ueAt (min after d.rows) 0 with
      | (s, w) => (s, if w = stDONE then stHW_ERROR else w)

/-- A channel's descriptor ends: its final status is recorded, and the count of completed ones and its EVENT counter advance
(R115). -/
def BedSt.endDesc (b : BedSt) (c : Nat) : BedSt :=
  let x := b.ch c
  match x.cur with
  | none => b
  | some (d, _) =>
    let b := b.setCh c { status := x.curStatus, done := (x.done + 1) % 65536 }
    { b with events := sset (fun _ => 0) b.events d.event (sget (fun _ => 0) b.events d.event + 1) }

/-- The stamp of a Bed's requests for the command it runs (R114). -/
def State.bedStamp (s : State) (n : Nat) (f : Flight) : Stamp :=
  ⟨n, s.queuePlot f.queue, s.queueClass f.queue, (s.enclaveOf f.cmd.ctx).isSome, f.cmd.ctx⟩

/-- The sequencer gives a channel a descriptor (R114, R115); nothing runs in safe state (R20) or while the
clock is stopped (R545). -/
def State.dmaStart (s : State) (n c : Nat) (raw : List Byte) (ueAt : Option Nat) (ecc : BedEcc) : State :=
  match s.runningFlight n with
  | none => s
  | some f =>
    if ((s.bed n).ch c).cur.isSome || s.still (n / 8) then s
    else
      let st := s.bedStamp n f
      let (s, w) := s.runDesc n c (readDesc raw) st ueAt ecc
      s.setBed n ((s.bed n).setCh c { (s.bed n).ch c with cur := some (readDesc raw, st), curStatus := w })

/-- A descriptor of an operator ends once its remote requests are complete (R115): a status other than DONE ends the command.
That of a COPY ends with its last request (`State.endCopy`). -/
def State.dmaDone (s : State) (n c : Nat) : State :=
  let b := s.bed n
  let x := b.ch c
  if s.still (n / 8) || x.copy.isSome then s
  else if x.cur.isNone then
    (match (b.halted.bind (fun h => h.chans.find? (fun e => e.1 == c))).map (·.2) with
     | some w => s.lateReport n w
     | none => s)
  else if x.pend ≠ 0 then s
  else
    let f := s.runningFlight n
    let s := s.setBed n (b.endDesc c)
    match f with
    | some f => if x.curStatus ≠ stDONE then (s.endCommand f.queue f.cmd.seq x.curStatus (n / 8)).touch else s
    | none => s

/-! ### Views -/

/-- Views of the PAV registers (Tables 03-14 to 03-18). -/
def State.pavView (s : State) (id : RegId) (ix : Nat) : Option Nat :=
  let used := (s.plan.map (fun p => p.usedPavilions.contains ix)).getD false
  match id with
  | .pavStatus => some (b2n (!used) +
      256 * maskOf ((List.range 8).filter (fun b => (s.bed (8 * ix + b)).pwr = .on)) +
      65536 * (s.pavOps ix).length + 0x800000 * b2n used)
  | .pavSlotBusy => some (maskOf ((s.pavOps ix).map (fun o => o.2.slot)))
  | _ => none

/-- The operator kinds that run on the array, and on the vector unit (Table 05-1); in an ATTEND a Bed computes scores and
weighted values on both (R208). -/
def arrayKind (k : Nat) : Bool := [0x0001, 0x0002, 0x000A].contains k
def vectorKind (k : Nat) : Bool := [0x0001, 0x0002, 0x0003, 0x0004, 0x0005, 0x0006, 0x0007, 0x000A, 0x000C].contains k

/-- Views of the BED registers (Tables 03-20 to 03-29). -/
def State.bedView (s : State) (id : RegId) (ix : Nat) : Option Nat :=
  match id with
  | .bedStatus =>
    let b := s.bed ix
    let run (p : Nat → Bool) : Nat := b2n ((b.running.map (fun r => p r.kind)).getD false && !s.safe.safe)
    some (b.pwr.code + 4 * b2n (s.clearRunning ix) + 8 * run (fun _ => true) + 16 * run arrayKind + 32 * run vectorKind +
      64 * maskOf ((List.range 4).filter (fun c => (b.ch c).cur.isSome)) +
      1024 * maskOf ((List.range 4).filter (fun k => (s.slotCtx ix k).isSome)))
  | .bedShare => some (let h := s.share (ix / 4) (ix % 4); h.1 + 256 * h.2.1 + 65536 * h.2.2)
  | .bedDmaStatus => some (let c := (s.bed (ix / 4)).ch (ix % 4); b2n c.cur.isSome + 256 * c.status + 65536 * c.done)
  | _ => none

/-! ### Commands -/

/-- DMA_DESCRIPTOR (R114, R115, R126). -/
def execDmaDescriptor (bed : Fin 128) (ch : Fin 4) (raw : List Byte) (met : Option Nat × BedEcc) (s : State) :
    Host.Outcome State Fault Refusal := .next (s.dmaStart bed.val ch.val raw met.1 met.2)

/-- DMA_DESCRIPTOR_DONE (R115). -/
def execDmaDescriptorDone (bed : Fin 128) (ch : Fin 4) (s : State) : Host.Outcome State Fault Refusal :=
  .next (s.dmaDone bed.val ch.val)

/-- DMA_STALL (R106): logged when the wait reaches BED_DMA_STALL_LIMIT. -/
def execDmaStall (bed : Fin 128) (port : Fin 5) (bank : Fin 32) (cycles : BitVec 32) (s : State) :
    Host.Outcome State Fault Refusal :=
  .next (let limit := s.rd .bedDmaStallLimit bed.val
    if limit ≠ 0 && cycles.toNat == limit then
      s.raise { (s.mkRec .bed bed.val 0x11 0 stBUSY) with
        plot := s.ownerOf 0x03 bed.val, detail := port.val + 8 * bank.val + 0x100000000 * cycles.toNat }
    else s)

/-- An inbound access that meets an ECC event (R126): an uncorrectable one answers HW_ERROR, and nothing is written or read. -/
def State.inboundEcc (s : State) (who : Who) (addr size : Nat) (write : Bool) (data : List Byte) (en : List Bool)
    (ecc : BedEcc) : State :=
  let t := s.inbound who addr size write data en
  let n := (addr - padBase) / 2097152
  if t.resp.status ≠ stDONE then t
  else match s.bedEcc n (s.stampOf who) addr ecc with
    | (s, none) => s.inbound who addr size write data en
    | (s, some _) => s.answer stHW_ERROR (zeros (if write then 0 else size))

/-- INBOUND_SCRATCHPAD_ACCESS (R110, R113, R126). -/
def execInboundScratchpadAccess (who : Who) (addr : BitVec 48) (size : Nat) (write : Bool)
    (data : List Byte × List Bool) (ecc : BedEcc) (s : State) : Host.Outcome State Fault Refusal :=
  .next (if padBase ≤ addr.toNat ∧ addr.toNat < padBase + 128 * 2097152 then
    s.inboundEcc who addr.toNat size write data.1 data.2 ecc else s)

/-- BED_PWR_WRITE (R112). -/
def execBedPwrWrite (who : Who) (bed : Fin 128) (value : BitVec 32) (s : State) : Host.Outcome State Fault Refusal :=
  .next (s.bedWrite who .bedPwr bed.val 4 value.toNat 0)

/-- BED_PWR_TRANSITION_DONE (R112, R113). -/
def execBedPwrTransitionDone (bed : Fin 128) (s : State) : Host.Outcome State Fault Refusal :=
  .next ((s.pwrDone bed.val).runMoves bed.val)

/-- BED_SLOT_WRITE (R129). -/
def execBedSlotWrite (who : Who) (bed : Fin 128) (slot : Fin 4) (value : BitVec 32) (s : State) :
    Host.Outcome State Fault Refusal := .next (s.bedWrite who .bedSlot (4 * bed.val + slot.val) 4 value.toNat 0)

/-- SHARE_CLEAR_DONE (R109, R225). -/
def execShareClearDone (bed : Fin 128) (s : State) : Host.Outcome State Fault Refusal := .next (s.clearDone bed.val)

/-- SEQ_TRAP (R124): the command is aborted with REFUSED_FORMAT. Nothing runs in safe state (R20). -/
def State.seqTrap (s : State) (n code pc : Nat) : State :=
  let note (q seq : Nat) : State :=
    match s.flight? q seq with
    | some f => s.raise { (s.mkRec .bed n 0x10 2 stREFUSED_FORMAT) with
        plot := s.queuePlot q, ctx := f.cmd.ctx, detail := code + 0x100000000 * pc }
    | none => s
  if s.still (n / 8) then s
  else match (s.bed n).running, (s.bed n).halted with
    | some r, _ => ((note r.queue r.seq).endCommand r.queue r.seq stREFUSED_FORMAT (n / 8)).touch
    | none, some h => if h.at_ = s.dt then (note h.op.queue h.op.seq).lateReport n stREFUSED_FORMAT else s
    | none, none => s

/-- SEQ_TRAP (R124). -/
def execSeqTrap (bed : Fin 128) (code : BitVec 8) (pc : BitVec 32) (s : State) : Host.Outcome State Fault Refusal :=
  .next (s.seqTrap bed.val code.toNat pc.toNat)

end Sys2Proof.Machine
end

