-- ==== Sys2Proof/Machine/Trellis.lean ====
section
/-! DEFINITION. The Trellis of spec/06: key-value spaces, sequences, page tables, steps, quarantine and the release ring
(R182 to R204, R212, R213, R215 to R218). -/

namespace Sys2Proof.Machine

/-! ### Descriptors -/

/-- The stamp of a Trellis's DRAM accesses for a command (R211). -/
def State.trlStamp (s : State) (pav q ctx : Nat) : Stamp :=
  ⟨128 + pav, s.queuePlot q, s.queueClass q, (s.enclaveOf ctx).isSome, ctx⟩

/-- K_SCALE and V_SCALE: 0 means 1 (Table 06-1). -/
def scaleWord (w : Nat) : Nat := if w = 0 then 0x3F800000 else w

/-- The space that a descriptor describes (Table 06-1). -/
def readSpace (r : List Byte) (desc ctx cslot plot : Nat) : Space :=
  { ctx := ctx, cslot := cslot, plot := plot, desc := desc, kfmt := fld r 4 2, vfmt := fld r 6 2, qfmt := fld r 8 2,
    headDim := fld r 0xA 2, layers := fld r 0xC 2, kvHeads := fld r 0xE 1, qPerKv := fld r 0xF 1, maxSeq := fld r 0x10 2,
    lanes := fld r 0x12 2, stepRows := fld r 0x14 2, grove := bit (fld r 0x16 1) 0, seqTable := fld r 0x18 8,
    poolBase := fld r 0x20 8, poolBlocks := fld r 0x28 4, poolStride := fld r 0x2C 2, quarAddr := fld r 0x30 8,
    relAddr := fld r 0x38 8, smScale := fld r 0x40 4, kScale := scaleWord (fld r 0x44 4), vScale := scaleWord (fld r 0x48 4) }

/-- Step 1 of Table 06-2: MAGIC, reserved fields and values. Formats are step 2. -/
def spaceFormOk (r : List Byte) : Bool :=
  let x := readSpace r 0 0 0 0
  fld r 0 4 == 0x564B5A53 && [64, 128, 256].contains x.headDim && decide (1 ≤ x.layers) && decide (x.layers ≤ 256) &&
    decide (1 ≤ x.kvHeads) && decide (x.kvHeads ≤ 64) && decide (1 ≤ x.qPerKv) && decide (x.qPerKv ≤ 64) &&
    decide (x.kvHeads * x.qPerKv ≤ 256) && decide (1 ≤ x.maxSeq) && decide (x.maxSeq ≤ 4096) && decide (1 ≤ x.lanes) &&
    decide (x.lanes ≤ x.maxSeq) && decide (1 ≤ x.stepRows) && decide (x.stepRows ≤ 1024) && decide (fld r 0x16 1 ≤ 1) &&
    fld r 0x17 1 == 0 && x.seqTable % 64 == 0 && x.poolBase % 8192 == 0 && decide (1 ≤ x.poolBlocks) &&
    decide (x.poolBlocks ≤ 1048576) && decide (1 ≤ x.poolStride) && decide (x.poolStride ≤ 128) &&
    x.poolBlocks % x.poolStride == 0 && fld r 0x2E 2 == 0 && x.quarAddr % 64 == 0 && x.relAddr % 64 == 0 &&
    allZero r 0x4C 4 && allZero r 0x60 32

/-- R184: the formats of keys, values and queries. -/
def Space.formatsOk (x : Space) : Bool :=
  decide (1 ≤ x.kfmt) && decide (x.kfmt ≤ 7) && decide (1 ≤ x.vfmt) && decide (x.vfmt ≤ 7) && decide (1 ≤ x.qfmt) &&
    decide (x.qfmt ≤ 6) && widens x.kfmt x.qfmt && widens x.vfmt x.qfmt

/-- The pages of a block (R187). -/
def Space.blockPages (x : Space) : Nat := x.layers * x.kvHeads * 2

/-- Positions per page T (R187). -/
def Space.perPage (x : Space) : Nat := 65536 / (x.headDim * max (elemBits x.kfmt) (elemBits x.vfmt))

/-- The address of page `p` of block `b` (R188). -/
def Space.pageAddr (x : Space) (b p : Nat) : Nat :=
  x.poolBase + 8192 * ((b / x.poolStride * x.blockPages + p) * x.poolStride + b % x.poolStride)

/-- The page of a layer, local head and kind (0 key, 1 value) within a block (R188). -/
def Space.pageOf (x : Space) (l h kv : Nat) : Nat := (l * x.kvHeads + h) * 2 + kv

/-- Every page of a range is OWNED by a Plot, with RO as given and SUB of kind 0 or equal to the context. -/
def State.pagesHeld (s : State) (a n plot ctx : Nat) (ro : Bool) : Bool :=
  (pagePieces a n).all (fun p => match s.pageOf p.1 with
    | some (c, j) =>
      let e := s.entry c j
      decide (p.1 < reservedBase) && entryState e == 1 && entryPlot e == plot && bit e 7 == ro &&
        (bits (entrySub e) 11 10 == 0 || (bits (entrySub e) 11 10 == 1 && bits (entrySub e) 9 0 == ctx))
    | none => false)

/-- The device belongs to a formed Grove of at least `d` devices: ELX_STATUS.STATE is MEMBER. -/
def State.groveMember (s : State) (d : Nat) : Bool :=
  s.elx.state == 2 && decide (d ≤ popcount 8 s.elx.members)

/-- The free slots and sequence total of a Trellis. -/
def State.trlSlots (s : State) (pav : Nat) : List (Nat × Option Space) :=
  (List.range 4).map (fun k => (k, s.space? (4 * pav + k)))

/-- Sequences of the spaces that a Trellis holds. -/
def State.trlSeqUsed (s : State) (pav : Nat) : Nat := sumL ((s.trlSlots pav).map (fun e => (e.2.map (·.maxSeq)).getD 0))

/-- The pool lies in one region whose N is POOL_STRIDE, at a region page that is a multiple of N (Table 06-2 step 5). -/
def State.poolOk (s : State) (x : Space) : Bool :=
  match s.plan.bind (fun p => p.region x.poolBase) with
  | some r => decide (x.poolBase + 8192 * (x.poolBlocks * x.blockPages) ≤ r.base + r.length) && r.n == x.poolStride &&
      (x.poolBase - r.base) / 8192 % r.n == 0
  | none => false

/-- The BIND checks of Table 06-2: the refusal, or the Trellis slot and the space. -/
def State.bindCheck (s : State) (st : Stamp) (c : Cmd) : State × Except Nat (Nat × Space) :=
  let desc := fld c.args 0 8
  let cslot := fld c.args 8 1
  let pav := fld c.args 9 1
  match s.memRead st desc 128 with
  | (s, none) => (s, .error stOWNER_FAULT)
  | (s, some r) =>
    let x := readSpace r desc c.ctx cslot st.plot
    let used := (s.plan.map (fun p => p.usedPavilions.contains pav)).getD false
    let bound := ((s.ctx? c.ctx).map (fun k => k.binds.any (fun b => b.1 / 8 == pav))).getD false
    let free := ((s.trlSlots pav).find? (fun e => e.2.isNone)).map (·.1)
    let held (a n : Nat) : Bool := s.pagesHeld a n st.plot c.ctx false
    (s,
      if !spaceFormOk r then .error stREFUSED_FORMAT
      else if !x.formatsOk then .error stREFUSED_FORMAT
      else if !used || !bound then .error stREFUSED_PLAN
      else match free with
        | none => .error stREFUSED_FIT
        | some k =>
          if (s.spaceOf c.ctx cslot).isSome || decide (4096 < s.trlSeqUsed pav + x.maxSeq) then .error stREFUSED_FIT
          else if !held x.seqTable (32 * x.maxSeq) || !held x.poolBase (8192 * (x.poolBlocks * x.blockPages)) ||
              !held x.quarAddr (4 * x.poolBlocks) || !held x.relAddr (4 * x.poolBlocks) then .error stOWNER_FAULT
          else if !s.poolOk x then .error stREFUSED_FIT
          else if x.grove && !s.groveMember 1 then .error stREFUSED_FIT
          else .ok (4 * pav + k, x))

/-! ### Sequences -/

/-- A sequence of a space. -/
def Space.seq (x : Space) (n : Nat) : SeqSt := sget (fun _ => {}) x.seqs n

/-- Change a sequence. -/
def Space.setSeq (x : Space) (n : Nat) (q : SeqSt) : Space := { x with seqs := sset (fun _ => {}) x.seqs n q }

/-- The STATUS word (Table 06-5). -/
def SeqSt.word (q : SeqSt) : Nat :=
  q.state + 4 * b2n q.exhausted + 8 * b2n q.held + 256 * q.last + 65536 * q.lane + 0x100000000 * (q.epoch % 2 ^ 32)

/-- Write the STATUS and LENGTH of a sequence to its descriptor. -/
def State.putSeq (s : State) (st : Stamp) (x : Space) (n : Nat) : State :=
  let a := x.seqTable + 32 * n + 0x10
  (s.memWrite st a (leBytes 8 (x.seq n).word ++ leBytes 4 (x.seq n).length)).1

/-- Sequences of a space in ascending number. -/
def Space.seqList (x : Space) : List Nat := List.range x.maxSeq

/-- Lanes in use. -/
def Space.usedLanes (x : Space) : List Nat :=
  x.seqs.filterMap (fun e => if e.2.state = 2 ∨ e.2.state = 3 then some e.2.lane else none)

/-- The lowest free lane. -/
def Space.freeLane (x : Space) : Option Nat := (List.range x.lanes).find? (fun l => !x.usedLanes.contains l)

/-! ### Quarantine and release ring -/

/-- Unconsumed blocks of the release ring (R202). -/
def State.ringUsed (s : State) (st : Stamp) (x : Space) : State × Nat :=
  match s.memRead st (x.desc + 0x58) 8 with
  | (s, some d) => (s, (x.produced + 2 ^ 64 - leNat d) % 2 ^ 64)
  | (s, none) => (s, 0)

/-- Write one block to the release ring, then REL_PRODUCED (R202); a full ring loses the block and logs RING_OVERFLOW
(R203). -/
def State.release (s : State) (st : Stamp) (key : Nat) (x : Space) (retire : Bool) (blk : Nat) : State × Space :=
  match s.ringUsed st x with
  | (s, used) =>
    if x.poolBlocks ≤ used then
      (s.raise { (s.mkRec .trl (key / 4) 0x13 2 stMEMORY_EXHAUSTED).by st 0 with
        detail := 4096 * (key % 4) + 65536 * blk + 0x1000000000 * b2n retire }, x)
    else
      let (s, _) := s.memWrite st (x.relAddr + 4 * (x.produced % x.poolBlocks)) (leBytes 4 blk)
      let x := { x with produced := (x.produced + 1) % 2 ^ 64 }
      ((s.memWrite st (x.desc + 0x50) (leBytes 8 x.produced)).1, x)

/-- Write blocks to the release ring. -/
def State.releaseAll (s : State) (st : Stamp) (key : Nat) (x : Space) (retire : Bool) : List Nat → State × Space
  | [] => (s, x)
  | b :: r => match s.release st key x retire b with
    | (s, x) => s.releaseAll st key x retire r

/-- Place blocks in quarantine (R201). -/
def State.quarantine (s : State) (st : Stamp) (x : Space) (blocks : List Nat) : State × Space :=
  ((s.memWrite st (x.quarAddr + 4 * x.quar.length) (blocks.flatMap (leBytes 4))).1, { x with quar := x.quar ++ blocks })

/-! ### Page tables (R191 to R193) -/

/-- A version as the step reads it: its header fields and entries, or none when a read is refused. -/
structure Version where
  seqNo : Nat
  gen : Nat
  blocks : Nat
  entries : List Nat
deriving DecidableEq, Repr

/-- The address of a published version (Table 06-4). -/
def tableAddr (t : Nat) : Nat := bits t 47 6 * 64
/-- The GEN published with it. -/
def tableGen (t : Nat) : Nat := bits t 63 48

/-- Read a version: the header and up to `n` entries. -/
def State.readVersion (s : State) (st : Stamp) (t n : Nat) : State × Option Version :=
  match s.memRead st (tableAddr t) 16 with
  | (s, none) => (s, none)
  | (s, some h) =>
    let k := min (fld h 4 4) n
    match s.memRead st (tableAddr t + 16) (4 * k) with
    | (s, none) => (s, none)
    | (s, some d) => (s, some ⟨fld h 0 2, fld h 2 2, fld h 4 4, (List.range k).map (fun i => fld d (4 * i) 4)⟩)

/-- BLOCK of an entry (Table 06-7). -/
def entBlock (e : Nat) : Nat := bits e 19 0
/-- VBED of an entry. -/
def entVbed (e : Nat) : Nat := bits e 29 20
/-- RO of an entry. -/
def entRo (e : Nat) : Bool := bit e 30
/-- VALID of an entry. -/
def entValid (e : Nat) : Bool := bit e 31

/-- The entries that positions 0 to `len` + `rows` − 1 reach. -/
def Space.entryCount (x : Space) (len rows : Nat) : Nat := ceilDiv (len + rows) x.perPage

/-- The entries into which a step appends, by index. -/
def Space.appendRange (x : Space) (len rows : Nat) : List Nat :=
  if rows = 0 then [] else
    (List.range ((len + rows - 1) / x.perPage - len / x.perPage + 1)).map (· + len / x.perPage)

/-- The entries from LENGTH ÷ T to (LENGTH + ROWS − 1) ÷ T, which coverage asks for (R193): none when the sequence has no position
and appends none. -/
def Space.coverRange (x : Space) (len rows : Nat) : List Nat :=
  if len + rows = 0 then []
  else (List.range ((len + rows - 1) / x.perPage + 1 - len / x.perPage)).map (· + len / x.perPage)

/-- The blocks missing for a step (R193): a sequence is covered when there are none. Where the range of entries is empty (ROWS 0 at
a page boundary), a version too short for LENGTH counts as one missing. -/
def Version.missing (v : Version) (x : Space) (len rows : Nat) : Nat :=
  ((x.coverRange len rows).filter (fun j =>
    !(decide (j < v.blocks) && entValid (v.entries.getD j 0) && !entRo (v.entries.getD j 0)))).length +
    b2n ((x.coverRange len rows).isEmpty && decide (len + rows ≠ 0) && decide (v.blocks ≤ (len + rows - 1) / x.perPage))

/-- Why a version is invalid for a step (R192): reason and entry index, in the order of the reasons. BLOCK is tested within the
positions attended, VBED on every valid entry. `vbeds` says which virtual Beds the ATTEND operators run on here. -/
def Version.invalid (v : Version) (x : Space) (n gen len rows : Nat) (vbeds : Nat → Bool) : Option (Nat × Nat) :=
  let ix := v.entries.zipIdx
  if v.seqNo ≠ n then some (1, 0xFFFFFF)
  else if v.gen ≠ gen then some (2, 0xFFFFFF)
  else if 1048576 < v.blocks then some (3, 0xFFFFFF)
  else match (ix.take (x.entryCount len rows)).find? (fun e => entValid e.1 && decide (x.poolBlocks ≤ entBlock e.1)) with
    | some e => some (4, e.2)
    | none => match ix.find? (fun e => entValid e.1 && !vbeds (entVbed e.1)) with
      | some e => some (5, e.2)
      | none => match (x.appendRange len rows).find? (fun j => entRo (v.entries.getD j 0) && entValid (v.entries.getD j 0)) with
        | some j => some (6, j)
        | none => none

/-! ### Step open (R195) -/

/-- Change the STATUS fields of a sequence; EPOCH follows a change at a step boundary. -/
def SeqSt.at_ (old new : SeqSt) (e : Nat) : SeqSt :=
  if { new with epoch := old.epoch }.word = old.word then new else { new with epoch := e }

/-- Action 2 of R195: a LEAVING sequence becomes IDLE and frees its lane; with FREE, every valid, non-RO block of its
current version goes to the release ring. -/
def State.depart (s : State) (st : Stamp) (key : Nat) (x : Space) (n : Nat) : State × Space :=
  let q := x.seq n
  if q.state ≠ 3 then (s, x)
  else
    let (s, blocks) := if q.freeOnLeave then
        match s.memRead st (x.seqTable + 32 * n) 8 with
        | (s, some t) => match s.readVersion st (leNat t) 1048576 with
          | (s, some v) => (s, (v.entries.filter (fun e => entValid e && !entRo e)).map entBlock)
          | (s, none) => (s, [])
        | (s, none) => (s, [])
      else (s, [])
    let (s, x) := s.releaseAll st key x false blocks
    (s, x.setSeq n (q.at_ { q with state := 0, held := false, exhausted := false, lane := 0, freeOnLeave := false,
                                   runs := false, rows := 0 } x.epoch))

/-- Log TABLE_INVALID (Table 06-11). -/
def State.logInvalid (s : State) (st : Stamp) (key n gen : Nat) (r : Nat × Nat) : State :=
  s.raise { (s.mkRec .trl (key / 4) 0x10 2 stREFUSED_FORMAT).by st 0 with
    detail := n + 4096 * (key % 4) + 65536 * gen + 0x100000000 * r.1 + 0x10000000000 * r.2 }

/-- Log QUEUE_EXHAUSTED when MEMORY_EXHAUSTED changes from 0 to 1. -/
def State.logExhausted (s : State) (st : Stamp) (key n : Nat) (was : Bool) (missing : Nat) : State :=
  if missing ≠ 0 && !was then
    s.raise { (s.mkRec .trl (key / 4) 0x11 0 stMEMORY_EXHAUSTED).by st 0 with
      detail := n + 4096 * (key % 4) + 0x100000000 * missing }
  else s

/-- The outcome of actions 4 to 6 of R195 for a QUEUED or ACTIVE sequence whose version was read: a covered QUEUED sequence
with ROWS joins while `lane` gives one, and an ACTIVE one runs or is held. An invalid version holds the sequence, with LAST_STATUS
REFUSED_FORMAT, in whichever state it is (R192). -/
def SeqSt.openWith (q : SeqSt) (table rows len stepRows missing : Nat) (valid : Bool) (lane : Option Nat) : SeqSt :=
  let runs := decide (0 < rows) && decide (rows ≤ stepRows) && valid && missing == 0
  let last := if !valid then stREFUSED_FORMAT else if missing ≠ 0 then stMEMORY_EXHAUSTED else q.last
  let q : SeqSt := { q with table := table, rows := rows, exhausted := missing ≠ 0, missing := missing, last := last,
                            runs := false, want := if runs then rows else 0 }
  if q.state = 1 ∧ (missing ≠ 0 ∨ rows = 0) then q
  else match lane with
    | none => { q with last := if valid then stBUSY else last }
    | some l => { q with state := 2, lane := l, length := len, runs := runs, held := !runs }

/-- A sequence whose descriptor or version may not be read does not run. -/
def SeqSt.openRefused (q : SeqSt) : SeqSt :=
  { q with last := stOWNER_FAULT, held := q.state == 2, runs := false, want := 0 }

/-- Actions 3 to 6 of R195 for one sequence: TABLE and ROWS are read, and the outcome follows. For a GROVE space (`joint`) lanes
are member 0's to give, and a change of MEMORY_EXHAUSTED is logged when the joint admission makes it. -/
def State.openSeq (s : State) (st : Stamp) (key : Nat) (x : Space) (n : Nat) (vbeds : Nat → Bool) (joint : Bool := false) :
    State × Space :=
  let q := x.seq n
  if q.state ≠ 1 ∧ q.state ≠ 2 then (s, x)
  else match s.memRead st (x.seqTable + 32 * n) 16 with
    | (s, none) => (s, x.setSeq n (q.at_ q.openRefused x.epoch))
    | (s, some d) =>
      let t := fld d 0 8
      let rows := fld d 12 2
      let len := if q.state = 1 then fld d 8 4 else q.length
      match s.readVersion st t 1048576 with
      | (s, none) => (s, x.setSeq n (q.at_ q.openRefused x.epoch))
      | (s, some v) =>
        let missing := v.missing x len rows
        let bad := v.invalid x n (tableGen t) len rows vbeds
        let s := match bad with
          | some r => s.logInvalid st key n (tableGen t) r
          | none => s
        let s := if joint then s else s.logExhausted st key n q.exhausted missing
        let lane := if q.state = 1 then (if joint then some 0 else x.freeLane) else some q.lane
        (s, x.setSeq n (q.at_ (q.openWith t rows len x.stepRows missing bad.isNone lane) x.epoch))

/-- The virtual Beds of the ATTEND operators of a program on a space slot, on this device (R192). -/
def Prog.attendVbeds (p : Prog) (cslot v : Nat) : Bool :=
  decide (p.lo ≤ v) && decide (v < p.lo + p.map.length) &&
    (p.ops.filter (fun o => o.kind == 0x000A && fld (p.attendParams o) 0 1 == cslot)).all
      (fun o => decide (o.vbedFirst ≤ v) && decide (v < o.vbedFirst + o.vbedCount))

/-- Write the STATUS words and lengths that changed (action 8 of R195). -/
def State.putChanged (s : State) (st : Stamp) (old new : Space) : State :=
  new.seqList.foldl (fun s n =>
    if (new.seq n).word = (old.seq n).word ∧ (new.seq n).length = (old.seq n).length then s else s.putSeq st new n) s

/-! ### Joint admission (R215, R216) -/

/-- The digest of a space that members compare. -/
def Space.digestOf (x : Space) : List Byte :=
  leBytes 2 x.maxSeq ++ leBytes 2 x.lanes ++ leBytes 2 x.stepRows ++ leBytes 2 x.layers ++ leBytes 2 x.headDim ++
    leBytes 1 x.qPerKv ++ leBytes 2 x.kfmt ++ leBytes 2 x.vfmt ++ leBytes 2 x.qfmt

/-- The member's own outcome for a sequence in a step that waits for the joint admission. -/
def Space.provSeq (x : Space) (n : Nat) : SeqSt := sget (fun _ => {}) x.prov n

/-- A sequence is QUEUED or ACTIVE. -/
def SeqSt.live (q : SeqSt) : Bool := q.state == 1 || q.state == 2

/-- The report of this device on a step that its space has open (R215 step 1). -/
def Space.report (x : Space) (self : Nat) : StepReport :=
  { device := self, epoch := x.epoch, digest := x.digestOf,
    rows := x.seqList.map (fun n => if (x.seq n).live then (x.provSeq n).want else 0),
    leaving := x.seqList.filter (fun n => (x.seq n).state == 3),
    uncovered := x.seqList.filter (fun n => (x.seq n).live && (x.provSeq n).exhausted) }

/-- End a GROVE step that does not run: ABORTED_GROVE for the RUN. -/
def State.abortGroveStep (s : State) (key : Nat) : State :=
  match (s.space? key).bind (·.open_) with
  | some (q, seq) => (s.endCommand q seq stABORTED_GROVE).touch
  | none => s

/-- A sequence that the joint admission excludes is held or stays queued, with the member's own LAST_STATUS; MEMORY_EXHAUSTED is
set where the member was not covered. -/
def SeqSt.excluded (q p : SeqSt) (exhausted : Bool) : SeqSt :=
  { q with table := p.table, rows := p.rows, missing := p.missing, last := p.last, runs := false, held := q.state == 2,
           exhausted := p.exhausted || exhausted }

/-- The outcome of a joint admission for one sequence (R215): leave, run or join with a number of rows, or be held. -/
def Space.jointSeq (x : Space) (leaves : List Nat) (runs : List (Nat × Nat)) (exhausted : List Nat) (n : Nat) : Space :=
  let q := x.seq n
  let p := x.provSeq n
  if q.state = 3 ∧ leaves.contains n then
    x.setSeq n (q.at_ { q with
      state := 0, held := false, exhausted := false, lane := 0, freeOnLeave := false, runs := false, rows := 0 } x.epoch)
  else if !q.live then x
  else match runs.find? (fun r => r.1 == n), (if q.state = 1 then x.freeLane else some q.lane) with
    | some r, some lane => x.setSeq n (q.at_ { q with
        state := 2, lane := lane, length := if q.state = 1 then p.length else q.length, table := p.table, runs := true,
        held := false, rows := r.2, exhausted := false } x.epoch)
    | some _, none => x.setSeq n (q.at_ { q.excluded p false with last := stBUSY } x.epoch)
    | none, _ => x.setSeq n (q.at_ (q.excluded p (exhausted.contains n)) x.epoch)

/-- Log the sequences whose MEMORY_EXHAUSTED the joint admission sets. -/
def State.logJoint (s : State) (st : Stamp) (key : Nat) (x y : Space) : State :=
  y.seqList.foldl (fun s n =>
    if (y.seq n).exhausted then s.logExhausted st key n (x.seq n).exhausted (y.seq n).missing else s) s

/-- Apply a joint admission in place of the member's own outcome (R215 step 3). -/
def State.applyJoint (s : State) (key : Nat) (runs : List (Nat × Nat)) (leaves exhausted : List Nat) : State :=
  match s.space? key with
  | none => s
  | some x => match x.open_ with
    | none => s
    | some (q, _) =>
      let st := s.trlStamp (key / 4) q x.ctx
      let (s, y) := (leaves.filter (fun n => (x.seq n).state == 3)).foldl (fun a n => a.1.depart st key a.2 n) (s, x)
      let y := y.seqList.foldl (fun y n => y.jointSeq leaves runs exhausted n) y
      ((s.logJoint st key x y).putChanged st x y).setSpace key (some { y with agreed := true, prov := [] })

/-- Log GROVE_AGREE. -/
def State.logAgree (s : State) (key : Nat) (x : Space) (epochs : Bool) : State :=
  s.raise { (s.mkRec .trl (key / 4) 0x12 2 stABORTED_GROVE) with
    plot := x.plot, ctx := x.ctx, detail := 4096 * (key % 4) + 65536 * b2n epochs }

/-- The result of a joint admission arrives: it is applied, or the step ends (R216); `mismatch` says that the members'
E values (true) or digests (false) differ. -/
def State.groveResult (s : State) (key : Nat) (mismatch : Option Bool) (runs : List (Nat × Nat))
    (leaves exhausted : List Nat) : State :=
  match s.space? key with
  | some x =>
    if !x.grove || x.open_.isNone || x.agreed then s
    else match mismatch with
      | none => (s.applyJoint key runs leaves exhausted).touch
      | some epochs => (s.logAgree key x epochs).abortGroveStep key
  | none => s

/-- The joint admission (R215 step 2): who runs or joins with how many rows, and who leaves. -/
def jointOf (reports : List StepReport) (maxSeq : Nat) : List (Nat × Nat) × List Nat :=
  let rows (n : Nat) : Nat := reports.foldl (fun m r => min m (r.rows.getD n 0)) 1025
  ((List.range maxSeq).filterMap (fun n => if rows n = 0 ∨ rows n = 1025 then none else some (n, rows n)),
    (List.range maxSeq).filter (fun n => reports.all (fun r => r.leaving.contains n)))

/-- Member 0 judges once it has the report of every member (R215 step 2, R216): it sends the result to the others and
applies it. -/
def State.groveJudge (s : State) (key : Nat) : State :=
  match s.space? key with
  | none => s
  | some x =>
    if x.open_.isNone || x.agreed || !(bitList 8 s.elx.members).all (fun d => x.reports.any (fun r => r.device == d)) then s
    else
      let others := (bitList 8 s.elx.members).filter (· ≠ 0)
      let epochs := x.reports.any (fun r => r.epoch ≠ x.epoch)
      let bad : Option Bool :=
        if epochs then some true else if x.reports.any (fun r => r.digest ≠ x.digestOf) then some false else none
      let j := if bad.isNone then jointOf x.reports x.maxSeq else ([], [])
      let unc (d : Nat) : List Nat := ((x.reports.find? (fun r => r.device == d)).map (·.uncovered)).getD []
      let s := others.foldl (fun (s : State) d => s.sendCtrl d (.stepResult key bad j.1 j.2 (unc d))) s
      let s := s.setSpace key (some { x with reports := [] })
      s.groveResult key bad j.1 j.2 (unc 0)

/-- Member 0 receives a report. A member has one report at a time; one that comes while an agreed step is still open here waits for
the next. -/
def State.groveReport (s : State) (key : Nat) (r : StepReport) : State :=
  match s.space? key with
  | none => s
  | some x =>
    if !x.grove || s.self ≠ 0 || !s.isMember r.device then s
    else (s.setSpace key (some { x with reports := x.reports.filter (fun e => e.device ≠ r.device) ++ [r] })).groveJudge key

/-- The step of a GROVE space is open: a member reports to member 0. -/
def State.reportStep (s : State) (key : Nat) : State :=
  match s.space? key with
  | none => s
  | some x =>
    let r := x.report s.self
    if s.self = 0 then s.groveReport key r
    else s.sendCtrl 0 (.stepReport key r.epoch r.digest r.rows r.leaving r.uncovered)

/-- Open a step of a space (R195): the space is held by the RUN of a queue. For a GROVE space the outcome waits for the
joint admission (R215): departures, joins and runs are provisional, and the report is what member 0 gets. -/
def State.openStep (s : State) (key q seq : Nat) (p : Prog) : State :=
  match s.space? key with
  | none => s
  | some x0 =>
    let st := s.trlStamp (key / 4) q x0.ctx
    let x := { x0 with epoch := (x0.epoch + 1) % 2 ^ 64, open_ := some (q, seq) }
    let opened (joint : Bool) (a : State × Space) : State × Space :=
      x.seqList.foldl (fun a n => a.1.openSeq st key a.2 n (p.attendVbeds x.cslot) joint) a
    if x.grove then
      let (s, y) := opened true (s, x)
      (s.setSpace key (some { x with prov := y.seqs, agreed := false })).reportStep key
    else
      let (s, y) := opened false (x.seqList.foldl (fun a n => a.1.depart st key a.2 n) (s, x))
      (s.putChanged st x y).setSpace key (some { y with agreed := true })

/-! ### Step retirement (R197) -/

/-- Retire one sequence. -/
def Space.retireSeq (x : Space) (status n : Nat) : Space :=
  let q := x.seq n
  if !q.runs then x
  else x.setSeq n (q.at_ (if status = stDONE then { q with length := q.length + q.rows, last := stDONE, runs := false }
    else { q with last := status, runs := false }) x.epoch)

/-- Retire the step of a space. -/
def State.retireStep (s : State) (key q status : Nat) : State :=
  match s.space? key with
  | none => s
  | some x =>
    let st := s.trlStamp (key / 4) q x.ctx
    let y := x.seqList.foldl (fun y n => y.retireSeq status n) x
    let s := s.putChanged st x y
    let (s, y) := s.releaseAll st key y true y.quar
    s.setSpace key (some { y with quar := [], open_ := none, retired := y.epoch, agreed := false, prov := [] })

/-- Retire every step that a command holds open. -/
def State.retireAll (s : State) (q seq status : Nat) : State :=
  (s.tensor.spaces.map (·.1)).foldl (fun s k => match s.space? k with
    | some x => if x.open_ = some (q, seq) then s.retireStep k q status else s
    | none => s) s

/-! ### Trellis commands (R213) -/

/-- Start a command in flight: START_TIME is the device time at which its first operation starts. -/
def State.startFlight (s : State) (q seq : Nat) : State :=
  match s.flight? q seq with
  | some f =>
    if f.startTime.isSome then s
    else
      let s := s.updFlight q seq (fun f => { f with
        startTime := some s.now, ops := f.ops.map (fun o => if o.status.isNone then { o with started := true } else o) })
      s.updCtx f.cmd.ctx (fun x => { x with
        queueNs := (x.queueNs + (s.now - f.headTime)) % 2 ^ 64,
        semNs := (x.semNs + f.semNs) % 2 ^ 64, resNs := (x.resNs + f.resNs) % 2 ^ 64 })
  | none => s

/-- The work of a command that runs on one Pavilion is done: it can complete with a status. A command that holds no slot
takes the status itself. -/
def State.setReady (s : State) (q seq status : Nat) : State :=
  s.updFlight q seq (fun f => { f with
    bad := if f.ops.isEmpty ∧ status ≠ stDONE then some (f.bad.getD status) else f.bad,
    doneAt := if f.ops.isEmpty then s.dt else f.doneAt,
    checked := if f.ops.isEmpty then true else f.checked,
    ops := f.ops.map (fun o => if o.status.isNone then { o with ready := some status, started := true } else o) })

/-- The descriptor of a COPY ends (R115, R117): its status is that of the command. -/
def State.endCopy (s : State) (n q seq : Nat) : State :=
  let w := ((s.bed n).ch 3).curStatus
  (s.setBed n ((s.bed n).endDesc 3)).setReady q seq w

/-- The space of a Trellis command. -/
def State.cmdSpace (s : State) (c : Cmd) : Option (Nat × Space) := s.spaceOf c.ctx (fld c.args 0 1)

/-- Nothing else in a space changes between the actions of a step open (R195): ADMIT, LEAVE and FREE wait while one waits for its
joint admission. -/
def State.stepOpening (s : State) (c : Cmd) : Bool :=
  [0x12, 0x13, 0x14].contains c.opcode && match s.cmdSpace c with
    | some (_, x) => x.grove && x.open_.isSome && !x.agreed
    | none => false

/-- Run a command in flight of one opcode once: `run` gives its status. -/
def State.runOnce (s : State) (q seq op : Nat) (run : State → Flight → State × Nat) : State :=
  match s.flight? q seq with
  | none => s
  | some f =>
    if f.cmd.opcode ≠ op || f.startTime.isSome || s.safe.safe || !s.inTurn f || s.stepOpening f.cmd ||
        (f.ops.any (fun o => o.status.isSome || s.slicing 1 o.pav || s.clockOff o.pav)) then s
    else
      match run (s.startFlight q seq) f with
      | (s, w) => s.setReady q seq w

/-- BIND (R185, R186). -/
def State.doBind (s : State) (f : Flight) : State × Nat :=
  let st := s.trlStamp (fld f.cmd.args 9 1) f.queue f.cmd.ctx
  match s.bindCheck st f.cmd with
  | (s, .error w) => (s, w)
  | (s, .ok (key, x)) =>
    let (s, _) := s.memWrite st (x.desc + 0x50) (zeros 8)
    let s := x.seqList.foldl (fun s n => s.putSeq st x n) s
    (s.setSpace key (some x), stDONE)

/-- A RUN that names a space is queued. -/
def State.spaceQueued (s : State) (key : Nat) : Bool :=
  s.tensor.queues.any (fun e => match e.2.head with
    | some h => match s.cmdProg h.cmd with
      | some p => (s.progSpaces p).contains key
      | none => false
    | none => false)

/-- UNBIND (R213). -/
def State.doUnbind (s : State) (f : Flight) : State × Nat :=
  match s.cmdSpace f.cmd with
  | none => (s, stREFUSED_FORMAT)
  | some (key, x) =>
    if x.open_.isSome || s.spaceQueued key then (s, stBUSY) else (s.setSpace key none, stDONE)

/-- The sequences that an ADMIT or LEAVE names. -/
def Cmd.seqRange (c : Cmd) : List Nat := (List.range (fld c.args 4 2)).map (· + fld c.args 2 2)

/-- ADMIT (R213). -/
def State.doAdmit (s : State) (f : Flight) : State × Nat :=
  match s.cmdSpace f.cmd with
  | none => (s, stREFUSED_FORMAT)
  | some (key, x) =>
    let y := f.cmd.seqRange.foldl (fun y n => let q := y.seq n
      if q.state = 0 then y.setSeq n { q with state := 1 } else y) x
    ((s.putChanged (s.trlStamp (key / 4) f.queue f.cmd.ctx) x y).setSpace key (some y), stDONE)

/-- LEAVE (R213). -/
def State.doLeave (s : State) (f : Flight) : State × Nat :=
  match s.cmdSpace f.cmd with
  | none => (s, stREFUSED_FORMAT)
  | some (key, x) =>
    let free := bit (fld f.cmd.args 1 1) 0
    let y := f.cmd.seqRange.foldl (fun y n => let q := y.seq n
      if q.state = 1 then y.setSeq n { q with state := 0, exhausted := false }
      else if q.state = 2 then y.setSeq n { q with state := 3, freeOnLeave := free } else y) x
    ((s.putChanged (s.trlStamp (key / 4) f.queue f.cmd.ctx) x y).setSpace key (some y), stDONE)

/-- FREE (R201, R202). -/
def State.doFree (s : State) (f : Flight) : State × Nat :=
  match s.cmdSpace f.cmd with
  | none => (s, stREFUSED_FORMAT)
  | some (key, x) =>
    let st := s.trlStamp (key / 4) f.queue f.cmd.ctx
    let n := fld f.cmd.args 4 4
    match s.memRead st (fld f.cmd.args 8 8) (4 * n) with
    | (s, none) => (s, stOWNER_FAULT)
    | (s, some d) =>
      let blocks := (List.range n).map (fun i => fld d (4 * i) 4)
      match s.ringUsed st x with
      | (s, used) =>
        if blocks.any (fun b => decide (x.poolBlocks ≤ b)) then (s, stREFUSED_FORMAT)
        else if x.poolBlocks < x.quar.length + used + n then (s, stREFUSED_FIT)
        else
          let (s, y) := if x.open_.isSome then s.quarantine st x blocks else s.releaseAll st key x false blocks
          (s.setSpace key (some y), stDONE)

/-- BIND (R185). -/
def execBind (q : Fin 256) (seq : BitVec 32) (s : State) : Host.Outcome State Fault Refusal :=
  .next (s.runOnce q.val seq.toNat 0x10 State.doBind)

/-- UNBIND (R213). -/
def execUnbind (q : Fin 256) (seq : BitVec 32) (s : State) : Host.Outcome State Fault Refusal :=
  .next (s.runOnce q.val seq.toNat 0x11 State.doUnbind)

/-- ADMIT (R213). -/
def execAdmitSeq (q : Fin 256) (seq : BitVec 32) (s : State) : Host.Outcome State Fault Refusal :=
  .next (s.runOnce q.val seq.toNat 0x12 State.doAdmit)

/-- LEAVE (R213). -/
def execLeave (q : Fin 256) (seq : BitVec 32) (s : State) : Host.Outcome State Fault Refusal :=
  .next (s.runOnce q.val seq.toNat 0x13 State.doLeave)

/-- FREE (R201, R202). -/
def execFree (q : Fin 256) (seq : BitVec 32) (s : State) : Host.Outcome State Fault Refusal :=
  .next (s.runOnce q.val seq.toNat 0x14 State.doFree)

/-! ### Messages of the joint admission -/

/-- GROVE_ADMISSION_REPORT (R215, R216). -/
def execGroveAdmissionReport (device : Fin 8) (trellis : Fin 16) (sp : Fin 4) (epoch : BitVec 64) (digest : List Byte)
    (rows leaving uncovered : List Nat) (s : State) : Host.Outcome State Fault Refusal :=
  .next (s.groveReport (4 * trellis.val + sp.val) ⟨device.val, epoch.toNat, digest, rows, leaving, uncovered⟩)

/-- GROVE_ADMISSION_RESULT (R215, R216). -/
def execGroveAdmissionResult (trellis : Fin 16) (sp : Fin 4) (mismatch : Option Bool)
    (runs : List (Nat × Nat)) (leaves exhausted : List Nat) (s : State) : Host.Outcome State Fault Refusal :=
  .next (s.groveResult (4 * trellis.val + sp.val) mismatch runs leaves exhausted)

/-! ### Views -/

/-- Views of the TRL registers (Tables 06-13 to 06-19). -/
def State.trlView (s : State) (id : RegId) (ix : Nat) : Option Nat :=
  let sp := s.space? ix
  match id with
  | .trlStatus => some (maskOf (((s.trlSlots ix).filter (fun e => e.2.isSome)).map (·.1)) +
      16 * maskOf (((s.trlSlots ix).filter (fun e => (e.2.bind (·.open_)).isSome)).map (·.1)))
  | .trlSeqUsed => some (s.trlSeqUsed ix)
  | .trlSpCfg => some ((sp.map (fun x => x.ctx + 1024 * x.cslot + 4096 * x.plot + 65536 * b2n x.grove + 131072)).getD 0)
  | .trlSpDesc => some ((sp.map (·.desc)).getD 0)
  | .trlSpEpoch => some ((sp.map (·.epoch)).getD 0)
  | .trlSpRetired => some ((sp.map (·.retired)).getD 0)
  | .trlSpCounts => some ((sp.map (fun x =>
      (x.seqs.filter (fun e => e.2.state == 2 || e.2.state == 3)).length +
        65536 * (x.seqs.filter (fun e => e.2.state == 1)).length)).getD 0)
  | .trlSpQuar => some ((sp.map (·.quar.length)).getD 0)
  | _ => none

end Sys2Proof.Machine
end

