-- ==== Sys2Proof/Machine/Queue.lean ====
section
/-! DEFINITION. Submission queues of spec/03, spec/07 and spec/15: fetch and duplicates (R228, R488), dispatch (R229 to
R231), the end of operations and commands (R119, R120), deadlines (R121 to R123, R235), and the queue registers (R486 to
R490, R502). -/

namespace Sys2Proof.Machine

/-! ### Completions -/

/-- FLAGS of a completion (Table 03-11). -/
def cplFlags (dup late preempted : Bool) : Nat := b2n dup + 2 * b2n late + 4 * b2n preempted

/-- The 32 bytes of a completion record (Table 03-11). -/
def Cpl.bytes (c : Cpl) : List Byte :=
  leBytes 4 c.seq ++ leBytes 2 c.tag ++ leBytes 1 c.status ++ leBytes 1 c.flags ++ leBytes 2 c.ctx ++ leBytes 2 c.parts ++
    leBytes 4 c.detail ++ leBytes 8 c.start ++ leBytes 8 c.stop

/-- A refused ring access clears ENABLE and sets STOPPED (R487). -/
def State.queueStop (s : State) (q : Nat) : State := s.wr .hifQCfg q (setBit (clrBit (s.rd .hifQCfg q) 0) 17)

/-- Write a completion record and the shadow (R487, R488). -/
def State.writeRecord (s : State) (q : Nat) (c : Cpl) : State :=
  let st := s.queueStamp q
  let tail := s.rd .hifQCplTail q
  let a := s.rd .hifQCplBase q + 32 * (tail % 2 ^ bits (s.rd .hifQCfg q) 10 7)
  match s.memWrite st a c.bytes with
  | (s, false) => s.queueStop q
  | (s, true) =>
    let s := s.wr .hifQCplTail q ((tail + 1) % 2 ^ 32)
    let shadow := s.rd .hifQShadow q
    if shadow = 0 then s
    else match s.memWrite st shadow (leBytes 4 (s.rd .hifQCplTail q) ++ leBytes 4 (s.rd .hifQHead q)) with
      | (s, true) => s
      | (s, false) => s.queueStop q

/-- The interrupt of a queue (R490). -/
def State.queueIrq (s : State) (q : Nat) : State :=
  match s.queueInst q with
  | some i =>
    if s.hostBacked i then
      (if (s.inst i).stopped then s else s.send (.msix i (bits (s.rd .hifQCfg q) 16 11)))
    else s.send (.irq (s.queuePlot q) (65536 + q))
  | none => s.send (.irq (s.queuePlot q) (65536 + q))

/-- The SIGNAL of a completion (R120, R247). -/
def State.cplSignal (s : State) (q : Nat) (c : Cpl) : State :=
  match c.signal with
  | some (port, n, v) => s.semSignalBy ⟨port, s.queuePlot q, s.queueClass q, (s.enclaveOf c.ctx).isSome, c.ctx⟩ n v
  | none => s

/-- Post a completion: record, SIGNAL, interrupt, in this order (R120). -/
def State.post (s : State) (q : Nat) (c : Cpl) : State :=
  let s := (s.writeRecord q c).cplSignal q c
  if c.irq then s.queueIrq q else s

/-- The completion of a duplicate (SEQ, TAG, CONTEXT), with the original's status (R15, R228); no SIGNAL is performed (R120). -/
def dupCpl (now : Nat) (d : Nat × Nat × Nat) (irq : Bool) (status : Nat) : Cpl :=
  { seq := d.1, tag := d.2.1, status := status, flags := cplFlags true false false, ctx := d.2.2, parts := 0, detail := 0,
    start := now, stop := now, signal := none, irq := irq }

/-- The completion of a duplicate command. -/
def Cmd.dup (c : Cmd) (now status : Nat) : Cpl := dupCpl now (c.seq, c.tag, c.ctx) c.irq status

/-- Post a completion that needs room in the completion ring, or let it wait (R489). Nothing is written in safe state
(R417). -/
def State.postOrWait (s : State) (q : Nat) (c : Cpl) : State :=
  if s.cplRoom q && (s.queue q).waiting.isEmpty && !s.safe.safe then s.post q c
  else s.setQueue q { s.queue q with waiting := (s.queue q).waiting ++ [c] }

/-- Post what waits, while there is room. -/
def State.drain (s : State) (q : Nat) : Nat → State
  | 0 => s
  | fuel + 1 =>
    match (s.queue q).waiting with
    | [] => s
    | c :: r =>
      if s.cplRoom q && !s.safe.safe then ((s.setQueue q { s.queue q with waiting := r }).post q c).drain q fuel
      else s

/-- A command of a queue has completed: its SEQ enters the window of 64, and the duplicates that waited for it complete
(R228). -/
def State.remember (s : State) (q seq status : Nat) : State :=
  let x := s.queue q
  let mine := x.dups.filter (fun d => d.seq == seq)
  let s := s.setQueue q { x with window := ((seq, status) :: x.window).take 64, dups := x.dups.filter (fun d => d.seq ≠ seq) }
  mine.foldl (fun s d => s.postOrWait q (d.dup s.now status)) s

/-- Count a completed command in its context's record (R242). -/
def State.countCommand (s : State) (ctx run : Nat) : State :=
  s.updCtx ctx (fun x => { x with commands := (x.commands + 1) % 2 ^ 64, runNs := (x.runNs + run) % 2 ^ 64 })

/-- Complete a command that does not start: refused, missed or cancelled in its queue. No SIGNAL is performed (R120). -/
def State.completeUnstarted (s : State) (q : Nat) (c : Cmd) (late : Bool) (status : Nat) : State :=
  let cpl : Cpl := {
    seq := c.seq, tag := c.tag, status := status, flags := cplFlags false late false, ctx := c.ctx, parts := 0, detail := 0,
    start := s.now, stop := s.now, signal := none, irq := c.irq }
  let s := if ((s.ctx? c.ctx).map (·.plot)) = some (s.queuePlot q) then s.countCommand c.ctx 0 else s
  (s.postOrWait q cpl).remember q c.seq status

/-! ### Fetch (R488, R228) -/

/-- The queue is fetched: enabled, its Plot running, its instance OPEN or DETACHED with no FREEZE or closing under way. -/
def State.fetchable (s : State) (q : Nat) : Bool :=
  bit (s.rd .hifQCfg q) 0 && s.plotRunning (s.queuePlot q) &&
    (match s.queueInst q with
     | some i => ((s.inst i).state == 1 || (s.inst i).state == 2) && (s.inst i).freezing.isNone &&
        (s.inst i).closing.isNone
     | none => true)

/-- Read the ring entry at HEAD and advance HEAD; none when the access is refused. -/
def State.readEntry (s : State) (q : Nat) : State × Option Cmd :=
  let head := s.rd .hifQHead q
  match s.memRead (s.queueStamp q) (s.rd .hifQBase q + 64 * (head % 2 ^ bits (s.rd .hifQCfg q) 10 7)) 64 with
  | (s, none) => (s.queueStop q, none)
  | (s, some r) => (s.wr .hifQHead q ((head + 1) % 2 ^ 32), some (readCmd r))

/-- Take a command that was read as the queue's head: a duplicate gets its completion at once or after its original, any
other becomes the head. -/
def State.takeHead (s : State) (q : Nat) (c : Cmd) : State :=
  match (s.queue q).window.find? (fun w => w.1 == c.seq) with
  | some (_, status) => s.postOrWait q (c.dup s.now status)
  | none =>
    if (s.flight? q c.seq).isSome then s.setQueue q { s.queue q with dups := (s.queue q).dups ++ [c] }
    else s.setQueue q { s.queue q with head := some { cmd := c, headTime := s.now, lastSeen := s.now } }

/-- COMMAND_FETCH (R488). -/
def State.fetch (s : State) (q : Nat) : State :=
  if !s.fetchable q || (s.queue q).head.isSome || !(s.queue q).waiting.isEmpty || s.rd .hifQHead q == s.rd .hifQTail q then s
  else match s.readEntry q with
    | (s, none) => s
    | (s, some c) => (s.takeHead q c).touch

/-! ### Dispatch (R229 to R231) -/

/-- Queue `a` comes before queue `b` in the order of R231. -/
def State.before (s : State) (a b : Nat) : Bool :=
  let key (q : Nat) : Nat × Nat × Nat :=
    match (s.queue q).head with
    | some h => (s.queueClass q, if h.cmd.hasDeadline then h.cmd.deadline else 2 ^ 64, (q + 256 - s.tensor.rr) % 256)
    | none => (0, 0, 0)
  let x := key a
  let y := key b
  decide (y.1 < x.1) || (x.1 == y.1 && (decide (x.2.1 < y.2.1) || (x.2.1 == y.2.1 && decide (x.2.2 < y.2.2))))

/-- The eligible queue that goes first. -/
def State.chosenQueue (s : State) : Option Nat :=
  (sortBy s.before ((s.tensor.queues.map (·.1)).filter s.eligible)).head?

/-- The next operator of a range that runs on a virtual Bed, from an index on; 65536 for none. -/
def Prog.nextOp (p : Prog) (v from_ last : Nat) : Nat :=
  match ((List.range (last + 1)).drop from_).find? (fun i => match p.ops[i]? with
    | some o => decide (o.vbedFirst ≤ v) && decide (v < o.vbedFirst + o.vbedCount)
    | none => false) with
  | some i => i
  | none => 65536

/-- The parts of a command's operation on a Pavilion, one per Bed that it needs there. -/
def State.partsOn (s : State) (c : Cmd) (pav : Nat) : List BedPart :=
  ((s.cmdBeds c).filter (fun n => n / 8 == pav)).map (fun n =>
    { bed := n, next := match s.cmdProg c with
        | some p => match p.vbedOf n with
          | some v => p.nextOp v (fld c.args 4 2) (fld c.args 6 2)
          | none => 65536
        | none => 65536 })

/-- The lowest free slot of a Pavilion. -/
def State.freeSlot (s : State) (pav : Nat) : Nat :=
  ((List.range 64).find? (fun k => !((s.pavOps pav).any (fun o => o.2.slot == k)))).getD 0

/-- The operation of a command on a Pavilion, accepted now. -/
def State.mkOper (s : State) (c : Cmd) (pav : Nat) : Oper :=
  { pav := pav, slot := s.freeSlot pav, order := (sget (fun _ => ({} : PavSt)) s.tensor.pavs pav).accepted,
    parts := s.partsOn c pav }

/-- A command enters its Pavilions (R231). A Bed that it needs in RETAIN, or on its way there, gets the target ON (R113). -/
def State.launch (s : State) (q : Nat) (h : HeadCmd) : State :=
  let pavs := s.cmdPavs h.cmd
  let f : Flight := {
    queue := q, cmd := h.cmd, ops := pavs.map (s.mkOper h.cmd), headTime := h.headTime, semNs := h.semNs, resNs := h.resNs,
    late := h.late, missed := h.missed }
  let s := { s with tensor := { s.tensor with
    flights := s.tensor.flights ++ [f],
    pavs := pavs.foldl (fun m p => sset (fun _ => ({} : PavSt)) m p
      { accepted := (sget (fun _ => ({} : PavSt)) m p).accepted + 1 }) s.tensor.pavs,
    rr := (q + 1) % 256 } }
  (s.cmdBeds h.cmd).foldl (fun s n => if (s.bed n).heading = .retain then (s.wr .bedPwr n 2).setTarget n .on else s) s

/-- DISPATCH: one FAB_CLK cycle of the scheduler. A head that the dispatch checks refuse completes without starting. -/
def State.dispatch (s : State) : State :=
  if s.safe.safe then s
  else
    let s := s.touch
    match s.chosenQueue with
    | none => s
    | some q => match (s.queue q).head with
      | none => s
      | some h =>
        let t := s.setQueue q { s.queue q with head := none }
        match s.dispatchRefusal q h.cmd with
        | some w => (t.completeUnstarted q h.cmd h.late w).touch
        | none => (t.launch q h).touch

/-! ### The end of operations and commands -/

/-- A Bed still has operators of its part of an operation to run or is running one. -/
def State.partBusy (s : State) (q seq : Nat) (b : BedPart) : Bool :=
  decide (b.next < 65536) || (match (s.bed b.bed).running with
    | some r => r.queue == q && r.seq == seq
    | none => false)

/-- The status with which an operation can complete now, if it can. -/
def State.operDone (s : State) (f : Flight) (o : Oper) : Option Nat :=
  match o.ready with
  | some w => some w
  | none => if f.cmd.opcode = 0x01 && f.checked && o.parts.all (fun b => !s.partBusy f.queue f.cmd.seq b) then some stDONE else none

/-- OPERATION_COMPLETE (R119): a status other than DONE cancels the command's other operations. -/
def State.operComplete (s : State) (pav slot : Nat) : State :=
  if s.safe.safe then s
  else match s.tensor.flights.find? (fun f => f.ops.any (fun o => o.pav == pav && o.slot == slot && o.status.isNone)) with
    | none => s
    | some f => match f.ops.find? (fun o => o.pav == pav && o.slot == slot && o.status.isNone) with
      | none => s
      | some o => match s.operDone f o with
        | none => s
        | some w =>
          let s := (s.count .pavCompleted pav 1).updFlight f.queue f.cmd.seq (fun f => { f with
            lastPav := some pav, doneAt := s.dt, bad := if w = stDONE then f.bad else (f.report s.dt pav w).bad,
            badAt := if w = stDONE then f.badAt else (f.report s.dt pav w).badAt,
            ops := updWhere (fun o => o.pav == pav && o.slot == slot && o.status.isNone) (fun o => { o with status := some w }) f.ops })
          (if w = stDONE then s else s.cancelOps f.queue f.cmd.seq).touch

/-- Every operation of a command has completed. -/
def Flight.finished (f : Flight) : Bool := if f.ops.isEmpty then f.checked || f.bad.isSome else f.ops.all (fun o => o.status.isSome)

/-- FLAGS_OUT and FIRST_FLAG_OP of a RUN (Table 05-9, R179). -/
def Flight.flagBytes (f : Flight) : List Byte :=
  leBytes 4 (b2n f.flags.invalid + 2 * b2n f.flags.overflow + 4 * b2n f.flags.saturated) ++ leBytes 2 f.flagOp

/-- The stamp of the accesses that a command's first Pavilion makes. -/
def State.flightStamp (s : State) (f : Flight) : Stamp := s.trlStamp ((f.ops.head?.map (·.pav)).getD 0) f.queue f.cmd.ctx

/-- The completion of a command that was dispatched. -/
def State.flightCpl (s : State) (f : Flight) : Cpl :=
  { seq := f.cmd.seq, tag := f.cmd.tag, status := f.bad.getD stDONE, flags := cplFlags false f.late f.preempted,
    ctx := f.cmd.ctx, parts := (f.ops.filter (·.started)).length,
    detail := if f.cmd.opcode = 0x01 then f.lastOp else if f.cmd.opcode = 0x02 then f.bytes else 0,
    start := f.startTime.getD s.now, stop := s.now,
    signal := if f.cmd.signalSem = 0xFFFF ∨ f.startTime.isNone then none
      else some (match f.lastPav with
        | some p => 128 + p
        | none => 159, f.cmd.signalSem, f.cmd.signalValue),
    irq := f.cmd.irq }

/-- Take a command out of flight. -/
def State.dropFlight (s : State) (q seq : Nat) : State :=
  { s with tensor := { s.tensor with
    flights := s.tensor.flights.filter (fun x => !(x.queue == q && x.cmd.seq == seq)),
    parts := s.tensor.parts.filter (fun x => !(x.key.queue == q && x.key.seq == seq)),
    merges := s.tensor.merges.filter (fun x => !(x.key.queue == q && x.key.seq == seq)) } }

/-- The completion of a command in flight: the steps it holds open retire (R197), its flags are written (R179), then the
record, the SIGNAL and the interrupt (R120). -/
def State.finish (s : State) (f : Flight) : State :=
  let q := f.queue
  let s := s.retireAll q f.cmd.seq (f.bad.getD stDONE)
  let s := if f.cmd.opcode = 0x01 && !f.argsBad then (s.memWrite (s.flightStamp f) (fld f.cmd.args 8 8 + 8) f.flagBytes).1 else s
  let c := s.flightCpl f
  let s := (s.countCommand f.cmd.ctx (c.stop - c.start)).dropFlight q f.cmd.seq
  ((s.post q c).remember q f.cmd.seq c.status).touch

/-- The commands of a queue whose completion became ready in the same cycle as that of `f` and goes before it (R120), in ascending
SEQ. -/
def State.readyBefore (s : State) (f : Flight) : List Flight :=
  sortBy (fun a b => decide (a.cmd.seq < b.cmd.seq)) (s.tensor.flights.filter (fun g =>
    g.queue == f.queue && g.finished && g.doneAt == f.doneAt && decide (g.cmd.seq < f.cmd.seq)))

/-- COMMAND_COMPLETE (R120); no completion is written in safe state (R417). -/
def State.commandComplete (s : State) (q seq : Nat) : State :=
  if s.safe.safe then s
  else match s.flight? q seq with
    | none => s
    | some f => if f.finished then ((s.readyBefore f).foldl State.finish s).finish f else s

/-! ### Deadlines -/

/-- The severity of a missed deadline of a queue (R121). -/
def State.missSeverity (s : State) (q : Nat) : Nat := ((s.plan.bind (fun p => p.classRec 0x05 q)).map (·.sev)).getD 2

/-- DEADLINE_VALID is set and device time has reached DEADLINE. -/
def State.passed (s : State) (c : Cmd) : Bool := c.hasDeadline && decide (c.deadline ≤ s.now)

/-- The record of a missed deadline (R123, R235). -/
def State.missRec (s : State) (b : Block) (inst q : Nat) (c : Cmd) (op : Nat) : FaultRec :=
  { s.mkRec b inst fcDEADLINE (s.missSeverity q) stDEADLINE_MISSED with
    plot := s.queuePlot q, ctx := c.ctx, detail := c.tag + 65536 * op + 0x100000000 * q }

/-- The Beds that run an operation of a command. -/
def Flight.startedParts (f : Flight) : List BedPart :=
  f.ops.flatMap (fun o => if o.status.isSome then [] else o.parts.filter (·.started))

/-- Report the miss of a command in flight by the unit of R121. -/
def State.reportMiss (s : State) (f : Flight) : State :=
  match (sortBy (fun a b => decide (a.bed < b.bed)) f.startedParts).head? with
  | some b => (s.raise (s.missRec .bed b.bed f.queue f.cmd b.at_)).bump .pavMisses (b.bed / 8) 1
  | none => match (sortBy (fun a b => decide (a < b)) (f.ops.map (·.pav))).head? with
    | some p => (s.raise (s.missRec .pav p f.queue f.cmd 0)).bump .pavMisses p 1
    | none => s.raise (s.missRec .kpr 1 f.queue f.cmd 0)

/-- COMMAND_DEADLINE_MISS (R121, R122). -/
def State.deadlineMiss (s : State) (q seq : Nat) : State :=
  match s.flight? q seq with
  | none => s
  | some f =>
    if f.missed || !s.passed f.cmd then s
    else
      let s := (s.reportMiss f).updFlight q seq (fun f => { f with missed := true })
      let s := s.updCtx f.cmd.ctx (fun x => { x with misses := satAdd32 x.misses 1 })
      if 2 ≤ s.missSeverity q then (s.endCommand q seq stDEADLINE_MISSED).touch
      else s.updFlight q seq (fun f => { f with late := true })

/-- QUEUED_DEADLINE_MISS (R235): the scheduler reports it. -/
def State.queuedMiss (s : State) (q : Nat) : State :=
  match (s.queue q).head with
  | none => s
  | some h =>
    if h.missed || !s.passed h.cmd then s
    else
      let s := s.raise (s.missRec .kpr 1 q h.cmd 0)
      let s := if (s.ctx? h.cmd.ctx).map (·.plot) = some (s.queuePlot q) then
          s.updCtx h.cmd.ctx (fun x => { x with misses := satAdd32 x.misses 1 })
        else s
      if 2 ≤ s.missSeverity q then
        ((s.setQueue q { s.queue q with head := none }).completeUnstarted q h.cmd h.late stDEADLINE_MISSED).touch
      else s.setQueue q { s.queue q with head := some { h with missed := true, late := true } }

/-! ### Cancelling (R241, R493, R494) -/

/-- Cancel a command that a queue has not read before; a duplicate gets its completion as at a fetch. The number is that of
commands completed with CANCELLED. -/
def State.cancelRead (s : State) (q : Nat) (c : Cmd) : State × Nat :=
  match (s.queue q).window.find? (fun w => w.1 == c.seq) with
  | some (_, status) => (s.postOrWait q (c.dup s.now status), 0)
  | none =>
    if (s.flight? q c.seq).isSome then (s.setQueue q { s.queue q with dups := (s.queue q).dups ++ [c] }, 0)
    else (s.completeUnstarted q c false stCANCELLED, 1)

/-- Complete every unread entry of a queue with CANCELLED, in ring order (R581), counting them; a queue that a refused access
has stopped is read no further (R487). -/
def State.flushUnread (s : State) (q n : Nat) : Nat → State × Nat
  | 0 => (s, n)
  | fuel + 1 =>
    if s.rd .hifQHead q = s.rd .hifQTail q || bit (s.rd .hifQCfg q) 17 then (s, n)
    else match s.readEntry q with
      | (s, none) => (s, n)
      | (s, some c) =>
        let r := s.cancelRead q c
        r.1.flushUnread q (n + r.2) fuel

/-- Cancel every queued command of a queue, counting them. -/
def State.flushQueue (s : State) (q : Nat) : State × Nat :=
  match (s.queue q).head with
  | some h =>
    ((s.setQueue q { s.queue q with head := none }).completeUnstarted q h.cmd h.late stCANCELLED).flushUnread q 1 4096
  | none => s.flushUnread q 0 4096

/-! ### Queue registers (R486 to R489, R502) -/

/-- Who may write a register of a queue (R502); TAIL and CPL_HEAD of a queue bound to a host-backed instance are for that
function and the Keeper. -/
def State.queueWriter (s : State) (who : Who) (q : Nat) (counter : Bool) : Bool :=
  let core := s.isCoreOf who (s.queuePlot q)
  let fn (i : Nat) : Bool := match who with
    | .host j => j.val == i
    | _ => false
  isKeeper who || (match s.queueInst q with
    | some i => if s.hostBacked i then (if counter then fn i else core) else core
    | none => core)

/-- The OWNER refusal of the HIF block (R500, R502). -/
def hifOwner (reason : Nat) : WRefusal := { errBit := some 2, inst := 0, detail := reason }

/-- A CFG write holds valid encodings (Table 15-18, R486). -/
def State.queueCfgOk (s : State) (q v : Nat) : Bool :=
  let old := s.rd .hifQCfg q
  let i := bits v 5 1
  let ordOk := decide (4 ≤ bits v 10 7) && decide (bits v 10 7 ≤ 12)
  let bindOk := !bit v 6 || (s.ownerOf 0x04 i == s.queuePlot q && (!s.hostBacked i || bits v 16 11 ≠ 0))
  ordOk && bindOk && (!bit old 0 || bits v 10 1 == bits old 10 1)

/-- The effect of a CFG write: setting ENABLE zeroes the counters, empties the window and clears STOPPED. -/
def State.queueCfgStore (s : State) (q v hw : Nat) : State :=
  let old := s.rd .hifQCfg q
  let s := s.regStore .hifQCfg q v hw
  let s := if bit v 0 && !bit old 0 then
      let s := (((s.wr .hifQTail q 0).wr .hifQHead q 0).wr .hifQCplTail q 0).wr .hifQCplHead q 0
      (s.wr .hifQCfg q (clrBit (s.rd .hifQCfg q) 17)).setQueue q { s.queue q with window := [] }
    else s
  s.touch

/-- Writes of the queue registers. -/
def State.queueWrite (s : State) (who : Who) (id : RegId) (q size v hw : Nat) : State :=
  let st := s.stampOf who
  let no : Option WRefusal := if s.queueWriter who q false then none else some (hifOwner 1)
  let noCtr : Option WRefusal := if s.queueWriter who q true then none else some (hifOwner 1)
  let enabled := bit (s.rd .hifQCfg q) 0
  let size2 := 2 ^ bits (s.rd .hifQCfg q) 10 7
  match id with
  | .hifQBase => s.regWrite st id q size v no (!enabled) (fun s => s.regStore id q v hw)
  | .hifQCplBase => s.regWrite st id q size v no (!enabled) (fun s => s.regStore id q v hw)
  | .hifQShadow => s.regWrite st id q size v no true (fun s => s.regStore id q v hw)
  | .hifQCfg => s.regWrite st id q size v no (s.queueCfgOk q v) (fun s => s.queueCfgStore q v hw)
  | .hifQTail =>
    let ok := decide ((v + 2 ^ 32 - s.rd .hifQHead q) % 2 ^ 32 ≤ size2)
    s.regWrite st id q size v noCtr ok (fun s => s.regStore id q v hw)
  | .hifQCplHead =>
    let ok := decide ((s.rd .hifQCplTail q + 2 ^ 32 - v) % 2 ^ 32 ≤ size2)
    s.regWrite st id q size v noCtr ok (fun s => ((s.regStore id q v hw).drain q 4096).touch)
  | _ => s.regWrite st id q size v no true (fun s => s.regStore id q v hw)

/-! ### Commands -/

/-- COMMAND_FETCH (R488). -/
def execCommandFetch (q : Fin 256) (s : State) : Host.Outcome State Fault Refusal := .next (s.fetch q.val)

/-- HIF_QQ_TAIL_WRITE (R488, R502). -/
def execHifQqTailWrite (who : Who) (q : Fin 256) (value : BitVec 32) (s : State) : Host.Outcome State Fault Refusal :=
  .next (s.queueWrite who .hifQTail q.val 4 value.toNat 0)

/-- HIF_QQ_CFG_WRITE (R486, R502). -/
def execHifQqCfgWrite (who : Who) (q : Fin 256) (value : BitVec 32) (s : State) : Host.Outcome State Fault Refusal :=
  .next (s.queueWrite who .hifQCfg q.val 4 value.toNat 0)

/-- DISPATCH (R231). -/
def execDispatch (s : State) : Host.Outcome State Fault Refusal := .next s.dispatch

/-- NOP (R117): it runs nothing and its completion follows. -/
def execNop (q : Fin 256) (seq : BitVec 32) (s : State) : Host.Outcome State Fault Refusal :=
  .next (s.runOnce q.val seq.toNat 0x00 (fun s _ => (s, stDONE)))

/-- OPERATION_COMPLETE (R119). -/
def execOperationComplete (pav : Fin 16) (slot : Fin 64) (s : State) : Host.Outcome State Fault Refusal :=
  .next (s.operComplete pav.val slot.val)

/-- COMMAND_DEADLINE_MISS (R121, R122). -/
def execCommandDeadlineMiss (q : Fin 256) (seq : BitVec 32) (s : State) : Host.Outcome State Fault Refusal :=
  .next (s.deadlineMiss q.val seq.toNat)

/-- QUEUED_DEADLINE_MISS (R235). -/
def execQueuedDeadlineMiss (q : Fin 256) (s : State) : Host.Outcome State Fault Refusal := .next (s.queuedMiss q.val)

end Sys2Proof.Machine
end

