-- ==== Sys2Proof/Machine/Run.lean ====
section
/-! DEFINITION. RUN and COPY of spec/03 and spec/05: the argument and ATTEND checks (R177, R178, R206), which operator a Bed
starts next (R97, R161, R180, R233, R234), and the end of an operator. -/

namespace Sys2Proof.Machine

/-! ### Argument and ATTEND checks -/

/-- The number of elements of a tensor. -/
def TensorRec.count (t : TensorRec) : Nat := t.dims.foldl (· * ·) 1

/-- A tensor with its scale array lies below a length. -/
def TensorRec.within (t : TensorRec) (len : Nat) : Bool :=
  decide (t.offset + fmtDataBytes t.format t.count ≤ len) &&
    (fmtScaleBytes t.format t.count == 0 || decide (t.scaleOffset + fmtScaleBytes t.format t.count ≤ len))

/-- The arguments of a block, as (address, length). -/
def readArgs (r : List Byte) (n : Nat) : List (Nat × Nat) := (List.range n).map (fun k => (fld r (16 * k) 8, fld r (16 * k + 8) 8))

/-- The argument check of R178: the status of a failure, or the arguments. -/
def State.argCheck (s : State) (st : Stamp) (p : Prog) (a : Nat) : State × Except Nat (List (Nat × Nat)) :=
  match s.memRead st a 16 with
  | (s, none) => (s, .error stOWNER_FAULT)
  | (s, some h) =>
    let n := fld h 0 2
    if 256 < n then (s, .error stREFUSED_FORMAT)
    else match (if n = 0 then (s, some []) else s.memRead st (a + 16) (16 * n)) with
      | (s, none) => (s, .error stOWNER_FAULT)
      | (s, some r) =>
        let argv := readArgs r n
        if n < p.argCount || !allZero h 2 6 || !allZero h 14 2 then (s, .error stREFUSED_FORMAT)
        else if p.tensors.all (fun t => t.bind ≠ 0 || t.within ((argv.getD t.bindIndex (0, 0)).2)) then (s, .ok argv)
        else (s, .error stREFUSED_FIT)

/-- A tensor has the format and dimensions of a row of Table 06-9. -/
def TensorRec.isAttend (t : TensorRec) (x : Space) (formats : List Nat) (heads : Nat) : Bool :=
  t.bind == 0 && formats.contains t.format && t.dims == [x.headDim, heads, x.stepRows, x.lanes]

/-- The tensors of an operator: inputs then outputs. -/
def Prog.opTensors (p : Prog) (o : OpRec) : List TensorRec := (p.tensors.drop o.tensorFirst).take (o.nIn + o.nOut)

/-- The check of one ATTEND operator (R206). -/
def State.attendCheck (s : State) (p : Prog) (o : OpRec) : Option Nat :=
  let a := p.attendParams o
  match s.spaceOf p.ctx (fld a 0 1) with
  | none => some stREFUSED_FORMAT
  | some (_, x) =>
    let app := bit (fld a 1 1) 0
    let t := p.opTensors o
    let get (i : Nat) : Option TensorRec := t[i]?
    let is (i : Nat) (fm : List Nat) (h : Nat) : Bool := ((get i).map (fun y => y.isAttend x fm h)).getD false
    let outs := [0x0001, 0x0002, 0x0102, 0x0003, 0x0103, 0x0004, 0x0104, 0x0005, 0x0105]
    let qh := x.kvHeads * x.qPerKv
    let shape := if app then o.nIn == 3 && o.nOut == 1 && is 0 [x.qfmt] qh && is 1 [x.kfmt] x.kvHeads &&
        is 2 [x.vfmt] x.kvHeads && is 3 outs qh
      else o.nIn == 1 && o.nOut == 1 && is 0 [x.qfmt] qh && is 1 outs qh
    if !shape || decide (x.layers ≤ fld a 2 2) || decide (1 < fld a 1 1) || !allZero a 8 8 || fld a 4 4 % 64 ≠ 0 then
      some stREFUSED_FORMAT
    else if o.scratch < fld a 4 4 + 65536 then some stREFUSED_FIT
    else none

/-- The parts of a share, as (offset, length), that PINNED stripes of a context's programs fill on a Bed (R166). -/
def State.pinnedParts (s : State) (c n : Nat) : List (Nat × Nat) :=
  (s.ctxProgs c).flatMap (fun p => match p.vbedOf n with
    | some v => (p.segs.filter (fun g => g.kind == 1 && decide (g.vbedFirst ≤ v) && decide (v < g.vbedFirst + g.stripes))).map
        (fun g => (g.pinOff, g.stripeBytes))
    | none => [])

/-- What a list of parts, in ascending offset, leaves of a range from `at_` to `end_`. -/
def gapsOf (end_ : Nat) : Nat → List (Nat × Nat) → List (Nat × Nat)
  | at_, [] => if at_ < end_ then [(at_, end_ - at_)] else []
  | at_, (o, l) :: r => (if at_ < o then [(at_, min o end_ - at_)] else []) ++ gapsOf end_ (max at_ (o + l)) r

/-- The share of a context on a Bed keeps defined values only in the PINNED stripes (R226). -/
def State.scratchLost (s : State) (c n : Nat) : State :=
  let sh := s.residentShare c n
  (gapsOf sh.2 0 (sortBy (fun a b => decide (a.1 < b.1)) (s.pinnedParts c n))).foldl
    (fun (s : State) g => s.padLose n (sh.1 + g.1) g.2) s

/-- RUN: the checks before any operator starts; then the program-semaphore values at the start are taken (R180). -/
def State.runStart (s : State) (q seq : Nat) : State :=
  match s.flight? q seq with
  | none => s
  | some f =>
    if f.cmd.opcode ≠ 0x01 || f.checked || f.argsBad || f.finished || s.safe.safe || !s.inTurn f then s
    else match s.cmdProg f.cmd with
      | none => s
      | some p =>
        let fail (s : State) (w : Nat) : State :=
          ((s.updFlight q seq (fun f => { f with argsBad := true })).endCommand q seq w).touch
        match s.argCheck (s.flightStamp f) p (fld f.cmd.args 8 8) with
        | (s, .error w) => fail s w
        | (s, .ok argv) =>
          match (p.ops.filter (fun o => o.kind == 0x000A)).findSome? (s.attendCheck p) with
          | some w => fail s w
          | none =>
            let s := (s.cmdBeds f.cmd).foldl (fun (s : State) n => s.scratchLost f.cmd.ctx n) (s.startFlight q seq)
            s.updFlight q seq (fun f => { f with
              checked := true, argv := argv, psem := (List.range p.semCount).map (fun k => s.semVal (p.semFirst + k)) })

/-- RUN (R117, R178, R206). -/
def execRun (q : Fin 256) (seq : BitVec 32) (s : State) : Host.Outcome State Fault Refusal := .next (s.runStart q.val seq.toNat)

/-! ### COPY (R117) -/

/-- The bytes of a DRAM range before the first page that the owner check refuses. -/
def State.bytesBefore (s : State) (st : Stamp) (a n : Nat) (write : Bool) : Nat :=
  match s.firstRefused st a n write with
  | some (b, _) => b - a
  | none => n

/-- COPY moves its bytes with DMA channel 3 of BED, as a one-row descriptor; the bytes moved go to DETAIL. DESIGN CHOICE: its
ARGS name no EVENT; the descriptor has EVENT 0. -/
def State.doCopy (s : State) (f : Flight) (ueAt : Option Nat) : State :=
  let a := f.cmd.args
  let n := fld a 16 1
  let d : Desc := {
    dramAddr := fld a 0 8, shareOff := fld a 8 4, bed := 0xFF, dir := fld a 17 1, rows := 1, rowBytes := fld a 12 4,
    srcStride := 0, shareStride := 0, event := 0, reserved := 0 }
  let st := s.bedStamp n f
  let lim := match ueAt with
    | some u => if d.dir = 0 ∧ u < d.rowBytes then max d.dramAddr ((d.dramAddr + u) / 64 * 64) - d.dramAddr else d.rowBytes
    | none => d.rowBytes
  let moved := min lim (s.bytesBefore st d.dramAddr d.rowBytes (d.dir == 1))
  let s := s.updFlight f.queue f.cmd.seq (fun f => { f with
    ops := f.ops.map (fun o => { o with parts := o.parts.map (fun b => { b with started := true }) }) })
  let (s, w) := s.runDesc n 3 d st ueAt
  let s := s.updFlight f.queue f.cmd.seq (fun f => { f with bytes := moved })
  let b := s.bed n
  let s := s.setBed n (b.setCh 3 { b.ch 3 with cur := some (d, st), curStatus := w, copy := some (f.queue, f.cmd.seq) })
  if (b.ch 3).pend = 0 then s.endCopy n f.queue f.cmd.seq else s

/-- A COPY can start: it is in turn (R97), its Bed reads ON (R113) and channel 3 of the Bed is free. -/
def State.copyReady (s : State) (f : Flight) : Bool :=
  let n := fld f.cmd.args 16 1
  s.inTurn f && (s.bed n).pwr = .on && ((s.bed n).ch 3).cur.isNone

/-- COPY (R117). -/
def execCopy (q : Fin 256) (seq : BitVec 32) (ueAt : Option Nat) (s : State) : Host.Outcome State Fault Refusal :=
  .next (match s.flight? q.val seq.toNat with
    | none => s
    | some f =>
      if f.cmd.opcode ≠ 0x02 || f.startTime.isSome || f.finished || s.still (fld f.cmd.args 16 1 / 8) || !s.copyReady f then s
      else (s.startFlight q.val seq.toNat).doCopy f ueAt)

/-! ### The next operator of a Bed -/

/-- An operator that a Bed could start: the command, its operation, the part on that Bed, its program and the operator. -/
structure Cand where
  flight : Flight
  oper : Oper
  part : BedPart
  prog : Prog
  op : OpRec
deriving DecidableEq, Repr

/-- WAIT_PSEM of an operator holds (R180). -/
def State.psemHolds (s : State) (f : Flight) (p : Prog) (o : OpRec) : Bool :=
  o.waitPsem == 0xFF ||
    decide (f.psem.getD o.waitPsem 0 + Config.psemCount (sub p.code o.paramRel o.paramBytes) ≤ s.semVal (p.semFirst + o.waitPsem))

/-- Every operation of the same context that the Pavilion accepted earlier has started on the Bed, or has nothing to run
there (R97). -/
def State.earlierStarted (s : State) (f : Flight) (o : Oper) (n : Nat) : Bool :=
  s.tensor.flights.all (fun g => g.cmd.ctx ≠ f.cmd.ctx || g.ops.all (fun x =>
    x.pav ≠ o.pav || x.status.isSome || decide (o.order ≤ x.order) ||
      x.parts.all (fun b => b.bed ≠ n || b.started || (b.next == 65536 && x.started))))

/-- The operators that are ready on a Bed. -/
def State.cands (s : State) (n : Nat) : List Cand :=
  s.tensor.flights.flatMap (fun f => if !f.checked then [] else match s.cmdProg f.cmd with
    | none => []
    | some p => f.ops.flatMap (fun o => if o.status.isSome then [] else o.parts.filterMap (fun b =>
        if b.bed ≠ n then none
        else match p.ops[b.next]? with
          | some op => if s.psemHolds f p op && (b.started || s.earlierStarted f o n) then some ⟨f, o, b, p, op⟩ else none
          | none => none)))

/-- The order of R233. -/
def State.candBefore (s : State) (a b : Cand) : Bool :=
  let key (c : Cand) : Nat × Nat × Nat :=
    (s.queueClass c.flight.queue, if c.flight.cmd.hasDeadline then c.flight.cmd.deadline else 2 ^ 64, c.oper.order)
  let x := key a
  let y := key b
  decide (y.1 < x.1) || (x.1 == y.1 && (decide (x.2.1 < y.2.1) || (x.2.1 == y.2.1 && decide (x.2.2 < y.2.2))))

/-- The operator that a Bed starts at this boundary. -/
def State.chosenOp (s : State) (n : Nat) : Option Cand :=
  let b := s.bed n
  if b.running.isSome || b.pwr ≠ .on || s.still (n / 8) || s.slicing 0 n then none else (sortBy s.candBefore (s.cands n)).head?

/-- Change the part of an operation on a Bed. -/
def State.updPart (s : State) (c : Cand) (g : BedPart → BedPart) : State :=
  s.updFlight c.flight.queue c.flight.cmd.seq (fun f => { f with
    ops := updWhere (fun o => o.pav == c.oper.pav && o.slot == c.oper.slot && o.status.isNone)
      (fun o => { o with parts := updWhere (fun b => b.bed == c.part.bed) g o.parts }) f.ops })

/-- The other operations whose next operator was ready here are pre-empted (R234). -/
def State.preempt (s : State) (c : Cand) : State :=
  ((s.cands c.part.bed).filter (fun x => (x.flight.queue ≠ c.flight.queue || x.flight.cmd.seq ≠ c.flight.cmd.seq))).foldl
    (fun s x => (s.updFlight x.flight.queue x.flight.cmd.seq (fun f => { f with preempted := true })).updCtx x.flight.cmd.ctx
      (fun k => { k with preemptions := satAdd32 k.preemptions 1 })) s

/-- Start an operator on its Bed: its code and parameters are loaded (R181), and what an earlier operator left in the
accumulators, tile buffers and registers is no longer defined. -/
def State.startOp (s : State) (c : Cand) : State :=
  let n := c.part.bed
  let i := c.part.next
  let s := s.preempt c
  let v := (c.prog.vbedOf n).getD 0
  let s := s.updPart c (fun b => { b with
    at_ := i, started := true, next := c.prog.nextOp v (i + 1) (fld c.flight.cmd.args 6 2) })
  let s := s.updFlight c.flight.queue c.flight.cmd.seq (fun f => { f with lastOp := i })
  let (b, s) := s.loseArray (s.bed n)
  s.setBed n { b with
    running := some ⟨c.flight.queue, c.flight.cmd.seq, i, c.op.kind⟩,
    halted := none,
    imem := { cells := writeBytes zeroAt [] 0 (sub c.prog.code c.op.codeRel c.op.codeBytes) },
    dmem := { cells := writeBytes zeroAt [] 0 (sub c.prog.code c.op.paramRel c.op.paramBytes) } }

/-- Note the flags of an operator (R149, R179). -/
def State.noteFlags (s : State) (q seq op : Nat) (g : NumFlags) : State :=
  if g == NumFlags.none then s
  else s.updFlight q seq (fun f => { f with flags := f.flags.or g, flagOp := min f.flagOp op })

/-- What running an operator gives: the state with the flags of its results, or the status of an access that was refused with the
flags until then (R64, R119, R179). -/
abbrev OpResult := State × Except (Nat × NumFlags) NumFlags

/-- A Bed starts the operator that comes next, when it is of a kind, and runs it. -/
def State.runOp (s : State) (n kind : Nat) (run : State → Cand → OpResult) : State :=
  match s.chosenOp n with
  | none => s
  | some c =>
    if c.op.kind ≠ kind then s
    else match run (s.startOp c) c with
      | (s, .ok g) => (s.noteFlags c.flight.queue c.flight.cmd.seq c.part.next g).touch
      | (s, .error (w, g)) =>
        ((s.noteFlags c.flight.queue c.flight.cmd.seq c.part.next g).endCommand c.flight.queue c.flight.cmd.seq w (n / 8)).touch

/-- The merges of an ATTEND are all done. -/
def State.attendIdle (s : State) (r : RunningOp) : Bool :=
  let mine (k : AttKey) : Bool := k.queue == r.queue && k.seq == r.seq && k.op == r.op
  s.tensor.merges.all (fun m => !mine m.key) && s.tensor.parts.all (fun m => !mine m.key)

/-- OPERATOR_COMPLETE: SIGNAL_PSEM adds 1 (R180), and the Bed is free for the next operator (R233). -/
def State.opComplete (s : State) (n : Nat) : State :=
  let b := s.bed n
  match b.running with
  | none => s
  | some r =>
    if s.still (n / 8) || !s.attendIdle r || b.dma.any (fun d => d.2.pend ≠ 0 || d.2.cur.isSome) then s
    else
      let s := (s.setBed n { b with running := none }).count .bedOpsDone n 1
      match s.flight? r.queue r.seq with
      | none => s.touch
      | some f => match s.cmdProg f.cmd with
        | none => s.touch
        | some p => match p.ops[r.op]? with
          | some o => (if o.signalPsem = 0xFF then s else s.semAddBy (s.bedStamp n f) (p.semFirst + o.signalPsem) 1).touch
          | none => s.touch

/-- OPERATOR_COMPLETE (R180, R233). -/
def execOperatorComplete (bed : Fin 128) (s : State) : Host.Outcome State Fault Refusal := .next (s.opComplete bed.val)

end Sys2Proof.Machine
end

