-- ==== Sys2Proof/Machine/Tensor.lean ====
section
/-! DEFINITION. The operators of Table 05-1 but ATTEND: where their tensors lie (R158, R164 to R167), elements and scales
(R134), and what each computes (R141, R146, R147, R152, R161, R162, R269). Which part of an operator a Bed computes is in
Brodec's code, whose encoding is not the manual's; the commands carry it. -/

namespace Sys2Proof.Machine

/-! ### Where tensors lie -/

/-- Where a byte of a tensor's binding lies: in the Bed's share, in a STREAMED stripe of a weight segment, or elsewhere in DRAM. -/
inductive Place where
  | share (off : Nat)
  | segment (addr : Nat)
  | dram (addr : Nat)
deriving DecidableEq, Repr

/-- The place of byte `off` of a tensor's binding for the virtual Bed of a Bed. -/
def State.bindAddr (_s : State) (c : Cand) (t : TensorRec) (off : Nat) : Place :=
  match t.bind with
  | 0 => .dram ((c.flight.argv.getD t.bindIndex (0, 0)).1 + off)
  | 1 => match c.prog.segs[t.bindIndex]? with
    | some g => if g.kind = 1 then .share (g.pinOff + off)
        else .segment (g.addr (c.prog.binds.getD t.bindIndex 0) ((c.prog.vbedOf c.part.bed).getD 0 - g.vbedFirst) off)
    | none => .share 0
  | _ => .share off

/-- An access of an operator to its share (R108): the scratchpad offset, or the refusal with its record when the access reaches at or
beyond the end of the share. -/
def State.shareOff (s : State) (c : Cand) (st : Stamp) (off n : Nat) (write : Bool) : State × Option Nat :=
  let sh := s.residentShare c.prog.ctx c.part.bed
  if sh.2 < off + n then (s.bedOwner c.part.bed 1 write 0xFF (sh.1 + off + n - 1) st 0, none) else (s, some (sh.1 + off))

/-- Read bytes of a binding, in pieces within which addresses are consecutive. -/
def State.bindRead (s : State) (c : Cand) (st : Stamp) (t : TensorRec) : List (Nat × Nat) → State × Option (List Byte)
  | [] => (s, some [])
  | (off, n) :: r =>
    let got : State × Option (List Byte) := match s.bindAddr c t off with
      | .share o => match s.shareOff c st o n false with
        | (s, some x) => (s, some (s.padGet c.part.bed x n))
        | (s, none) => (s, none)
      | .segment a => s.memRead st a n
      | .dram a => s.memRead st a n
    match got with
    | (s, none) => (s, none)
    | (s, some d) => match s.bindRead c st t r with
      | (s, some e) => (s, some (d ++ e))
      | (s, none) => (s, none)

/-- Write bytes of a binding. A STREAMED stripe is never written (R167): the access is refused, by the owner check where that
refuses it too. -/
def State.bindWrite (s : State) (c : Cand) (st : Stamp) (t : TensorRec) (off : Nat) (d : List Byte) : State × Bool :=
  if d.isEmpty then (s, true)
  else match s.bindAddr c t off with
    | .share o => match s.shareOff c st o d.length true with
      | (s, some x) => (s.padPut c.part.bed x d, true)
      | (s, none) => (s, false)
    | .segment a => if (s.firstRefused st a d.length true).isSome then s.memWrite st a d else (s, false)
    | .dram a => s.memWrite st a d

/-- A tensor as an operator reads it: its descriptor, element bytes and scale or index bytes. -/
structure TData where
  t : TensorRec
  data : List Byte
  scales : List Byte
deriving DecidableEq, Repr

/-- Read a whole tensor (R164). -/
def State.readTensor (s : State) (c : Cand) (st : Stamp) (t : TensorRec) : State × Option TData :=
  match s.bindRead c st t (pagePieces t.offset (fmtDataBytes t.format t.count)) with
  | (s, none) => (s, none)
  | (s, some d) => match s.bindRead c st t (pagePieces t.scaleOffset (fmtScaleBytes t.format t.count)) with
    | (s, none) => (s, none)
    | (s, some e) => (s, some ⟨t, d, e⟩)

/-- Read the inputs of an operator. -/
def State.readInputs (s : State) (c : Cand) (st : Stamp) : List TensorRec → State × Option (List TData)
  | [] => (s, some [])
  | t :: r => match s.readTensor c st t with
    | (s, none) => (s, none)
    | (s, some x) => match s.readInputs c st r with
      | (s, some l) => (s, some (x :: l))
      | (s, none) => (s, none)

/-! ### Elements (R134) -/

/-- The code of element `i` of packed data. -/
def elemCode (bitsEach i : Nat) (d : List Byte) : Nat :=
  if bitsEach < 8 then
    let k := 8 / bitsEach
    (d.getD (i / k) 0).toNat / 2 ^ (bitsEach * (i % k)) % 2 ^ bitsEach
  else fld d (bitsEach / 8 * i) (bitsEach / 8)

/-- The scale of the group that holds element `i`; 1 for a format without one. MXINT8 folds its 2^-6 in. -/
def TData.scale (x : TData) (i : Nat) : Num :=
  let f := x.t.format
  match fmtBlock f with
  | 1 =>
    let e := decodeE8M0 (x.scales.getD (i / 32) 0).toNat
    if fmtElem f = 0x06 then e.mul (.fin false 1 (-6)) else e
  | 2 => decodeElem 0x02 (fld x.scales (i / 32 * 2) 2)
  | _ => .fin false 1 0

/-- Element `i` without its scale; a position that SPARSE data does not store is 0, and one of a group with an invalid
index is NaN (R135). -/
def TData.elem (x : TData) (i : Nat) : Num :=
  let f := x.t.format
  let w := elemBits (fmtElem f)
  if fmtBlock f = 3 then
    let g := i / 4
    let nib := elemCode 4 g x.scales
    let p0 := nib % 4
    let p1 := nib / 4
    if p1 ≤ p0 then .nan
    else if i % 4 = p0 then decodeElem (fmtElem f) (elemCode w (2 * g) x.data)
    else if i % 4 = p1 then decodeElem (fmtElem f) (elemCode w (2 * g + 1) x.data)
    else .fin false 0 0
  else decodeElem (fmtElem f) (elemCode w i x.data)

/-- TENSOR_SCALE is applied as one FP32 multiplication (R138); 0 stands for none. With the flags of that operation (R149). -/
def tensorScale (t : TensorRec) (a : Nat) : Nat × NumFlags :=
  if t.scale = 0 then (a, NumFlags.none) else (f32Mul a t.scale, resultFlags [a, t.scale] (f32Mul a t.scale))

/-- Element `i` as FP32 in the vector unit, with the flags of getting it: element times scale, then TENSOR_SCALE. -/
def TData.get (x : TData) (i : Nat) : Nat × NumFlags :=
  let a := toF32 ((x.scale i).mul (x.elem i))
  let r := tensorScale x.t a
  (r.1, (numFlags [x.scale i, x.elem i] (ofF32 a)).or r.2)

/-- Element `i` as FP32. -/
def TData.f32 (x : TData) (i : Nat) : Nat := (x.get i).1

/-- The flags of getting a list of elements. -/
def TData.flags (x : TData) (l : List Nat) : NumFlags := l.foldl (fun g i => g.or (x.get i).2) NumFlags.none

/-- Write the code of element `i` of a tensor. -/
def State.putElem (s : State) (c : Cand) (st : Stamp) (t : TensorRec) (i code : Nat) : State × Bool :=
  let w := elemBits (fmtElem t.format)
  if w < 8 then
    let k := 8 / w
    let off := t.offset + i / k
    let old := match s.bindAddr c t off with
      | .share o => (s.padGet c.part.bed ((s.residentShare c.prog.ctx c.part.bed).1 + o) 1).headD 0
      | .segment a => s.dramByte a
      | .dram a => s.dramByte a
    s.bindWrite c st t off [BitVec.ofNat 8 (setField old.toNat (w * (i % k)) w code)]
  else s.bindWrite c st t (t.offset + w / 8 * i) (leBytes (w / 8) code)

/-- Convert and write FP32 results into a plain format (R146). -/
def State.putResults (s : State) (c : Cand) (st : Stamp) (t : TensorRec) (g : NumFlags) : List (Nat × Nat) → OpResult
  | [] => (s, .ok g)
  | (i, a) :: r =>
    let (code, h) := convertElem (fmtElem t.format) (fmtSat t.format) a
    match s.putElem c st t i code with
    | (s, true) => s.putResults c st t (g.or h) r
    | (s, false) => (s, .error (stOWNER_FAULT, g.or h))

/-- Write codes into a tensor. -/
def State.putCodes (s : State) (c : Cand) (st : Stamp) (t : TensorRec) : List (Nat × Nat) → OpResult
  | [] => (s, .ok NumFlags.none)
  | (i, code) :: r => match s.putElem c st t i code with
    | (s, true) => s.putCodes c st t r
    | (s, false) => (s, .error (stOWNER_FAULT, NumFlags.none))

/-- Write one MX block (R147): its 32 elements and its scale byte. -/
def State.putBlock (s : State) (c : Cand) (st : Stamp) (t : TensorRec) (g : Nat) (xs : List Nat) : OpResult :=
  let (sc, es, fl) := mxBlock (fmtElem t.format) xs
  match s.putCodes c st t (es.zipIdx.map (fun e => (32 * g + e.2, e.1))) with
  | (s, .error (w, _)) => (s, .error (w, fl))
  | (s, .ok _) => match s.bindWrite c st t (t.scaleOffset + g) [BitVec.ofNat 8 sc] with
    | (s, true) => (s, .ok fl)
    | (s, false) => (s, .error (stOWNER_FAULT, fl))

/-- Write the MX blocks of a list of groups. -/
def State.putBlocks (s : State) (c : Cand) (st : Stamp) (t : TensorRec) (g : NumFlags) : List (Nat × List Nat) → OpResult
  | [] => (s, .ok g)
  | (i, xs) :: r => match s.putBlock c st t i xs with
    | (s, .ok h) => s.putBlocks c st t (g.or h) r
    | (s, .error (w, h)) => (s, .error (w, g.or h))

/-- Write FP32 results into a tensor of any format: a block format takes the whole groups of 32 among them. -/
def State.putF32 (s : State) (c : Cand) (st : Stamp) (t : TensorRec) (g : NumFlags) (l : List (Nat × Nat)) : OpResult :=
  if fmtBlock t.format = 1 then
    let groups := (l.map (fun e => e.1 / 32)).eraseDups
    s.putBlocks c st t g (groups.map (fun k => (k, (List.range 32).map (fun i =>
      ((l.find? (fun e => e.1 == 32 * k + i)).map (·.2)).getD 0))))
  else s.putResults c st t g l

/-! ### Running an operator -/

/-- An operator reads its inputs and writes results: `f` gets them and the output descriptors. -/
def State.withInputs (s : State) (c : Cand) (f : State → Stamp → List TData → List TensorRec → OpResult) : OpResult :=
  let st := s.bedStamp c.part.bed c.flight
  let ts := c.prog.opTensors c.op
  match s.readInputs c st (ts.take c.op.nIn) with
  | (s, none) => (s, .error (stOWNER_FAULT, NumFlags.none))
  | (s, some xs) => f s st xs (ts.drop c.op.nIn)

/-- An empty tensor, for an operator that lacks one. -/
def noTensor : TensorRec := ⟨0, 0, 2, 0, [], 0, 0, 0, 0⟩

/-- Input `k`. -/
def inAt (xs : List TData) (k : Nat) : TData := xs.getD k ⟨noTensor, [], []⟩

/-- Output `k`. -/
def outAt (ts : List TensorRec) (k : Nat) : TensorRec := ts.getD k noTensor

/-- DIM[k] of a tensor. -/
def TensorRec.dim (t : TensorRec) (k : Nat) : Nat := t.dims.getD k 1

/-- One array cycle over a run of the reduction dimension (R141): `xi` and `wi` are the elements at which the run starts
in the activation and in the weight. -/
def arrayCycle (x w : TData) (acc xi wi len : Nat) : Nat :=
  macCycle acc ((List.range len).map (fun i => (w.scale (wi + i), x.scale (xi + i), [(w.elem (wi + i), x.elem (xi + i))])))

/-- The cycles of a run of the reduction dimension: pieces of at most the K of the weight's tile (R99). -/
def runCycles (k : Nat) (r : Nat × Nat × Nat) : List (Nat × Nat × Nat) :=
  (List.range (ceilDiv r.2.2 k)).map (fun b => (r.1 + b * k, r.2.1 + b * k, min k (r.2.2 - b * k)))

/-- The accumulator after a list of runs. -/
def arraySum (x w : TData) (acc : Nat) (runs : List (Nat × Nat × Nat)) : Nat :=
  (runs.flatMap (runCycles (tileK w.t.format))).foldl (fun a r => arrayCycle x w a r.1 r.2.1 r.2.2) acc

/-- Results with the flags of all of them. -/
def flagsOf (l : List (Nat × NumFlags)) : NumFlags := l.foldl (fun g e => g.or e.2) NumFlags.none

/-- The drain (Table 05-1, R138): tensor scales of the activation and the weight, bias (with the flags of getting it), and one
element-wise function; the flags are those of every step (R149). -/
def arrayDrain (x w : TData) (bias : Option (Nat × NumFlags)) (post : Option (EwOp × BitVec 32 × BitVec 32)) (acc : Nat) :
    Nat × NumFlags :=
  let a := tensorScale x.t acc
  let b := tensorScale w.t a.1
  let d : Nat × NumFlags := match bias with
    | some (v, g) => (f32Add b.1 v, g.or (resultFlags [b.1, v] (f32Add b.1 v)))
    | none => (b.1, NumFlags.none)
  let g := (a.2.or b.2).or d.2
  match post with
  | none => (d.1, g)
  | some (op, p, q) =>
    let r := op.apply d.1 p.toNat q.toNat
    (r, if op.quiet then g else g.or (resultFlags (op.args d.1 p.toNat q.toNat) r))

/-! ### The buffers of the array (R99, R100, R140) -/

/-- What a byte of a buffer holds that is not listed. -/
def Buf.default (b : Buf) (a : Nat) : Byte := match b.lost with
  | some n => Config.freeByte n a
  | none => 0

/-- Write bytes into a buffer. -/
def Buf.put (b : Buf) (a : Nat) (d : List Byte) : Buf := { b with cells := writeBytes b.default b.cells a d }

/-- Columns of an array tile per weight format (Table 03-2). -/
def tileN (w : Nat) : Nat := if fmtElem w == 0x02 && fmtBlock w == 0 || fmtElem w == 0x03 && fmtBlock w == 0 then 32 else 64

/-- A weight tile: the elements and the side data (Table 04-7) of K rows from `start col` on, for each column. DESIGN CHOICE:
column after column; the manual gives the buffers no layout. -/
def TData.tile (w : TData) (g : Nat) (start : Nat → Nat) : List Byte × List Byte :=
  let f := w.t.format
  let n := tileN f
  let cols := (List.range n).map (fun j => start (n * g + j))
  (cols.flatMap (fun e => sub w.data (fmtDataBytes f e) (fmtDataBytes f (tileK f))),
    cols.flatMap (fun e => sub w.scales (fmtScaleBytes f e) (fmtScaleBytes f (tileK f))))

/-- The accumulators of (row, column) pairs take their sums, and the two tile buffers with their side buffers hold the last tiles
that were loaded, in turn. `starts` says for each tile row where a column of the weight starts. -/
def BedSt.useArray (b : BedSt) (w : TData) (sums : List (Nat × Nat × Nat)) (starts : List (Nat → Nat)) : BedSt :=
  let groups := (sums.map (fun e => e.2.1 / tileN w.t.format)).eraseDups
  let loads := groups.flatMap (fun g => starts.map (fun f => (g, f)))
  let last := loads.zipIdx.drop (loads.length - 2)
  let b := last.foldl (fun (b : BedSt) l =>
    let t := w.tile l.1.1 l.1.2
    { b with tiles := b.tiles.put (2048 * (l.2 % 2)) t.1, side := b.side.put (512 * (l.2 % 2)) t.2 }) b
  { b with acc := sums.foldl (fun (a : Buf) e => a.put (256 * (e.1 % 128) + 4 * (e.2.1 % 64)) (leBytes 4 e.2.2)) b.acc }

/-- The rows and columns of a MATMUL: for each (row of x, column of W, column of y), the sum over the K runs (start in x,
start in W, length) in their order. -/
def State.matmul (s : State) (c : Cand) (outs : List (Nat × Nat × Nat)) (tiles : List (Nat × Nat × Nat))
    (post : Option (EwOp × BitVec 32 × BitVec 32)) : OpResult :=
  s.withInputs c (fun s st xs ts =>
    let x := inAt xs 0
    let w := inAt xs 1
    let y := outAt ts 0
    let sum (o : Nat × Nat × Nat) : Nat :=
      arraySum x w 0 (tiles.map (fun k => (o.1 * x.t.dim 0 + k.1, o.2.1 * w.t.dim 0 + k.2.1, k.2.2)))
    let one (o : Nat × Nat × Nat) : Nat × Nat × NumFlags :=
      let bias := if c.op.nIn = 3 then some ((inAt xs 2).get o.2.1) else none
      let r := arrayDrain x w bias post (sum o)
      (o.1 * y.dim 0 + o.2.2, r.1, r.2)
    let s := s.setBed c.part.bed ((s.bed c.part.bed).useArray w (outs.map (fun o => (o.1, o.2.1, sum o)))
      ((tiles.flatMap (runCycles (tileK w.t.format))).map (fun k col => col * w.t.dim 0 + k.2.1)))
    let rs := outs.map one
    s.putF32 c st y (flagsOf (rs.map (·.2))) (rs.map (fun e => (e.1, e.2.1))))

/-- An operator that meets an ECC event of its Bed (R126): an uncorrectable one ends the command with HW_ERROR, and nothing of the
operator is written. -/
def State.withEcc (s : State) (c : Cand) (ecc : BedEcc) (run : State → OpResult) : OpResult :=
  match s.bedEcc c.part.bed (s.bedStamp c.part.bed c.flight) 0 ecc with
  | (s, none) => run s
  | (s, some _) => (s, .error (stHW_ERROR, NumFlags.none))

/-- MATMUL (R126, R141, R580). -/
def execMatmul (bed : Fin 128) (outs tiles : List (Nat × Nat × Nat)) (post : Option (EwOp × BitVec 32 × BitVec 32) × BedEcc)
    (s : State) : Host.Outcome State Fault Refusal :=
  .next (s.runOp bed.val 0x0001 (fun s c => s.withEcc c post.2 (fun s => s.matmul c outs tiles post.1)))

/-- A tap of a CONV2D (ky, kx, first channel, channels) at a pixel of y: the run (start in x, start in the filter, length), none
where it lies outside x. -/
def tapRun (x w : TData) (y : TensorRec) (stride dilation pad : Nat × Nat) (px col : Nat) (t : Nat × Nat × Nat × Nat) :
    Option (Nat × Nat × Nat) :=
  let ox := px % y.dim 1
  let oy := px / y.dim 1 % y.dim 2
  let img := px / y.dim 1 / y.dim 2
  let iy : Int := (oy * stride.1 + t.1 * dilation.1 : Nat) - (pad.1 : Int)
  let ix : Int := (ox * stride.2 + t.2.1 * dilation.2 : Nat) - (pad.2 : Int)
  if 0 ≤ iy ∧ iy < x.t.dim 2 ∧ 0 ≤ ix ∧ ix < x.t.dim 1 then
    some (((img * x.t.dim 2 + iy.toNat) * x.t.dim 1 + ix.toNat) * x.t.dim 0 + t.2.2.1,
      ((col * w.t.dim 2 + t.1) * w.t.dim 1 + t.2.1) * w.t.dim 0 + t.2.2.1, t.2.2.2)
  else none

/-- CONV2D: x is C × W × H × N, the filter C × KW × KH × OUT and y OUT × OW × OH × N, innermost first. For each (pixel of y,
filter, channel of y) the sum runs over the taps in their order; a tap outside x adds nothing. -/
def State.conv2d (s : State) (c : Cand) (outs : List (Nat × Nat × Nat)) (taps : List (Nat × Nat × Nat × Nat))
    (stride dilation pad : Nat × Nat) (post : Option (EwOp × BitVec 32 × BitVec 32)) : OpResult :=
  s.withInputs c (fun s st xs ts =>
    let x := inAt xs 0
    let w := inAt xs 1
    let y := outAt ts 0
    let sum (o : Nat × Nat × Nat) : Nat := arraySum x w 0 (taps.filterMap (tapRun x w y stride dilation pad o.1 o.2.1))
    let one (o : Nat × Nat × Nat) : Nat × Nat × NumFlags :=
      let bias := if c.op.nIn = 3 then some ((inAt xs 2).get o.2.1) else none
      let r := arrayDrain x w bias post (sum o)
      (o.1 * y.dim 0 + o.2.2, r.1, r.2)
    let s := s.setBed c.part.bed ((s.bed c.part.bed).useArray w (outs.map (fun o => (o.1, o.2.1, sum o)))
      (taps.flatMap (fun t => (runCycles (tileK w.t.format) (0, 0, t.2.2.2)).map (fun k col =>
        ((col * w.t.dim 2 + t.1) * w.t.dim 1 + t.2.1) * w.t.dim 0 + t.2.2.1 + k.2.1))))
    let rs := outs.map one
    s.putF32 c st y (flagsOf (rs.map (·.2))) (rs.map (fun e => (e.1, e.2.1))))

/-- CONV2D (R141, R580). -/
def execConv2d (bed : Fin 128) (outs : List (Nat × Nat × Nat)) (taps : List (Nat × Nat × Nat × Nat))
    (stride dilation pad : Nat × Nat) (post : Option (EwOp × BitVec 32 × BitVec 32)) (s : State) :
    Host.Outcome State Fault Refusal :=
  .next (s.runOp bed.val 0x0002 (fun s c => s.conv2d c outs taps stride dilation pad post))

/-- The lanes of a vector instruction: groups of 64. -/
def laneGroups {α : Type} (l : List α) : List (List α) :=
  (List.range (ceilDiv l.length 64)).map (fun g => (l.drop (64 * g)).take 64)

/-- A lane sum or lane max over each group of 64 elements, for the output element that its first lane names. DESIGN CHOICE: the
lanes that a short last group lacks hold the operation's neutral value, -0 or -infinity. -/
def laneResults (sum : Bool) (x : TData) (elems : List (Nat × Nat × Nat)) : List (Nat × Nat × NumFlags) :=
  let op := if sum then f32Add else f32Max
  (laneGroups elems).map (fun l =>
    let v := l.map (fun e => x.f32 e.1) ++ List.replicate (64 - l.length) (if sum then 0x80000000 else 0xFF800000)
    ((l.headD (0, 0, 0)).2.2, laneReduce op v, (x.flags (l.map (·.1))).or (laneFlags op v)))

/-- ELTWISE: each (element of input 0, element of input 1, element of the output) takes one operation; with one input the
second operand is `b`. -/
def State.eltwise (s : State) (c : Cand) (elems : List (Nat × Nat × Nat)) (op : EwOp) (b cc : Nat) : OpResult :=
  s.withInputs c (fun s st xs ts =>
    let one (e : Nat × Nat × Nat) : Nat × Nat × NumFlags :=
      let a := (inAt xs 0).get e.1
      let b : Nat × NumFlags := if c.op.nIn = 2 then (inAt xs 1).get e.2.1 else (b, NumFlags.none)
      let r := op.apply a.1 b.1 cc
      (e.2.2, r, (a.2.or b.2).or (if op.quiet then NumFlags.none else resultFlags (op.args a.1 b.1 cc) r))
    let rs := match op with
      | .laneSum => laneResults true (inAt xs 0) elems
      | .laneMax => laneResults false (inAt xs 0) elems
      | _ => elems.map one
    s.putF32 c st (outAt ts 0) (flagsOf (rs.map (·.2))) (rs.map (fun e => (e.1, e.2.1))))

/-- ELTWISE (R152). -/
def execEltwise (bed : Fin 128) (elems : List (Nat × Nat × Nat)) (op : EwOp) (b c : BitVec 32) (s : State) :
    Host.Outcome State Fault Refusal :=
  .next (s.runOp bed.val 0x0003 (fun s k => s.eltwise k elems op b.toNat c.toNat))

/-- A kind of row function over the rows of input 0: the FP32 results are `Config.rowFn`, rounded into the output's
format. A NaN among the inputs or an infinity is no reason to stop. -/
def State.rowOp (s : State) (c : Cand) (rows : List Nat) (kind : Nat) (eps : BitVec 32) : OpResult :=
  s.withInputs c (fun s st xs ts =>
    let x := inAt xs 0
    let n := x.t.dim 0
    let rs := rows.flatMap (fun r =>
      let ix := (List.range n).map (fun i => r * n + i)
      let row := ix.map x.f32
      let gains := (xs.drop 1).flatMap (fun g => (List.range n).map g.f32)
      let got := (xs.drop 1).foldl (fun f g => f.or (g.flags (List.range n))) (x.flags ix)
      (List.range n).map (fun i =>
        let y := (Config.rowFn kind eps (row ++ gains) i).toNat
        (r * n + i, y, got.or (resultFlags (row ++ gains) y))))
    s.putF32 c st (outAt ts 0) (flagsOf (rs.map (·.2))) (rs.map (fun e => (e.1, e.2.1))))

/-- NORM (R161). -/
def execNorm (bed : Fin 128) (rows : List Nat) (layer : Bool) (eps : BitVec 32) (s : State) :
    Host.Outcome State Fault Refusal := .next (s.runOp bed.val 0x0004 (fun s c => s.rowOp c rows (b2n layer) eps))

/-- SOFTMAX (R161). -/
def execSoftmax (bed : Fin 128) (rows : List Nat) (s : State) : Host.Outcome State Fault Refusal :=
  .next (s.runOp bed.val 0x0005 (fun s c => s.rowOp c rows 2 0))

/-- Partial `k` of element `e`: input k, or the k-th block of the elements of the one input. -/
def partialAt (xs : List TData) (n k e : Nat) : Nat × NumFlags :=
  if xs.length ≤ 1 then (inAt xs 0).get (k * n + e) else (inAt xs k).get e

/-- The FP32 sum of a list in its order, with the flags of every addition. -/
def f32Sum (l : List Nat) : Nat × NumFlags :=
  (l.drop 1).foldl (fun a b => (f32Add a.1 b, a.2.or (resultFlags [a.1, b] (f32Add a.1 b)))) (l.headD 0, NumFlags.none)

/-- REDUCE (R162): the partials are added in FP32 in the order in which they arrive. -/
def State.reduce (s : State) (c : Cand) (elems arrival : List Nat) : OpResult :=
  s.withInputs c (fun s st xs ts =>
    let y := outAt ts 0
    let one (e : Nat) : Nat × Nat × NumFlags :=
      let ps := arrival.map (fun k => partialAt xs y.count k e)
      let r := f32Sum (ps.map (·.1))
      (e, r.1, (flagsOf ps).or r.2)
    let rs := elems.map one
    s.putF32 c st y (flagsOf (rs.map (·.2))) (rs.map (fun e => (e.1, e.2.1))))

/-- REDUCE (R162). -/
def execReduce (bed : Fin 128) (elems arrival : List Nat) (s : State) : Host.Outcome State Fault Refusal :=
  .next (s.runOp bed.val 0x0006 (fun s c => s.reduce c elems arrival))

/-- QUANTISE (R146, R147): the elements, or for an MX format the groups of 32 in which they lie. -/
def State.quantise (s : State) (c : Cand) (elems : List Nat) : OpResult :=
  s.withInputs c (fun s st xs ts =>
    let y := outAt ts 0
    let es := if fmtBlock y.format = 1 then
        ((elems.map (· / 32)).eraseDups).flatMap (fun g => (List.range 32).map (fun i => 32 * g + i))
      else elems
    s.putF32 c st y ((inAt xs 0).flags es) (es.map (fun e => (e, (inAt xs 0).f32 e))))

/-- QUANTISE (R146, R147). -/
def execQuantise (bed : Fin 128) (elems : List Nat) (s : State) : Host.Outcome State Fault Refusal :=
  .next (s.runOp bed.val 0x0007 (fun s c => s.quantise c elems))

/-- A stored index as a number. -/
def indexOf (x : Num) : Option Nat :=
  match x with
  | .fin s m e => let i := roundInt s m e
                  if 0 ≤ i then some i.toNat else none
  | _ => none

/-- The scale bytes of row `r` of a tensor whose rows are whole groups. -/
def TData.rowScales (x : TData) (n r : Nat) : List Byte := sub x.scales (fmtScaleBytes x.t.format n * r) (fmtScaleBytes x.t.format n)

/-- The bytes of an operator's inputs. -/
def inputBytes (xs : List TData) : List Byte := xs.flatMap (fun x => x.data ++ x.scales)

/-- The codes and scale bytes of one row of a GATHER: the row of input 0 that the index tensor selects; one that is no row of
input 0 has no stated contents, and the same inputs give the same ones (R154). -/
def gatherRow (x ix : TData) (r : Nat) : List Nat × List Byte :=
  let n := x.t.dim 0
  let w := elemBits (fmtElem x.t.format)
  match (indexOf ((ix.scale r).mul (ix.elem r))).filter (fun k => decide (k < x.t.count / max n 1)) with
  | some k => ((List.range n).map (fun i => elemCode w (k * n + i) x.data), x.rowScales n k)
  | none =>
    let open_ (i : Nat) : Nat := (Config.rowOpen 0x0008 (inputBytes [x, ix]) r i).toNat
    ((List.range n).map (fun i => open_ i % 2 ^ w),
      (List.range (fmtScaleBytes x.t.format n)).map (fun i => BitVec.ofNat 8 (open_ (n + i))))

/-- Write one row of a GATHER. -/
def State.putGathered (s : State) (c : Cand) (st : Stamp) (y : TensorRec) (r n : Nat) (row : List Nat × List Byte) : OpResult :=
  match s.putCodes c st y (row.1.zipIdx.map (fun e => (r * n + e.2, e.1))) with
  | (s, .error e) => (s, .error e)
  | (s, .ok g) => match s.bindWrite c st y (y.scaleOffset + row.2.length * r) row.2 with
    | (s, true) => (s, .ok g)
    | (s, false) => (s, .error (stOWNER_FAULT, g))

/-- The rows of a GATHER. -/
def State.gatherRows (s : State) (c : Cand) (st : Stamp) (x ix : TData) (y : TensorRec) : List Nat → OpResult
  | [] => (s, .ok NumFlags.none)
  | r :: l => match s.putGathered c st y r (x.t.dim 0) (gatherRow x ix r) with
    | (s, .ok _) => s.gatherRows c st x ix y l
    | (s, .error w) => (s, .error w)

/-- GATHER (R161): input 0 holds the rows, input 1 the indices. -/
def execGather (bed : Fin 128) (rows : List Nat) (s : State) : Host.Outcome State Fault Refusal :=
  .next (s.runOp bed.val 0x0008 (fun s c => s.withInputs c (fun s st xs ts =>
    s.gatherRows c st (inAt xs 0) (inAt xs 1) (outAt ts 0) rows)))

/-- The parts of a tensor's binding that bytes `b` on of its elements followed by its scale array stand for, as (offset, length). -/
def TensorRec.parts (y : TensorRec) (b n : Nat) : List (Nat × Nat) :=
  let d := fmtDataBytes y.format y.count
  (if b < d then [(y.offset + b, min n (d - b))] else []) ++
    (if d < b + n then [(y.scaleOffset + (b - d), n - (d - b))] else [])

/-- Write bytes into parts of a binding, one after another. -/
def State.putParts (s : State) (c : Cand) (st : Stamp) (y : TensorRec) : List (Nat × Nat) → List Byte → State × Bool
  | [], _ => (s, true)
  | (o, n) :: r, d => match s.bindWrite c st y o (d.take n) with
    | (s, true) => s.putParts c st y r (d.drop n)
    | (s, false) => (s, false)

/-- Move pieces (from, to, length) of the inputs' bytes into the output's: the element bytes of the inputs one after another, then
their scale arrays; in the output its element bytes, then its scale array. -/
def State.copyPieces (s : State) (c : Cand) (st : Stamp) (src : List Byte) (y : TensorRec) :
    List (Nat × Nat × Nat) → OpResult
  | [] => (s, .ok NumFlags.none)
  | (a, b, n) :: r => match s.putParts c st y (y.parts b n) (sub src a n) with
    | (s, true) => s.copyPieces c st src y r
    | (s, false) => (s, .error (stOWNER_FAULT, NumFlags.none))

/-- COPY_OPERATOR (R161). -/
def execCopyOperator (bed : Fin 128) (moves : List (Nat × Nat × Nat)) (s : State) : Host.Outcome State Fault Refusal :=
  .next (s.runOp bed.val 0x0009 (fun s c => s.withInputs c (fun s st xs ts =>
    s.copyPieces c st (xs.flatMap (·.data) ++ xs.flatMap (·.scales)) (outAt ts 0) moves)))

/-- Receive bytes of the output's binding from `off` on through a remote window, in the whole words that hold them. -/
def State.exchangeRead (s : State) (c : Cand) (st : Stamp) (a : Nat) (y : TensorRec) (off len : Nat) : State × Nat :=
  let n := c.part.bed
  let lo := a / 64 * 64
  (remotePieces (len / 64 + 2) lo ((a + len + 63) / 64 * 64 - lo)).foldl (fun (x : State × Nat) p =>
    if x.2 ≠ stDONE then x
    else
      let from_ := max a p.1
      let l := min (a + len) (p.1 + p.2) - from_
      match x.1.bindAddr c y (off + (from_ - a)) with
      | .share o => match x.1.shareOff c st o l true with
        | (s, some dst) => State.remotePiece n 0 st (s, stDONE) p.1 p.2 false [] (.dma n 0 n dst (from_ - p.1) l)
        | (s, none) => (s, stOWNER_FAULT)
      | .segment _ => (x.1, stOWNER_FAULT)
      | .dram dst => State.remotePiece n 0 st x p.1 p.2 false [] (.mem n 0 st dst (from_ - p.1) l)) (s, stDONE)

/-- Send bytes to an address; this device's own window is its own memory. -/
def State.exchangeSend (s : State) (c : Cand) (st : Stamp) (addr : Nat) (d : List Byte) : State × Nat :=
  let a := s.localAddr addr
  if d.isEmpty then (s, stDONE)
  else if (remoteWindow a).isSome then s.remoteWrite c.part.bed 0 st a d
  else match s.memWrite st a d with
    | (s, true) => (s, stDONE)
    | (s, false) => (s, stOWNER_FAULT)

/-- Receive bytes of the output's binding from an address. -/
def State.exchangeReceive (s : State) (c : Cand) (st : Stamp) (addr : Nat) (y : TensorRec) (off len : Nat) : State × Nat :=
  let a := s.localAddr addr
  if len = 0 then (s, stDONE)
  else if (remoteWindow a).isSome then s.exchangeRead c st a y off len
  else match s.memRead st a len with
    | (s, none) => (s, stOWNER_FAULT)
    | (s, some d) => match s.bindWrite c st y off d with
      | (s, true) => (s, stDONE)
      | (s, false) => (s, stOWNER_FAULT)

/-- EXCHANGE (R269): the element bytes of the input, and its scale array where it has one, go to two addresses of a remote window,
or those of the output come from them. -/
def State.exchange (s : State) (c : Cand) (send : Bool) (addr scaleAddr : Nat) : OpResult :=
  let st := s.bedStamp c.part.bed c.flight
  let res (x : State × Nat) : OpResult := (x.1, if x.2 = stDONE then .ok NumFlags.none else .error (x.2, NumFlags.none))
  if send then
    s.withInputs c (fun s st xs _ => match s.exchangeSend c st addr (xs.flatMap (·.data)) with
      | (s, w) => if w ≠ stDONE then res (s, w) else res (s.exchangeSend c st scaleAddr (xs.flatMap (·.scales))))
  else
    let y := outAt ((c.prog.opTensors c.op).drop c.op.nIn) 0
    match s.exchangeReceive c st addr y y.offset (fmtDataBytes y.format y.count) with
    | (s, w) => if w ≠ stDONE then res (s, w)
        else res (s.exchangeReceive c st scaleAddr y y.scaleOffset (fmtScaleBytes y.format y.count))

/-- EXCHANGE (R269). -/
def execExchange (bed : Fin 128) (send : Bool) (addrs : BitVec 48 × BitVec 48) (s : State) : Host.Outcome State Fault Refusal :=
  .next (s.runOp bed.val 0x000B (fun s c => s.exchange c send addrs.1.toNat addrs.2.toNat))

/-- The k largest values of a row with their indices; `tieHigh` says which of two equal values comes first. -/
def topk (row : List Nat) (k : Nat) (tieHigh : Bool) : List (Nat × Nat) :=
  let before (a b : Nat × Nat) : Bool :=
    (ofF32 b.1).lt (ofF32 a.1) || ((ofF32 a.1).eqv (ofF32 b.1) && (if tieHigh then decide (b.2 < a.2) else decide (a.2 < b.2)))
  (sortBy before row.zipIdx).take k

/-- The row of a TOPK: the values and the indices; a row that holds a NaN has no stated order, and the same inputs give the same
results (R154). -/
def topkRow (x : TData) (r k : Nat) (tieHigh : Bool) : List (Nat × Nat) :=
  let n := x.t.dim 0
  let row := (List.range n).map (fun i => x.f32 (r * n + i))
  if row.any (fun a => (ofF32 a).isNan) then
    let open_ (i : Nat) : Nat := (Config.rowOpen 0x000C (inputBytes [x]) r i).toNat
    (List.range k).map (fun i => (open_ (2 * i), open_ (2 * i + 1)))
  else topk row k tieHigh

/-- TOPK (R161). -/
def State.topkOp (s : State) (c : Cand) (rows : List Nat) (k : Nat) (tieHigh : Bool) : OpResult :=
  s.withInputs c (fun s st xs ts =>
    let x := inAt xs 0
    let l := rows.map (fun r => (r, topkRow x r k tieHigh))
    let vals := l.flatMap (fun e => e.2.zipIdx.map (fun v => (e.1 * k + v.2, v.1.1)))
    let idxs := l.flatMap (fun e => e.2.zipIdx.map (fun v => (e.1 * k + v.2, toF32 (Num.ofInt v.1.2))))
    let g := x.flags (rows.flatMap (fun r => (List.range (x.t.dim 0)).map (fun i => r * x.t.dim 0 + i)))
    match s.putF32 c st (outAt ts 0) g vals with
    | (s, .error w) => (s, .error w)
    | (s, .ok g) => s.putF32 c st (outAt ts 1) g idxs)

/-- TOPK (R161). -/
def execTopk (bed : Fin 128) (rows : List Nat) (k : Nat) (tieHigh : Bool) (s : State) : Host.Outcome State Fault Refusal :=
  .next (s.runOp bed.val 0x000C (fun s c => s.topkOp c rows (min k 64) tieHigh))

end Sys2Proof.Machine
end

