-- ==== Sys2Proof/Machine/Attend.lean ====
section
/-! DEFINITION. ATTEND and the merging of partials (R193, R195, R205 to R211). -/

namespace Sys2Proof.Machine

/-! ### Partials (R208, R209) -/

/-- One position of R208: the key row gives the logit, the value row is added. -/
def attendPos (x : Space) (q k v : List Num) (a : Partial) : Partial :=
  let dot := (q.zip k).foldl (fun (z : Num) (e : Num × Num) => z.add (e.1.mul e.2)) (.fin false 0 0)
  let sc := toF32 (((ofF32 x.smScale).mul (ofF32 x.kScale)).mul dot)
  let mn := f32Max a.m sc
  let cc := f32Fn .exp (f32Sub a.m mn)
  let e := f32Fn .exp (f32Sub sc mn)
  { m := mn, l := f32Fma a.l cc e,
    o := (a.o.zip v).map (fun p => f32Fma p.1 cc (f32Mul (f32Mul e x.vScale) (toF32 p.2))),
    bad := a.bad || (ofF32 sc).isNan || (ofF32 sc).isInf }

/-- The partial before any position. -/
def noPartial (hd : Nat) : Partial := ⟨0xFF800000, 0, List.replicate hd 0, false⟩

/-- A partial holds a NaN, or met a logit that is NaN or infinite (R210). -/
def Partial.poisoned (a : Partial) : Bool := a.bad || (ofF32 a.m).isNan || (ofF32 a.l).isNan || a.o.any (fun y => (ofF32 y).isNan)

/-- Merge a partial into a running one (R209). -/
def Partial.merge (a p : Partial) : Partial :=
  let bad := a.poisoned || p.poisoned
  if p.m = 0xFF800000 then { a with bad := bad }
  else
    let mn := f32Max a.m p.m
    let ca := f32Fn .exp (f32Sub a.m mn)
    let cp := f32Fn .exp (f32Sub p.m mn)
    { m := mn, l := f32Fma a.l ca (f32Mul p.l cp), o := (a.o.zip p.o).map (fun e => f32Fma e.1 ca (f32Mul e.2 cp)), bad := bad }

/-- The row of output that a merged partial gives (R209, R210), as FP32. -/
def Partial.out (a : Partial) : List Nat :=
  if a.poisoned then a.o.map (fun _ => 0x7FC00000) else a.o.map (fun y => if (ofF32 a.l).isZero then 0 else f32Div y a.l)

/-! ### One ATTEND -/

/-- What an ATTEND operator works on: its space, the Trellis and Bed stamps, the index and the record of the operator. -/
structure AttCtx where
  key : Nat
  space : Space
  trl : Stamp
  bed : Stamp
  queue : Nat
  seq : Nat
  op : Nat
  layer : Nat
  append : Bool
  prog : Prog
  rec_ : OpRec
  argv : List (Nat × Nat)
deriving DecidableEq, Repr

/-- The DRAM address of element `i` of an argument tensor. -/
def AttCtx.elemAddr (c : AttCtx) (t : TensorRec) (i : Nat) : Nat :=
  (c.argv.getD t.bindIndex (0, 0)).1 + t.offset + elemBits (fmtElem t.format) * i / 8

/-- Tensor `k` of the operator. -/
def AttCtx.tensor (c : AttCtx) (k : Nat) : TensorRec := (c.prog.opTensors c.rec_).getD k noTensor

/-- The output tensor. -/
def AttCtx.output (c : AttCtx) : TensorRec := c.tensor (if c.append then 3 else 1)

/-- Query heads. -/
def AttCtx.qHeads (c : AttCtx) : Nat := c.space.kvHeads * c.space.qPerKv

/-- The first element of a row of a tensor with `heads` heads (Table 06-9). -/
def AttCtx.rowElem (c : AttCtx) (heads lane row head : Nat) : Nat := ((lane * c.space.stepRows + row) * heads + head) * c.space.headDim

/-- The address of the stored row of a position: page row (LENGTH + i) mod T of a block (R189). -/
def AttCtx.rowAddr (c : AttCtx) (blk head kv pos : Nat) : Nat :=
  let x := c.space
  x.pageAddr blk (x.pageOf c.layer head kv) + pos % x.perPage * x.headDim * elemBits (if kv = 0 then x.kfmt else x.vfmt) / 8

/-- The sequences that run in the open step, with their state. -/
def AttCtx.running (c : AttCtx) : List (Nat × SeqSt) := c.space.seqs.filter (fun e => e.2.runs)

/-- Write one element row of the output, from FP32 values (R146): flags, and whether it was written. -/
def State.putRow (s : State) (c : AttCtx) (lane row head : Nat) (vals : List Nat) : State × Bool × NumFlags :=
  let t := c.output
  let r := vals.map (convertElem (fmtElem t.format) (fmtSat t.format))
  let (s, ok) := s.memWrite c.trl (c.elemAddr t (c.rowElem c.qHeads lane row head))
    (r.flatMap (fun e => leBytes (elemBits (fmtElem t.format) / 8) e.1))
  (s, ok, flagsOf r)

/-- Copy the new key and value row of a position (R207). -/
def State.appendRow (s : State) (c : AttCtx) (q : SeqSt) (v : Version) (i h : Nat) : State × Bool :=
  let pos := q.length + i
  let e := v.entries.getD (pos / c.space.perPage) 0
  [0, 1].foldl (fun (a : State × Bool) kv =>
    if !a.2 then a
    else
      let t := c.tensor (1 + kv)
      let n := c.space.headDim * elemBits (fmtElem t.format) / 8
      match a.1.memRead c.trl (c.elemAddr t (c.rowElem c.space.kvHeads q.lane i h)) n with
      | (s, none) => (s, false)
      | (s, some d) => s.memWrite c.trl (c.rowAddr (entBlock e) h kv pos) d) (s, true)

/-- The rows of a running sequence are appended. -/
def State.appendSeq (s : State) (c : AttCtx) (q : SeqSt) (v : Version) : State × Bool :=
  ((List.range q.rows).flatMap (fun i => (List.range c.space.kvHeads).map (fun h => (i, h)))).foldl
    (fun (a : State × Bool) e => if a.2 then a.1.appendRow c q v e.1 e.2 else a) (s, true)

/-- The version that a running sequence read at the open of the step, up to its last position. -/
def State.stepVersion (s : State) (c : AttCtx) (q : SeqSt) : State × Option Version :=
  s.readVersion c.trl q.table (c.space.entryCount q.length q.rows)

/-- The Beds to which the valid entries of a sequence go (R208). -/
def AttCtx.entryBeds (c : AttCtx) (v : Version) : List Nat :=
  ((v.entries.filter entValid).filterMap (fun e => c.prog.map[entVbed e - c.prog.lo]?)).eraseDups

/-- The merges of one output row: one per Pavilion with a Bed that sends a partial, and the lead Trellis's. -/
def AttCtx.mergesFor (c : AttCtx) (beds : List Nat) (lane row head : Nat) : List Merge :=
  let pavs := (beds.map (· / 8)).eraseDups
  let key : AttKey := ⟨c.queue, c.seq, c.op, lane, row, head⟩
  let blank := noPartial c.space.headDim
  pavs.map (fun p => ⟨p, false, key, (beds.filter (fun b => b / 8 == p)).length, 0, blank⟩) ++
    [⟨c.key / 4, true, key, pavs.length, 0, blank⟩]

/-- Zeros for rows of a lane (R196, R210). -/
def State.zeroRows (s : State) (c : AttCtx) (lane rows : Nat) : State × Bool :=
  ((List.range rows).flatMap (fun i => (List.range c.qHeads).map (fun h => (i, h)))).foldl
    (fun (a : State × Bool) e => if a.2 then
      let r := a.1.putRow c lane e.1 e.2 (List.replicate c.space.headDim 0)
      (r.1, r.2.1) else a) (s, true)

/-- Start one running sequence: append its rows, and expect its partials. -/
def State.startSeq (s : State) (c : AttCtx) (q : SeqSt) : State × Bool :=
  match s.stepVersion c q with
  | (s, none) => (s, false)
  | (s, some v) =>
    match (if c.append then s.appendSeq c q v else (s, true)) with
    | (s, false) => (s, false)
    | (s, true) =>
      let beds := c.entryBeds v
      if beds.isEmpty then s.zeroRows c q.lane q.rows
      else
        let ms := (List.range q.rows).flatMap (fun i => (List.range c.qHeads).flatMap (fun h => c.mergesFor beds q.lane i h))
        ({ s with tensor := { s.tensor with merges := s.tensor.merges ++ ms } }, true)

/-- The first Bed that starts an ATTEND: rows are appended before any position is read (R207), the partials are expected,
and lanes that do not run get zeros (R196). -/
def State.startAttend (s : State) (c : AttCtx) : State × Bool :=
  let lanes := c.running.map (fun e => e.2.lane)
  let idle := (List.range c.space.lanes).filter (fun l => !lanes.contains l)
  let r := c.running.foldl (fun (a : State × Bool) e => if a.2 then a.1.startSeq c e.2 else a) (s, true)
  idle.foldl (fun (a : State × Bool) l => if a.2 then a.1.zeroRows c l c.space.stepRows else a) r

/-- Read one row of elements. -/
def State.readRow (s : State) (st : Stamp) (a fmt n : Nat) : State × Option (List Num) :=
  match s.memRead st a (n * elemBits fmt / 8) with
  | (s, some d) => (s, some ((List.range n).map (fun i => decodeElem fmt (elemCode (elemBits fmt) i d))))
  | (s, none) => (s, none)

/-- The positions up to `last` that a Bed holds of a version, ascending, with their entries. -/
def AttCtx.positions (c : AttCtx) (v : Version) (vb last : Nat) : List (Nat × Nat) :=
  (List.range (last + 1)).filterMap (fun p => match v.entries[p / c.space.perPage]? with
    | some e => if entValid e && entVbed e == vb then some (p, e) else none
    | none => none)

/-- Fold the positions that a Bed holds into its partial. -/
def State.foldPositions (s : State) (c : AttCtx) (q : List Num) (h : Nat) (a : Partial) : List (Nat × Nat) → State × Option Partial
  | [] => (s, some a)
  | (p, e) :: r =>
    match s.readRow c.bed (c.rowAddr (entBlock e) h 0 p) c.space.kfmt c.space.headDim with
    | (s, none) => (s, none)
    | (s, some k) => match s.readRow c.bed (c.rowAddr (entBlock e) h 1 p) c.space.vfmt c.space.headDim with
      | (s, none) => (s, none)
      | (s, some v) => s.foldPositions c q h (attendPos c.space q k v a) r

/-- The partial of a Bed for a row and query head goes to the Trellis of its Pavilion. -/
def State.bedPartial (s : State) (c : AttCtx) (n vb : Nat) (q : SeqSt) (v : Version) (i qh : Nat) : State × Bool :=
  match s.readRow c.bed (c.elemAddr (c.tensor 0) (c.rowElem c.qHeads q.lane i qh)) c.space.qfmt c.space.headDim with
  | (s, none) => (s, false)
  | (s, some row) =>
    match s.foldPositions c row (qh / c.space.qPerKv) (noPartial c.space.headDim) (c.positions v vb (q.length + i)) with
    | (s, none) => (s, false)
    | (s, some p) =>
      ({ s with tensor := { s.tensor with
          parts := s.tensor.parts ++ [⟨n / 8, false, ⟨c.queue, c.seq, c.op, q.lane, i, qh⟩, p⟩] } }, true)

/-- The partials of a Bed for a running sequence, when one of its entries goes there. -/
def State.bedSeq (s : State) (c : AttCtx) (n vb : Nat) (q : SeqSt) : State × Bool :=
  match s.stepVersion c q with
  | (s, none) => (s, false)
  | (s, some v) =>
    if v.entries.any (fun e => entValid e && entVbed e == vb) then
      ((List.range q.rows).flatMap (fun i => (List.range c.qHeads).map (fun h => (i, h)))).foldl
        (fun (a : State × Bool) e => if a.2 then a.1.bedPartial c n vb q v e.1 e.2 else a) (s, true)
    else (s, true)

/-- The working context of an ATTEND operator. -/
def State.attCtx (s : State) (c : Cand) (key : Nat) (x : Space) : AttCtx :=
  let a := c.prog.attendParams c.op
  { key := key, space := x, trl := s.trlStamp (key / 4) c.flight.queue c.flight.cmd.ctx,
    bed := s.bedStamp c.part.bed c.flight, queue := c.flight.queue, seq := c.flight.cmd.seq, op := c.part.next,
    layer := fld a 2 2, append := bit (fld a 1 1) 0, prog := c.prog, rec_ := c.op, argv := c.flight.argv }

/-- What the Trellis kernel uses on a Bed no longer holds defined values (R211): the workspace at WORK_OFF, the status of DMA channel
2, and the instruction SRAM beyond the operator's code. -/
def State.attendKernel (s : State) (c : Cand) : State :=
  let n := c.part.bed
  let sh := s.residentShare c.prog.ctx n
  let s := s.padLose n (sh.1 + fld (c.prog.attendParams c.op) 4 4) 65536
  let (v, s) := s.fresh
  let b := s.bed n
  let b := b.setCh 2 { b.ch 2 with status := bits v.toNat 7 0, done := bits v.toNat 23 8 }
  { s.setBed n { b with imem := { b.imem with lost := some s.free } } with free := s.free + 1 }

/-- ATTEND on a Bed, in a step that is open and agreed. -/
def State.attendRun (s : State) (c : Cand) (key : Nat) (x : Space) : OpResult :=
  let k := s.attCtx c key x
  let s := s.attendKernel c
  let first := match s.flight? k.queue k.seq with
    | some f => !f.attended.contains k.op
    | none => false
  let s := s.updFlight k.queue k.seq (fun f => { f with
    attended := if f.attended.contains k.op then f.attended else f.attended ++ [k.op] })
  match (if first then s.startAttend k else (s, true)) with
  | (s, false) => (s, .error (stOWNER_FAULT, NumFlags.none))
  | (s, true) =>
    let vb := (c.prog.vbedOf c.part.bed).getD 0
    match k.running.foldl (fun (a : State × Bool) e => if a.2 then a.1.bedSeq k c.part.bed vb e.2 else a) (s, true) with
    | (s, true) => (s, .ok NumFlags.none)
    | (s, false) => (s, .error (stOWNER_FAULT, NumFlags.none))

/-- ATTEND: the first one of a RUN on a space opens the step (R193); after an expulsion a GROVE step ends with
ABORTED_GROVE (R216); a GROVE step waits for the joint admission. -/
def State.attendOp (s : State) (n : Nat) : State :=
  match s.chosenOp n with
  | none => s
  | some c =>
    if c.op.kind ≠ 0x000A then s
    else match s.spaceOf c.prog.ctx (fld (c.prog.attendParams c.op) 0 1) with
      | none => (s.endCommand c.flight.queue c.flight.cmd.seq stREFUSED_FORMAT (n / 8)).touch
      | some (key, x) =>
        if x.grove && x.aborted then (s.endCommand c.flight.queue c.flight.cmd.seq stABORTED_GROVE (n / 8)).touch
        else if x.open_.isNone && s.slicing 1 (key / 4) then s
        else
          let s := if x.open_.isNone then s.openStep key c.flight.queue c.flight.cmd.seq c.prog else s
          match s.space? key with
          | some y =>
            if y.open_ = some (c.flight.queue, c.flight.cmd.seq) && y.agreed then
              s.runOp n 0x000A (fun s c => s.attendRun c key y)
            else s
          | none => s

/-- ATTEND (R193, R207, R208). -/
def execAttend (bed : Fin 128) (s : State) : Host.Outcome State Fault Refusal := .next (s.attendOp bed.val)

/-! ### Merging (R209, R210) -/

/-- The working context of an ATTEND of a command in flight, at its lead Trellis. -/
def State.leadCtx (s : State) (key : AttKey) : Option AttCtx :=
  match s.flight? key.queue key.seq with
  | none => none
  | some f => match s.cmdProg f.cmd with
    | none => none
    | some p => match p.ops[key.op]? with
      | none => none
      | some o => (s.spaceOf p.ctx (fld (p.attendParams o) 0 1)).map (fun e =>
          s.attCtx ⟨f, ⟨0, 0, 0, [], none, none, false⟩, ⟨0, key.op, 0, false, false⟩, p, o⟩ e.1 e.2)

/-- All partials of an output row have arrived: it is written in O's format. -/
def State.attendRow (s : State) (key : AttKey) (a : Partial) : State :=
  match s.leadCtx key with
  | none => s
  | some c =>
    let (s, ok, g) := s.putRow c key.lane key.row key.head a.out
    let s := s.noteFlags key.queue key.seq key.op (g.or ⟨a.poisoned, false, false⟩)
    if ok then s else (s.endCommand key.queue key.seq stOWNER_FAULT (c.key / 4)).touch

/-- A Trellis merges a partial into the running result of its row; the last one sends it on or writes the row. -/
def State.mergePart (s : State) (t : Nat) (m : PartMsg) : State :=
  let mine (x : Merge) : Bool := x.trellis == t && x.final == m.final && x.key == m.key
  match s.tensor.merges.find? mine with
  | none => s
  | some x =>
    let acc := x.acc.merge m.part
    let s := s.count .trlMerged t 1
    if x.seen + 1 < x.need then
      { s with tensor := { s.tensor with merges := updWhere mine (fun y => { y with seen := y.seen + 1, acc := acc }) s.tensor.merges } }
    else
      let s := { s with tensor := { s.tensor with merges := s.tensor.merges.filter (fun y => !mine y) } }
      if m.final then s.attendRow m.key acc
      else match s.leadCtx m.key with
        | some c => { s with tensor := { s.tensor with parts := s.tensor.parts ++ [⟨c.key / 4, true, m.key, acc⟩] } }
        | none => s

/-- PARTIAL_MERGE (R209). -/
def State.partialMerge (s : State) (t i : Nat) : State :=
  if s.still t then s
  else match (s.tensor.parts.filter (fun p => p.trellis == t))[i]? with
    | none => s
    | some m => ({ s with tensor := { s.tensor with parts := s.tensor.parts.erase m } }).mergePart t m

/-- PARTIAL_MERGE (R209, R210). -/
def execPartialMerge (trellis : Fin 16) (i : Nat) (s : State) : Host.Outcome State Fault Refusal :=
  .next (s.partialMerge trellis.val i)

end Sys2Proof.Machine
end

