-- ==== Sys2Proof/Machine/Control.lean ====
section
/-! DEFINITION. The boot control block of spec/16 (R504), and what abandoning an update session does (R529, R534). -/

namespace Sys2Proof.Machine

/-- The valid copy with the higher GENERATION, with its index. -/
def State.bcbNow (s : State) : Option (Nat × Bcb) :=
  match s.kpr.bcb.getD 0 none, s.kpr.bcb.getD 1 none with
  | some a, some b => if a.generation < b.generation then some (1, b) else some (0, a)
  | some a, none => some (0, a)
  | none, some b => some (1, b)
  | none, none => none

/-- The block that a boot without a valid copy uses. -/
def emptyBcb : Bcb := ⟨0, 0, [{}, {}, {}], none⟩

/-- The block in force. -/
def State.control (s : State) : Bcb := ((s.bcbNow).map (·.2)).getD emptyBcb

/-- Change the block: the other copy is written with GENERATION + 1. -/
def State.setControl (s : State) (f : Bcb → Bcb) : State :=
  let i := match s.bcbNow with
    | some (k, _) => 1 - k
    | none => 0
  let b := f s.control
  { s with kpr := { s.kpr with bcb := setAt s.kpr.bcb i (some { b with generation := s.control.generation + 1 }) } }

/-- What the block holds for a firmware kind (1 Glasshouse, 2 Keeper, 3 Gatehouse). -/
def Bcb.kind (b : Bcb) (k : Nat) : KindCtl := b.kinds.getD (k - 1) {}

/-- Change what the block holds for a kind. -/
def State.setKind (s : State) (k : Nat) (f : KindCtl → KindCtl) : State :=
  s.setControl (fun b => { b with kinds := setAt b.kinds (k - 1) (f (b.kind k)) })

/-! ### The update session ends (R529, R534) -/

/-- The state of running Keeper firmware: RECOVERY without a running plan or Gatehouse, else RUNNING. -/
def KprSt.upState (k : KprSt) : Nat := if k.recovery then 3 else 1

/-- The session returns to IDLE: the staging area is erased, and the boot control block holds no session. -/
def State.endSession (s : State) : State :=
  let s := if s.control.staged.isSome then s.setControl (fun b => { b with staged := none }) else s
  { s with kpr := { s.kpr with
      upd := { session := s.kpr.upd.session, lastStatus := s.kpr.upd.lastStatus }
      draining := false, next := none } }.flashErase 0x8C00000 0x4000000

/-- A session is abandoned: an activation in progress ends with its request, and the running firmware goes on. -/
def State.dropUpdate (s : State) : State :=
  let pend := s.kpr.upd.pendingReply
  let hand := s.kpr.state == 2
  let s := s.endSession
  let s := if hand then { s with kpr := { s.kpr with state := s.kpr.upState, logOpen := true, wdogAt := s.now } } else s
  match pend with
  | some k => s.finishMbx k stHW_ERROR []
  | none => s

end Sys2Proof.Machine
end

