-- ==== Sys2Proof/Machine/Crypto.lean ====
section
/-! DEFINITION. The algorithms of the Glasshouse engines (R444): SHA-384, HMAC and HKDF with it, AES-256-GCM, and ECDSA and
ECDH on brainpoolP384r1. PRESUMED: FIPS 180-4, RFC 2104, RFC 5869, FIPS 197, NIST SP 800-38D, FIPS 186-4 and RFC 5639,
which the spec names only by their algorithms. -/

namespace Sys2Proof.Machine

/-! ### SHA-384 -/

/-- Rotate a 64-bit word right. -/
def rotr64 (x : BitVec 64) (n : Nat) : BitVec 64 := x.rotateRight n

/-- Round constants of SHA-384. -/
def sha384K : List (BitVec 64) :=
  [0x428A2F98D728AE22, 0x7137449123EF65CD, 0xB5C0FBCFEC4D3B2F, 0xE9B5DBA58189DBBC]
  ++ [0x3956C25BF348B538, 0x59F111F1B605D019, 0x923F82A4AF194F9B, 0xAB1C5ED5DA6D8118]
  ++ [0xD807AA98A3030242, 0x12835B0145706FBE, 0x243185BE4EE4B28C, 0x550C7DC3D5FFB4E2]
  ++ [0x72BE5D74F27B896F, 0x80DEB1FE3B1696B1, 0x9BDC06A725C71235, 0xC19BF174CF692694]
  ++ [0xE49B69C19EF14AD2, 0xEFBE4786384F25E3, 0x0FC19DC68B8CD5B5, 0x240CA1CC77AC9C65]
  ++ [0x2DE92C6F592B0275, 0x4A7484AA6EA6E483, 0x5CB0A9DCBD41FBD4, 0x76F988DA831153B5]
  ++ [0x983E5152EE66DFAB, 0xA831C66D2DB43210, 0xB00327C898FB213F, 0xBF597FC7BEEF0EE4]
  ++ [0xC6E00BF33DA88FC2, 0xD5A79147930AA725, 0x06CA6351E003826F, 0x142929670A0E6E70]
  ++ [0x27B70A8546D22FFC, 0x2E1B21385C26C926, 0x4D2C6DFC5AC42AED, 0x53380D139D95B3DF]
  ++ [0x650A73548BAF63DE, 0x766A0ABB3C77B2A8, 0x81C2C92E47EDAEE6, 0x92722C851482353B]
  ++ [0xA2BFE8A14CF10364, 0xA81A664BBC423001, 0xC24B8B70D0F89791, 0xC76C51A30654BE30]
  ++ [0xD192E819D6EF5218, 0xD69906245565A910, 0xF40E35855771202A, 0x106AA07032BBD1B8]
  ++ [0x19A4C116B8D2D0C8, 0x1E376C085141AB53, 0x2748774CDF8EEB99, 0x34B0BCB5E19B48A8]
  ++ [0x391C0CB3C5C95A63, 0x4ED8AA4AE3418ACB, 0x5B9CCA4F7763E373, 0x682E6FF3D6B2B8A3]
  ++ [0x748F82EE5DEFB2FC, 0x78A5636F43172F60, 0x84C87814A1F0AB72, 0x8CC702081A6439EC]
  ++ [0x90BEFFFA23631E28, 0xA4506CEBDE82BDE9, 0xBEF9A3F7B2C67915, 0xC67178F2E372532B]
  ++ [0xCA273ECEEA26619C, 0xD186B8C721C0C207, 0xEADA7DD6CDE0EB1E, 0xF57D4F7FEE6ED178]
  ++ [0x06F067AA72176FBA, 0x0A637DC5A2C898A6, 0x113F9804BEF90DAE, 0x1B710B35131C471B]
  ++ [0x28DB77F523047D84, 0x32CAAB7B40C72493, 0x3C9EBE0A15C9BEBC, 0x431D67C49C100D4C]
  ++ [0x4CC5D4BECB3E42B6, 0x597F299CFC657E2A, 0x5FCB6FAB3AD6FAEC, 0x6C44198C4A475817]

/-- Initial hash value of SHA-384. -/
def sha384H : List (BitVec 64) :=
  [0xCBBB9D5DC1059ED8, 0x629A292A367CD507, 0x9159015A3070DD17, 0x152FECD8F70E5939]
  ++ [0x67332667FFC00B31, 0x8EB44A8768581511, 0xDB0C2E0D64F98FA7, 0x47B5481DBEFA4FA4]

/-- The message padded to a multiple of 128 bytes. -/
def shaPad (m : List Byte) : List Byte :=
  m ++ [0x80] ++ zeros ((239 - m.length % 128) % 128) ++ beBytes 16 (8 * m.length)

/-- The 16 big-endian words of a block. -/
def shaWords (blk : List Byte) : List (BitVec 64) :=
  (List.range 16).map (fun i => BitVec.ofNat 64 (beNat (sub blk (8 * i) 8)))

/-- Extend the message schedule by `n` words. -/
def shaSchedule : Nat → List (BitVec 64) → List (BitVec 64)
  | 0, w => w
  | n + 1, w =>
    let t := w.length
    let x15 := w.getD (t - 15) 0
    let x2 := w.getD (t - 2) 0
    let s0 := rotr64 x15 1 ^^^ rotr64 x15 8 ^^^ (x15 >>> 7)
    let s1 := rotr64 x2 19 ^^^ rotr64 x2 61 ^^^ (x2 >>> 6)
    shaSchedule n (w ++ [w.getD (t - 16) 0 + s0 + w.getD (t - 7) 0 + s1])

/-- One round of the compression function on the eight working words. -/
def shaRound (v : List (BitVec 64)) (kw : BitVec 64 × BitVec 64) : List (BitVec 64) :=
  match v with
  | [a, b, c, d, e, f, g, h] =>
    let s1 := rotr64 e 14 ^^^ rotr64 e 18 ^^^ rotr64 e 41
    let ch := (e &&& f) ^^^ (~~~e &&& g)
    let t1 := h + s1 + ch + kw.1 + kw.2
    let s0 := rotr64 a 28 ^^^ rotr64 a 34 ^^^ rotr64 a 39
    let maj := (a &&& b) ^^^ (a &&& c) ^^^ (b &&& c)
    [t1 + s0 + maj, a, b, c, d + t1, e, f, g]
  | v => v

/-- Compress the first `n` blocks. -/
def shaBlocks : Nat → List Byte → List (BitVec 64) → List (BitVec 64)
  | 0, _, h => h
  | n + 1, m, h =>
    let w := shaSchedule 64 (shaWords (m.take 128))
    let v := (sha384K.zip w).foldl shaRound h
    shaBlocks n (m.drop 128) ((h.zip v).map (fun p => p.1 + p.2))

/-- SHA-384: 48 bytes. -/
def sha384 (m : List Byte) : List Byte :=
  let p := shaPad m
  ((shaBlocks (p.length / 128) p sha384H).flatMap (fun w => beBytes 8 w.toNat)).take 48

/-- HMAC with SHA-384 (block 128 bytes). -/
def hmac384 (key m : List Byte) : List Byte :=
  let k0 := if 128 < key.length then sha384 key else key
  let k := k0 ++ zeros (128 - k0.length)
  sha384 (k.map (fun b => b ^^^ 0x5C) ++ sha384 (k.map (fun b => b ^^^ 0x36) ++ m))

/-- The first `n` blocks of HKDF expansion. -/
def hkdfBlocks (prk info : List Byte) : Nat → List Byte → Nat → List Byte
  | 0, _, _ => []
  | n + 1, t, i =>
    let t' := hmac384 prk (t ++ info ++ leBytes 1 i)
    t' ++ hkdfBlocks prk info n t' (i + 1)

/-- HKDF-SHA-384: `len` bytes from a secret, a salt and an info string. -/
def hkdf384 (salt ikm info : List Byte) (len : Nat) : List Byte :=
  (hkdfBlocks (hmac384 salt ikm) info (ceilDiv len 48) [] 1).take len

/-- The bytes of an ASCII string. -/
def ascii (t : String) : List Byte := t.toList.map (fun c => BitVec.ofNat 8 c.toNat)

/-! ### AES-256-GCM -/

/-- The S-box of AES. -/
def aesSbox : List Byte :=
  [0x63, 0x7C, 0x77, 0x7B, 0xF2, 0x6B, 0x6F, 0xC5, 0x30, 0x01, 0x67, 0x2B, 0xFE, 0xD7, 0xAB, 0x76]
  ++ [0xCA, 0x82, 0xC9, 0x7D, 0xFA, 0x59, 0x47, 0xF0, 0xAD, 0xD4, 0xA2, 0xAF, 0x9C, 0xA4, 0x72, 0xC0]
  ++ [0xB7, 0xFD, 0x93, 0x26, 0x36, 0x3F, 0xF7, 0xCC, 0x34, 0xA5, 0xE5, 0xF1, 0x71, 0xD8, 0x31, 0x15]
  ++ [0x04, 0xC7, 0x23, 0xC3, 0x18, 0x96, 0x05, 0x9A, 0x07, 0x12, 0x80, 0xE2, 0xEB, 0x27, 0xB2, 0x75]
  ++ [0x09, 0x83, 0x2C, 0x1A, 0x1B, 0x6E, 0x5A, 0xA0, 0x52, 0x3B, 0xD6, 0xB3, 0x29, 0xE3, 0x2F, 0x84]
  ++ [0x53, 0xD1, 0x00, 0xED, 0x20, 0xFC, 0xB1, 0x5B, 0x6A, 0xCB, 0xBE, 0x39, 0x4A, 0x4C, 0x58, 0xCF]
  ++ [0xD0, 0xEF, 0xAA, 0xFB, 0x43, 0x4D, 0x33, 0x85, 0x45, 0xF9, 0x02, 0x7F, 0x50, 0x3C, 0x9F, 0xA8]
  ++ [0x51, 0xA3, 0x40, 0x8F, 0x92, 0x9D, 0x38, 0xF5, 0xBC, 0xB6, 0xDA, 0x21, 0x10, 0xFF, 0xF3, 0xD2]
  ++ [0xCD, 0x0C, 0x13, 0xEC, 0x5F, 0x97, 0x44, 0x17, 0xC4, 0xA7, 0x7E, 0x3D, 0x64, 0x5D, 0x19, 0x73]
  ++ [0x60, 0x81, 0x4F, 0xDC, 0x22, 0x2A, 0x90, 0x88, 0x46, 0xEE, 0xB8, 0x14, 0xDE, 0x5E, 0x0B, 0xDB]
  ++ [0xE0, 0x32, 0x3A, 0x0A, 0x49, 0x06, 0x24, 0x5C, 0xC2, 0xD3, 0xAC, 0x62, 0x91, 0x95, 0xE4, 0x79]
  ++ [0xE7, 0xC8, 0x37, 0x6D, 0x8D, 0xD5, 0x4E, 0xA9, 0x6C, 0x56, 0xF4, 0xEA, 0x65, 0x7A, 0xAE, 0x08]
  ++ [0xBA, 0x78, 0x25, 0x2E, 0x1C, 0xA6, 0xB4, 0xC6, 0xE8, 0xDD, 0x74, 0x1F, 0x4B, 0xBD, 0x8B, 0x8A]
  ++ [0x70, 0x3E, 0xB5, 0x66, 0x48, 0x03, 0xF6, 0x0E, 0x61, 0x35, 0x57, 0xB9, 0x86, 0xC1, 0x1D, 0x9E]
  ++ [0xE1, 0xF8, 0x98, 0x11, 0x69, 0xD9, 0x8E, 0x94, 0x9B, 0x1E, 0x87, 0xE9, 0xCE, 0x55, 0x28, 0xDF]
  ++ [0x8C, 0xA1, 0x89, 0x0D, 0xBF, 0xE6, 0x42, 0x68, 0x41, 0x99, 0x2D, 0x0F, 0xB0, 0x54, 0xBB, 0x16]

/-- S-box of one byte. -/
def subByte (b : Byte) : Byte := aesSbox.getD b.toNat 0

/-- Multiplication by x in GF(2^8). -/
def xtime (b : Byte) : Byte := (b <<< 1) ^^^ (if b.getLsbD 7 then 0x1B else 0)

/-- Round constants of the key schedule. -/
def aesRcon : Nat → Byte
  | 0 => 1
  | n + 1 => xtime (aesRcon n)

/-- Extend the key schedule by `n` words of 4 bytes; word `i` of AES-256. -/
def aesExpand : Nat → List (List Byte) → List (List Byte)
  | 0, w => w
  | n + 1, w =>
    let i := w.length
    let prev := w.getD (i - 1) []
    let t := if i % 8 = 0 then
        match prev.map subByte with
        | [a, b, c, d] => [b ^^^ aesRcon (i / 8 - 1), c, d, a]
        | l => l
      else if i % 8 = 4 then prev.map subByte else prev
    aesExpand n (w ++ [List.zipWith (· ^^^ ·) (w.getD (i - 8) []) t])

/-- The 15 round keys of AES-256. -/
def aesKeys (key : List Byte) : List (List Byte) :=
  let w := aesExpand 52 ((List.range 8).map (fun i => sub key (4 * i) 4))
  (List.range 15).map (fun r => ((List.range 4).flatMap (fun i => w.getD (4 * r + i) [])))

/-- ShiftRows on the 16 bytes in column order. -/
def shiftRows (b : List Byte) : List Byte := (List.range 16).map (fun i => b.getD ((i + 4 * (i % 4)) % 16) 0)

/-- MixColumns on one column. -/
def mixCol (c : List Byte) : List Byte :=
  match c with
  | [a, b, c, d] =>
    [xtime a ^^^ xtime b ^^^ b ^^^ c ^^^ d, a ^^^ xtime b ^^^ xtime c ^^^ c ^^^ d,
     a ^^^ b ^^^ xtime c ^^^ xtime d ^^^ d, xtime a ^^^ a ^^^ b ^^^ c ^^^ xtime d]
  | l => l

/-- XOR of byte lists. -/
def xorB (a b : List Byte) : List Byte := List.zipWith (· ^^^ ·) a b

/-- AES-256 of one block under round keys. -/
def aesBlock (keys : List (List Byte)) (m : List Byte) : List Byte :=
  match keys with
  | [] => m
  | k0 :: rest =>
    let st := (rest.take 13).foldl (fun b k =>
      let t := shiftRows (b.map subByte)
      xorB ((List.range 4).flatMap (fun i => mixCol (sub t (4 * i) 4))) k) (xorB m k0)
    xorB (shiftRows (st.map subByte)) (rest.getD 13 [])

/-- Multiplication in GF(2^128) of GCM, from the most significant bit of `x` on. -/
def gfMul : Nat → Nat → Nat → Nat → Nat
  | 0, _, _, z => z
  | n + 1, x, v, z =>
    let z' := if bit x n then z ^^^ v else z
    let v' := if bit v 0 then (v / 2) ^^^ 0xE1000000000000000000000000000000 else v / 2
    gfMul n x v' z'

/-- GHASH over `n` blocks. -/
def ghash (h : Nat) : Nat → List Byte → Nat → Nat
  | 0, _, y => y
  | n + 1, d, y => ghash h n (d.drop 16) (gfMul 128 (y ^^^ beNat (d.take 16)) h 0)

/-- Padding with zeros to whole blocks of 16. -/
def pad16 (d : List Byte) : List Byte := d ++ zeros ((16 - d.length % 16) % 16)

/-- CTR key stream applied to `n` blocks, from counter `c`. -/
def gcmCtr (keys : List (List Byte)) (iv : List Byte) : Nat → Nat → List Byte → List Byte
  | 0, _, _ => []
  | n + 1, c, d =>
    xorB (d.take 16) (aesBlock keys (iv ++ beBytes 4 c)) ++ gcmCtr keys iv n (c + 1) (d.drop 16)

/-- The GCM tag of a ciphertext (12-byte IV). -/
def gcmTag (key iv aad ct : List Byte) : List Byte :=
  let keys := aesKeys key
  let h := beNat (aesBlock keys (zeros 16))
  let d := pad16 aad ++ pad16 ct ++ beBytes 8 (8 * aad.length) ++ beBytes 8 (8 * ct.length)
  xorB (beBytes 16 (ghash h (d.length / 16) d 0)) (aesBlock keys (iv ++ beBytes 4 1))

/-- AES-256-GCM encryption: ciphertext and tag. -/
def gcmEncrypt (key iv aad pt : List Byte) : List Byte × List Byte :=
  let ct := gcmCtr (aesKeys key) iv (ceilDiv pt.length 16) 2 pt
  (ct, gcmTag key iv aad ct)

/-- AES-256-GCM decryption: none when the tag fails. -/
def gcmDecrypt (key iv aad ct tag : List Byte) : Option (List Byte) :=
  if gcmTag key iv aad ct = tag then some (gcmCtr (aesKeys key) iv (ceilDiv ct.length 16) 2 ct) else none

/-! ### brainpoolP384r1 -/

/-- The field prime. -/
def ecP : Nat := 0x8CB91E82A3386D280F5D6F7E50E641DF152F7109ED5456B412B1DA197FB71123ACD3A729901D1A71874700133107EC53
/-- Coefficient A. -/
def ecA : Nat := 0x7BC382C63D8C150C3C72080ACE05AFA0C2BEA28E4FB22787139165EFBA91F90F8AA5814A503AD4EB04A8C7DD22CE2826
/-- Coefficient B. -/
def ecB : Nat := 0x4A8C7DD22CE28268B39B55416F0447C2FB77DE107DCD2A62E880EA53EEB62D57CB4390295DBC9943AB78696FA504C11
/-- The generator. -/
def ecG : Nat × Nat :=
  (0x1D1C64F068CF45FFA2A63A81B7C13F6B8847A3E77EF14FE3DB7FCAFE0CBD10E8E826E03436D646AAEF87B2E247D4AF1E,
   0x8ABE1D7520F9C2A45CB1EB8E95CFD55262B70B29FEEC5864E19C054FF99129280E4646217791811142820341263C5315)
/-- The order of the generator. -/
def ecN : Nat := 0x8CB91E82A3386D280F5D6F7E50E641DF152F7109ED5456B31F166E6CAC0425A7CF3AB6AF6B7FC3103B883202E9046565

/-- Power modulo `m` by the low `n` bits of the exponent. -/
def powMod (m : Nat) : Nat → Nat → Nat → Nat → Nat
  | 0, _, _, acc => acc
  | n + 1, b, e, acc => powMod m n (b * b % m) (e / 2) (if e % 2 = 1 then acc * b % m else acc)

/-- Inverse modulo a prime. -/
def invMod (m a : Nat) : Nat := powMod m 384 (a % m) (m - 2) 1

/-- Addition of points; none is the point at infinity. -/
def ecAdd (x y : Option (Nat × Nat)) : Option (Nat × Nat) :=
  match x, y with
  | none, q => q
  | p, none => p
  | some (x1, y1), some (x2, y2) =>
    if x1 = x2 ∧ (y1 + y2) % ecP = 0 then none
    else
      let l := if x1 = x2 then (3 * x1 * x1 + ecA) * invMod ecP (2 * y1) % ecP
        else (y2 + (ecP - y1)) * invMod ecP (x2 + (ecP - x1)) % ecP
      let x3 := (l * l + 2 * ecP - x1 - x2) % ecP
      some (x3, (l * (x1 + (ecP - x3)) + (ecP - y1)) % ecP)

/-- Scalar multiplication by the low `n` bits. -/
def ecMul : Nat → Nat → Option (Nat × Nat) → Option (Nat × Nat) → Option (Nat × Nat)
  | 0, _, _, acc => acc
  | n + 1, k, p, acc => ecMul n (k / 2) (ecAdd p p) (if k % 2 = 1 then ecAdd acc p else acc)

/-- k times a point. -/
def ecTimes (k : Nat) (p : Nat × Nat) : Option (Nat × Nat) := ecMul 384 k (some p) none

/-- A point of the curve. -/
def ecOn (p : Nat × Nat) : Bool :=
  decide (p.1 < ecP) && decide (p.2 < ecP) && p.2 * p.2 % ecP == (p.1 * p.1 * p.1 + ecA * p.1 + ecB) % ecP

/-- ECDSA verification of a 48-byte digest. -/
def ecdsaVerify (pub : Nat × Nat) (digest : List Byte) (r s : Nat) : Bool :=
  decide (0 < r) && decide (r < ecN) && decide (0 < s) && decide (s < ecN) && ecOn pub &&
    (let w := invMod ecN s
     match ecAdd (ecTimes (beNat digest * w % ecN) ecG) (ecTimes (r * w % ecN) pub) with
     | some (x, _) => x % ecN == r
     | none => false)

/-- ECDSA signature of a 48-byte digest with private key `d` and nonce `k`. -/
def ecdsaSign (d : Nat) (digest : List Byte) (k : Nat) : Nat × Nat :=
  let r := ((ecTimes k ecG).map (·.1)).getD 0 % ecN
  (r, invMod ecN k * (beNat digest + r * d) % ecN)

/-- ECDH: the X coordinate of a private key times a public point; none for a point off the curve. -/
def ecdh (d : Nat) (pub : Nat × Nat) : Option Nat := if ecOn pub then (ecTimes d pub).map (·.1) else none

/-- A private key in 1 to n − 1 from derived bytes. DESIGN CHOICE: the spec does not state the reduction. -/
def ecPrivate (bytes : List Byte) : Nat := beNat bytes % (ecN - 1) + 1

end Sys2Proof.Machine
end

