-- ==== Sys2Proof/Machine/Gls.lean ====
section
/-! DEFINITION. The Glasshouse of spec/14: signatures and keys, enclaves, random values, attestation, life cycle, debug,
tamper, the counter policy, MSI and pin interrupts (R423 to R461). -/

namespace Sys2Proof.Machine

/-! ### OTP and keys -/

/-- A fuse group counts as blown from 24 fuses on (Table 14-5). -/
def OtpSt.blown (o : OtpSt) (g : Nat) : Bool := decide (24 ≤ popcount 32 (o.lifecycle.getD g 0))

/-- The life-cycle state (R445): 0 Manufacture, 1 Provisioned, 2 Field, 3 Return. -/
def State.lifecycle (s : State) : Nat :=
  if !s.gls.otp.blown 0 then 0 else if !s.gls.otp.blown 1 then 1 else if !s.gls.otp.blown 2 then 2 else 3

/-- A key slot. -/
def State.keySlot (s : State) (k : Nat) : KeySlot := sget (fun _ => {}) s.gls.otp.keys k

/-- The keys of R449: 0 AK, 1 DKA, 2 KSTORE. -/
def State.derived (s : State) (label : Nat) : List Byte :=
  beBytes 48 (Config.derivedKey s.gls.otp.secret label (if s.lifecycle = 3 then 3 else 1)).toNat

/-- The public half of AK or DKA; none in Manufacture. -/
def State.publicKey (s : State) (label : Nat) : List Byte :=
  if s.lifecycle = 0 then zeros 96
  else match ecTimes (ecPrivate (s.derived label)) ecG with
    | some (x, y) => beBytes 48 x ++ beBytes 48 y
    | none => zeros 96

/-- KSTORE: an AES-256 key. -/
def State.kstore (s : State) : List Byte := (s.derived 2).take 32

/-- A slot may sign for a usage bit (R446, R447). -/
def State.slotMay (s : State) (k usage : Nat) : Bool :=
  let q := s.keySlot k
  decide (k ≤ 15) && q.present && !q.revoked && ((bit q.usage usage && (usage ≠ 0 || decide (k ≤ 1))) || (s.lifecycle == 0 && decide (k ≤ 1)))

/-- A signature by a named slot is accepted (R447). -/
def State.sigOk (s : State) (k usage : Nat) (digest : List Byte) (r sg : Nat) : Bool :=
  s.slotMay k usage && ecdsaVerify ((s.keySlot k).x, (s.keySlot k).y) digest r sg

/-- Log a failed verification (R447, Table 14-9). -/
def State.sigFail (s : State) (k image : Nat) : State :=
  s.raise { (s.mkRec .gls 0 0x11 0 stINTEGRITY) with detail := (if k ≤ 15 then k else 0xF) + 256 * image }

/-- Verify, and log a failure. -/
def State.verify (s : State) (k usage image : Nat) (digest : List Byte) (r sg : Nat) : State × Bool :=
  if s.sigOk k usage digest r sg then (s, true) else (s.sigFail k image, false)

/-! ### Requests -/

/-- The stamp of an access that the Glasshouse makes for a request (R438). -/
def State.glsStamp (s : State) (plot ctx : Nat) (secure : Bool) : Stamp := ⟨160, plot, s.defaultClass plot, secure, ctx⟩

/-- A reply as under R221: STATUS and CONTEXT. -/
def ctxReply (status ctx : Nat) : Option (Nat × List Byte) :=
  some (status, leBytes 1 status ++ zeros 1 ++ leBytes 2 ctx ++ zeros 12)

/-- The enclave of a context that belongs to a Plot. -/
def State.enclaveOfPlot (s : State) (c plot : Nat) : Option (Nat × EncSt) :=
  match s.enclaveOf c with
  | some e => if e.2.plot = plot then some e else none
  | none => none

/-- Change an enclave entry. -/
def State.setEnclave (s : State) (e : Nat) (x : Option EncSt) : State :=
  { s with gls := { s.gls with enclaves := sset (fun _ => none) s.gls.enclaves e x } }

/-- A 64-byte-or-longer random number from the DRBG, as a scalar in 1 to n − 1. -/
def State.freshScalar (s : State) : Nat × State :=
  let r := s.freshBytes 48
  (ecPrivate r.1, r.2)

/-- A context has a loaded program. -/
def State.ctxHasProg (s : State) (c : Nat) : Bool :=
  s.tensor.progs.any (fun e => match e.2 with
    | some p => p.ctx == c
    | none => false)

/-- A context has a bound space. -/
def State.ctxHasSpace (s : State) (c : Nat) : Bool :=
  s.tensor.spaces.any (fun e => match e.2 with
    | some p => p.ctx == c
    | none => false)

/-- A command of a context is queued or in flight (R581). -/
def State.ctxHasCommand (s : State) (c : Nat) : Bool :=
  s.tensor.flights.any (fun f => f.cmd.ctx == c) ||
    s.tensor.queues.any (fun q => match q.2.head with
      | some h => h.cmd.ctx == c
      | none => false)

/-- The pages of a sealed range, as page addresses. -/
def rangePages (r : Nat × Nat × Bool) : List Nat := (List.range r.2.1).map (fun i => r.1 + 8192 * i)

/-- Change the owner entries of listed pages. -/
def State.mapEntries (s : State) (f : Nat → Nat) : List Nat → State
  | [] => s
  | a :: r => (match s.pageOf a with
      | some (c, j) => s.setEntry c j (f (s.entry c j))
      | none => s).mapEntries f r

/-- Write zeros over listed pages. -/
def State.zeroPages (s : State) : List Nat → State
  | [] => s
  | a :: r => { s with dram := sclear s.dram a 8192 }.zeroPages r

/-- Zero sealed pages on behalf of an enclave: writes stamped with its Plot, context and the secure attribute, which the channels
count (R88, R438). -/
def State.zeroSealed (s : State) (plot ctx : Nat) (pages : List Nat) : State :=
  let st := s.glsStamp plot ctx true
  pages.foldl (fun (s : State) a => (s.countIssued st a 8192).countAccess st true (pagePieces a 8192)) (s.zeroPages pages)

/-- Zero, release and forget an enclave (R443 steps 1 to 3). -/
def State.destroyEnclave (s : State) (e : Nat) : State :=
  match sget (fun _ => none) s.gls.enclaves e with
  | none => s
  | some x =>
    let pages := x.ranges.flatMap rangePages
    let s := s.zeroSealed x.plot x.ctx pages
    let s := s.mapEntries (fun v => setField (setField (setField v 6 1 0) 7 1 0) 8 12 0) pages
    s.setEnclave e none

/-! ### Service requests (Table 14-3) -/

/-- The running firmware of a kind (1 Glasshouse, 2 Keeper, 3 Gatehouse). -/
def State.fwOf (s : State) (kind : Nat) : Option FwRun := sget (fun _ => none) s.kpr.fw kind

/-- Digest of a running firmware. -/
def State.fwDigest (s : State) (kind : Nat) : List Byte := ((s.fwOf kind).map (·.digest)).getD (zeros 48)

/-- Bytes 0x000 to 0x19F of an attestation report (Table 14-8). -/
def State.reportBody (s : State) (plot ctx : Nat) (nonce manifest : List Byte) : List Byte :=
  let flags := b2n s.gth.broken + 2 * b2n s.gls.debugSeen + 4 * b2n (s.spl.state == 3) + 8 * b2n (ctx ≠ 0xFFFF)
  leBytes 4 0x54415A53 ++ leBytes 2 1 ++ leBytes 2 512 ++ s.gls.otp.serial ++ leBytes 1 s.lifecycle ++ leBytes 1 flags ++
    leBytes 1 plot ++ zeros 1 ++ leBytes 2 ctx ++ zeros 2 ++ leBytes 8 s.now ++ nonce ++ s.fwDigest 1 ++ s.fwDigest 2 ++
    s.fwDigest 3 ++ ((s.plan.map (·.digest)).getD (zeros 48)) ++ manifest ++
    (List.range 3).flatMap (fun i => leBytes 4 (((s.fwOf (i + 1)).map (·.version)).getD 0)) ++
    leBytes 4 ((s.plan.map (·.version)).getD 0) ++
    (List.range 4).flatMap (fun i => leBytes 2 (s.gls.otp.mins.getD i 0)) ++ leBytes 8 (if s.kpr.logOpen then featDev else 0) ++ zeros 56

/-- ATTEST (R458, R459). -/
def State.svcAttest (s : State) (k : Nat) (b : List Byte) : State × Option (Nat × List Byte) :=
  let ctx := fld b 0 2
  let plot := s.mbxPlot k
  let rep := fld b 0x10 8
  if !allZero b 2 6 || !bodyEnds b 0x18 || rep % 64 ≠ 0 then (s, ctxReply stREFUSED_FORMAT ctx)
  else if s.lifecycle = 0 || (ctx ≠ 0xFFFF && (s.enclaveOfPlot ctx plot).isNone) then (s, ctxReply stREFUSED_PLAN ctx)
  else
    let st := s.glsStamp plot (mbxCtx k) false
    match s.memRead st (fld b 8 8) 48 with
    | (s, none) => (s, ctxReply stOWNER_FAULT ctx)
    | (s, some nonce) =>
      if dramSize < rep + 512 then (s, ctxReply stOWNER_FAULT ctx)
      else match s.firstRefused st rep 512 true with
      | some (a, reason) => (s.logRefusal st a reason true, ctxReply stOWNER_FAULT ctx)
      | none =>
        if s.gls.halted || !s.gls.rngOk then (s, ctxReply stHW_ERROR ctx)
        else
          let man := ((s.enclaveOfPlot ctx plot).map (·.2.manifest)).getD (zeros 48)
          let body := s.reportBody plot ctx nonce man
          let (n, s) := s.freshScalar
          let sg := ecdsaSign (ecPrivate (s.derived 0)) (sha384 body) n
          let w := s.memWrite st rep (body ++ beBytes 48 sg.1 ++ beBytes 48 sg.2)
          (w.1, ctxReply (if w.2 then stDONE else stOWNER_FAULT) ctx)

/-- RANDOM (R450). -/
def State.svcRandom (s : State) (k : Nat) (b : List Byte) : State × Option (Nat × List Byte) :=
  let n := fld b 0 4
  let a := fld b 8 8
  if !allZero b 4 4 || !bodyEnds b 0x10 || n < 1 || 4096 < n then (s, ctxReply stREFUSED_FORMAT 0)
  else
    let st := s.glsStamp (s.mbxPlot k) (mbxCtx k) false
    if dramSize < a + n then (s, ctxReply stOWNER_FAULT 0)
    else match s.firstRefused st a n true with
    | some (x, reason) => (s.logRefusal st x reason true, ctxReply stOWNER_FAULT 0)
    | none =>
      if s.gls.halted || !s.gls.rngOk then (s, ctxReply stHW_ERROR 0)
      else
        let (bytes, s) := s.freshBytes n
        let s := { s with gls := { s.gls with nonces := s.gls.nonces ++ [(s.now, bytes)] } }
        let w := s.memWrite st a bytes
        (w.1, ctxReply (if w.2 then stDONE else stOWNER_FAULT) 0)

/-- The ranges of a manifest (Table 14-4). -/
def manifestRanges (m : List Byte) : List (Nat × Nat × Bool) :=
  (List.range (fld m 8 1)).map (fun i =>
    let e := sub m (0x3C0 + 16 * i) 16
    (fld e 0 8, fld e 8 4, bit (fld e 12 4) 0))

/-- A manifest is well formed (Table 14-4). -/
def manifestOk (m : List Byte) : Bool :=
  let n := fld m 8 1
  let p := fld m 9 1
  fld m 0 4 == 0x4E455A53 && fld m 4 2 == 1 && decide (fld m 6 2 ≤ 1023) && decide (1 ≤ n) && decide (n ≤ 64) &&
    decide (1 ≤ p) && decide (p ≤ 16) && allZero m 0xA 6 && allZero m 0x84 4 && allZero m 0xB8 8 &&
    allZero m (0xC0 + 48 * p) (768 - 48 * p) && allZero m (0x3C0 + 16 * n) (1024 - 16 * n) &&
    (List.range n).all (fun i => let e := sub m (0x3C0 + 16 * i) 16
      fld e 0 8 % 8192 == 0 && decide (1 ≤ fld e 8 4) && decide (fld e 12 4 ≤ 1))

/-- Two ranges share a page. -/
def rangesMeet (a b : Nat × Nat × Bool) : Bool :=
  decide (a.1 < b.1 + 8192 * b.2.1) && decide (b.1 < a.1 + 8192 * a.2.1)

/-- Every page of a range is OWNED by the Plot with SUB of kind 0 (R439 step 3). -/
def State.rangeOwned (s : State) (plot : Nat) (r : Nat × Nat × Bool) : Bool :=
  (rangePages r).all (fun a => match s.pageOf a with
    | some (c, j) => let e := s.entry c j
        entryState e == 1 && entryPlot e == plot && bits (entrySub e) 11 10 == 0
    | none => false)

/-- The content key that a package or manifest wraps (R439 step 5, R525): the header from KEY_ID on has EPH_PUB at 0x18,
WRAP_IV at 0x78, WRAPPED_KEY at 0x88 and WRAP_TAG at 0xA8. -/
def State.unwrapKey (s : State) (m : List Byte) (info : String) : Option (List Byte) :=
  match ecdh (ecPrivate (s.derived 1)) (beNat (sub m 0x18 48), beNat (sub m 0x48 48)) with
  | none => none
  | some z =>
    let kek := hkdf384 s.gls.otp.serial (beBytes 48 z) (ascii info) 32
    gcmDecrypt kek (sub m 0x78 12) (m.take 0x78) (sub m 0x88 32) (sub m 0xA8 16)

/-- ENC_CREATE (R439). -/
def State.svcEncCreate (s : State) (k : Nat) (b : List Byte) : State × Option (Nat × List Byte) :=
  let a := fld b 8 8
  let plot := s.mbxPlot k
  if !allZero b 0 8 || !bodyEnds b 0x10 || a % 64 ≠ 0 then (s, ctxReply stREFUSED_FORMAT 0)
  else if s.lifecycle = 0 then (s, ctxReply stREFUSED_PLAN 0)
  else match s.memRead (s.glsStamp plot (mbxCtx k) false) a 2080 with
  | (s, none) => (s, ctxReply stOWNER_FAULT 0)
  | (s, some m) =>
    let ctx := fld m 6 2
    if !manifestOk m then (s, ctxReply stREFUSED_FORMAT 0)
    else
      let v := s.verify (fld m 0x10 8) 4 5 (sha384 (m.take 0x7C0)) (beNat (sub m 0x7C0 48)) (beNat (sub m 0x7F0 48))
      let s := v.1
      let ranges := manifestRanges m
      let others := s.gls.enclaves.flatMap (fun e => (e.2.map (·.ranges)).getD [])
      if !v.2 then (s, ctxReply stINTEGRITY ctx)
      else if ((s.ctx? ctx).map (·.plot)) ≠ some plot || s.plotSecure plot || (s.enclaveOf ctx).isSome then
        (s, ctxReply stREFUSED_PLAN ctx)
      else if s.ctxHasProg ctx || s.ctxHasSpace ctx || s.ctxHasCommand ctx then (s, ctxReply stBUSY ctx)
      else if !ranges.all (s.rangeOwned plot) || !(noPairL rangesMeet ranges) ||
          ranges.any (fun r => others.any (rangesMeet r)) then (s, ctxReply stOWNER_FAULT ctx)
      else match (List.range 32).find? (fun e => (sget (fun _ => none) s.gls.enclaves e : Option EncSt).isNone) with
      | none => (s, ctxReply stREFUSED_FIT ctx)
      | some e =>
        match s.unwrapKey m "SZ9 enclave" with
        | none => (s.raise { (s.mkRec .gls 0 0x12 2 stINTEGRITY) with plot := plot, ctx := ctx, detail := ctx },
            ctxReply stINTEGRITY ctx)
        | some key =>
          let pages := ranges.flatMap rangePages
          let s := s.mapEntries (fun x => setField (setField (setField x 6 1 1) 7 1 0) 8 12 (0x400 + ctx)) pages
          let s := s.zeroSealed plot ctx pages
          let enc : EncSt := { ctx := ctx, plot := plot, isSealed := false, key := key, ranges := ranges,
                               progs := (List.range (fld m 9 1)).map (fun i => sub m (0xC0 + 48 * i) 48),
                               manifest := sha384 m }
          (s.setEnclave e (some enc), ctxReply stDONE ctx)
where
  noPairL (r : Nat × Nat × Bool → Nat × Nat × Bool → Bool) : List (Nat × Nat × Bool) → Bool
    | [] => true
    | a :: l => l.all (fun b => !r a b) && noPairL r l

/-- The physical pieces of a sealed range of bytes, from a sealed offset on. -/
def sealedPieces : List (Nat × Nat × Bool) → Nat → Nat → List (Nat × Nat)
  | [], _, _ => []
  | r :: rest, off, n =>
    let len := 8192 * r.2.1
    if len ≤ off then sealedPieces rest (off - len) n
    else
      let m := min n (len - off)
      (r.1 + off, m) :: (if n - m = 0 then [] else sealedPieces rest 0 (n - m))

/-- Write bytes to pieces of memory under a stamp. -/
def State.writePieces (s : State) (st : Stamp) : List (Nat × Nat) → List Byte → State × Bool
  | [], _ => (s, true)
  | (a, n) :: r, d =>
    let w := s.memWrite st a (d.take n)
    if w.2 then w.1.writePieces st r (d.drop n) else w

/-- ENC_IMPORT (R440). -/
def State.svcEncImport (s : State) (k : Nat) (b : List Byte) : State × Option (Nat × List Byte) :=
  let ctx := fld b 0 2
  let n := fld b 4 4
  let src := fld b 8 8
  let dst := fld b 0x10 8
  let plot := s.mbxPlot k
  if !allZero b 2 2 || !bodyEnds b 0x18 || n < 64 || 1073741824 < n || n % 64 ≠ 0 || dst % 64 ≠ 0 then
    (s, ctxReply stREFUSED_FORMAT ctx)
  else match s.enclaveOfPlot ctx plot with
  | none => (s, ctxReply stREFUSED_PLAN ctx)
  | some (_, x) =>
    if x.isSealed then (s, ctxReply stREFUSED_PLAN ctx)
    else if sumL (x.ranges.map (fun r => 8192 * r.2.1)) < dst + n then (s, ctxReply stREFUSED_FIT ctx)
    else match s.memRead (s.glsStamp plot ctx false) src (32 + n) with
    | (s, none) => (s, ctxReply stOWNER_FAULT ctx)
    | (s, some d) =>
      if s.gls.halted then (s, ctxReply stHW_ERROR ctx)
      else
        let pieces := sealedPieces x.ranges dst n
        let st := s.glsStamp plot ctx true
        match gcmDecrypt x.key (d.take 12) (leBytes 8 dst) (d.drop 32) (sub d 16 16) with
        | some pt =>
          let w := s.writePieces st pieces pt
          (w.1, ctxReply (if w.2 then stDONE else stOWNER_FAULT) ctx)
        | none =>
          let s := (s.writePieces st pieces (zeros n)).1
          (s.raise { (s.mkRec .gls 0 0x12 2 stINTEGRITY) with
            plot := plot, ctx := ctx, detail := ctx + 0x100000000 * (dst / 64) }, ctxReply stINTEGRITY ctx)

/-- ENC_SEAL (R441). -/
def State.svcEncSeal (s : State) (k : Nat) (b : List Byte) : State × Option (Nat × List Byte) :=
  let ctx := fld b 0 2
  if !bodyEnds b 2 then (s, ctxReply stREFUSED_FORMAT ctx)
  else match s.enclaveOfPlot ctx (s.mbxPlot k) with
  | none => (s, ctxReply stREFUSED_PLAN ctx)
  | some (e, x) =>
    let s := s.mapEntries (fun v => setBit v 7) ((x.ranges.filter (·.2.2)).flatMap rangePages)
    (s.setEnclave e (some { x with isSealed := true }), ctxReply stDONE ctx)

/-- ENC_DESTROY (R443). -/
def State.svcEncDestroy (s : State) (k : Nat) (b : List Byte) : State × Option (Nat × List Byte) :=
  let ctx := fld b 0 2
  if !bodyEnds b 2 then (s, ctxReply stREFUSED_FORMAT ctx)
  else match s.enclaveOfPlot ctx (s.mbxPlot k) with
  | none => (s, ctxReply stREFUSED_PLAN ctx)
  | some (e, _) =>
    if s.ctxHasProg ctx then (s, ctxReply stBUSY ctx) else (s.destroyEnclave e, ctxReply stDONE ctx)

/-- Complete every waiting Glasshouse request with a status. -/
def State.flushGls (s : State) (status except : Nat) : State :=
  (List.range 48).foldl (fun s k =>
    let op := fld (s.mbx k).req 4 2
    if k ≠ except && (s.mbx k).busy && decide (0x30 ≤ op) && decide (op ≤ 0x36) then s.finishMbx k status [] else s) s

/-- The slot that signed a life-cycle record, among those that Table 14-7 allows for the target state. -/
def State.lcSigner (s : State) (target : Nat) (digest : List Byte) (r sg : Nat) : Bool :=
  ((List.range 16).filter (fun k => if target = 1 then decide (k ≤ 1) else decide (2 ≤ k))).any
    (fun k => s.sigOk k 6 digest r sg)

/-- Blow the fuse group of a transition; entry to Provisioned draws DEVICE_SECRET from the TRNG (Table 14-5). -/
def State.blowGroup (s : State) (g : Nat) : State :=
  let r := s.freshBytes 32
  let secret := if g = 0 then beNat r.1 else s.gls.otp.secret
  let s := if g = 0 then r.2 else s
  { s with gls := { s.gls with otp := { s.gls.otp with
      lifecycle := setAt s.gls.otp.lifecycle g 0xFFFFFFFF, secret := secret } } }

/-- LC_ADVANCE (R453): on acceptance the reply, the cancelled requests, the fuses, the wipe, the record and the reset. -/
def State.svcLcAdvance (s : State) (k : Nat) (b : List Byte) : State × Option (Nat × List Byte) :=
  let plot := s.mbxPlot k
  if !allZero b 0 8 || !bodyEnds b 0x10 then (s, ctxReply stREFUSED_FORMAT 0)
  else match s.memRead (s.glsStamp plot (mbxCtx k) false) (fld b 8 8) 168 with
  | (s, none) => (s, ctxReply stOWNER_FAULT 0)
  | (s, some r) =>
    let target := fld r 0 1
    if !allZero r 1 7 then (s, ctxReply stREFUSED_FORMAT 0)
    else if s.gls.halted then (s, ctxReply stHW_ERROR 0)
    else if !s.lcSigner target (sha384 (r.take 72)) (beNat (sub r 72 48)) (beNat (sub r 120 48)) then
      (s.sigFail 16 6, ctxReply stINTEGRITY 0)
    else if sub r 8 16 ≠ s.gls.otp.serial || !(s.gls.nonces.any (fun n => n.2 == sub r 24 48 &&
        decide (s.now ≤ n.1 + 60000000000))) then (s, ctxReply stINTEGRITY 0)
    else if target ≠ s.lifecycle + 1 ∨ 3 < target then (s, ctxReply stREFUSED_PLAN 0)
    else if target = 1 ∧ !s.gls.rngOk then (s, ctxReply stHW_ERROR 0)
    else
      let s := s.finishMbx k stDONE (leBytes 1 stDONE)
      let s := (s.flushGls stCANCELLED k).blowGroup (target - 1)
      let s := { s with gls := { s.gls with sram := [], wiping := some s.now } }.dropUpdate
      let s := s.raise { (s.mkRec .gls 0 0x14 0 stDONE) with detail := target }
      (s.deviceReset, none)

/-! ### Registers -/

/-- The refusal of a GLS access by the normal world (R461). -/
def glsNotSecure : WRefusal := { errBit := none, inst := 0, detail := 1 }

/-- Writes of the GLS block (R436, R461). -/
def State.glsWrite (s : State) (who : Who) (id : RegId) (ix size v hw : Nat) : State :=
  let st := s.stampOf who
  let w := if st.secure then none else some glsNotSecure
  match id with
  | .glsCtrPolicy => s.regWrite st id ix size v w true (fun s =>
      let old := s.rd .glsCtrPolicy 0
      if bit old 8 then (s.setErr .gls 0 2).wr .glsCtrPolicy 0 (setBit old 8)
      else s.wr .glsCtrPolicy 0 (bits v 4 0 + 256 * b2n (bit v 8)))
  | .glsTamperCfg => s.regWrite st id ix size v w (bit v 0 || s.lifecycle == 0 || s.lifecycle == 3)
      (fun s => s.regStore id ix v hw)
  | _ => s.regWrite st id ix size v w true (fun s => s.regStore id ix v hw)

/-- Views of the GLS registers that show state. -/
def State.glsView (s : State) (id : RegId) (ix : Nat) : Option Nat :=
  match id with
  | .glsStatus => some (s.lifecycle + 4 * b2n (s.gls.tamper ≠ 0) + 8 * b2n s.gls.wiping.isSome +
      16 * b2n s.gls.debugSeen + 32 * b2n s.gls.rngOk + 256 * (s.gls.enclaves.filter (fun e => e.2.isSome)).length)
  | .glsTamper => some s.gls.tamper
  | .glsSerial => some (fld s.gls.otp.serial (4 * ix) 4)
  | .glsMin0 => some (s.gls.otp.mins.getD 0 0 + 65536 * s.gls.otp.mins.getD 1 0)
  | .glsMin1 => some (s.gls.otp.mins.getD 2 0 + 65536 * s.gls.otp.mins.getD 3 0)
  | .glsKey => some (let k := s.keySlot ix; k.usage + 256 * b2n k.present + 512 * b2n k.revoked)
  | .glsEnc => some (match (sget (fun _ => none) s.gls.enclaves ix : Option EncSt) with
      | some x => x.ctx + 1024 * x.plot + 16384 + 32768 * b2n x.isSealed
      | none => 0)
  | .glsDebug => some s.gls.debugPorts
  | .glsPubAk => some (fld (s.publicKey 0) (4 * ix) 4)
  | .glsPubDka => some (fld (s.publicKey 1) (4 * ix) 4)
  | _ => none

/-! ### Commands -/

/-- ATTEST. -/
def execAttest (mbx : Mbx) (s : State) : Host.Outcome State Fault Refusal :=
  .next (s.serve mbx 0x30 (fun s k b => if s.gls.halted then (s, ctxReply stHW_ERROR 0) else s.svcAttest k b))

/-- RANDOM. -/
def execRandom (mbx : Mbx) (s : State) : Host.Outcome State Fault Refusal :=
  .next (s.serve mbx 0x31 (fun s k b => if s.gls.halted then (s, ctxReply stHW_ERROR 0) else s.svcRandom k b))

/-- ENC_CREATE. -/
def execEncCreate (mbx : Mbx) (s : State) : Host.Outcome State Fault Refusal :=
  .next (s.serve mbx 0x32 (fun s k b => if s.gls.halted then (s, ctxReply stHW_ERROR 0) else s.svcEncCreate k b))

/-- ENC_IMPORT. -/
def execEncImport (mbx : Mbx) (s : State) : Host.Outcome State Fault Refusal :=
  .next (s.serve mbx 0x33 (fun s k b => if s.gls.halted then (s, ctxReply stHW_ERROR 0) else s.svcEncImport k b))

/-- ENC_SEAL. -/
def execEncSeal (mbx : Mbx) (s : State) : Host.Outcome State Fault Refusal :=
  .next (s.serve mbx 0x34 (fun s k b => if s.gls.halted then (s, ctxReply stHW_ERROR 0) else s.svcEncSeal k b))

/-- ENC_DESTROY. -/
def execEncDestroy (mbx : Mbx) (s : State) : Host.Outcome State Fault Refusal :=
  .next (s.serve mbx 0x35 (fun s k b => if s.gls.halted then (s, ctxReply stHW_ERROR 0) else s.svcEncDestroy k b))

/-- LC_ADVANCE: an accepted record ends in the device reset, after which no mailbox holds the request. -/
def execLcAdvance (mbx : Mbx) (s : State) : Host.Outcome State Fault Refusal :=
  .next (s.serve mbx 0x36 (fun s k b => if s.gls.halted then (s, ctxReply stHW_ERROR 0) else s.svcLcAdvance k b))

/-- The usages that the running firmware and plan need (R452). -/
def State.neededUsages (s : State) : List Nat :=
  (if (s.fwOf 1).isSome then [0] else []) ++ (if (s.fwOf 2).isSome then [1] else []) ++
    (if (s.fwOf 3).isSome then [2] else []) ++ (if s.plan.isSome then [3] else [])

/-- REVOKE (R452): `record` is what the slot `signer` signed, and `target` the slot that it names. -/
def execRevoke (signer : BitVec 64) (target : Fin 16) (record : List Byte) (r sg : BitVec 384) (s : State) :
    Host.Outcome State Fault Refusal :=
  .next (
    let v := s.verify signer.toNat 7 8 (sha384 record) r.toNat sg.toNat
    let s := v.1
    let left := (List.range 16).filter (fun k => k ≠ target.val && (s.keySlot k).present && !(s.keySlot k).revoked)
    let writable := s.lifecycle == 1 || s.lifecycle == 2 || (s.lifecycle == 0 && decide (target.val ≤ 1))
    if !v.2 then s.answer stINTEGRITY []
    else if !writable || s.neededUsages.any (fun u => !left.any (fun k => bit (s.keySlot k).usage u)) then
      s.answer stREFUSED_PLAN []
    else
      { s with gls := { s.gls with otp := { s.gls.otp with
          keys := sset (fun _ => {}) s.gls.otp.keys target.val { s.keySlot target.val with revoked := true } } } }.answer
        stDONE [])

/-- The debug ports that a life-cycle state allows (Table 14-7), as a mask of R454. -/
def debugAllowed (lc : Nat) : Nat :=
  match lc with
  | 0 => 0x3F
  | 2 => 0x0D
  | _ => 0x2F

/-- Open debug ports (R455); the Gatehouse port has the effects of R400. -/
def State.openDebug (s : State) (ports : Nat) : State :=
  let s := { s with gls := { s.gls with debugPorts := s.gls.debugPorts ||| ports, debugSeen := true } }
  let s := s.raise { (s.mkRec .gls 0 0x15 0 stDONE) with detail := ports }
  if bit ports 3 then
    { s with gth := { s.gth with broken := true } }.raise { (s.mkRec .gth 0 0x12 0 stDONE) with detail := 1 }
  else s

/-- The debug access of R454: an empty token is the debugger's read of a challenge; otherwise the token is the challenge, the
4-byte port mask and 4 reserved bytes, signed by slot `signer`. -/
def State.debugAccess (s : State) (token : List Byte) (signer r sg : Nat) : State :=
  if token.isEmpty && !s.gls.rngOk then s.answer stHW_ERROR []
  else if token.isEmpty then
    let n := s.freshBytes 32
    let ch := s.gls.otp.serial ++ zeros 16 ++ n.1
    { n.2 with gls := { n.2.gls with challenges := n.2.gls.challenges ++ [ch] } }.answer stDONE ch
  else
    let ports := fld token 64 4 &&& debugAllowed s.lifecycle
    if s.lifecycle = 0 then (s.openDebug ports).answer stDONE []
    else
      let v := s.verify signer 5 7 (sha384 token) r sg
      let s := v.1
      if !v.2 || token.length ≠ 72 || !allZero token 68 4 || !s.gls.challenges.contains (token.take 64) then
        s.answer stINTEGRITY []
      else
        { s with gls := { s.gls with challenges := s.gls.challenges.erase (token.take 64) } }.openDebug ports |>.answer
          stDONE []

/-- The JTAG instruction in force (R573): one that the life-cycle state does not accept acts as BYPASS. -/
def State.jtagIns (s : State) : JtagIns :=
  match s.gls.jtag with
  | .boundary => if s.lifecycle = 0 || s.lifecycle = 3 then .boundary else .bypass
  | .other c => if s.lifecycle = 0 || s.lifecycle = 3 then .other c else .bypass
  | i => i

/-- The IDCODE (R573), bit 0 first. -/
def idcodeBits : List Byte := (List.range 32).map (fun i => BitVec.ofNat 8 (b2n (bit 0x1595A0B3 i)))

/-- Bits shifted through the data register of the instruction in force, as TDO shows them, a byte of 0 or 1 for each. The data
registers of the other instructions are nowhere described: their bits are free. -/
def State.jtagShift (s : State) (tdi : List Bool) : State :=
  let inBits : List Byte := tdi.map (fun b => BitVec.ofNat 8 (b2n b))
  match s.jtagIns with
  | .bypass => s.answer stDONE ((zeros 1 ++ inBits).take tdi.length)
  | .idcode => s.answer stDONE ((idcodeBits ++ inBits).take tdi.length)
  | _ =>
    let n := s.freshBytes tdi.length
    n.2.answer stDONE (n.1.map (fun b => b &&& 1))

/-- DEBUG_TOKEN (R454, R573): an access over JTAG. -/
def execDebugToken (op : JtagOp) (signer : BitVec 64) (r sg : BitVec 384) (s : State) : Host.Outcome State Fault Refusal :=
  .next (match op with
    | .load i => { s with gls := { s.gls with jtag := i } }.answer stDONE []
    | .shift tdi => s.jtagShift tdi
    | .debug token => s.debugAccess token signer.toNat r.toNat sg.toNat)

/-- Every page of every enclave's ranges. -/
def State.sealedPages (s : State) : List Nat :=
  s.gls.enclaves.flatMap (fun e => (e.2.map (fun x => x.ranges.flatMap rangePages)).getD [])

/-- Secure pins return to their reset state: an input that nothing drives (R456, Table 18-5). -/
def State.resetSecurePins (s : State) : State :=
  { s with pinCtl := s.pinCtl.filter (fun e => !s.secureAttr 0x08 (e.1 / 4)) }

/-- TAMPER (R456): `cause` as GLS_TAMPER numbers them. -/
def execTamper (cause : Fin 5) (s : State) : Host.Outcome State Fault Refusal :=
  .next (
    if cause.val = 0 && !bit (s.rd .glsTamperCfg 0) 0 then s
    else if s.lifecycle = 0 || s.lifecycle = 3 then
      s.raise { (s.mkRec .gls 0 0x10 0 stHW_ERROR) with detail := 2 ^ cause.val }
    else
      let s := { s with gls := { s.gls with tamper := setBit s.gls.tamper cause.val, halted := true, sram := [],
                                            wiping := some (s.gls.wiping.getD s.now) } }
      let s := s.raise { (s.mkRec .gls 0 0x10 4 stHW_ERROR) with detail := s.gls.tamper }
      let s := s.resetSecurePins.zeroPages s.sealedPages
      let s := { s with gls := { s.gls with
        enclaves := s.gls.enclaves.map (fun (e : Nat × Option EncSt) => (e.1, e.2.map (fun (x : EncSt) => { x with key := zeros 32 }))) } }
      (s.flushGls stHW_ERROR 0xFFFF).dropUpdate)

/-- WIPE_DONE (R457): the wipe ends 10.24 µs after it began. -/
def execWipeDone (s : State) : Host.Outcome State Fault Refusal :=
  .next (match s.gls.wiping with
    | some t => if t + 10240 ≤ s.now then { s with gls := { s.gls with wiping := none } } else s
    | none => s)

/-- RNG_HEALTH (R450): the adaptive proportion test or the repetition count test fails. -/
def execRngHealth (adaptive : Bool) (s : State) : Host.Outcome State Fault Refusal :=
  .next ({ s with gls := { s.gls with rngOk := false } }.raise
    { (s.mkRec .gls 0 0x13 2 stHW_ERROR) with detail := b2n adaptive })

/-- GLS_CTR_POLICY_WRITE (R436). -/
def execGlsCtrPolicyWrite (who : Who) (value : BitVec 32) (s : State) : Host.Outcome State Fault Refusal :=
  .next (s.glsWrite who .glsCtrPolicy 0 4 value.toNat 0)

/-- MSI_WRITE (R425): the interrupt file of a secure-world core accepts an MSI from the secure world and from devices of
the core's own Plot; any other core's accepts every MSI. -/
def execMsiWrite (who : Who) (core : Fin 16) (value : BitVec 32) (s : State) : Host.Outcome State Fault Refusal :=
  .next (
    let st := s.stampOf who
    let plot := s.ownerOf 0x01 core.val
    let isCore := match who with
      | .core _ => true
      | _ => false
    if !s.plotSecure plot || st.secure || (!isCore && st.plot == plot) then s.send (.msi core.val value.toNat) else s)

/-- PIN_INTERRUPT (R426): an input on a pin changes to `level`; the interrupt goes to the Plot of the pin, and for a
secure pin only to its secure-world cores. -/
def execPinInterrupt (pin : Fin 128) (level : Bool) (s : State) : Host.Outcome State Fault Refusal :=
  .next (
    if bit s.pins pin.val == level then s
    else
      let s := { s with pins := if level then setBit s.pins pin.val else clrBit s.pins pin.val }
      let plot := s.ownerOf 0x08 pin.val
      if plot < 16 then s.send (.pinIrq plot pin.val (s.secureAttr 0x08 pin.val)) else s)

end Sys2Proof.Machine
end

