-- ==== Sys2Proof/Machine/Plan.lean ====
section
/-! DEFINITION. The Site Plan image of spec/01: its records and reserved encodings (R27 to R32, R578), and the admission
checks of Table 01-15 with the detail of Table 01-18. -/

namespace Sys2Proof.Machine

/-- A failed check: ID, status, PART, index of the first offending record, and the excess (Table 01-18). -/
structure PlanFail where
  check : Nat
  status : Nat
  part : Nat := 0
  index : Nat := 0xFFFF
  excess : Nat := 0
deriving DecidableEq, Repr

/-! ### Records and their encodings (R28) -/

/-- A Plot record holds no reserved encoding (Table 01-4). -/
def plotRecOk (r : List Byte) : Bool :=
  decide (fld r 0 1 ≤ 15) && decide (fld r 1 1 ≤ 4) && decide (fld r 2 1 < 8) && decide (fld r 3 1 ≤ 6) &&
    decide (fld r 4 2 ≤ 1024) && fld r 6 2 == 0

/-- Plot record (Table 01-4). -/
def readPlotRec (r : List Byte) : PlotRec :=
  { plot := fld r 0 1, crit := fld r 1 1, survive := bit (fld r 2 1) 0, mustRun := bit (fld r 2 1) 1,
    secure := bit (fld r 2 1) 2, defaultClass := fld r 3 1, quota := fld r 4 2, name := sub r 8 8 }

/-- Index counts of Table 01-6; 0 for a reserved kind. -/
def kindCount : Nat → Nat
  | 0x01 => 16 | 0x02 => 16 | 0x03 => 128 | 0x04 => 32 | 0x05 => 256 | 0x06 => 16384 | 0x07 => 64 | 0x08 => 128
  | 0x09 => 14 | 0x0A => 8 | 0x0B => 16 | 0x0C => 4 | 0x0D => 32 | 0x0E => 6 | 0x0F => 16 | _ => 0

/-- Kinds that carry ATTR.SECURE (R30). -/
def kindSecure (k : Nat) : Bool := [0x01, 0x03, 0x07, 0x08, 0x0D].contains k

/-- An assignment record holds no reserved encoding (Table 01-5, R30). -/
def assignRecOk (r : List Byte) : Bool :=
  decide (0 < kindCount (fld r 0 1)) && decide (fld r 1 1 ≤ 15) && decide (1 ≤ fld r 4 2) && decide (fld r 6 1 ≤ 1) &&
    (fld r 6 1 == 0 || kindSecure (fld r 0 1)) && fld r 7 1 == 0

/-- Assignment record (Table 01-5). -/
def readAssignRec (r : List Byte) : AssignRec :=
  { kind := fld r 0 1, plot := fld r 1 1, first := fld r 2 2, count := fld r 4 2, secure := bit (fld r 6 1) 0 }

/-- A region record holds no reserved encoding (Table 01-7). -/
def regionRecOk (r : List Byte) : Bool :=
  let n := popcount 128 (fld r 0x10 16)
  fld r 0 8 % 8192 == 0 && decide (0 < n) && decide (0 < fld r 8 8) && fld r 8 8 % (8192 * n) == 0 &&
    decide (fld r 0x21 1 ≤ 1) && fld r 0x22 6 == 0

/-- DRAM region record (Table 01-7). -/
def readRegionRec (r : List Byte) : RegionRec :=
  { base := fld r 0 8, length := fld r 8 8, mask := fld r 0x10 16, plot := fld r 0x20 1, secure := bit (fld r 0x21 1) 0 }

/-- A guarantee record holds no reserved encoding (Table 01-8). -/
def guarRecOk (r : List Byte) : Bool := decide (fld r 1 1 ≤ 7) && fld r 2 2 == 0

/-- Bandwidth guarantee record (Table 01-8). -/
def readGuarRec (r : List Byte) : GuarRec := { plot := fld r 0 1, cls := fld r 1 1, mbps := fld r 4 4, mask := fld r 8 16 }

/-- A share record holds no reserved encoding (Table 01-9). -/
def shareRecOk (r : List Byte) : Bool :=
  decide (fld r 0 1 ≤ 127) && decide (fld r 1 1 ≤ 3) && decide (1 ≤ fld r 3 1) && decide (fld r 3 1 ≤ 32)

/-- Scratchpad share record (Table 01-9). -/
def readShareRec (r : List Byte) : ShareRec := { bed := fld r 0 1, slot := fld r 1 1, plot := fld r 2 1, units := fld r 3 1 }

/-- A class and deadline record holds no reserved encoding (Table 01-10). -/
def classRecOk (r : List Byte) : Bool :=
  [0x01, 0x05, 0x07, 0x0E, 0x10, 0x11, 0x12].contains (fld r 0 1) && decide (fld r 4 1 ≤ 7) && decide (fld r 5 1 ≤ 4) &&
    fld r 6 2 == 0

/-- Class and deadline record (Table 01-10). -/
def readClassRec (r : List Byte) : ClassRec :=
  { kind := fld r 0 1, plot := fld r 1 1, index := fld r 2 2, cls := fld r 4 1, sev := fld r 5 1, period := fld r 8 8,
    deadline := fld r 0x10 8 }

/-- A stream record holds no reserved encoding (Table 01-11). -/
def streamRecOk (r : List Byte) : Bool :=
  decide (fld r 0 1 ≤ 95) && decide (fld r 1 1 ≤ 11) && decide (fld r 3 1 ≤ 15) && decide (fld r 4 1 ≤ 0x3F) &&
    (decide (fld r 5 1 ≤ 7) || fld r 5 1 == 0xFF) && fld r 6 2 == 0 && decide (0 < fld r 8 2) &&
    decide (0 < fld r 0xA 2) && decide (0 < fld r 0xC 2) && decide (0 < fld r 0x10 8) && decide (0 < fld r 0x18 4) &&
    decide (fld r 0x1C 1 ≤ 1) && decide (1 ≤ fld r 0x1D 1) && decide (fld r 0x1D 1 ≤ 4 - fld r 0x1C 1) &&
    fld r 0x1E 2 == 0

/-- Sensor stream record (Table 01-11). -/
def readStreamRec (r : List Byte) : StreamRec :=
  { stream := fld r 0 1, port := fld r 1 1, plot := fld r 2 1, vc := fld r 3 1, dataType := fld r 4 1, isp := fld r 5 1,
    width := fld r 8 2, height := fld r 0xA 2, bpp := fld r 0xC 2, goldenEvery := fld r 0xE 2, period := fld r 0x10 8,
    laneRate := fld r 0x18 4, phy := fld r 0x1C 1, lanes := fld r 0x1D 1 }

/-- A display pipe record holds no reserved encoding (Table 01-12). -/
def pipeRecOk (r : List Byte) : Bool :=
  let edp := decide (fld r 0 1 < 4)
  decide (fld r 0 1 ≤ 5) && [2, 4, 8].contains (fld r 1 1) && decide (1 ≤ fld r 2 1) && decide (fld r 2 1 ≤ 4) &&
    [18, 24, 30].contains (fld r 3 1) &&
    (if edp then [1, 2, 4].contains (fld r 0x10 1) else decide (1 ≤ fld r 0x10 1) && decide (fld r 0x10 1 ≤ 4)) &&
    (if edp then decide (fld r 0x11 1 ≤ 3) else fld r 0x11 1 == 0) && fld r 0x12 2 == 0 && (!edp || fld r 0x14 4 == 0)

/-- Display pipe record (Table 01-12). -/
def readPipeRec (r : List Byte) : PipeRec :=
  { pipe := fld r 0 1, bytesPp := fld r 1 1, planes := fld r 2 1, linkBpp := fld r 3 1, hActive := fld r 4 2,
    vActive := fld r 6 2, hTotal := fld r 8 2, vTotal := fld r 0xA 2, refreshMhz := fld r 0xC 4, lanes := fld r 0x10 1,
    edpRate := fld r 0x11 1, dsiLaneMbps := fld r 0x14 4 }

/-- A gate list record holds no reserved encoding (Table 01-13). -/
def gateRecOk (r : List Byte) : Bool :=
  (decide (fld r 0 1 ≤ 13) || (decide (0x80 ≤ fld r 0 1) && decide (fld r 0 1 ≤ 0x87))) && decide (1 ≤ fld r 1 1) &&
    decide (fld r 1 1 ≤ 64) && decide (fld r 2 1 ≤ 4) && fld r 3 1 == 0 && decide (10000 ≤ fld r 4 4) &&
    decide (fld r 4 4 ≤ 10000000)

/-- Gate list record (Table 01-13). -/
def readGateRec (r : List Byte) : GateRec :=
  { port := fld r 0 1, rate := fld r 2 1, cycle := fld r 4 4,
    reserve := (List.range 8).map (fun t => fld r (8 + 4 * t) 4),
    entries := (List.range (fld r 1 1)).map (fun i => (fld r (0x28 + 4 * i + 3) 1, fld r (0x28 + 4 * i) 3)) }

/-! ### Sections -/

/-- A section table entry (Table 01-2). -/
structure SecEntry where
  type : Nat
  ver : Nat
  off : Nat
  len : Nat
  count : Nat
deriving DecidableEq, Repr

/-- The section table of an image. -/
def readSections (img : List Byte) : List SecEntry :=
  (List.range (fld img 0x1C 2)).map (fun i =>
    let e := sub img (0x80 + 16 * i) 16
    ⟨fld e 0 2, fld e 2 2, fld e 4 4, fld e 8 4, fld e 12 4⟩)

/-- Record size of a section type with records of one size (Table 01-3). -/
def recSize : Nat → Nat
  | 1 => 16 | 2 => 8 | 3 => 40 | 4 => 24 | 5 => 4 | 6 => 24 | 7 => 32 | 8 => 24 | _ => 0

/-- Split a GATES section into its records; none when the lengths do not fit. -/
def splitGates : Nat → List Byte → Option (List (List Byte))
  | 0, d => if d.isEmpty then some [] else none
  | n + 1, d =>
    let l := 40 + 4 * fld d 1 1
    if d.length < l then none else (splitGates n (d.drop l)).map (fun r => d.take l :: r)

/-- The records of a section; none when LENGTH differs from COUNT times the record size. -/
def secRecords (img : List Byte) (e : SecEntry) : Option (List (List Byte)) :=
  let d := sub img e.off e.len
  if e.type = 9 then (if e.count ≤ e.len then splitGates e.count d else none)
  else if e.len = e.count * recSize e.type then
    some ((List.range e.count).map (fun i => sub d (i * recSize e.type) (recSize e.type)))
  else none

/-- A record of a section type holds no reserved encoding. -/
def recOk (type : Nat) (r : List Byte) : Bool :=
  match type with
  | 1 => plotRecOk r | 2 => assignRecOk r | 3 => regionRecOk r | 4 => guarRecOk r | 5 => shareRecOk r
  | 6 => classRecOk r | 7 => streamRecOk r | 8 => pipeRecOk r | 9 => gateRecOk r | _ => false

/-- The records of the section of a type; empty when the section is missing. -/
def recordsOf (img : List Byte) (type : Nat) : List (List Byte) :=
  match (readSections img).find? (fun e => e.type == type) with
  | some e => (secRecords img e).getD []
  | none => []

/-- Two sections overlap: each starts before the other ends. DESIGN CHOICE: R28 does not say whether a section of LENGTH 0
can overlap; by this test one that starts strictly inside another section does. -/
def secOverlap (a b : SecEntry) : Bool := decide (a.off < b.off + b.len) && decide (b.off < a.off + a.len)

/-- No element of a list stands in relation `r` with a later one. -/
def noPair {α : Type} (r : α → α → Bool) : List α → Bool
  | [] => true
  | a :: l => l.all (fun b => !r a b) && noPair r l

/-- R578: the image can be located. -/
def locatable (hdr : List Byte) : Bool :=
  let n := fld hdr 0x1C 2
  let len := fld hdr 8 4
  fld hdr 0 4 == 0x50535A53 && decide (1 ≤ n) && decide (n ≤ 9) && len % 8 == 0 && decide (len ≤ 4194304) &&
    decide (0x80 + 16 * n + 104 ≤ len)

/-- The header and the section table meet check 0x02; `slot` is 0 for A and 1 for B (R45). -/
def headerOk (img : List Byte) (slot : Nat) : Bool :=
  let secs := readSections img
  let lo := 0x80 + 16 * secs.length
  let hi := fld img 8 4 - 104
  fld img 0x14 4 / 4 == 0 && b2n (bit (fld img 0x14 4) 0) == slot && decide (60 ≤ fld img 0x18 2) &&
    decide (fld img 0x18 2 ≤ 240) && decide (1 ≤ fld img 0x1A 1) && decide (fld img 0x1A 1 ≤ 16) &&
    [1, 2, 4, 8].contains (fld img 0x1B 1) && fld img 0x1E 2 == 0 && allZero img 0x50 48 &&
    secs.all (fun e => decide (1 ≤ e.type) && decide (e.type ≤ 9) && e.off % 8 == 0 && decide (lo ≤ e.off) &&
      decide (e.off + e.len ≤ hi) && (secRecords img e).isSome) &&
    noPair secOverlap secs && noPair (fun a b => a.type == b.type) secs &&
    [1, 2, 3].all (fun t => secs.any (fun e => e.type == t))

/-- Check 0x02: none when it passes, else the index of the first offending record or 0xFFFF. -/
def structureFail (img : List Byte) (slot : Nat) : Option Nat :=
  if !headerOk img slot then some 0xFFFF
  else (readSections img).findSome? (fun e => firstIdx (fun r => !recOk e.type r) ((secRecords img e).getD []))

/-- The plan of an image that passed check 0x02. -/
def readPlan (img : List Byte) : Plan :=
  let flags := fld img 0x14 4
  { planId := fld img 0xC 4, version := fld img 0x10 4, isAlternate := bit flags 0, altBound := bit flags 1,
    altDigest := sub img 0x20 48, powerLimit := fld img 0x18 2, plotCount := fld img 0x1A 1, groveSize := fld img 0x1B 1,
    plots := (recordsOf img 1).map readPlotRec, assigns := (recordsOf img 2).map readAssignRec,
    regions := (recordsOf img 3).map readRegionRec, guars := (recordsOf img 4).map readGuarRec,
    shares := (recordsOf img 5).map readShareRec, classes := (recordsOf img 6).map readClassRec,
    streams := (recordsOf img 7).map readStreamRec, pipes := (recordsOf img 8).map readPipeRec,
    gates := (recordsOf img 9).map readGateRec, digest := sha384 img }

/-! ### Checks 0x04 to 0x11 -/

/-- The first of a list of possible failures; a check lists the sections it looks at in ascending TYPE (DEDUCED: R39
numbers a record within its section and orders no sections), and what belongs to no record last. -/
def firstSome {α : Type} (l : List (Option α)) : Option α := l.findSome? id

/-- Of the failures that several conditions find in one section, the one at the lowest index: the section's first offending
record (R39); `ix` is a failure's index. -/
def firstRecord {α : Type} (ix : α → Nat) (l : List (Option α)) : Option α :=
  l.foldl (fun best x => match best, x with
    | some b, some y => if ix y < ix b then some y else some b
    | none, y => y
    | b, none => b) none

/-- The index of the first element that repeats an earlier one under a key. -/
def firstRepeat {α : Type} (key : α → List Nat) : List α → List Nat → Nat → Option Nat
  | [], _, _ => none
  | a :: r, seen, i => if (key a).any seen.contains then some i else firstRepeat key r (seen ++ key a) (i + 1)

/-- A PLOT is defined by a Plot record. -/
def Plan.defined (p : Plan) (n : Nat) : Bool := (p.plot? n).isSome

/-- CRIT of a Plot. -/
def Plan.crit (p : Plan) (n : Nat) : Nat := ((p.plot? n).map (·.crit)).getD 0

/-- Check 0x04 PLOTS. -/
def Plan.checkPlots (p : Plan) : Option Nat :=
  firstSome [
    firstRepeat (fun r => [r.plot]) p.plots [] 0,
    firstIdx (fun r => !p.defined r.plot) p.assigns,
    firstIdx (fun r => !p.defined r.plot) p.regions,
    firstIdx (fun r => !p.defined r.plot) p.guars,
    firstIdx (fun r => !p.defined r.plot) p.shares,
    firstIdx (fun r => !p.defined r.plot && !(r.kind == 0x11 && r.plot == 0xFF)) p.classes,
    firstIdx (fun r => !p.defined r.plot) p.streams,
    if p.plots.length ≠ p.plotCount ∨ 1024 < sumL (p.plots.map (·.quota)) then some 0xFFFF else none]

/-- Check 0x05 EXCLUSIVE. -/
def Plan.checkExclusive (p : Plan) : Option Nat :=
  firstSome [
    firstRecord id [
      firstIdx (fun r => decide (kindCount r.kind < r.first + r.count)) p.assigns,
      firstRepeat (fun r => (List.range r.count).map (fun i => 65536 * r.kind + r.first + i)) p.assigns [] 0],
    firstRepeat (fun r => [r.bed * 4 + r.slot]) p.shares [] 0,
    firstRepeat (fun r => [r.stream]) p.streams [] 0]

/-- Check 0x06 for the plan's own resources: `bad` lists units that failed start-up self-test, `chans` is the mask of
channels that failed training or start-up self-test. -/
def Plan.checkHealth (p : Plan) (bad : List (Nat × Nat)) (chans : Nat) : Option Nat :=
  firstSome [
    firstIdx (fun r => (List.range r.count).any (fun i => bad.contains (r.kind, r.first + i) ||
      (r.kind == 0x03 && bad.contains (0x21, (r.first + i) / 8)))) p.assigns,
    firstIdx (fun r => decide (r.mask &&& chans ≠ 0)) p.regions,
    firstIdx (fun r => decide (r.mask &&& chans ≠ 0)) p.guars,
    firstIdx (fun r => bad.contains (0x22, r.isp)) p.streams]

/-- Regions on a channel. -/
def Plan.countOn (p : Plan) (c : Nat) : Nat := (p.regions.filter (fun r => bit r.mask c)).length

/-- Bytes of regions on a channel. -/
def Plan.bytesOn (p : Plan) (c : Nat) : Nat := sumL ((p.regions.filter (fun r => bit r.mask c)).map (fun r => r.length / r.n))

/-- Check 0x07 REGIONS: index and excess in bytes. DESIGN CHOICE (Table 01-18 allows 0xFFFF and says not when): a failure of
a channel's sums, which no one record causes, carries index 0xFFFF and the excess of the fullest channel. -/
def Plan.checkRegions (p : Plan) : Option (Nat × Nat) :=
  let overlaps (i : Nat) (r : RegionRec) : Bool := (p.regions.take i).any (fun q =>
    decide (r.base < q.base + q.length) && decide (q.base < r.base + r.length))
  let used := maxL ((List.range 128).map p.bytesOn)
  firstSome [
    firstRecord (·.1) [
      (p.regions.zipIdx.find? (fun x => overlaps x.2 x.1)).map (fun x => (x.2, 0)),
      (p.regions.zipIdx.find? (fun x => decide (reservedBase < x.1.base + x.1.length))).map
        (fun x => (x.2, x.1.base + x.1.length - reservedBase))],
    if (List.range 128).any (fun c => decide (16 < p.countOn c)) || decide (1065353216 < used) then
      some (0xFFFF, used - 1065353216) else none]

/-- Check 0x08 GUARANTEES: index and excess in MB/s. DESIGN CHOICE: a failure of a channel's sum carries index 0xFFFF and the
excess of the worst channel, as in check 0x07. -/
def Plan.checkGuarantees (p : Plan) : Option (Nat × Nat) :=
  let own (plot : Nat) : Nat := (p.regions.filter (fun r => r.plot == plot)).foldl (fun m r => m ||| r.mask) 0
  let sum (c : Nat) : Nat := sumL ((p.guars.filter (fun g => bit g.mask c)).map (·.mbps))
  let top := maxL ((List.range 128).map sum)
  firstSome [
    (firstIdx (fun g => (List.range 128).any (fun c => bit g.mask c && !bit (own g.plot) c)) p.guars).map (fun i => (i, 0)),
    if 81920 < top then some (0xFFFF, top - 81920) else none]

/-- Check 0x09 SHARES: index and excess in 64 KiB units. DESIGN CHOICE: a failure of a Bed's sum carries index 0xFFFF and the
excess of the worst Bed, as in check 0x07. -/
def Plan.checkShares (p : Plan) : Option (Nat × Nat) :=
  let sum (b : Nat) : Nat := sumL ((p.shares.filter (fun r => r.bed == b)).map (·.units))
  let top := maxL ((List.range 128).map sum)
  firstSome [
    (firstIdx (fun r => p.owner 0x03 r.bed ≠ some r.plot) p.shares).map (fun i => (i, 0)),
    if 32 < top then some (0xFFFF, top - 32) else none]

/-- The Plot that owns the requester of a class and deadline record. -/
def Plan.requesterPlot (p : Plan) (r : ClassRec) : Option Nat :=
  if r.kind = 0x10 ∨ r.kind = 0x12 then (p.stream r.index).map (·.plot) else p.owner r.kind r.index

/-- A class and deadline record passes check 0x0A. -/
def Plan.classOk (p : Plan) (r : ClassRec) : Bool :=
  (r.period == 0 || r.deadline == 0 || decide (r.deadline ≤ r.period)) &&
  (if r.kind = 0x11 then r.plot == 0xFF && decide (r.index ≤ 63)
   else p.defined r.plot && p.requesterPlot r == some r.plot && (r.cls ≠ 7 || decide (1 ≤ p.crit r.plot)) &&
     (r.kind ≠ 0x0E || r.sev == (if p.crit r.plot = 0 then 0 else 2)))

/-- Check 0x0A CLASSES. -/
def Plan.checkClasses (p : Plan) : Option Nat :=
  firstSome [firstIdx (fun g => g.cls == 7 && p.crit g.plot == 0) p.guars,
    firstIdx (fun r => !p.classOk r) p.classes]

/-- Check 0x0B STREAMS: PART, index, excess. Rates are compared as exact fractions: the streams' bit rates are put over
the product of their periods. DESIGN CHOICE: PHY, LANES or LANE_RATE that disagree, or a LANE_RATE above 2,500, are neither
of the two PARTs of Table 01-18; they carry PART 0 and excess 0. -/
def Plan.checkStreams (p : Plan) : Option (Nat × Nat × Nat) :=
  let first (f : StreamRec → Bool) : Nat := (firstIdx f p.streams).getD 0xFFFF
  let prod (l : List StreamRec) : Nat := l.foldl (fun m r => m * r.period) 1
  let bits (l : List StreamRec) (per : StreamRec → Nat) : Nat :=
    sumL (l.map (fun r => 1000000000 * per r * (prod l / r.period)))
  let bad := firstIdx (fun r => decide (2500 < r.laneRate) || p.streams.any (fun q => q.port == r.port &&
    (q.phy ≠ r.phy || q.lanes ≠ r.lanes || q.laneRate ≠ r.laneRate))) p.streams
  let port := firstRecord (·.2.1) ((List.range 12).map (fun k =>
    let l := p.streams.filter (fun r => r.port == k)
    match l with
    | [] => none
    | r :: _ =>
      let num := bits l (fun q => q.width * q.height * q.bpp)
      -- rate ≤ 0.9 × LANES × LANE_RATE × 10^6 (× 16 / 7), over the common denominator 70 × the periods
      let cap := 1000000 * (r.lanes * r.laneRate) * (if r.phy = 1 then 144 else 63) * prod l
      if cap < 70 * num then some (0, first (fun q => q.port == k), ceilDiv (70 * num - cap) (1000000 * (70 * prod l)))
      else none))
  let isp := firstRecord (·.2.1) ((List.range 8).map (fun k =>
    let l := p.streams.filter (fun r => r.isp == k)
    let num := bits l (fun q => q.width * q.height)
    let cap := 600000000 * prod l
    if cap < num then some (1, first (fun q => q.isp == k), ceilDiv (num - cap) (1000000 * prod l)) else none))
  firstRecord (·.2.1) [bad.map (fun i => (0, i, 0)), port, isp]

/-- eDP lane rate in Mb/s. -/
def edpMbps : Nat → Nat
  | 0 => 1620 | 1 => 2700 | 2 => 5400 | _ => 8100

/-- The class of a pipe: its record's CLASS, or 6. -/
def Plan.pipeClass (p : Plan) (pipe : Nat) : Nat := ((p.classRec 0x0E pipe).map (·.cls)).getD 6

/-- Scan-out bandwidth of a pipe in thousandths of B/s. -/
def PipeRec.scanMilli (r : PipeRec) : Nat := r.hActive * r.vActive * r.refreshMhz * r.bytesPp * r.planes

/-- Check 0x0C DISPLAYS: PART, index, excess. DESIGN CHOICE: a pipe that no Plot owns is neither of the two PARTs of Table
01-18; it carries PART 0 and excess 0. -/
def Plan.checkDisplays (p : Plan) : Option (Nat × Nat × Nat) :=
  let unowned := (firstIdx (fun r => (p.owner 0x0E r.pipe).isNone) p.pipes).map (fun i => (0, i, 0))
  let link := p.pipes.zipIdx.findSome? (fun x =>
    let r := x.1
    let need := r.hTotal * r.vTotal * r.refreshMhz * r.linkBpp * 10
    let cap := if r.pipe < 4 then 1000000000 * (r.lanes * edpMbps r.edpRate * 8) else 1000000000 * (r.lanes * r.dsiLaneMbps * 10)
    if cap < need then some (1, x.2, ceilDiv (need - cap) 10000000000) else none)
  let scan := p.pipes.zipIdx.findSome? (fun x =>
    let plot := (p.owner 0x0E x.1.pipe).getD 0xFF
    let k := p.pipeClass x.1.pipe
    let need := sumL ((p.pipes.filter (fun q => (p.owner 0x0E q.pipe).getD 0xFF == plot && p.pipeClass q.pipe == k)).map
      PipeRec.scanMilli)
    let have_ := 1000 * sumL ((p.guars.filter (fun g => g.plot == plot && g.cls == k)).map (fun g =>
      1000000 * g.mbps * popcount 128 g.mask))
    if have_ < need then some (0, x.2, ceilDiv (need - have_) 1000000000) else none)
  firstRecord (·.2.1) [unowned, link, scan]

/-- Mb/s of a RATE code (Table 01-13). -/
def gateMbps : Nat → Nat
  | 0 => 1000 | 1 => 2500 | 2 => 5000 | 3 => 10000 | _ => 25000

/-- RATE codes allowed at a port (Table 11-1). -/
def rateAllowed (port rate : Nat) : Bool :=
  if port ≤ 1 then rate == 4 else if port ≤ 5 then decide (rate ≤ 3) else if port ≤ 13 then rate == 0
  else rate == 3 || rate == 4

/-- Check 0x0D GATES: index and excess in bytes per cycle. -/
def Plan.checkGates (p : Plan) : Option (Nat × Nat) :=
  p.gates.zipIdx.findSome? (fun x =>
    let r := x.1
    let owner := if r.port ≤ 13 then p.owner 0x09 r.port else p.owner 0x0A (r.port - 0x80)
    if owner.isNone || !rateAllowed r.port r.rate || sumL (r.entries.map (·.2)) ≠ r.cycle then some (x.2, 0)
    else (List.range 8).findSome? (fun t =>
      let open_ := sumL ((r.entries.filter (fun e => bit e.1 t)).map (·.2))
      let have_ := open_ * gateMbps r.rate
      let need := 8000 * r.reserve.getD t 0
      if have_ < need then some (x.2, ceilDiv (need - have_) 8000) else none))

/-- Check 0x0F SECURE. -/
def Plan.checkSecure (p : Plan) : Option Nat :=
  let sec (n : Nat) : Bool := ((p.plot? n).map (·.secure)).getD false
  firstSome [
    firstIdx (fun r => (r.secure && !sec r.plot) || (!r.secure && ((r.kind == 0x01 && sec r.plot) ||
      (r.kind == 0x0D && decide (28 < r.first + r.count))))) p.assigns,
    firstIdx (fun r => r.secure && !sec r.plot) p.regions]

/-- Check 0x11 SURVIVE. -/
def Plan.checkSurvive (p : Plan) : Option Nat :=
  firstSome [firstIdx (fun r => r.survive && !r.mustRun) p.plots,
    if p.plots.any (·.mustRun) then none else some 0xFFFF]

/-! ### The Gatehouse rule table (R403) -/

/-- Rule record (Table 13-3). -/
def readRule (r : List Byte) : RuleRec :=
  { kind := fld r 0 1, flags := fld r 1 1, format := fld r 2 2, plot := fld r 4 1, severity := fld r 5 1, task := fld r 6 1,
    srcA := fld r 8 8, srcB := fld r 0x10 8, count := fld r 0x18 4, triggerSem := fld r 0x1C 2, param := fld r 0x1E 2,
    lo := fld r 0x20 4, hi := fld r 0x24 4, tol := fld r 0x28 4, rel := fld r 0x2C 4, verdictAddr := fld r 0x30 8,
    expect := fld r 0x38 4, reservedOk := fld r 7 1 == 0 && fld r 0x3C 4 == 0 }

/-- A rule meets Table 13-3. -/
def RuleRec.ok (r : RuleRec) : Bool :=
  let alive := r.kind == 5 || r.kind == 6
  r.reservedOk && decide (1 ≤ r.kind) && decide (r.kind ≤ 7) && decide (r.flags ≤ 1) && decide (1 ≤ r.format) &&
    decide (r.format ≤ 7) && decide (r.plot ≤ 15) && decide (r.severity ≤ 4) && decide (r.task ≤ 63) &&
    (if alive then r.count == 0 else decide (1 ≤ r.count) && decide (r.count ≤ 65536)) &&
    (decide (r.triggerSem < 16384) || r.triggerSem == 0xFFFF) && (r.kind == 3 || r.kind == 4 || r.srcB == 0) &&
    (match r.kind with
      | 5 => decide (bits r.param 2 0 ≤ 5) && !bit r.param 3 && decide (r.param < 64)
      | 4 => decide (r.param ≤ 95)
      | _ => r.param == 0) && r.verdictAddr % 16 == 0

/-- A rule passes R403 against a plan. -/
def Plan.ruleOk (p : Plan) (r : RuleRec) : Bool :=
  r.ok && p.defined r.plot && (r.triggerSem == 0xFFFF || p.owner 0x06 r.triggerSem == some r.plot) &&
    (match p.classRec 0x11 r.task with
      | none => false
      | some t => t.period ≠ 0 || (r.triggerSem ≠ 0xFFFF && r.kind ≠ 6))

/-- The first offending rule of a table. -/
def Plan.checkRules (p : Plan) (rules : List RuleRec) : Option Nat :=
  firstSome [firstIdx (fun r => !p.ruleOk r) (rules.take 256), if 256 < rules.length then some 256 else none]

/-- What checks 0x04 to 0x11 know of the device: units and channels that failed start-up self-test, TRNG health, the
Gatehouse image's verification and rules, and the GROVE_ID strap. -/
structure HealthIn where
  bad : List (Nat × Nat)
  chans : Nat
  rngOk : Bool
  gthOk : Bool
  rules : List RuleRec
  groveId : Nat
deriving DecidableEq, Repr

/-- Checks 0x04 to 0x11 in ascending ID (R38, R39); check 0x06 may give two records. -/
def Plan.lateFails (p : Plan) (h : HealthIn) : List PlanFail :=
  let one (id : Nat) (r : Option Nat) : List PlanFail := (r.map (fun i => ⟨id, stREFUSED_PLAN, 0, i, 0⟩)).toList
  let two (id : Nat) (r : Option (Nat × Nat)) : List PlanFail :=
    (r.map (fun x => ⟨id, stREFUSED_PLAN, 0, x.1, x.2⟩)).toList
  let three (id : Nat) (r : Option (Nat × Nat × Nat)) : List PlanFail :=
    (r.map (fun x => ⟨id, stREFUSED_PLAN, x.1, x.2.1, x.2.2⟩)).toList
  let health := firstSome [p.checkHealth h.bad h.chans, if h.rngOk && h.gthOk then none else some 0xFFFF]
  one 0x04 p.checkPlots ++ one 0x05 p.checkExclusive ++ one 0x06 health ++
    ((if h.gthOk then p.checkRules h.rules else none).map (fun i => PlanFail.mk 0x06 stREFUSED_PLAN 1 i 0)).toList ++
    two 0x07 p.checkRegions ++ two 0x08 p.checkGuarantees ++ two 0x09 p.checkShares ++ one 0x0A p.checkClasses ++
    three 0x0B p.checkStreams ++ three 0x0C p.checkDisplays ++ two 0x0D p.checkGates ++
    two 0x0E (if 100000 * p.powerLimit < p.mustRunCentiMw then
      some (0xFFFF, ceilDiv (p.mustRunCentiMw - 100000 * p.powerLimit) 100) else none) ++
    one 0x0F p.checkSecure ++ one 0x10 (if h.groveId < p.groveSize then none else some 0xFFFF) ++ one 0x11 p.checkSurvive

/-- Detail of a PLAN_CHECK record (Table 01-18). DESIGN CHOICE: an excess that 32 bits do not hold reads 0xFFFFFFFF. -/
def PlanFail.detail (f : PlanFail) (slot : Nat) : Nat :=
  f.check + 256 * slot + 512 * f.part + 65536 * f.index + 0x100000000 * min f.excess 0xFFFFFFFF

end Sys2Proof.Machine
end

