-- ==== Sys2Proof/Machine/Ctx.lean ====
section
/-! DEFINITION. The program service (R157 to R176, R442, R582), the context service (R219 to R223, R242) and the
residency tick (R224, R225, R239, R240) of the Keeper. -/

namespace Sys2Proof.Machine

/-! ### The program image (R163) -/

/-- The header fields of an image that the checks use (Table 05-2). -/
structure ProgHdr where
  vbeds : Nat
  devices : Nat
  opCount : Nat
  tensorCount : Nat
  segCount : Nat
  argCount : Nat
  semCount : Nat
  opOff : Nat
  tensorOff : Nat
  segOff : Nat
  codeOff : Nat
  codeLen : Nat
deriving DecidableEq, Repr

/-- Read the header. -/
def readProgHdr (i : List Byte) : ProgHdr :=
  { vbeds := fld i 0x0C 2, devices := fld i 0x0E 1, opCount := fld i 0x10 2, tensorCount := fld i 0x12 2,
    segCount := fld i 0x14 2, argCount := fld i 0x16 2, semCount := fld i 0x18 2, opOff := fld i 0x1C 4,
    tensorOff := fld i 0x20 4, segOff := fld i 0x24 4, codeOff := fld i 0x28 4, codeLen := fld i 0x2C 4 }

/-- The sections as (offset, length, alignment). -/
def ProgHdr.secs (h : ProgHdr) : List (Nat × Nat × Nat) :=
  [(h.opOff, 32 * h.opCount, 8), (h.tensorOff, 48 * h.tensorCount, 8), (h.segOff, 32 * h.segCount, 8),
   (h.codeOff, h.codeLen, 64)]

/-- Two sections share a byte. -/
def secsMeet (a b : Nat × Nat × Nat) : Bool :=
  decide (0 < a.2.1) && decide (0 < b.2.1) && decide (a.1 < b.1 + b.2.1) && decide (b.1 < a.1 + a.2.1)

/-- The header and the sections meet check 0x02 (R157, R163). -/
def progHdrOk (i : List Byte) (len : Nat) : Bool :=
  let h := readProgHdr i
  fld i 0 4 == 0x47505A53 && fld i 8 4 == len && allZero i 0x0F 1 && allZero i 0x1A 2 && allZero i 0x30 16 &&
    [1, 2, 4, 8].contains h.devices && decide (1 ≤ h.vbeds) && decide (h.vbeds ≤ 128 * h.devices) &&
    h.vbeds % h.devices == 0 && decide (1 ≤ h.opCount) && decide (1 ≤ h.tensorCount) && decide (h.segCount ≤ 1024) &&
    decide (h.argCount ≤ 256) && decide (h.semCount ≤ 64) &&
    h.secs.all (fun x => decide (64 ≤ x.1) && x.1 % x.2.2 == 0 && decide (x.1 + x.2.1 ≤ len - 48)) &&
    noPair secsMeet h.secs

/-- An operator record (Table 05-3). -/
def readOp (r : List Byte) : OpRec :=
  { kind := fld r 0 2, flags := fld r 2 2, vbedFirst := fld r 4 2, vbedCount := fld r 6 2, tensorFirst := fld r 8 2,
    nIn := fld r 0xA 1, nOut := fld r 0xB 1, codeRel := fld r 0xC 4, codeBytes := fld r 0x10 4, scratch := fld r 0x14 4,
    waitPsem := fld r 0x18 1, signalPsem := fld r 0x19 1, paramBytes := fld r 0x1A 2, paramRel := fld r 0x1C 4 }

/-- A tensor descriptor (Table 05-4). -/
def readTensorRec (r : List Byte) : TensorRec :=
  { format := fld r 0 2, rank := fld r 2 1, bind := fld r 3 1, bindIndex := fld r 4 2,
    dims := [fld r 8 4, fld r 0xC 4, fld r 0x10 4, fld r 0x14 4], offset := fld r 0x18 8, scaleOffset := fld r 0x20 8,
    scale := fld r 0x28 4, reserved := fld r 6 2 + fld r 0x2C 4 }

/-- A weight segment record (Table 05-5). -/
def readSeg (r : List Byte) : SegRec :=
  { kind := fld r 0 1, flags := fld r 1 1, stripes := fld r 2 2, vbedFirst := fld r 4 2, stripeBytes := fld r 8 8,
    pinOff := fld r 0x10 4, reserved := fld r 6 2 + leNat (sub r 0x14 12) }

/-- A program semaphore field. -/
def psemFieldOk (x : Nat) : Bool := decide (x < 64) || x == 0xFF

/-- An operator record meets check 0x02 (Table 05-3, R580). -/
def ProgHdr.opOk (h : ProgHdr) (o : OpRec) : Bool :=
  decide (1 ≤ o.kind) && decide (o.kind ≤ 0x0C) && decide (o.flags ≤ 1) && decide (1 ≤ o.vbedCount) &&
    decide (o.vbedCount ≤ 1024) && decide (o.nIn ≤ 8) && decide (o.nOut ≤ 4) && o.codeRel % 64 == 0 &&
    o.paramRel % 8 == 0 && decide (o.codeRel + o.codeBytes ≤ h.codeLen) &&
    decide (o.paramRel + o.paramBytes ≤ h.codeLen) && psemFieldOk o.waitPsem && psemFieldOk o.signalPsem &&
    decide (o.tensorFirst + o.nIn + o.nOut ≤ h.tensorCount) &&
    (!(o.kind == 1 || o.kind == 2) || (decide (2 ≤ o.nIn) && decide (o.nIn ≤ 3)))

/-- A tensor descriptor meets check 0x02 (Table 05-4). -/
def ProgHdr.tensorOk (h : ProgHdr) (t : TensorRec) : Bool :=
  decide (1 ≤ t.rank) && decide (t.rank ≤ 4) && t.reserved == 0 &&
    (match t.bind with
      | 0 => decide (t.bindIndex < h.argCount)
      | 1 => decide (t.bindIndex < h.segCount)
      | 2 => t.bindIndex == 0
      | _ => false) &&
    (t.dims.take t.rank).all (fun d => decide (1 ≤ d)) && (t.dims.drop t.rank).all (· == 1)

/-- A segment record meets check 0x02 (Table 05-5). -/
def SegRec.ok (g : SegRec) : Bool :=
  (g.kind == 1 || g.kind == 2) && decide (g.flags ≤ 1) && g.reserved == 0 && decide (1 ≤ g.stripes) &&
    decide (g.stripes ≤ 1024) && (g.flags == 0 || g.stripeBytes % 8192 == 0) && (g.kind == 1 || g.pinOff == 0)

/-- The records of an image. -/
def ProgHdr.ops (h : ProgHdr) (i : List Byte) : List OpRec :=
  (List.range h.opCount).map (fun k => readOp (sub i (h.opOff + 32 * k) 32))

/-- The tensor descriptors of an image. -/
def ProgHdr.tensors (h : ProgHdr) (i : List Byte) : List TensorRec :=
  (List.range h.tensorCount).map (fun k => readTensorRec (sub i (h.tensorOff + 48 * k) 48))

/-- The segment records of an image. -/
def ProgHdr.segs (h : ProgHdr) (i : List Byte) : List SegRec :=
  (List.range h.segCount).map (fun k => readSeg (sub i (h.segOff + 32 * k) 32))

/-! ### The checks of Table 05-8 -/

/-- A failed check: ID, refusal, index of the first offending record, virtual Bed, excess in bytes. -/
structure LoadFail where
  id : Nat
  status : Nat
  idx : Nat := 0xFFFF
  vbed : Nat := 0xFFFF
  excess : Nat := 0
deriving DecidableEq, Repr

/-- Check 0x02: the index of the first offending record, 0xFFFF for the header and the sections. -/
def structFail (i : List Byte) (len : Nat) : Option LoadFail :=
  let h := readProgHdr i
  let bad (k : Nat) : LoadFail := { id := 2, status := stREFUSED_FORMAT, idx := k }
  if !progHdrOk i len then some (bad 0xFFFF)
  else match firstIdx (fun o => !h.opOk o) (h.ops i) with
    | some k => some (bad k)
    | none => match firstIdx (fun t => !h.tensorOk t) (h.tensors i) with
      | some k => some (bad k)
      | none => (firstIdx (fun g => !SegRec.ok g) (h.segs i)).map bad

/-- What the checks 0x04 to 0x0D look at: the requester's Plot and the request, the header and records, the binding table. -/
structure LoadIn where
  plot : Nat
  ctx : Nat
  semFirst : Nat
  len : Nat
  hdr : ProgHdr
  ops : List OpRec
  tensors : List TensorRec
  segs : List SegRec
  binds : List Nat
deriving DecidableEq, Repr

/-- An operator's tensors as (index, descriptor). -/
def LoadIn.opTensors (l : LoadIn) (o : OpRec) : List (Nat × TensorRec) :=
  ((List.range (o.nIn + o.nOut)).map (· + o.tensorFirst)).filterMap (fun i => (l.tensors[i]?).map (fun t => (i, t)))

/-- A tensor descriptor of check 0x05: valid format word (R138), TENSOR_SCALE (R164), inner dimension (R136). -/
def TensorRec.formatOk (t : TensorRec) : Bool :=
  validFormats.contains t.format && (t.scale == 0 || [0x0004, 0x0104, 0x0005, 0x0105, 0x0006].contains t.format) &&
    t.dims.headD 1 % fmtGroup t.format == 0

/-- The operand pair of a MATMUL or CONV2D (R139, R580). -/
def LoadIn.pairOk (l : LoadIn) (o : OpRec) : Bool :=
  if o.kind = 1 ∨ o.kind = 2 then
    match l.tensors[o.tensorFirst + 1]?, l.tensors[o.tensorFirst]? with
    | some w, some a => validPair w.format a.format
    | _, _ => false
  else true

/-- TERNARY and SPARSE occur only as weight inputs. -/
def LoadIn.weightOnly (l : LoadIn) (o : OpRec) : Option Nat :=
  ((l.opTensors o).find? (fun t => decide (2 ≤ fmtBlock t.2.format) &&
    !((o.kind == 1 || o.kind == 2) && t.1 == o.tensorFirst + 1))).map (·.1)

/-- Check 0x05 FORMATS. -/
def LoadIn.checkFormats (l : LoadIn) : Option LoadFail :=
  let bad (k : Nat) : LoadFail := { id := 5, status := stREFUSED_FORMAT, idx := k }
  match firstIdx (fun t => !TensorRec.formatOk t) l.tensors with
  | some k => some (bad k)
  | none => match firstIdx (fun o => !l.pairOk o) l.ops with
    | some k => some (bad k)
    | none => (l.ops.findSome? l.weightOnly).map bad

/-- Bytes by which a tensor with its scale array exceeds a length. -/
def TensorRec.excess (t : TensorRec) (len : Nat) : Nat :=
  let d := t.offset + fmtDataBytes t.format t.count
  let c := if fmtScaleBytes t.format t.count = 0 then 0 else t.scaleOffset + fmtScaleBytes t.format t.count
  if validFormats.contains t.format then max d c - len else 0

/-- Check 0x06 TENSORS. -/
def LoadIn.checkTensors (l : LoadIn) : Option LoadFail :=
  let bad (k x : Nat) : LoadFail := { id := 6, status := stREFUSED_FIT, idx := k, excess := x }
  let segT := (l.tensors.zipIdx.find? (fun t => t.1.bind == 1 &&
    decide (0 < t.1.excess (((l.segs[t.1.bindIndex]?).map (·.stripeBytes)).getD 0)))).map (fun t =>
      bad t.2 (t.1.excess (((l.segs[t.1.bindIndex]?).map (·.stripeBytes)).getD 0)))
  let scr := l.ops.findSome? (fun o => ((l.opTensors o).find? (fun t => t.2.bind == 2 &&
    decide (0 < t.2.excess o.scratch))).map (fun t => bad t.1 (t.2.excess o.scratch)))
  let opR := (firstIdx (fun (o : OpRec) => decide (l.hdr.vbeds < o.vbedFirst + o.vbedCount)) l.ops).map (fun k => bad k 0)
  let segR := (firstIdx (fun (g : SegRec) => decide (l.hdr.vbeds < g.vbedFirst + g.stripes)) l.segs).map (fun k => bad k 0)
  firstSome [segT, scr, opR, segR]

/-- Check 0x07 CODE. -/
def LoadIn.checkCode (l : LoadIn) : Option LoadFail :=
  let x (o : OpRec) : Nat := max (o.codeBytes - 49152) (o.paramBytes - 32768)
  (l.ops.zipIdx.find? (fun o => decide (0 < x o.1))).map (fun o =>
    { id := 7, status := stREFUSED_FIT, idx := o.2, excess := x o.1 })

/-- Check 0x08 SEMAPHORES. -/
def State.loadSems (s : State) (l : LoadIn) : Option LoadFail :=
  let n := l.hdr.semCount
  let bad (k : Nat) : LoadFail := { id := 8, status := stREFUSED_PLAN, idx := k }
  if n = 0 ∧ l.semFirst ≠ 0xFFFF then some { id := 8, status := stREFUSED_FORMAT }
  else if 0 < n ∧ !((List.range n).all (fun i => decide (l.semFirst + i < 16384) && s.ownerOf 0x06 (l.semFirst + i) == l.plot)) then
    some (bad 0xFFFF)
  else (firstIdx (fun (o : OpRec) => (o.waitPsem ≠ 0xFF && decide (n ≤ o.waitPsem)) ||
      (o.signalPsem ≠ 0xFF && decide (n ≤ o.signalPsem))) l.ops).map bad

/-- A page of a segment: OWNED by the Plot, RO, and SUB of kind 0 or naming the context. -/
def State.segPageOk (s : State) (l : LoadIn) (a : Nat) : Bool :=
  if reservedBase ≤ a then false
  else match s.pageOf a with
    | none => false
    | some (c, j) =>
      let e := s.entry c j
      entryState e == 1 && entryPlot e == l.plot && bit e 7 &&
        (bits (entrySub e) 11 10 == 0 || (bits (entrySub e) 11 10 == 1 && bits (entrySub e) 9 0 == l.ctx))

/-- Check 0x09 for one segment: its refusal. -/
def State.segRefusal (s : State) (l : LoadIn) (g : SegRec) (a : Nat) : Option Nat :=
  if a % 8192 ≠ 0 then some stREFUSED_FORMAT
  else if (List.range (ceilDiv (g.stripes * g.stripeBytes) 8192)).all (fun i => s.segPageOk l (a + 8192 * i)) then none
  else some stOWNER_FAULT

/-- Check 0x09 BINDINGS. -/
def State.loadBinds (s : State) (l : LoadIn) : Option LoadFail :=
  (l.segs.zip l.binds).zipIdx.findSome? (fun e =>
    (s.segRefusal l e.1.1 e.1.2).map (fun w => { id := 9, status := w, idx := e.2 }))

/-- Check 0x0A GROVE: D = 1, or members 0 to D − 1 of a formed Grove are all present (R269). -/
def State.loadGrove (s : State) (l : LoadIn) : Option LoadFail :=
  if l.hdr.devices = 1 ∨ (s.elx.state = 2 ∧ (List.range l.hdr.devices).all (fun d => bit s.elx.members d)) then none
  else some { id := 0xA, status := stREFUSED_FIT }

/-- The virtual Beds of this device (R157); a program for one device runs whole on any device. -/
def LoadIn.mine (l : LoadIn) (self : Nat) : List Nat :=
  let n := l.hdr.vbeds / l.hdr.devices
  if l.hdr.devices = 1 then List.range n else if self < l.hdr.devices then (List.range n).map (· + self * n) else []

/-- The LOCAL segments with a stripe of a virtual Bed, as (index, record, address). -/
def LoadIn.localOf (l : LoadIn) (v : Nat) : List (Nat × SegRec × Nat) :=
  ((l.segs.zip l.binds).zipIdx.filter (fun e => bit e.1.1.flags 0 && decide (e.1.1.vbedFirst ≤ v) &&
    decide (v < e.1.1.vbedFirst + e.1.1.stripes))).map (fun e => (e.2, e.1.1, e.1.2))

/-- The home channel of a stripe (R165), where its segment lies in one region whose N is STRIPES. -/
def State.homeChannel (s : State) (g : SegRec) (a v : Nat) : Option Nat :=
  match s.plan.bind (fun p => p.region a) with
  | none => none
  | some r =>
    if g.stripes = r.n ∧ a + g.stripes * g.stripeBytes ≤ r.base + r.length then
      r.channels[((a - r.base) / 8192 + (v - g.vbedFirst)) % r.n]?
    else none

/-- Pass 1 of R172 for one virtual Bed: its Bed, if its LOCAL stripes agree on one that is bound and unused. -/
def State.placeLocal (s : State) (locs : List (Nat × SegRec × Nat)) (bound used : List Nat) (v : Nat) : Option Nat :=
  match (locs.map (fun e => s.homeChannel e.2.1 e.2.2 v)).eraseDups with
  | [some n] => if bound.contains n && !used.contains n then some n else none
  | _ => none

/-- The placement rule (R172): the map so far as (virtual Bed, Bed), and the failure with its segment, if one fails. -/
def State.place (s : State) (l : LoadIn) (bound : List Nat) (local_ : Bool) :
    List Nat → List (Nat × Nat) → List (Nat × Nat) × Option (Nat × Nat)
  | [], m => (m, none)
  | v :: r, m =>
    let locs := l.localOf v
    if locs.isEmpty = local_ then s.place l bound local_ r m
    else
      let used := m.map (·.2)
      match (if local_ then s.placeLocal locs bound used v else bound.find? (fun n => !used.contains n)) with
      | some n => s.place l bound local_ r (m ++ [(v, n)])
      | none => (m, some (v, (locs.head?.map (·.1)).getD 0xFFFF))

/-- Both passes. -/
def State.placement (s : State) (l : LoadIn) (bound : List Nat) : List (Nat × Nat) × Option (Nat × Nat) :=
  let mine := l.mine s.self
  match s.place l bound true mine [] with
  | (m, none) => s.place l bound false mine m
  | x => x

/-- What a virtual Bed needs of its share, with the record that needs most (check 0x0C). -/
def LoadIn.need (l : LoadIn) (v : Nat) : Nat × Nat :=
  let a := (l.ops.zipIdx.filter (fun o => decide (o.1.vbedFirst ≤ v) && decide (v < o.1.vbedFirst + o.1.vbedCount))).map
    (fun o => (o.1.scratch, o.2))
  let b := (l.segs.zipIdx.filter (fun g => g.1.kind == 1 && decide (g.1.vbedFirst ≤ v) &&
    decide (v < g.1.vbedFirst + g.1.stripes))).map (fun g => (g.1.pinOff + g.1.stripeBytes, g.2))
  (a ++ b).foldl (fun m x => if m.1 < x.1 then x else m) (0, 0xFFFF)

/-- Check 0x0C SHARES. -/
def State.loadShares (s : State) (l : LoadIn) (m : List (Nat × Nat)) : Option LoadFail :=
  (sortBy (fun a b => decide (a.1 < b.1)) m).findSome? (fun e =>
    let n := l.need e.1
    let have_ := 65536 * s.shareSize l.ctx e.2
    if have_ < n.1 then some { id := 0xC, status := stREFUSED_FIT, idx := n.2, vbed := e.1, excess := n.1 - have_ } else none)

/-- Bytes of the program store that an image takes. -/
def storeBytes (len : Nat) : Nat := 65536 * ceilDiv len 65536

/-- The loaded programs. -/
def State.allProgs (s : State) : List Prog := s.tensor.progs.filterMap (·.2)

/-- Check 0x0D STORE: 4,096 programs, 256 MiB. -/
def State.loadStore (s : State) (l : LoadIn) : Option LoadFail :=
  if s.allProgs.length < 4096 ∧ sumL (s.allProgs.map (fun p => storeBytes p.imageLen)) + storeBytes l.len ≤ 0x10000000 then none
  else some { id := 0xD, status := stMEMORY_EXHAUSTED }

/-- Check 0x04 CONTEXT; before sealing, an enclave context is refused too (R442). -/
def State.loadCtx (s : State) (l : LoadIn) : Option LoadFail :=
  let unsealed := match s.enclaveOf l.ctx with
    | some (_, e) => !e.isSealed
    | none => false
  if (s.ctx? l.ctx).map (·.plot) = some l.plot ∧ (s.ctxProgs l.ctx).length < 16 ∧ !unsealed then none
  else some { id := 4, status := stREFUSED_PLAN }

/-- Checks 0x04 to 0x0D, all of them, in ascending ID (R171), with the placement. -/
def State.loadChecks (s : State) (l : LoadIn) : List LoadFail × List (Nat × Nat) :=
  let bound := ((s.ctx? l.ctx).map (fun x => x.binds.map (·.1))).getD []
  let (m, pf) := s.placement l bound
  let place : Option LoadFail := pf.map (fun e => { id := 0xB, status := stREFUSED_FIT, idx := e.2, vbed := e.1 })
  ([s.loadCtx l, l.checkFormats, l.checkTensors, l.checkCode, s.loadSems l, s.loadBinds l, s.loadGrove l, place,
    s.loadShares l m, s.loadStore l].filterMap id, m)

/-! ### LOAD -/

/-- The reply body of Table 05-7. -/
def loadReply (status first count prog detail : Nat) : Option (Nat × List Byte) :=
  some (status, leBytes 1 status ++ leBytes 1 first ++ leBytes 1 count ++ zeros 1 ++ leBytes 4 prog ++ leBytes 8 detail)

/-- The reply to an access that was refused (R169). -/
def loadOwnerFault : Option (Nat × List Byte) := loadReply stOWNER_FAULT 0 0 0xFFFFFFFF 0xFFFFFFFF

/-- The reply to failed checks. An excess that 32 bits cannot hold is not stated: it is free. -/
def State.loadRefuse (s : State) (f : LoadFail) (count : Nat) : State × Option (Nat × List Byte) :=
  let d (x : Nat) := f.idx % 65536 + 65536 * (f.vbed % 65536) + 0x100000000 * (x % 2 ^ 32)
  if f.excess < 2 ^ 32 then (s, loadReply f.status f.id count 0xFFFFFFFF (d f.excess))
  else let (x, s) := s.fresh
       (s, loadReply f.status f.id count 0xFFFFFFFF (d x.toNat))

/-- The request body passes the test of R582. -/
def loadBodyOk (b : List Byte) : Bool :=
  let len := fld b 4 4
  bodyEnds b 0x20 && decide (fld b 0 2 ≤ 1023) && len % 8 == 0 && decide (112 ≤ len) && decide (len ≤ 16777216) &&
    fld b 8 8 % 64 == 0 && fld b 0x18 8 % 64 == 0 && fld b 0x10 8 % 8 == 0

/-- A free slot of the program store; which one is not stated. -/
def State.pickStore (s : State) : Nat × State :=
  let open_ := (List.range 4096).filter (fun k => (sget (fun _ => none) s.tensor.progs k).isNone)
  let (x, s) := s.fresh
  (open_.getD (x.toNat % open_.length) 0, s)

/-- The program that an image makes, placed. -/
def State.mkProg (s : State) (l : LoadIn) (img : List Byte) (map_ : List (Nat × Nat)) (bindAddr gen : Nat) : Prog :=
  let mine := l.mine s.self
  { gen := gen, ctx := l.ctx, imageLen := l.len, vbeds := l.hdr.vbeds, devices := l.hdr.devices,
    argCount := l.hdr.argCount, semCount := l.hdr.semCount, semFirst := l.semFirst, ops := l.ops, tensors := l.tensors,
    segs := l.segs, code := sub img l.hdr.codeOff l.hdr.codeLen, binds := l.binds, lo := mine.headD 0,
    map := mine.map (fun v => ((map_.find? (fun e => e.1 == v)).map (·.2)).getD 0xFF),
    digest := sub img (l.len - 48) 48, image := img, bindAddr := bindAddr }

/-- The actions of R173 of a load that passed every check. -/
def State.loadCommit (s : State) (st : Stamp) (l : LoadIn) (img : List Byte) (map_ : List (Nat × Nat))
    (bindAddr mapAddr : Nat) : State × Option (Nat × List Byte) :=
  let beds := (l.mine s.self).map (fun v => ((map_.find? (fun e => e.1 == v)).map (·.2)).getD 0xFF)
  match s.memWrite st mapAddr ((beds.map (BitVec.ofNat 8) ++ List.replicate 1024 0xFF).take 1024) with
  | (s, false) => (s, loadOwnerFault)
  | (s, true) =>
    let (slot, s) := s.pickStore
    let gen := sget (fun _ => 0) s.tensor.gens slot
    let p := s.mkProg l img map_ bindAddr gen
    match p.map.foldl (fun (x : State × Bool) n => if x.2 then x.1.pinCopy p n else x) (s, true) with
    | (s, false) => (s, loadOwnerFault)
    | (s, true) =>
      let s := { s with tensor := { s.tensor with progs := sset (fun _ => none) s.tensor.progs slot (some p) } }
      (s.touch, loadReply stDONE 0 0 (gen % 2 ^ 20 * 4096 + slot) 0xFFFFFFFF)

/-- What the checks 0x04 to 0x0D of an image look at, with its binding table. -/
def mkLoadIn (plot ctx semFirst : Nat) (img binds : List Byte) : LoadIn :=
  let h := readProgHdr img
  { plot := plot, ctx := ctx, semFirst := semFirst, len := img.length, hdr := h, ops := h.ops img,
    tensors := h.tensors img, segs := h.segs img, binds := (List.range h.segCount).map (fun i => fld binds (8 * i) 8) }

/-- Read the binding table of an image (R169). -/
def State.readBinds (s : State) (st : Stamp) (img : List Byte) (a : Nat) : State × Option (List Byte) :=
  if (readProgHdr img).segCount = 0 then (s, some []) else s.memRead st a (8 * (readProgHdr img).segCount)

/-- The image passed checks 0x01 to 0x03: the binding table is read, and the checks 0x04 to 0x0D run. -/
def State.loadImage (s : State) (st : Stamp) (b img : List Byte) : State × Option (Nat × List Byte) :=
  match s.readBinds st img (fld b 0x10 8) with
  | (s, none) => (s, loadOwnerFault)
  | (s, some t) =>
    let l := mkLoadIn st.plot (fld b 0 2) (fld b 2 2) img t
    match s.loadChecks l with
    | ([], m) => s.loadCommit st l img m (fld b 0x10 8) (fld b 0x18 8)
    | (f :: r, _) => s.loadRefuse f (r.length + 1)

/-- LOAD (R169 to R173, R442, R582). -/
def State.svcLoad (s : State) (k : Nat) (b : List Byte) : State × Option (Nat × List Byte) :=
  let st := { s.mbxStamp k with ctx := fld b 0 2 }
  let len := fld b 4 4
  if !loadBodyOk b then (s, loadReply stREFUSED_FORMAT 2 1 0xFFFFFFFF 0xFFFFFFFF)
  else match s.memRead st (fld b 8 8) len with
    | (s, none) => (s, loadOwnerFault)
    | (s, some img) =>
      let digest := sub img (len - 48) 48
      let foreign := match s.enclaveOf st.ctx with
        | some (_, e) => e.isSealed && (!e.progs.contains digest || decide (1 < (readProgHdr img).devices))
        | none => false
      if fld img 8 4 ≠ len then s.loadRefuse { id := 2, status := stREFUSED_FORMAT } 1
      else if sha384 (img.take (len - 48)) ≠ digest || foreign then s.loadRefuse { id := 1, status := stINTEGRITY } 1
      else match structFail img len with
        | some f => s.loadRefuse f 1
        | none =>
          if fld img 4 2 = 1 ∧ fld img 6 2 = 0 then s.loadImage st b img
          else s.loadRefuse { id := 3, status := stREFUSED_VERSION } 1

/-! ### UNLOAD -/

/-- Remove a loaded program: the next use of its store slot has the next generation (R174). -/
def State.dropProg (s : State) (slot : Nat) : State :=
  { s with tensor := { s.tensor with
      progs := sset (fun _ => none) s.tensor.progs slot none,
      gens := sset (fun _ => 0) s.tensor.gens slot ((sget (fun _ => 0) s.tensor.gens slot + 1) % 2 ^ 20) } }

/-- A RUN of a program is queued (R581) or in flight. -/
def State.progBusy (s : State) (h : Nat) : Bool :=
  let isRun (c : Cmd) : Bool := c.opcode == 0x01 && fld c.args 0 4 == h
  s.tensor.flights.any (fun f => isRun f.cmd) || s.tensor.queues.any (fun q => match q.2.head with
    | some x => isRun x.cmd
    | none => false)

/-- UNLOAD (R176). -/
def State.svcUnload (s : State) (k : Nat) (b : List Byte) : State × Option (Nat × List Byte) :=
  let ctx := fld b 0 2
  let h := fld b 4 4
  if !allZero b 2 2 || !bodyEnds b 8 || 1023 < ctx then (s, some (stREFUSED_FORMAT, []))
  else if (s.ctx? ctx).map (·.plot) ≠ some (s.mbxPlot k) then (s, some (stREFUSED_PLAN, []))
  else if (s.prog? h).map (·.ctx) ≠ some ctx then (s, some (stREFUSED_FORMAT, []))
  else if s.progBusy h then (s, some (stBUSY, []))
  else ((s.dropProg (h % 4096)).touch, some (stDONE, []))

/-! ### The context service (Table 07-1) -/

/-- Make a context non-resident on a Bed. -/
def State.unreside (s : State) (c n : Nat) : State :=
  let s := match s.residentSlot c n with
    | some k => s.vacate n k
    | none => s
  { s with tensor := { s.tensor with moves := s.tensor.moves.filter (fun m => !(m.1 == n && m.2.2 == c)) } }

/-- Remove a context: its residency, its bindings, its number. -/
def State.dropCtx (s : State) (c : Nat) : State :=
  let s := (((s.ctx? c).map (fun x => x.binds.map (·.1))).getD []).foldl (fun (s : State) n => s.unreside c n) s
  { s with tensor := { s.tensor with ctxs := sset (fun _ => none) s.tensor.ctxs c none } }

/-- CTX_CREATE. -/
def State.svcCtxCreate (s : State) (k : Nat) (b : List Byte) : State × Option (Nat × List Byte) :=
  let plot := s.mbxPlot k
  let held := (s.tensor.ctxs.filter (fun e => (e.2.map (·.plot)) == some plot)).length
  let quota := ((s.plotRec plot).map (·.quota)).getD 0
  if !bodyEnds b 0 then (s, ctxReply stREFUSED_FORMAT 0)
  else match (List.range 1024).find? (fun c => (s.ctx? c).isNone) with
    | none => (s, ctxReply stREFUSED_FIT 0)
    | some c =>
      if quota ≤ held then (s, ctxReply stREFUSED_FIT 0)
      else
        let x : CtxSt := { plot := plot, via := k }
        ({ s with tensor := { s.tensor with ctxs := sset (fun _ => none) s.tensor.ctxs c (some x) } }, ctxReply stDONE c)

/-- CTX_DESTROY; an enclave context is BUSY (R442). -/
def State.svcCtxDestroy (s : State) (k : Nat) (b : List Byte) : State × Option (Nat × List Byte) :=
  let c := fld b 0 2
  if !bodyEnds b 2 || 1023 < c then (s, ctxReply stREFUSED_FORMAT c)
  else if (s.ctx? c).map (·.plot) ≠ some (s.mbxPlot k) then (s, ctxReply stREFUSED_PLAN c)
  else if s.ctxHasProg c || s.ctxHasSpace c || s.ctxHasCommand c || (s.enclaveOf c).isSome then (s, ctxReply stBUSY c)
  else ((s.dropCtx c).touch, ctxReply stDONE c)

/-- The contexts that have a slot as their home slot. -/
def State.homed (s : State) (n slot : Nat) : Nat :=
  (s.tensor.ctxs.filter (fun e => (e.2.bind (fun x => x.home n)) == some slot)).length

/-- CTX_BIND. -/
def State.svcCtxBind (s : State) (k : Nat) (b : List Byte) : State × Option (Nat × List Byte) :=
  let c := fld b 0 2
  let n := fld b 2 1
  let slot := fld b 3 1
  let plot := s.mbxPlot k
  if !bodyEnds b 4 || 1023 < c || 128 ≤ n || 4 ≤ slot then (s, ctxReply stREFUSED_FORMAT c)
  else match s.ctx? c with
    | none => (s, ctxReply stREFUSED_PLAN c)
    | some x =>
      if x.plot ≠ plot || s.ownerOf 0x03 n ≠ plot || (s.share n slot).1 == 0 || (s.share n slot).2.2 ≠ plot ||
          (x.home n).isSome then (s, ctxReply stREFUSED_PLAN c)
      else if 8 ≤ s.homed n slot then (s, ctxReply stREFUSED_FIT c)
      else ((s.updCtx c (fun x => { x with binds := sins x.binds n slot })).touch, ctxReply stDONE c)

/-- A binding is in use: a program of the context is placed on the Bed, one of its operations is in flight there, or a
space of it lies in the Bed's Pavilion and this is its only binding there. -/
def State.bindingBusy (s : State) (c n : Nat) (x : CtxSt) : Bool :=
  (s.ctxProgs c).any (fun p => p.map.contains n) ||
    s.tensor.flights.any (fun f => f.cmd.ctx == c && f.ops.any (fun o => o.status.isNone && o.parts.any (fun b => b.bed == n))) ||
    (s.tensor.spaces.any (fun e => (e.2.map (·.ctx)) == some c && e.1 / 4 == n / 8) &&
      x.binds.all (fun e => e.1 == n || e.1 / 8 ≠ n / 8))

/-- CTX_UNBIND; the last binding of an enclave context is BUSY (R442). -/
def State.svcCtxUnbind (s : State) (k : Nat) (b : List Byte) : State × Option (Nat × List Byte) :=
  let c := fld b 0 2
  let n := fld b 2 1
  if !bodyEnds b 3 || 1023 < c || 128 ≤ n then (s, ctxReply stREFUSED_FORMAT c)
  else match s.ctx? c with
    | none => (s, ctxReply stREFUSED_PLAN c)
    | some x =>
      if x.plot ≠ s.mbxPlot k || (x.home n).isNone then (s, ctxReply stREFUSED_PLAN c)
      else if s.bindingBusy c n x || ((s.enclaveOf c).isSome && x.binds.length == 1) then (s, ctxReply stBUSY c)
      else (((s.unreside c n).updCtx c (fun x => { x with binds := sdel x.binds n, blocked := sdel x.blocked n })).touch,
        ctxReply stDONE c)

/-- The accounting record (Table 07-4). -/
def CtxSt.record (x : CtxSt) (c : Nat) : List Byte :=
  leBytes 2 c ++ leBytes 1 x.plot ++ zeros 5 ++ leBytes 8 x.commands ++ leBytes 8 x.queueNs ++ leBytes 8 x.semNs ++
    leBytes 8 x.resNs ++ leBytes 8 x.runNs ++ leBytes 4 x.preemptions ++ leBytes 4 x.evictions ++
    leBytes 4 x.residencies ++ leBytes 4 x.misses

/-- CTX_STATS. -/
def State.svcCtxStats (s : State) (k : Nat) (b : List Byte) : State × Option (Nat × List Byte) :=
  let c := fld b 0 2
  if !allZero b 2 6 || !bodyEnds b 16 || 1023 < c || fld b 8 8 % 64 ≠ 0 then (s, ctxReply stREFUSED_FORMAT c)
  else match s.ctx? c with
    | none => (s, ctxReply stREFUSED_PLAN c)
    | some x =>
      if x.plot ≠ s.mbxPlot k then (s, ctxReply stREFUSED_PLAN c)
      else match s.memWrite { s.mbxStamp k with ctx := c } (fld b 8 8) (x.record c) with
        | (s, true) => (s, ctxReply stDONE c)
        | (s, false) => (s, ctxReply stOWNER_FAULT c)

/-! ### The residency tick (R239) -/

/-- A waiting context: the class of the head's queue, when the head became waiting, the context, its set. -/
structure Waiter where
  cls : Nat
  since : Nat
  ctx : Nat
  beds : List Nat
deriving DecidableEq, Repr

/-- The waiting contexts (R238) in the order of R239. -/
def State.waiters (s : State) : List Waiter :=
  let l := s.tensor.queues.filterMap (fun e => match e.2.head with
    | some h => h.waitingSince.map (fun t =>
        { cls := s.queueClass e.1, since := t, ctx := h.cmd.ctx,
          beds := s.waitSet e.1 h.cmd : Waiter })
    | none => none)
  sortBy (fun a b => decide (b.cls < a.cls) || (a.cls == b.cls && (decide (a.since < b.since) ||
    (a.since == b.since && decide (a.ctx < b.ctx))))) l

/-- The resident contexts of a Bed with their slots, and since when each has been blocked. A context to which the Keeper has
given a slot counts as resident in it, and not as blocked. -/
def State.residentsOf (s : State) (n : Nat) : List (Nat × Nat × Option Nat) :=
  (List.range 4).filterMap (fun k => match s.tensor.moves.find? (fun m => m.1 == n && m.2.1 == k) with
    | some m => some (k, m.2.2, none)
    | none => (s.slotCtx n k).map (fun c =>
        (k, c, ((s.ctx? c).bind (fun x => x.blocked.find? (fun b => b.1 == n))).map (·.2))))

/-- A slot of a Bed belongs to a Plot and is large enough. -/
def State.slotFits (s : State) (n k plot units : Nat) : Bool :=
  (s.share n k).2.2 == plot && decide (0 < (s.share n k).1) && decide (units ≤ (s.share n k).1)

/-- The slot that a waiting context takes on a Bed, and whom it evicts; `moved` lists the contexts that this tick moved. -/
def State.slotFor (s : State) (c n : Nat) (moved : List Nat) : Option (Nat × Option Nat) :=
  let plot := ((s.ctx? c).map (·.plot)).getD 0xFF
  let units := s.shareSize c n
  match (List.range 4).find? (fun k => (s.slotCtx n k).isNone && s.slotFits n k plot units &&
      !s.tensor.moves.any (fun m => m.1 == n && m.2.1 == k)) with
  | some k => some (k, none)
  | none =>
    let micros := bits (s.rd .pavEvictAfter (n / 8)) 23 0
    let rs := s.residentsOf n
    let since (r : Nat × Nat × Option Nat) : Nat := r.2.2.getD s.now
    match (sortBy (fun a b => decide (since a < since b)) rs).head? with
    | none => none
    | some v =>
      if micros ≠ 0 && rs.all (fun r => r.2.2.isSome && decide (1000 * micros < s.now - since r)) &&
          s.slotFits n v.1 plot units && !moved.contains v.2.1 then some (v.1, some v.2.1)
      else none

/-- The Keeper gives a context a slot of a Bed (R225): a Bed that does not read ON gets the target ON, and the slot changes hands as
soon as the Bed allows it. -/
def State.reside (s : State) (c n k : Nat) : State :=
  let s := if (s.bed n).pwr = .on then s else s.bedWrite .keeper .bedPwr n 4 2 0
  { s with tensor := { s.tensor with moves := s.tensor.moves ++ [(n, k, c)] } }.runMoves n

/-- Take one waiting context of a tick. -/
def State.serveWaiter (x : State × List Nat) (w : Waiter) : State × List Nat :=
  let s := x.1
  let slots := w.beds.map (fun n => (s.slotFor w.ctx n x.2).map (fun k => (n, k)))
  if x.2.contains w.ctx || s.tensor.moves.any (fun m => m.2.2 == w.ctx) || !slots.all (·.isSome) then x
  else
    let l := slots.filterMap id
    (l.foldl (fun (s : State) e => s.reside w.ctx e.1 e.2.1) s, w.ctx :: l.filterMap (fun e => e.2.2) ++ x.2)

/-- One tick of R239; a handover pauses the ticks (R531). -/
def State.residencyTick (s : State) : State :=
  let s := s.touch
  if s.kpr.draining || s.kpr.state == 2 then s else (s.waiters.foldl State.serveWaiter (s, [])).1.touch

/-! ### Commands -/

/-- LOAD (R169 to R173). -/
def execLoad (mbx : Mbx) (s : State) : Host.Outcome State Fault Refusal := .next (s.serve mbx 0x10 State.svcLoad)

/-- UNLOAD (R176). -/
def execUnload (mbx : Mbx) (s : State) : Host.Outcome State Fault Refusal := .next (s.serve mbx 0x11 State.svcUnload)

/-- CTX_CREATE (R220). -/
def execCtxCreate (mbx : Mbx) (s : State) : Host.Outcome State Fault Refusal := .next (s.serve mbx 0x20 State.svcCtxCreate)

/-- CTX_DESTROY (R220, R223). -/
def execCtxDestroy (mbx : Mbx) (s : State) : Host.Outcome State Fault Refusal := .next (s.serve mbx 0x21 State.svcCtxDestroy)

/-- CTX_BIND (R220). -/
def execCtxBind (mbx : Mbx) (s : State) : Host.Outcome State Fault Refusal := .next (s.serve mbx 0x22 State.svcCtxBind)

/-- CTX_UNBIND (R220). -/
def execCtxUnbind (mbx : Mbx) (s : State) : Host.Outcome State Fault Refusal := .next (s.serve mbx 0x23 State.svcCtxUnbind)

/-- CTX_STATS (R242). -/
def execCtxStats (mbx : Mbx) (s : State) : Host.Outcome State Fault Refusal := .next (s.serve mbx 0x24 State.svcCtxStats)

/-- RESIDENCY_TICK (R239). -/
def execResidencyTick (s : State) : Host.Outcome State Fault Refusal := .next s.residencyTick

end Sys2Proof.Machine
end

