-- ==== Sys2Proof/Machine/Crc.lean ====
section
/-! DEFINITION. The check values of spec/11 (R364, Table 11-9). -/

namespace Sys2Proof.Machine

/-- A parameter set of a check value (R364). -/
structure CrcSet where
  width : Nat
  poly : Nat
  init : Nat
  refin : Bool
  refout : Bool
  xorout : Nat
deriving DecidableEq, Repr

/-- The low `n` bits in reverse order. -/
def reflect (n x : Nat) : Nat := (List.range n).foldl (fun a i => 2 * a + x / 2 ^ i % 2) 0

/-- `n` shifts of the register (R364). -/
def crcShift (c : CrcSet) : Nat → Nat → Nat
  | 0, reg => reg
  | n + 1, reg =>
    crcShift c n (if reg / 2 ^ (c.width - 1) % 2 = 1 then (reg * 2) % 2 ^ c.width ^^^ c.poly else (reg * 2) % 2 ^ c.width)

/-- One byte of the register's run. -/
def CrcSet.byte (c : CrcSet) (reg : Nat) (b : Byte) : Nat :=
  crcShift c 8 (reg ^^^ ((if c.refin then reflect 8 b.toNat else b.toNat) * 2 ^ (c.width - 8)))

/-- The register after some bytes. -/
def CrcSet.run (c : CrcSet) (reg : Nat) (l : List Byte) : Nat := l.foldl c.byte reg

/-- The final value of a register. -/
def CrcSet.final (c : CrcSet) (reg : Nat) : Nat := (if c.refout then reflect c.width reg else reg) ^^^ c.xorout

/-- The check value of bytes from INIT. -/
def CrcSet.value (c : CrcSet) (l : List Byte) : Nat := c.final (c.run c.init l)

/-- A value as it is stored: the most significant byte first when REFOUT is 0. -/
def CrcSet.stored (c : CrcSet) (v : Nat) : List Byte :=
  if c.refout then leBytes (c.width / 8) v else beBytes (c.width / 8) v

/-- The fixed parameter sets (Table 11-9). -/
def crcFixed : Nat → CrcSet
  | 0 => ⟨8, 0x1D, 0xFF, false, false, 0xFF⟩
  | 1 => ⟨8, 0x2F, 0xFF, false, false, 0xFF⟩
  | 2 => ⟨16, 0x1021, 0xFFFF, false, false, 0⟩
  | 3 => ⟨16, 0x8005, 0, true, true, 0⟩
  | 4 => ⟨32, 0x04C11DB7, 0xFFFFFFFF, true, true, 0xFFFFFFFF⟩
  | 5 => ⟨32, 0x1EDC6F41, 0xFFFFFFFF, true, true, 0xFFFFFFFF⟩
  | 6 => ⟨32, 0xF4ACFB13, 0xFFFFFFFF, true, true, 0xFFFFFFFF⟩
  | _ => ⟨64, 0x42F0E1EBA9EA3693, 0xFFFFFFFFFFFFFFFF, true, true, 0xFFFFFFFFFFFFFFFF⟩

end Sys2Proof.Machine
end

