-- ==== Sys2Proof/Machine/Raster.lean ====
section
/-! DEFINITION. The arithmetic of the raster pipeline and the texture units of spec/10 (R319, R321 to R323, Tables 10-6 and 10-7).
Positions and weights are exact; a result is rounded once (R145). -/

namespace Sys2Proof.Machine

/-! ### Pixel formats (Table 10-6) -/

/-- Bytes per pixel of a format; 0 for a reserved code. -/
def fmtBytes : Nat → Nat
  | 0x01 => 1 | 0x02 => 2 | 0x03 => 4 | 0x04 => 4 | 0x05 => 4 | 0x06 => 2 | 0x07 => 8 | 0x08 => 4 | 0x09 => 2
  | 0x10 => 4 | 0x11 => 4 | _ => 0

/-- A texture or colour-target format. -/
def isColourFmt (f : Nat) : Bool := decide (1 ≤ f) && decide (f ≤ 9)

/-- A display-plane format. -/
def isPlaneFmt (f : Nat) : Bool := [3, 4, 5, 7, 9].contains f

/-- FP32 one. -/
abbrev f32One : Nat := 0x3F800000

/-- num ÷ den rounded to FP32. -/
def f32Quot (num : Int) (den : Nat) : Nat := toF32 ((Num.ofInt num).div (Num.ofInt den))

/-- An n-bit UNORM code as FP32. -/
def unormOf (n x : Nat) : Nat := f32Quot (x % 2 ^ n) (2 ^ n - 1)

/-- An FP32 value as an n-bit UNORM code; of NaN the manual states none. -/
def unormTo (n x : Nat) : Nat :=
  match ofF32 x with
  | .nan => (Config.pixelOpen 0 [n, x]).toNat % 2 ^ n
  | .inf neg => if neg then 0 else 2 ^ n - 1
  | .fin neg m e => min (roundInt neg (m * (2 ^ n - 1)) e).toNat (2 ^ n - 1)

/-- An FP16 code as FP32. -/
def halfOf (x : Nat) : Nat := toF32 (decodeElem 0x03 (x % 65536))

/-- An FP32 value as an FP16 code. -/
def halfTo (x : Nat) : Nat := (convertElem 0x03 false x).1

/-- R, G, B and A as FP32 of a pixel's little-endian number. Channels that a format lacks are 0, alpha 1. -/
def pixelDecode (fmt v : Nat) : List Nat :=
  match fmt with
  | 0x01 => [unormOf 8 v, 0, 0, f32One]
  | 0x02 => [unormOf 8 v, unormOf 8 (v / 256), 0, f32One]
  | 0x03 => [unormOf 8 v, unormOf 8 (v / 256), unormOf 8 (v / 65536), unormOf 8 (v / 16777216)]
  | 0x04 => [(Config.srgbToLinear (v % 256)).toNat, (Config.srgbToLinear (v / 256 % 256)).toNat,
      (Config.srgbToLinear (v / 65536 % 256)).toNat, unormOf 8 (v / 16777216)]
  | 0x05 => [unormOf 10 v, unormOf 10 (v / 1024), unormOf 10 (v / 1048576), unormOf 2 (v / 1073741824)]
  | 0x06 => [halfOf v, 0, 0, f32One]
  | 0x07 => [halfOf v, halfOf (v / 65536), halfOf (v / 4294967296), halfOf (v / 281474976710656)]
  | 0x08 => [v % 2 ^ 32, 0, 0, f32One]
  | _ => [unormOf 5 (v / 2048), unormOf 6 (v / 32), unormOf 5 v, f32One]

/-- The pixel of four FP32 channels in a format. -/
def pixelEncode (fmt : Nat) (c : List Nat) : Nat :=
  let r := c.getD 0 0
  let g := c.getD 1 0
  let b := c.getD 2 0
  let a := c.getD 3 0
  let s (x : Nat) : Nat := (Config.linearToSrgb (BitVec.ofNat 32 x)).toNat
  match fmt with
  | 0x01 => unormTo 8 r
  | 0x02 => unormTo 8 r + 256 * unormTo 8 g
  | 0x03 => unormTo 8 r + 256 * unormTo 8 g + 65536 * unormTo 8 b + 16777216 * unormTo 8 a
  | 0x04 => s r + 256 * s g + 65536 * s b + 16777216 * unormTo 8 a
  | 0x05 => unormTo 10 r + 1024 * unormTo 10 g + 1048576 * unormTo 10 b + 1073741824 * unormTo 2 a
  | 0x06 => halfTo r
  | 0x07 => halfTo r + 65536 * halfTo g + 4294967296 * halfTo b + 281474976710656 * halfTo a
  | 0x08 => r % 2 ^ 32
  | _ => unormTo 5 b + 32 * unormTo 6 g + 2048 * unormTo 5 r

/-- Premultiplied source-over in FP32 (R321). -/
def sourceOver (src dst : List Nat) : List Nat :=
  let k := f32Sub f32One (src.getD 3 0)
  src.zipWith (fun x d => f32Add x (f32Mul d k)) dst

/-! ### Triangles (R319, R321) -/

/-- A finite FP32 value in units of 2^-149. -/
def f32Int (x : Nat) : Option Int :=
  match ofF32 x with
  | .fin s m e => some (alignInt s m e (-149))
  | _ => none

/-- A vertex as the pixel pipeline sees it: (X, Y, W) with pixel coordinates X ÷ W and Y ÷ W, z, and w. -/
structure PixVert where
  x : Int
  y : Int
  w2 : Int
  z : Int
  w : Int
deriving DecidableEq, Repr

/-- Map a clip-space vertex to pixels (R319). -/
def pixVert (width height : Nat) (v : List Nat) : Option PixVert :=
  match f32Int (v.getD 0 0), f32Int (v.getD 1 0), f32Int (v.getD 2 0), f32Int (v.getD 3 0) with
  | some x, some y, some z, some w => some ⟨(x + w) * width, (w - y) * height, 2 * w, z, w⟩
  | _, _, _, _ => none

/-- The edge opposite to a vertex as A x + B y + C over pixel coordinates. -/
def edgeOf (a b : PixVert) : Int × Int × Int := (a.y * b.w2 - b.y * a.w2, a.w2 * b.x - b.w2 * a.x, a.x * b.y - b.x * a.y)

/-- The signed volume of a triangle; negative for one that is counter-clockwise on the screen. -/
def triDet (a b c : PixVert) : Int :=
  let e := edgeOf b c
  e.1 * a.x + e.2.1 * a.y + e.2.2 * a.w2

/-- The value of an edge at a pixel centre. -/
def edgeAt (e : Int × Int × Int) (px py : Nat) : Int := e.1 * (2 * px + 1) + e.2.1 * (2 * py + 1) + e.2.2 * 2

/-- The three vertices of a triangle. -/
def triVerts (width height : Nat) (verts : List (List Nat)) : Option (PixVert × PixVert × PixVert) :=
  match pixVert width height (verts.getD 0 []), pixVert width height (verts.getD 1 []), pixVert width height (verts.getD 2 []) with
  | some a, some b, some c => some (a, b, c)
  | _, _, _ => none

/-- A triangle faces the front (R319); one whose coordinates are not finite is kept. -/
def triFront (width height : Nat) (verts : List (List Nat)) : Bool :=
  match triVerts width height verts with
  | some (a, b, c) => decide (triDet a b c < 0)
  | none => true

/-- The edges of a triangle, turned so that they are positive inside. -/
def triEdges (a b c : PixVert) : List (Int × Int × Int) :=
  let g : Int := if triDet a b c < 0 then -1 else 1
  [edgeOf b c, edgeOf c a, edgeOf a b].map (fun e => (g * e.1, g * e.2.1, g * e.2.2))

/-- A centre is inside an edge, on a top or left edge included. -/
def insideEdge (e : Int × Int × Int) (v : Int) : Bool :=
  decide (0 < v) || (v == 0 && (decide (0 < e.1) || (e.1 == 0 && decide (0 < e.2.1))))

/-- The edge values and depth (as a quotient) of the fragment of a triangle at a pixel: none where it covers none (R319, R321). -/
def fragmentAt (a b c : PixVert) (px py : Nat) : Option (List Int × Int × Nat) :=
  let es := triEdges a b c
  let v := es.map (fun e => edgeAt e px py)
  let sum := v.foldl (· + ·) 0
  let num := (v.zipWith (· * ·) [a.z, b.z, c.z]).foldl (· + ·) 0
  let den := (v.zipWith (· * ·) [a.w, b.w, c.w]).foldl (· + ·) 0
  if triDet a b c ≠ 0 ∧ (es.zipWith insideEdge v).all id ∧ 0 < sum ∧ 0 < den ∧ 0 ≤ num ∧ num ≤ den then
    some (v, num, den.toNat)
  else none

/-- A triangle covers a pixel. -/
def triCovers (width height : Nat) (verts : List (List Nat)) (px py : Nat) : Bool :=
  match triVerts width height verts with
  | some (a, b, c) => (fragmentAt a b c px py).isSome
  | none => Config.rasterOpen ((verts.flatMap (·.take 4)).map (BitVec.ofNat 32)) px py

/-- The depth of a triangle at a pixel in a depth format: a 24-bit code, or FP32 bits. -/
def triDepth (width height fmt : Nat) (verts : List (List Nat)) (px py : Nat) : Nat :=
  match (triVerts width height verts).bind (fun t => fragmentAt t.1 t.2.1 t.2.2 px py) with
  | some (_, num, den) => if fmt = 0x10 then (roundRne (num * (2 ^ 24 - 1)) den).toNat else f32Quot num den
  | none => (Config.pixelOpen 1 (px :: py :: verts.flatMap (·.take 4))).toNat % (if fmt = 0x10 then 2 ^ 24 else 2 ^ 32)

/-- An attribute component at a pixel, perspective-correct (R310). -/
def triAttr (width height k : Nat) (verts : List (List Nat)) (px py : Nat) : Nat :=
  let open_ := (Config.pixelOpen 2 (k :: px :: py :: verts.flatMap id)).toNat
  match triVerts width height verts, verts.map (fun v => f32Int (v.getD (4 + k) 0)) with
  | some (a, b, c), [some p, some q, some r] =>
    let v := (triEdges a b c).map (fun e => edgeAt e px py)
    let sum := v.foldl (· + ·) 0
    let num := (v.zipWith (· * ·) [p, q, r]).foldl (· + ·) 0
    if sum = 0 then open_
    else toF32 (((Num.ofInt num).div (Num.ofInt sum)).mul (.fin false 1 (-149)))
  | _, _ => open_

/-- A depth function (Table 10-5); FP32 depths compare as numbers. -/
def depthPasses (func fmt new old : Nat) : Bool :=
  let lt (a b : Nat) : Bool := if fmt = 0x10 then decide (a < b) else (ofF32 a).lt (ofF32 b)
  match func with
  | 0 => lt new old
  | 1 => !lt old new
  | 2 => lt old new
  | _ => true

/-! ### Textures (R322, R323) -/

/-- A texture descriptor (Table 10-7). -/
structure TexDesc where
  base : Nat
  width : Nat
  height : Nat
  fmt : Nat
  levels : Nat
  sparse : Bool
  wrap : Nat
  linear : Bool
  resMap : Nat
deriving DecidableEq, Repr

/-- Read a texture descriptor; none where it holds a reserved value. -/
def readTex (r : List Byte) : Option TexDesc :=
  let f := fld r 0xE 1
  let d : TexDesc := {
    base := fld r 0 8, width := fld r 8 2, height := fld r 0xA 2, fmt := fld r 0xC 1, levels := fld r 0xD 1,
    sparse := bit f 0, wrap := bits f 2 1, linear := bit f 3, resMap := fld r 0x10 8 }
  if d.base % 65536 = 0 ∧ 1 ≤ d.width ∧ d.width ≤ 16384 ∧ 1 ≤ d.height ∧ d.height ≤ 16384 ∧ isColourFmt d.fmt ∧ 1 ≤ d.levels ∧
      d.levels ≤ 15 ∧ f < 16 ∧ d.wrap ≠ 3 ∧ fld r 0xF 1 = 0 ∧ allZero r 0x18 8 then some d else none

/-- Width and height of a texture tile. -/
def tileDims (bytes : Nat) : Nat × Nat :=
  match bytes with
  | 1 => (256, 256)
  | 2 => (256, 128)
  | 4 => (128, 128)
  | _ => (128, 64)

/-- The size of a level. -/
def TexDesc.dims (d : TexDesc) (l : Nat) : Nat × Nat := (max 1 (d.width / 2 ^ l), max 1 (d.height / 2 ^ l))

/-- Texture tiles of a row of a level, and of the level. -/
def TexDesc.tiles (d : TexDesc) (l : Nat) : Nat × Nat :=
  let t := tileDims (fmtBytes d.fmt)
  let n := ceilDiv (d.dims l).1 t.1
  (n, n * ceilDiv (d.dims l).2 t.2)

/-- The texture tile of a texel. -/
def TexDesc.tileOf (d : TexDesc) (l x y : Nat) : Nat :=
  let t := tileDims (fmtBytes d.fmt)
  sumL ((List.range l).map (fun i => (d.tiles i).2)) + y / t.2 * (d.tiles l).1 + x / t.1

/-- The address of a texel. -/
def TexDesc.addr (d : TexDesc) (l x y : Nat) : Nat :=
  let t := tileDims (fmtBytes d.fmt)
  d.base + 65536 * d.tileOf l x y + (y % t.2 * t.1 + x % t.1) * fmtBytes d.fmt

/-- The floor of a finite value. -/
def Num.floor? : Num → Option Int
  | .fin s m e =>
    let i : Int := if s then -(m : Int) else m
    some (if 0 ≤ e then i * 2 ^ e.toNat else i / (2 ^ (-e).toNat : Nat))
  | _ => none

/-- A texel index wrapped into a level (Table 10-7). -/
def wrapIndex (wrap n : Nat) (i : Int) : Nat :=
  match wrap with
  | 0 => (i % (n : Int)).toNat
  | 1 => if i < 0 then 0 else min i.toNat (n - 1)
  | _ =>
    let j := (i % (2 * n : Int)).toNat
    if j < n then j else 2 * n - 1 - j

/-- The texel indices that a coordinate needs along one axis, with their weights. -/
def axisTexels (linear : Bool) (wrap n : Nat) (c : Num) : Option (List (Num × Nat)) :=
  let x := c.mul (Num.ofInt n)
  if linear then
    let x := x.add (.fin true 1 (-1))
    x.floor?.map (fun i =>
      let f := x.add (Num.ofInt (-i))
      [((Num.ofInt 1).add f.negate, wrapIndex wrap n i), (f, wrapIndex wrap n (i + 1))])
  else x.floor?.map (fun i => [(Num.ofInt 1, wrapIndex wrap n i)])

/-- The texels of one level that a sample needs, with their weights. -/
def TexDesc.levelTexels (d : TexDesc) (u v : Num) (l : Nat) : Option (List (Num × Nat × Nat × Nat)) :=
  match axisTexels d.linear d.wrap (d.dims l).1 u, axisTexels d.linear d.wrap (d.dims l).2 v with
  | some xs, some ys => some (ys.flatMap (fun y => xs.map (fun x => (x.1.mul y.1, l, x.2, y.2))))
  | _, _ => none

/-- A level of detail held to the levels of a texture. -/
def TexDesc.clampLod (d : TexDesc) (lod : Num) : Num :=
  let top := Num.ofInt (d.levels - 1 : Nat)
  if lod.lt (Num.ofInt 0) then Num.ofInt 0 else if top.lt lod then top else lod

/-- The texels (level, x, y) that a sample needs, with their weights; none where a coordinate is not finite. -/
def TexDesc.texels (d : TexDesc) (lod u v : Num) : Option (List (Num × Nat × Nat × Nat)) :=
  let lam := d.clampLod lod
  if d.linear then
    match lam.floor? with
    | none => none
    | some i =>
      let f := lam.add (Num.ofInt (-i))
      match d.levelTexels u v i.toNat, d.levelTexels u v (min (i.toNat + 1) (d.levels - 1)) with
      | some a, some b =>
        some (a.map (fun t => (t.1.mul ((Num.ofInt 1).add f.negate), t.2)) ++ b.map (fun t => (t.1.mul f, t.2)))
      | _, _ => none
  else (lam.add (.fin false 1 (-1))).floor?.bind (fun i => d.levelTexels u v i.toNat)

/-- A channel of a sample: the weighted sum, rounded to FP32. -/
def weighted (l : List (Num × List Nat)) (ch : Nat) : Nat :=
  toF32 (l.foldl (fun acc t => acc.add (t.1.mul (ofF32 (t.2.getD ch 0)))) (Num.ofInt 0))

end Sys2Proof.Machine
end

