-- ==== Sys2Proof/Machine/Display.lean ====
section
/-! DEFINITION. The display pipes of spec/10 (R328 to R338, R341, R342): planes and commits, composition, latches and
registers. Composition is exact; a code is rounded once (R145). -/

namespace Sys2Proof.Machine

/-! ### Pipes and planes -/

/-- A display pipe. -/
def State.pipe (s : State) (n : Nat) : DspPipe := sget (fun _ => {}) s.dsp.pipes n

/-- Change a display pipe. -/
def State.setPipe (s : State) (n : Nat) (x : DspPipe) : State :=
  { s with dsp := { s.dsp with pipes := sset (fun _ => {}) s.dsp.pipes n x } }

/-- The record of a pipe that a Plot owns: the pipe runs its timing (R328). -/
def State.pipeRec (s : State) (n : Nat) : Option PipeRec :=
  if s.ownerOf 0x0E n < 16 then s.plan.bind (fun p => p.pipe n) else none

/-- MISS_SEVERITY of a pipe's record (R33). DESIGN CHOICE: a pipe without one has severity 0, whatever its Plot. -/
def State.pipeSev (s : State) (n : Nat) : Nat := ((s.plan.bind (fun p => p.classRec 0x0E n)).map (·.sev)).getD 0

/-- A record of a pipe. -/
def State.dspRec (s : State) (n cls sev st detail : Nat) : FaultRec :=
  { s.mkRec .dsp n cls sev st with plot := s.ownerOf 0x0E n, detail := detail }

/-- An active plane. -/
def DspPipe.plane (x : DspPipe) (j : Nat) : DspPlane := sget (fun _ => {}) x.planes j

/-- A plane's commit that waits for the latch. -/
def DspPipe.commit (x : DspPipe) (j : Nat) : Option DspPlane := sget (fun _ => none) x.commits j

/-- ENABLE, EXPECT and REPROJECT of a plane. -/
def DspPlane.on (p : DspPlane) : Bool := bit p.cfg 0
/-- EXPECT. -/
def DspPlane.expect (p : DspPlane) : Bool := bit p.cfg 1
/-- REPROJECT. -/
def DspPlane.reproject (p : DspPlane) : Bool := bit p.cfg 2
/-- FORMAT. -/
def DspPlane.fmt (p : DspPlane) : Nat := bits p.cfg 15 8
/-- Width. -/
def DspPlane.w (p : DspPlane) : Nat := bits p.size 13 0
/-- Height. -/
def DspPlane.h (p : DspPlane) : Nat := bits p.size 29 16

/-- The staged settings of a plane (R330). -/
def State.staged (s : State) (n j : Nat) : DspPlane :=
  let i := 4 * n + j
  { cfg := s.rd .dspLCfg i, pos := s.rd .dspLPos i, size := s.rd .dspLSize i, stride := s.rd .dspLStride i, buf := s.rd .dspLNext i }

/-- Planes of a pipe that would be enabled with a commit of plane `j`. -/
def DspPipe.wouldShow (x : DspPipe) (j : Nat) (p : DspPlane) : Nat :=
  ((List.range 4).filter (fun i => if i = j then p.on else ((x.commit i).getD (x.plane i)).on)).length

/-- The first condition of R331 that a commit breaks. -/
def PipeRec.refusal (r : PipeRec) (x : DspPipe) (j : Nat) (p : DspPlane) : Option Nat :=
  if !isPlaneFmt p.fmt || decide (r.bytesPp < fmtBytes p.fmt) then some 1
  else if r.planes < x.wouldShow j p then some 2
  else if r.hActive < bits p.pos 13 0 + p.w ∨ r.vActive < bits p.pos 29 16 + p.h then some 3
  else if p.stride % 64 ≠ 0 ∨ p.stride < p.w * fmtBytes p.fmt then some 4
  else if p.buf % 64 ≠ 0 then some 5
  else none

/-- A commit of a plane (R330, R331). -/
def State.commitPlane (s : State) (n j : Nat) : State :=
  match s.pipeRec n with
  | none => s
  | some r =>
    let x := s.pipe n
    match r.refusal x j (s.staged n j) with
    | some k => s.raise (s.dspRec n 0x11 0 stREFUSED_PLAN (j + 16 * k))
    | none => s.setPipe n { x with commits := sset (fun _ => none) x.commits j (some (s.staged n j)) }

/-- Planes 0 to 3 of a pipe are black (R337). -/
def State.pipeBlank (s : State) (n : Nat) : Bool := s.safe.safe || s.tensor.stopped.contains (s.ownerOf 0x0E n)

/-! ### Latches (R329) -/

/-- Device time, in ns, of the latch that follows `k` latches: timing runs from plan acceptance. -/
def State.latchTime (s : State) (r : PipeRec) (k : Nat) : Nat :=
  s.spl.acceptTime + (roundRne (1000000000000 * (r.vActive + k * r.vTotal) : Nat) (r.vTotal * r.refreshMhz)).toNat

/-- The line that a pipe is on. -/
def State.pipeLine (s : State) (r : PipeRec) : Nat :=
  (s.now - s.spl.acceptTime) * (r.vTotal * r.refreshMhz) / 1000000000000 % r.vTotal

/-! ### Composition (R332, R334) -/

/-- A value in units of 2^e as a rational number. -/
def Num.rat? : Num → Option Rat
  | .fin neg m e =>
    let q : Rat := if 0 ≤ e then ((m * 2 ^ e.toNat : Nat) : Rat) else (m : Rat) / ((2 ^ (-e).toNat : Nat) : Rat)
    some (if neg then -q else q)
  | _ => none

/-- A channel of FP16; of a value that is not finite the manual states none. -/
def halfRat (x : Nat) : Rat :=
  match (decodeElem 0x03 (x % 65536)).rat? with
  | some q => q
  | none => ((Config.pixelOpen 3 [x]).toNat : Rat) / 4294967296

/-- R, G, B and A of a pixel of a display plane. -/
def planeColour (fmt v : Nat) : List Rat :=
  let u (n x : Nat) : Rat := ((x % 2 ^ n : Nat) : Rat) / ((2 ^ n - 1 : Nat) : Rat)
  match fmt with
  | 0x05 => [u 10 v, u 10 (v / 1024), u 10 (v / 1048576), u 2 (v / 1073741824)]
  | 0x07 => [halfRat v, halfRat (v / 65536), halfRat (v / 4294967296), halfRat (v / 281474976710656)]
  | 0x09 => [u 5 (v / 2048), u 6 (v / 32), u 5 v, 1]
  | _ => [u 8 v, u 8 (v / 256), u 8 (v / 65536), u 8 (v / 16777216)]

/-- A plane as it is scanned out: its number, settings, rows of bytes, and the homography if it is reprojected. -/
structure Scan where
  j : Nat
  plane : DspPlane
  rows : List (List Byte)
  hom : Option (List Nat)
deriving DecidableEq, Repr

/-- A pixel of the buffer of a plane. -/
def Scan.src (c : Scan) (x y : Nat) : List Rat :=
  let b := fmtBytes c.plane.fmt
  planeColour c.plane.fmt (fld (c.rows.getD y []) (x * b) b)

/-- The pixel where a reprojected plane has no source (R334). -/
def Scan.empty (c : Scan) : List Rat := if c.j = 0 then [0, 0, 0, 1] else [0, 0, 0, 0]

/-- A pixel index held to 0 … n − 1. -/
def heldIndex (n : Nat) (i : Int) : Nat := if i < 0 then 0 else min i.toNat (n - 1)

/-- The bilinear sample of the buffer at a source position. -/
def Scan.sample (c : Scan) (u v : Rat) : List Rat :=
  let a := u - 1 / 2
  let b := v - 1 / 2
  let i := a.floor
  let k := b.floor
  let f := a - (i : Rat)
  let g := b - (k : Rat)
  let px (di dj : Int) : List Rat := c.src (heldIndex c.plane.w (i + di)) (heldIndex c.plane.h (k + dj))
  let mix (t : Rat) (p q : List Rat) : List Rat := p.zipWith (fun x y => x * (1 - t) + y * t) q
  mix g (mix f (px 0 0) (px 1 0)) (mix f (px 0 1) (px 1 1))

/-- A pixel of a plane, in plane coordinates. -/
def Scan.at (c : Scan) (x y : Nat) : List Rat :=
  match c.hom with
  | none => c.src x y
  | some h => match h.mapM (fun v => (ofF32 v).rat?) with
    | none => [0, 1, 2, 3].map (fun k => ((Config.pixelOpen 4 (k :: x :: y :: h)).toNat : Rat) / 4294967296)
    | some m =>
      let e (k : Nat) : Rat := m.getD k 0
      let px : Rat := (x : Rat) + 1 / 2
      let py : Rat := (y : Rat) + 1 / 2
      let d := e 6 * px + e 7 * py + e 8
      if d ≤ 0 then c.empty
      else
        let u := (e 0 * px + e 1 * py + e 2) / d
        let v := (e 3 * px + e 4 * py + e 5) / d
        if u < 0 ∨ (c.plane.w : Rat) ≤ u ∨ v < 0 ∨ (c.plane.h : Rat) ≤ v then c.empty else c.sample u v

/-- The composed pixel at a place of the picture, from black and the planes in ascending order (R332). -/
def composeAt (l : List Scan) (x y : Nat) : List Rat :=
  l.foldl (fun dst c =>
    let px := bits c.plane.pos 13 0
    let py := bits c.plane.pos 29 16
    if px ≤ x ∧ x < px + c.plane.w ∧ py ≤ y ∧ y < py + c.plane.h then
      let a : Rat := ((bits c.plane.cfg 23 16 : Nat) : Rat) / 255
      let p := (c.at (x - px) (y - py)).map (· * a)
      let k : Rat := 1 - p.getD 3 0
      p.zipWith (fun s d => s + d * k) dst
    else dst) [0, 0, 0, 0]

/-- A value from 0 to 1 as an n-bit code. -/
def codeOf (n : Nat) (q : Rat) : Nat := min (roundRne (q.num * (2 ^ n - 1)) q.den).toNat (2 ^ n - 1)

/-- The positions of a rectangle, row by row. -/
def rectAt (x y w h : Nat) : List (Nat × Nat) :=
  (List.range h).flatMap (fun j => (List.range w).map (fun i => (x + i, y + j)))

/-- The CRC of a window (R338). -/
def windowCrc (l : List Scan) (rect : Nat) : Nat :=
  (crcFixed 4).value ((rectAt (bits rect 12 0) (bits rect 28 16) (bits rect 45 32) (bits rect 61 48)).flatMap (fun p =>
    ((composeAt l p.1 p.2).take 3).map (fun q => BitVec.ofNat 8 (codeOf 8 q))))

/-- The telltale palette entry at a place of the picture, if the plane shows there (R333). -/
def State.telltaleAt (s : State) (n x y : Nat) : Option Nat :=
  let cfg := s.rd .dspTtCfg n
  let pos := s.rd .dspTtPos n
  let k := 2 ^ bits cfg 2 1
  let tx := bits pos 13 0
  let ty := bits pos 29 16
  if bit cfg 0 && decide (tx ≤ x) && decide (x < tx + 512 * k) && decide (ty ≤ y) && decide (y < ty + 256 * k) then
    let i := (y - ty) / k * 512 + (x - tx) / k
    let b := (sget (fun _ => 0) s.dsp.tt (65536 * n + i / 2)).toNat
    some (s.rd .dspTtPal (16 * n + (if i % 2 = 0 then b % 16 else b / 16)))
  else none

/-- The three codes of an output pixel at LINK_BPP, with the telltale plane above (R332). -/
def State.outPixel (s : State) (n link : Nat) (l : List Scan) (x y : Nat) : List Nat :=
  let c := ((composeAt l x y).take 3).map (codeOf link)
  match s.telltaleAt n x y with
  | none => c
  | some e =>
    let a : Rat := ((bits e 31 24 : Nat) : Rat) / 255
    let m : Rat := ((2 ^ link - 1 : Nat) : Rat)
    c.zipWith (fun d t => codeOf link (((t : Nat) : Rat) / 255 * a + ((d : Nat) : Rat) / m * (1 - a)))
      [bits e 23 16, bits e 15 8, bits e 7 0]

/-! ### Links (R339) -/

/-- A pipe's link is lost. -/
def State.dspLinkDown (s : State) (n : Nat) (training : Bool) : State :=
  if (s.pipeRec n).isSome then
    (s.setPipe n { s.pipe n with link := false }).raise (s.dspRec n 0x10 (s.pipeSev n) stHW_ERROR (b2n training))
  else s

/-- A pipe's link trains again. -/
def State.hpdRise (s : State) (n : Nat) : State :=
  if (s.pipeRec n).isSome then s.setPipe n { s.pipe n with link := true } else s

/-! ### Registers (R341, R342) -/

/-- The refusal of a write (R339, R342). -/
def dspNotOwner (n : Nat) : WRefusal := { errBit := some 2, inst := n, detail := 1 }

/-- X and Y of a position are valid (Table 10-25). -/
def posOk (v : Nat) : Bool := decide (bits v 13 0 ≤ 8191) && decide (bits v 29 16 ≤ 8191)

/-- W and H of a size are valid. -/
def sizeOk (v : Nat) : Bool :=
  decide (1 ≤ bits v 13 0) && decide (bits v 13 0 ≤ 8192) && decide (1 ≤ bits v 29 16) && decide (bits v 29 16 ≤ 8192)

/-- Writes of the DSP block. -/
def State.dspWrite (s : State) (who : Who) (id : RegId) (ix size v hw : Nat) : State :=
  let st := s.stampOf who
  let store (s : State) : State := s.regStore id ix v hw
  let plot (n : Nat) : Option WRefusal :=
    if isKeeper who || s.isCoreOf who (s.ownerOf 0x0E n) then none else some (dspNotOwner n)
  let gate (n : Nat) : Option WRefusal := if isGatehouse who then none else some (dspNotOwner n)
  match id with
  | .dspPPoseAddr => s.regWrite st id ix size v (plot ix) true store
  | .dspLCfg => s.regWrite st id ix size v (plot (ix / 4)) (isPlaneFmt (bits v 15 8)) store
  | .dspLPos => s.regWrite st id ix size v (plot (ix / 4)) (posOk v) store
  | .dspLSize => s.regWrite st id ix size v (plot (ix / 4)) (sizeOk v) store
  | .dspLStride => s.regWrite st id ix size v (plot (ix / 4)) true store
  | .dspLNext => s.regWrite st id ix size v (plot (ix / 4)) true store
  | .dspLCommit =>
    s.regWrite st id ix size v (plot (ix / 4)) true (fun s => if bit v 0 then s.commitPlane (ix / 4) (ix % 4) else s)
  | .dspTtCfg => s.regWrite st id ix size v (gate ix) (bits v 2 1 ≠ 3) store
  | .dspTtPos => s.regWrite st id ix size v (gate ix) (posOk v) store
  | .dspTtPal => s.regWrite st id ix size v (gate (ix / 16)) true store
  | .dspCrcRect => s.regWrite st id ix size v (gate (ix / 4)) true store
  | _ => s.regWrite st id ix size v none true store

/-- A write of the telltale SRAM: only the Gatehouse's changes it (R333, R342). -/
def State.telltaleWrite (s : State) (who : Who) (off : Nat) (data : List Byte) : State :=
  if isGatehouse who then { s with dsp := { s.dsp with tt := writeBytes zeroAt s.dsp.tt off data } }
  else s.writerRefused (s.stampOf who) .dsp (0x020005900000 + off) (dspNotOwner (off / 65536))

/-- Views of the DSP registers that show state. -/
def State.dspView (s : State) (id : RegId) (ix : Nat) : Option Nat :=
  match id with
  | .dspStatus => some (maskOf ((List.range 6).filter (fun n => (s.pipeRec n).isSome)) + 256 * b2n s.safe.safe)
  | .dspPStatus => match s.pipeRec ix with
    | none => some 0
    | some r =>
      let line := s.pipeLine r
      some (1 + 2 * b2n (decide (r.vActive ≤ line)) + 4 * b2n (s.pipeBlank ix) + 8 * b2n (s.pipe ix).link + 65536 * line)
  | .dspPNextLatch => match s.pipeRec ix with
    | none => some 0
    | some r => some (s.latchTime r (s.rd .dspPFrames ix))
  | .dspLCur => some ((s.pipe (ix / 4)).plane (ix % 4)).buf
  | _ => none

/-! ### Commands -/

/-- COMMIT (R330): a write of DSP_Pn_Lj_COMMIT. -/
def execCommit (who : Who) (pipe : Fin 6) (plane : Fin 4) (value : BitVec 32) (s : State) : Host.Outcome State Fault Refusal :=
  .next (s.dspWrite who .dspLCommit (4 * pipe.val + plane.val) 4 value.toNat 0)

/-- DSP_LINK_DOWN (R339). -/
def execDspLinkDown (pipe : Fin 6) (training : Bool) (s : State) : Host.Outcome State Fault Refusal :=
  .next (s.dspLinkDown pipe.val training)

/-- HPD_RISE (R339). -/
def execHpdRise (pipe : Fin 6) (s : State) : Host.Outcome State Fault Refusal := .next (s.hpdRise pipe.val)

end Sys2Proof.Machine
end

