-- ==== Sys2Proof/Machine/Time.lean ====
section
/-! DEFINITION. Device time and the gPTP domain clocks of spec/12 (R371 to R377, R382 to R389): the clock cycle, the modes,
HOLDOVER, link delay, captures and the TIM registers. -/

namespace Sys2Proof.Machine

/-! ### Domains -/

/-- A domain. -/
def State.domain (s : State) (k : Nat) : DomainSt := sget (fun _ => {}) s.tim.domains k

/-- Store a domain. -/
def State.putDomain (s : State) (k : Nat) (d : DomainSt) : State :=
  { s with tim := { s.tim with domains := sset (fun _ => {}) s.tim.domains k d } }

/-- A domain follows its master: ACQUIRING or LOCKED. -/
def DomainSt.follows (d : DomainSt) : Bool := d.state == 2 || d.state == 3

/-- TIM_CFG.DT_DOMAIN. -/
def State.dtDomain (s : State) : Nat := bits (s.rd .timCfg 0) 2 1

/-- TIM_CFG.WORKING. -/
def State.workingDomain (s : State) : Nat := bits (s.rd .timCfg 0) 4 3

/-- Time of the working domain in units of 2^-32 ns (R351, R382). -/
def State.workingTime (s : State) : Nat := (s.domain s.workingDomain).time

/-- The mode of device time (R373): 0 FREE, 1 DOMAIN, 2 GROVE, 3 HOLD. DEDUCED: in DOMAIN mode a source that is not followed, one
never followed yet among them, counts as lost. -/
def State.dtMode (s : State) : Nat :=
  if s.tim.groveHold then 3
  else if (s.elx.state = 1 ∨ s.elx.state = 2) ∧ s.pwr.groveId ≠ 0 then 2
  else if bit (s.rd .timCfg 0) 0 then (if (s.domain s.dtDomain).follows then 1 else 3)
  else 0

/-- In DOMAIN mode a follows the domain's rate (R373). -/
def State.retime (s : State) : State :=
  if s.dtMode = 1 then { s with tim := { s.tim with adj := (s.domain s.dtDomain).rate } } else s

/-- Change a domain; device time follows in DOMAIN mode. -/
def State.setDomain (s : State) (k : Nat) (d : DomainSt) : State := (s.putDomain k d).retime

/-- The sum of a clock and a signed step, modulo 2^64 ns. -/
def addClock (t : Nat) (i : Int) : Nat := (((t : Int) + i) % (2 ^ 96 : Int)).toNat

/-- INC × (1 + a × 10⁻⁹) in units of 2^-32 ns (R371); what happens to the part below 2^-32 ns is not stated. -/
def clockInc (a : Int) : Int := 894784853 + divOpen 371 (894784853 * a) 1000000000

/-- One clock cycle (R371, R377): of the reference clock until the root PLL locks, of ROOT_CLK from then on. -/
def State.clockCycle (s : State) : State :=
  if !s.pwr.running then s
  else
    let step (a : Int) : Int := if s.pwr.pll then clockInc a else 20 * 4294967296
    { s with
      dt := addClock s.dt (step s.tim.adj)
      tim := { s.tim with domains := (List.range 4).foldl (fun m k =>
        let d := sget (fun _ => ({} : DomainSt)) m k
        sset (fun _ => {}) m k { d with time := addClock d.time (step d.rate) }) s.tim.domains } }

/-- The Sync interval of a domain in ns. -/
def State.syncInterval (s : State) (k : Nat) : Nat := 1000000000 / 2 ^ bits (s.rd .timDCfg k) 10 8

/-- ROLE_p of a ROLES word. -/
def roleOf (roles p : Nat) : Nat := roles / 4 ^ p % 4

/-- The SLAVE port of a ROLES word. -/
def slavePort (roles : Nat) : Option Nat := (List.range 14).find? (fun p => roleOf roles p == 2)

/-- The state that an enabled domain takes with its roles (Table 12-1). -/
def startState (roles : Nat) : Nat := if (slavePort roles).isSome then 2 else 1

/-- A change of the roles takes effect at the next Sync interval (Table 12-8), and at once while the domain is DISABLED. -/
def State.applyRoles (s : State) (k : Nat) : State :=
  let d := s.domain k
  let r := s.rd .timDRoles k
  if r = d.roles ∨ (d.state ≠ 0 ∧ s.now < d.syncAt + s.syncInterval k) then s
  else
    let moved := slavePort r ≠ slavePort d.roles
    s.setDomain k { d with
      roles := r, syncAt := if moved then s.now else d.syncAt, state := if d.state = 0 then 0 else if moved then startState r else d.state,
      good := if moved then 0 else d.good }

/-- A domain enters HOLDOVER (R384). -/
def State.enterHoldover (s : State) (k : Nat) : State :=
  let d := s.domain k
  if d.follows then
    (s.setDomain k { d with state := 4, expired := false, holdAt := s.now, good := 0 }).raiseOpen (s.mkRec .tim k fcTIMEOUT 1 0)
  else s

/-- The SLAVE port of domains has lost its link or asCapable (Table 12-1). -/
def State.slaveLost (s : State) (p : Nat) : State :=
  (List.range 4).foldl (fun (s : State) k => if roleOf (s.domain k).roles p = 2 then s.enterHoldover k else s) s

/-- A step of a domain clock is logged (R385, Table 12-3). -/
def State.logStep (s : State) (k ns : Nat) : State := s.raise { s.mkRec .tim k 0x10 0 stDONE with detail := ns }

/-! ### Link delay (R376) -/

/-- The link-delay state of a port. -/
def State.pdelay (s : State) (p : Nat) : PdelaySt := sget (fun _ => {}) s.tim.ports p

/-- Store it, and log and act on the loss of asCapable (R376, Table 12-3). -/
def State.setPdelay (s : State) (p : Nat) (x : PdelaySt) : State :=
  let old := s.pdelay p
  let x := { x with capable := x.capable && decide (x.delay ≤ 800 * 65536) && decide (x.fails < 3) }
  let t := { s with tim := { s.tim with ports := sset (fun _ => {}) s.tim.ports p x } }
  if old.capable && !x.capable then
    (t.raise { t.mkRec .tim (16 + p) 0x12 0 stDONE with detail := x.delay / 65536 % 2 ^ 32 + 2 ^ 32 * x.fails }).slaveLost p
  else t

/-- A port starts an exchange (R376): one that is still under way has failed. -/
def State.pdelayInitiate (s : State) (p : Nat) : State :=
  let x := s.pdelay p
  if (x.last.map (fun t => decide (s.now < t + 1000000000))).getD false then s
  else
    let fails := if x.waiting.isSome then min (x.fails + 1) 255 else x.fails
    (s.setPdelay p { x with fails := fails, waiting := some s.now, last := some s.now }).send (.pdelay p 0)

/-- A response completes an exchange: the Common Mean Link Delay Service gives the mean delay (units of 2^-16 ns). -/
def State.pdelayResp (s : State) (p delay : Nat) : State :=
  let x := s.pdelay p
  if x.waiting.isNone then s
  else s.setPdelay p { x with waiting := none, fails := 0, delay := delay, capable := true }

/-! ### TIM registers (R388, R389) -/

/-- The refusal of a write (R389): by another requester than the Keeper, or to a capture slot of another Plot. -/
def timRefusal (reason : Nat) : WRefusal := { errBit := some 2, inst := 0, detail := reason }

/-- A TIM_Dk_CFG write holds valid encodings (Table 12-7). -/
def State.domCfgOk (s : State) (k v : Nat) : Bool :=
  let old := s.rd .timDCfg k
  !(List.range 4).any (fun j => j ≠ k && bit (s.rd .timDCfg j) 0 && bits (s.rd .timDCfg j) 7 1 == bits v 7 1) &&
    (!bit old 0 || bits v 13 1 == bits old 13 1)

/-- The effect of a TIM_Dk_CFG write: ENABLE starts and stops the protocol (R377). -/
def State.domCfgStore (s : State) (k v hw : Nat) : State :=
  let was := bit (s.rd .timDCfg k) 0
  let s := s.regStore .timDCfg k v hw
  let d := s.domain k
  if bit v 0 && !was then
    let r := s.rd .timDRoles k
    s.setDomain k { d with roles := r, state := startState r, good := 0, syncAt := s.now, expired := false }
  else if !bit v 0 && was then s.setDomain k { d with state := 0, good := 0 }
  else s

/-- The roles of a ROLES word are valid (Table 12-8). -/
def rolesOk (v : Nat) : Bool :=
  (List.range 14).all (fun p => roleOf v p ≠ 3) && decide (((List.range 14).filter (fun p => roleOf v p == 2)).length ≤ 1)

/-- A TIM_CFG write: in FREE mode a is the value that the Keeper wrote (R373). -/
def State.timCfgStore (s : State) (v hw : Nat) : State :=
  let s := s.regStore .timCfg 0 v hw
  if s.dtMode = 0 then { s with tim := { s.tim with adj := ofTwos 32 (s.rd .timDtAdj 0) } } else s.retime

/-- A capture (R375): device time, its fraction and the domains' times in one cycle. -/
def State.capture (s : State) (c : Nat) : State :=
  let s := (s.wr .timCFrac c (s.dt / 65536 % 65536)).wr .timCDt c s.now
  (List.range 4).foldl (fun (s : State) k => s.wr .timCDom (4 * c + k) ((s.domain k).time / 4294967296)) s

/-- Step a domain clock by a signed number of ns (R377, R385). -/
def State.stepDomain (s : State) (k : Nat) (ns : Int) : State :=
  let d := s.domain k
  (s.setDomain k { d with time := addClock d.time (4294967296 * ns) }).logStep k (toTwos 64 ns)

/-- Writes of the TIM block. -/
def State.timWrite (s : State) (who : Who) (id : RegId) (ix size v hw : Nat) : State :=
  let st := s.stampOf who
  let kp : Option WRefusal := if isKeeper who then none else some (timRefusal 2)
  let store (s : State) : State := s.regStore id ix v hw
  match id with
  | .timCfg => s.regWrite st id ix size v kp true (fun s => s.timCfgStore v hw)
  | .timDtAdj => s.regWrite st id ix size v kp (s.dtMode == 0 && decide ((ofTwos 32 v).natAbs ≤ 1000000))
      (fun s => { store s with tim := { s.tim with adj := ofTwos 32 v } })
  | .timDCfg => s.regWrite st id ix size v kp (s.domCfgOk ix v) (fun s => s.domCfgStore ix v hw)
  | .timDRoles => s.regWrite st id ix size v kp (rolesOk v) (fun s => (store s).applyRoles ix)
  | .timDHoldLimit => s.regWrite st id ix size v kp true store
  | .timDStep => s.regWrite st id ix size v kp (decide ((s.domain ix).state ≤ 1)) (fun s => s.stepDomain ix (ofTwos 64 v))
  | .timPAsym => s.regWrite st id ix size v kp (decide ((ofTwos 32 v).natAbs ≤ 100000)) store
  | .timCGo => s.regWrite st id ix size v
      (if (if ix < 16 then s.isCoreOf who ix else isKeeper who) then none else some (timRefusal (if ix < 16 then 1 else 2))) true
      (fun s => if bit v 0 then s.capture ix else s)
  | _ => s.regWrite st id ix size v none true store

/-- Views of the TIM registers that show state. -/
def State.timView (s : State) (id : RegId) (ix : Nat) : Option Nat :=
  let d := s.domain ix
  match id with
  | .timStatus => some (s.dtMode + 4 * maskOf ((List.range 4).filter (fun k => (s.domain k).state == 3)))
  | .timDtNs => some s.now
  | .timDtAdj => some (toTwos 32 s.tim.adj)
  | .timDStatus => some (d.state + 8 * b2n d.expired)
  | .timDOffset => some (if d.follows then toTwos 32 (clampI 2147483647 d.offset) else 0)
  | .timDRate => some (toTwos 32 d.rate)
  | .timDTime => some (d.time / 4294967296)
  | .timPStatus => some (b2n (s.pdelay ix).capable + 256 * (s.pdelay ix).fails)
  | .timPDelay => some ((s.pdelay ix).delay / 65536)
  | _ => none

/-! ### Commands -/

/-- PDELAY_INITIATE (R376). -/
def execPdelayInitiate (port : Fin 14) (s : State) : Host.Outcome State Fault Refusal := .next (s.pdelayInitiate port.val)

/-- PDELAY_REQ (R376): answered with a Pdelay_Resp and a Pdelay_Resp_Follow_Up. -/
def execPdelayReq (port : Fin 14) (s : State) : Host.Outcome State Fault Refusal :=
  .next ((s.send (.pdelay port.val 1)).send (.pdelay port.val 2))

/-- PDELAY_RESP (R376): `delay` is the mean link delay that the service gives, in units of 2^-16 ns. -/
def execPdelayResp (port : Fin 14) (delay : BitVec 48) (s : State) : Host.Outcome State Fault Refusal :=
  .next (s.pdelayResp port.val delay.toNat)

/-- SYNC_RECEIPT_TIMEOUT (R384): no Sync for 3 intervals. -/
def execSyncReceiptTimeout (domain : Fin 4) (s : State) : Host.Outcome State Fault Refusal :=
  .next (
    let d := s.domain domain.val
    if d.follows && decide (d.syncAt + 3 * s.syncInterval domain.val ≤ s.now) then s.enterHoldover domain.val else s)

/-- HOLDOVER_EXPIRED (R384). -/
def execHoldoverExpired (domain : Fin 4) (s : State) : Host.Outcome State Fault Refusal :=
  .next (
    let d := s.domain domain.val
    let lim := bits (s.rd .timDHoldLimit domain.val) 15 0
    if d.state = 4 ∧ !d.expired ∧ lim ≠ 0 ∧ d.holdAt + 1000000000 * lim ≤ s.now then
      (s.setDomain domain.val { d with expired := true }).raise
        { s.mkRec .tim domain.val 0x11 1 stDONE with detail := lim }
    else s)

/-- TIM_DK_STEP (R385). -/
def execTimDkStep (who : Who) (domain : Fin 4) (value : BitVec 64) (s : State) : Host.Outcome State Fault Refusal :=
  .next (s.timWrite who .timDStep domain.val 8 value.toNat 0)

/-- CAPTURE (R375): a write of TIM_Cs_GO. -/
def execCapture (who : Who) (slot : Fin 17) (value : BitVec 32) (s : State) : Host.Outcome State Fault Refusal :=
  .next (s.timWrite who .timCGo slot.val 4 value.toNat 0)

end Sys2Proof.Machine
end

