-- ==== Sys2Proof/Machine/Gateway.lean ====
section
/-! DEFINITION. The Ethernet switch of spec/11: ports, session table, policers, queues and gates, session commands and the
descriptor rings (R343 to R358, R370), and the Sync messages of spec/12 (R378 to R383). -/

namespace Sys2Proof.Machine

/-! ### Ports -/

/-- The Plot that owns a switch port (R343). -/
def State.portPlot (s : State) (k : Nat) : Nat := if k < 14 then s.ownerOf 0x09 k else s.ownerOf 0x0A (k - 14)

/-- The gate list of a switch port. -/
def State.gateOf (s : State) (k : Nat) : Option GateRec := s.plan.bind (fun p => p.gate (if k < 14 then k else 0x80 + (k - 14)))

/-- The RATE code at which a port runs (R343, Table 11-1). -/
def State.portRate (s : State) (k : Nat) : Nat :=
  match s.gateOf k with
  | some g => g.rate
  | none => if k ≤ 1 then 4 else if k ≤ 5 then bits (s.rd .gwyPCfg k) 3 1 else if k ≤ 13 then 0 else 4

/-- A switch port. -/
def State.netPort (s : State) (k : Nat) : PortNet := sget (fun _ => {}) s.net.ports k

/-- Change a switch port. -/
def State.setNetPort (s : State) (k : Nat) (p : PortNet) : State :=
  { s with net := { s.net with ports := sset (fun _ => {}) s.net.ports k p } }

/-- A queue of a port. -/
def State.netQueue (s : State) (k tc : Nat) : List EthFrame := sget (fun _ => []) s.net.queues (8 * k + tc)

/-- Change a queue. -/
def State.setNetQueue (s : State) (k tc : Nat) (l : List EthFrame) : State :=
  { s with net := { s.net with queues := sset (fun _ => []) s.net.queues (8 * k + tc) l } }

/-- ENABLE of a port. -/
def State.portOn (s : State) (k : Nat) : Bool := bit (s.rd .gwyPCfg k) 0

/-- The length of a frame, its FCS included (R344). -/
def EthFrame.len (f : EthFrame) : Nat := f.bytes.length + 4

/-- A Plot is SURVIVE. -/
def State.survives (s : State) (plot : Nat) : Bool := ((s.plotRec plot).map (·.survive)).getD false

/-- The safe-state test of R357. -/
def State.safeOk (s : State) (f : EthFrame) (k : Nat) : Bool :=
  !s.safe.safe || (s.survives (s.portPlot f.ingress) && s.survives (s.portPlot k))

/-- Count a drop (Table 11-4). -/
def State.dropFrame (s : State) (r : Nat) : State := s.bump .gwyDrop r 1

/-! ### Descriptor rings (R355, R356) -/

/-- A descriptor ring of an internal port (x: 0 TX, 1 RX) or of a CAN controller (x: 0 TXH, 1 TXL, 2 RX). -/
inductive Ring where
  | gwy (n x : Nat)
  | can (n x : Nat)
deriving DecidableEq, Repr

/-- Its key in the state. -/
def Ring.key : Ring → Nat
  | .gwy n x => 2 * n + x
  | .can n x => 16 + 3 * n + x

/-- BASE, CFG, TAIL and HEAD registers, and their index. -/
def Ring.base : Ring → RegId × Nat
  | .gwy n x => (.gwyRBase, 2 * n + x)
  | .can n x => (.canRBase, 3 * n + x)

/-- CFG. -/
def Ring.cfg : Ring → RegId × Nat
  | .gwy n x => (.gwyRCfg, 2 * n + x)
  | .can n x => (.canRCfg, 3 * n + x)

/-- TAIL. -/
def Ring.tail : Ring → RegId × Nat
  | .gwy n x => (.gwyRTail, 2 * n + x)
  | .can n x => (.canRTail, 3 * n + x)

/-- HEAD. -/
def Ring.head : Ring → RegId × Nat
  | .gwy n x => (.gwyRHead, 2 * n + x)
  | .can n x => (.canRHead, 3 * n + x)

/-- The Plot of a ring. -/
def State.ringPlot (s : State) : Ring → Nat
  | .gwy n _ => s.ownerOf 0x0A n
  | .can n _ => s.ownerOf 0x0B n

/-- The stamp of ring and buffer accesses (R356). -/
def State.ringStamp (s : State) (plot : Nat) : Stamp := ⟨151, plot, s.defaultClass plot, false, 0xFFFF⟩

/-- A ring's state. -/
def State.ring (s : State) (r : Ring) : RingSt := sget (fun _ => {}) s.net.rings r.key

/-- Change a ring's state. -/
def State.setRing (s : State) (r : Ring) (x : RingSt) : State :=
  { s with net := { s.net with rings := sset (fun _ => {}) s.net.rings r.key x } }

/-- CFG of a ring. -/
def State.ringCfg (s : State) (r : Ring) : Nat := s.rd r.cfg.1 r.cfg.2

/-- The descriptor at a ring position. -/
def State.descAddr (s : State) (r : Ring) (pos : Nat) : Nat :=
  s.rd r.base.1 r.base.2 + 32 * (pos % 2 ^ bits (s.ringCfg r) 7 4)

/-- A refused access stops the ring (R356). -/
def State.ringStop (s : State) (r : Ring) : State := s.wr r.cfg.1 r.cfg.2 (setBit (clrBit (s.ringCfg r) 0) 2)

/-- A descriptor waits to be taken. -/
def State.ringPosted (s : State) (r : Ring) : Bool :=
  bit (s.ringCfg r) 0 && (s.ring r).next ≠ s.rd r.tail.1 r.tail.2

/-- Writes to a ring's memory; a refused one stops the ring. -/
def State.ringWrites (s : State) (r : Ring) : List (Nat × List Byte) → State
  | [] => s
  | (a, d) :: l =>
    match s.memWrite (s.ringStamp (s.ringPlot r)) a d with
    | (s, true) => s.ringWrites r l
    | (s, false) => s.ringStop r

/-- A descriptor is complete: HEAD advances, then the interrupt (R355). -/
def State.ringAdvance (s : State) (r : Ring) : State :=
  let s := s.wr r.head.1 r.head.2 ((s.rd r.head.1 r.head.2 + 1) % 2 ^ 32)
  if bit (s.ringCfg r) 1 then
    s.send (.irq (s.ringPlot r) (match r with
      | .gwy n _ => srcId .gwy (14 + n)
      | .can n _ => srcId .can n))
  else s

/-- Publish the TX descriptors that are finished, in ring order (R355). -/
def State.txPublish (s : State) (r : Ring) : Nat → State
  | 0 => s
  | fuel + 1 =>
    let x := s.ring r
    match x.open_ with
    | [] => s
    | t :: rest =>
      if t.left.isEmpty then
        let a := s.descAddr r t.pos
        let stamp := if t.wantStamp then (t.sent.map (·.2)).getD 0 else 0
        let s := s.setRing r { x with open_ := rest }
        ((s.ringWrites r [(a + 0x0F, [BitVec.ofNat 8 t.status]), (a + 0x18, leBytes 8 stamp)]).ringAdvance r).txPublish r fuel
      else s

/-- A taken TX descriptor is finished at once with a status. -/
def State.txAnswer (s : State) (r : Ring) (pos status : Nat) (stop : Bool) : State :=
  let x := s.ring r
  let s := s.setRing r { x with open_ := x.open_ ++ [⟨pos, [], none, status, false⟩] }
  let s := s.txPublish r (x.open_.length + 1)
  if stop then s.ringStop r else s

/-- Change a taken TX descriptor, and publish what is finished. -/
def State.txUpdate (s : State) (r : Ring) (pos : Nat) (f : TxRec → TxRec) : State :=
  let x := s.ring r
  (s.setRing r { x with open_ := updWhere (fun t => t.pos == pos) f x.open_ }).txPublish r (x.open_.length + 1)

/-- A frame is finished on an egress port: sent at a time in ns, or dropped. A late one completes with DEADLINE_MISSED
(R383). -/
def State.frameDone (s : State) (f : EthFrame) (k : Nat) (at_ : Option Nat) (late : Bool) : State :=
  match f.desc with
  | none => s
  | some (n, pos) => s.txUpdate (.gwy n 0) pos (fun t => { t with
      left := t.left.erase k, status := if late then stDEADLINE_MISSED else t.status,
      sent := match at_ with
        | none => t.sent
        | some ns => match t.sent with
          | some (j, o) => if j < k then some (j, o) else some (k, ns)
          | none => some (k, ns) })

/-- Drop the frames of a queue that satisfy a test, with a reason; a Plot's stop cancels its descriptors apart from this. -/
def State.purge (s : State) (k tc r : Nat) (p : EthFrame → Bool) : State :=
  let q := s.netQueue k tc
  let s := s.setNetQueue k tc (q.filter (fun f => !p f))
  (q.filter p).foldl (fun (s : State) f => (s.dropFrame r).frameDone f k none false) s

/-! ### Lookup and forwarding (R344 to R349) -/

/-- A big-endian 16-bit field of a frame. -/
def be16 (l : List Byte) (off : Nat) : Nat := beNat (sub l off 2)

/-- The frame carries an 802.1Q tag. -/
def isTagged (l : List Byte) : Bool := be16 l 12 == 0x8100

/-- Offset of the payload, after EtherType. -/
def l3Off (l : List Byte) : Nat := if isTagged l then 18 else 14

/-- EtherType. -/
def etherType (l : List Byte) : Nat := be16 l (l3Off l - 2)

/-- The frame has an allowed length and tags (R344). -/
def frameOk (l : List Byte) : Bool :=
  decide (64 ≤ l.length + 4) && decide (l.length + 4 ≤ 2048) && be16 l 12 ≠ 0x88A8 &&
    !(isTagged l && (be16 l 16 == 0x8100 || be16 l 16 == 0x88A8))

/-- VID and PCP of a frame (R344); `pcp` is that of an untagged frame. -/
def State.frameTag (s : State) (k : Nat) (l : List Byte) (pcp : Nat) : Nat × Nat :=
  if isTagged l then (be16 l 14 % 4096, be16 l 14 / 8192) else (bits (s.rd .gwyPCfg k) 15 4, pcp)

/-- The 40 key bytes of Table 11-2. -/
def flowKey (kind port vid proto sport dport : Nat) (src dst : List Byte) : List Byte :=
  leBytes 4 (kind + 16 * port + 512 * vid + 0x200000 * proto) ++ leBytes 2 sport ++ leBytes 2 dport ++
    (src ++ zeros 16).take 16 ++ (dst ++ zeros 16).take 16

/-- The keys looked up for a frame, in order (R346). -/
def flowKeys (k vid : Nat) (l : List Byte) : List (List Byte) :=
  let o := l3Off l
  let l2 := flowKey 1 k vid 0 0 0 [] (sub l 0 6)
  let ports (proto at_ : Nat) (frag : Bool) : Nat × Nat :=
    if (proto = 6 ∨ proto = 17) ∧ !frag then (be16 l at_, be16 l (at_ + 2)) else (0, 0)
  if etherType l = 0x0800 then
    let proto := fld l (o + 9) 1
    let q := ports proto (o + 4 * (fld l o 1 % 16)) (be16 l (o + 6) % 8192 ≠ 0)
    [flowKey 2 k vid proto q.1 q.2 (sub l (o + 12) 4) (sub l (o + 16) 4), l2]
  else if etherType l = 0x86DD then
    let proto := fld l (o + 6) 1
    let q := ports proto (o + 40) false
    [flowKey 3 k vid proto q.1 q.2 (sub l (o + 8) 16) (sub l (o + 24) 16), l2]
  else [l2]

/-- The bucket of a key (R347). -/
def State.flowBucket (s : State) (key : List Byte) : Nat :=
  (crcFixed 5).value (leBytes 8 s.net.seed ++ key) % 262144

/-- The action of a key in the table. -/
def State.flowAction (s : State) (key : List Byte) : Option Nat :=
  (s.net.flows.find? (fun e => e.1 == key)).map (·.2)

/-- What the SEC-DED of the table meets in the bucket of a lookup (R354): `some false` a corrected error, `some
true` an uncorrectable one, which clears the bucket and drops the frame. -/
def State.flowEcc (s : State) (key : List Byte) : Option Bool → State × Bool
  | none => (s, true)
  | some false => (s.raiseOpen (s.mkRec .flw 0 fcECC_CORRECTED 1 0), true)
  | some true =>
    let b := s.flowBucket key
    let t := s.raiseOpen { s.mkRec .flw 0 fcECC_UNCORRECTED 2 0 with detail := b }
    ({ t with net := { t.net with flows := t.net.flows.filter (fun e => t.flowBucket e.1 ≠ b) } }.dropFrame 9, false)

/-- Tokens of a policer are counted in units of 2^-32 / 8,000,000 byte. -/
abbrev polUnit : Nat := 8000000 * 4294967296

/-- A frame passes its policer (R348). -/
def State.police (s : State) (i len : Nat) : State × Bool :=
  let v := s.rd .flwPol i
  let rate := bits v 31 0
  let b := sget (fun _ => ({} : Bucket)) s.net.pol i
  let missing := b.missing - rate * (s.dt - b.at_)
  let ok := rate ≠ 0 ∧ missing + len * polUnit ≤ bits v 55 32 * polUnit
  let put (m : Nat) : State := { s with net := { s.net with pol := sset (fun _ => ({} : Bucket)) s.net.pol i ⟨m, s.dt⟩ } }
  if ok then (put (missing + len * polUnit), true)
  else (((put missing).dropFrame 3).bump .flwPolDrops i 1, false)

/-- Why a frame is dropped for an egress port (R349), if it is. -/
def State.egressDrop (s : State) (f : EthFrame) (k tc : Nat) : Option Nat :=
  if !bit (s.rd .gwyPAccept k) (s.portPlot f.ingress) || 16 ≤ s.portPlot f.ingress then some 4
  else if !s.safeOk f k then some 6
  else if 14 ≤ k && s.tensor.stopped.contains (s.portPlot k) then some 7
  else if k < 14 && (!(s.netPort k).up || !s.portOn k) then some 8
  else if 65536 < sumL ((s.netQueue k tc).map (·.len)) + f.len then some 5
  else none

/-- Offer a frame to egress ports in ascending number; the ports that took it. -/
def State.enqueueAll (s : State) (f : EthFrame) (tc : Nat) : List Nat → State × List Nat
  | [] => (s, [])
  | k :: r =>
    match s.egressDrop f k tc with
    | some why => (s.dropFrame why).enqueueAll f tc r
    | none =>
      let x := (s.setNetQueue k tc (s.netQueue k tc ++ [f])).enqueueAll f tc r
      (x.1, k :: x.2)

/-- The lookups of a frame in order, until one finds an entry (R346): the action found, or none at all when an uncorrectable error
dropped the frame. `ecc` names the lookup that meets an error, and whether it is uncorrectable. -/
def State.flowLookup (s : State) (ecc : Option (Fin 2 × Bool)) : Nat → List (List Byte) → State × Option (Option Nat)
  | _, [] => (s, some none)
  | i, key :: r =>
    match s.flowEcc key (ecc.bind (fun e => if e.1.val = i then some e.2 else none)) with
    | (s, false) => (s, none)
    | (s, true) => match s.flowAction key with
      | some a => (s, some (some a))
      | none => s.flowLookup ecc (i + 1) r

/-- Look a frame up and enqueue it (R346 to R349); the egress ports that took it. `pcp` is that of an untagged frame. -/
def State.forwardFrame (s : State) (f : EthFrame) (pcp : Nat) (ecc : Option (Fin 2 × Bool)) : State × List Nat :=
  let tag := s.frameTag f.ingress f.bytes pcp
  match s.flowLookup ecc 0 (flowKeys f.ingress tag.1 f.bytes) with
  | (s, none) => (s, [])
  | (s, some found) =>
    let a := found.getD (s.rd .flwMiss f.ingress)
    if !bit a 0 then (s.dropFrame 2, [])
    else match (if bit a 35 then s.police (bits a 34 27) f.len else (s, true)) with
      | (s, false) => (s, [])
      | (s, true) =>
        s.enqueueAll f (if bit a 26 then bits a 25 23 else tag.2) ((bitList 22 (bits a 22 1)).filter (· ≠ f.ingress))

/-- The receive time-stamp of an external port in device time, units of 2^-32 ns (R378). -/
def State.rxStamp (s : State) (k : Nat) : Int := (s.dt : Int) - 4294967296 * ofTwos 32 (s.rd .timPAsym k)

/-- An Ethernet frame arrives at an external port, its FCS in the last 4 bytes (R344). -/
def State.ethReceive (s : State) (k : Nat) (raw : List Byte) (ecc : Option (Fin 2 × Bool)) : State :=
  if !(s.netPort k).up || !s.portOn k then s
  else
    let s := s.count .gwyPRxFrames k 1
    let l := raw.take (raw.length - 4)
    let fcs := fld raw (raw.length - 4) 4
    if raw.length < 4 ∨ (crcFixed 4).value l ≠ fcs then s.dropFrame 0
    else if !frameOk l then s.dropFrame 1
    else if etherType l = 0x88F7 then s
    else
      (s.forwardFrame { bytes := l, ingress := k, rx := (s.rxStamp k / 4294967296).toNat } (bits (s.rd .gwyPCfg k) 18 16) ecc).1

/-! ### Gates and transmission selection (R350, R351, R382) -/

/-- The entry of a gate list in force at a phase of its cycle (units of 2^-32 ns), and what is left of it. -/
def gateAt : List (Nat × Nat) → Nat → Nat → Nat × Nat
  | [], _, i => (i, 0)
  | (_, d) :: r, phase, i =>
    if phase < 4294967296 * d then (i, 4294967296 * d - phase) else gateAt r (phase - 4294967296 * d) (i + 1)

/-- The phase of a gate list's cycle in working-domain time. -/
def State.gatePhase (s : State) (g : GateRec) : Nat := s.workingTime % (4294967296 * g.cycle)

/-- Bring the entry in force of a port up to date. -/
def State.gateRefresh (s : State) (k : Nat) : State :=
  match s.gateOf k with
  | none => s
  | some g => s.setNetPort k { s.netPort k with entry := (gateAt g.entries (s.gatePhase g) 0).1 }

/-- Time for which a class stays open over the entries that follow. -/
def openFor (tc : Nat) : List (Nat × Nat) → Nat
  | [] => 0
  | (m, d) :: r => if bit m tc then 4294967296 * d + openFor tc r else 0

/-- The gate of a class: closed (`some 0`), open for a time (units of 2^-32 ns), or never closing (`none`). -/
def State.gateOpen (s : State) (k tc : Nat) : Option Nat :=
  match s.gateOf k with
  | none => none
  | some g =>
    if g.entries.all (fun e => bit e.1 tc) then none
    else
      let i := (s.netPort k).entry
      if bit ((g.entries.getD i (0, 0)).1) tc then
        some ((gateAt g.entries (s.gatePhase g) 0).2 + openFor tc (g.entries.drop (i + 1) ++ g.entries.take i))
      else some 0

/-- A frame may start on a port in a class now (R350, R382). -/
def State.mayTransmit (s : State) (k tc : Nat) (f : EthFrame) : Bool :=
  let launch := match f.launch with
    | some t => decide (4294967296 * t ≤ s.workingTime)
    | none => true
  let gate := match s.gateOpen k tc with
    | none => true
    | some left => decide (4294967296 * (1000 * ((8 + f.len + 12) * 8)) < left * gateMbps (s.portRate k))
  launch && gate

/-- The class and frame that a port starts next. -/
def State.nextFrame (s : State) (k : Nat) : Option (Nat × EthFrame) :=
  [7, 6, 5, 4, 3, 2, 1, 0].findSome? (fun tc => match s.netQueue k tc with
    | [] => none
    | f :: _ => if s.mayTransmit k tc f then some (tc, f) else none)

/-- Before a selection: the gate entry in force, and the safe-state test of queued frames (R357). -/
def State.selectReady (s : State) (k : Nat) : State :=
  (List.range 8).foldl (fun (s : State) tc => s.purge k tc 6 (fun f => !s.safeOk f k)) (s.gateRefresh k)

/-- A Sync of a grandmaster carries the domain time of its egress time-stamp (R381). -/
def State.stampSync (s : State) (c : SyncCopy) : SyncCopy :=
  if c.own then
    let t := (s.domain c.domain).time
    { c with origin := t / 4294967296, corr := t / 65536 % 65536 }
  else c

/-- An external port starts a frame (R350): the frame's egress time-stamp is taken now. -/
def State.transmitStart (s : State) (k : Nat) : State :=
  let s := s.selectReady k
  let p := s.netPort k
  if p.sending.isSome || !p.up || !s.portOn k then s
  else match s.nextFrame k with
    | none => s
    | some (tc, f) =>
      let s := s.setNetQueue k tc (s.netQueue k tc).tail
      s.setNetPort k { p with sending := some ({ f with sync := f.sync.map s.stampSync }, s.dt, s.workingTime) }

/-- A frame left a port late (R383): the record of the port, and that its descriptor misses its deadline. -/
def State.launchLate (s : State) (f : EthFrame) (k work : Nat) : State × Bool :=
  match f.launch, f.desc with
  | some t, some (n, _) =>
    if 4294967296 * (t + 1000) < work then
      (s.raise { s.mkRec .gwy k fcDEADLINE 0 stDEADLINE_MISSED with
        plot := s.portPlot f.ingress, detail := min ((work - 4294967296 * t) / 4294967296) 0xFFFFFFFF + 2 ^ 32 * n }, true)
    else (s, false)
  | _, _ => (s, false)

/-- The correctionField with which a Sync copy leaves (R380), in units of 2^-16 ns. -/
def SyncCopy.corrOut (c : SyncCopy) (tx : Nat) : Int :=
  if c.own then c.corr
  else c.corr + roundRne ((65536 * (c.delay : Int) + tx - c.rx) * (2 ^ 41 + c.ratio)) (2 ^ 57)

/-- A frame finishes sending (R379 to R383). -/
def State.transmitEnd (s : State) (k : Nat) : State :=
  let p := s.netPort k
  match p.sending with
  | none => s
  | some (f, tx, work) =>
    let s := (s.setNetPort k { p with sending := none }).count .gwyPTxFrames k 1
    match f.sync with
    | some c => s.send (.sync k c.domain c.origin (c.corrOut tx) (if c.own then 0 else c.ratio))
    | none =>
      let s := s.send (.eth k (f.bytes ++ leBytes 4 ((crcFixed 4).value f.bytes)))
      let (s, late) := s.launchLate f k work
      s.frameDone f k (some (tx / 4294967296)) late

/-! ### Links -/

/-- An external port's partner reports a speed (R343). -/
def State.linkUp (s : State) (k speed : Nat) : State :=
  if s.portOn k && speed == s.portRate k then s.setNetPort k { s.netPort k with up := true, speed := speed } else s

/-- An enabled external port loses its link (Table 11-10, Table 12-1). -/
def State.linkDown (s : State) (k : Nat) : State :=
  if (s.netPort k).up && s.portOn k then
    ((s.setNetPort k { s.netPort k with up := false }).raise
      { s.mkRec .gwy k 0x10 1 stHW_ERROR with detail := s.portRate k }).slaveLost k
  else s

/-! ### Internal ports (R355, R368, R382) -/

/-- The parameter set of a check-value unit (R365). -/
def State.cvuSet (s : State) (u : Nat) : CrcSet :=
  let c := s.rd .cvuCfg u
  let w := bits c 8 3 + 1
  if u < 28 then crcFixed (bits c 2 0)
  else ⟨w, s.rd .cvuPoly u % 2 ^ w, s.rd .cvuInit u % 2 ^ w, bit c 9, bit c 10, s.rd .cvuXorout u % 2 ^ w⟩

/-- The frame-path append of a TX descriptor (R368) over `data`, from byte `off`: the status of a refusal, or the data as it
is sent. -/
def State.framePath (s : State) (plot cvu off : Nat) (data : List Byte) : Except Nat (List Byte) :=
  if cvu = 0 then .ok data
  else
    let u := cvu - 1
    let c := s.cvuSet u
    let n := c.width / 8
    if s.ownerOf 0x0D u ≠ plot then .error stREFUSED_PLAN
    else if data.length < off + n then .error stREFUSED_FORMAT
    else
      let body := data.take (data.length - n)
      .ok (body ++ c.stored (c.value (body.drop off)))

/-- A TX descriptor of an internal port is valid (Table 11-7). -/
def ethDescOk (d : List Byte) : Bool :=
  fld d 0 8 % 8 == 0 && decide (60 ≤ fld d 8 2) && decide (fld d 8 2 ≤ 2044) && decide (fld d 0xC 1 ≤ 3) &&
    decide (fld d 0xD 1 ≤ 7) && decide (fld d 0xE 1 ≤ 32)

/-- The status with which a TX descriptor is refused before its buffer is read: its format, then its launch time (R382). -/
def State.txRefusal (s : State) (d : List Byte) : Option Nat :=
  if !ethDescOk d then some stREFUSED_FORMAT
  else if bit (fld d 0xC 1) 0 && decide (s.workingTime + 1000000000 * 4294967296 < 4294967296 * fld d 0x10 8) then
    some stREFUSED_FIT
  else none

/-- Inject the frame of a TX descriptor into the switch. -/
def State.txInject (s : State) (n pos : Nat) (d l : List Byte) (ecc : Option (Fin 2 × Bool)) : State :=
  let r := Ring.gwy n 0
  let k := 14 + n
  let s := s.count .gwyPRxFrames k 1
  let f : EthFrame := {
    bytes := l, ingress := k, rx := s.now, launch := if bit (fld d 0xC 1) 0 then some (fld d 0x10 8) else none,
    desc := some (n, pos) }
  let (s, took) := if frameOk l then s.forwardFrame f (fld d 0xD 1) ecc else (s.dropFrame 1, [])
  let x := s.ring r
  (s.setRing r { x with open_ := x.open_ ++ [⟨pos, took, none, stDONE, bit (fld d 0xC 1) 1⟩] }).txPublish r (x.open_.length + 1)

/-- An internal port takes a TX descriptor (R355). -/
def State.txTake (s : State) (n : Nat) (ecc : Option (Fin 2 × Bool)) : State :=
  let r := Ring.gwy n 0
  let x := s.ring r
  if !s.ringPosted r || !s.portOn (14 + n) then s
  else
    let st := s.ringStamp (s.ringPlot r)
    let s := s.setRing r { x with next := (x.next + 1) % 2 ^ 32 }
    match s.memRead st (s.descAddr r x.next) 32 with
    | (s, none) => s.txAnswer r x.next stOWNER_FAULT true
    | (s, some d) => match s.txRefusal d with
      | some w => s.txAnswer r x.next w false
      | none => match s.memRead st (fld d 0 8) (fld d 8 2) with
        | (s, none) => s.txAnswer r x.next stOWNER_FAULT true
        | (s, some l) => match s.framePath (s.ringPlot r) (fld d 0xE 1) (fld d 0xA 2) l with
          | .error w => s.txAnswer r x.next w false
          | .ok l => s.txInject n x.next d l ecc

/-- Fill the RX descriptor at a ring's HEAD (R355, R361): the buffer, then LEN, INFO, STATUS and STAMP, then HEAD. Whether
the frame was taken. -/
def State.rxFill (s : State) (r : Ring) (data : List Byte) (info stamp : Nat) : State × Bool :=
  let x := s.ring r
  let st := s.ringStamp (s.ringPlot r)
  let a := s.descAddr r x.next
  let s := s.setRing r { x with next := (x.next + 1) % 2 ^ 32 }
  match s.memRead st a 32 with
  | (s, none) => ((s.ringAdvance r).ringStop r, true)
  | (s, some d) =>
    let close (s : State) (len status : Nat) : State := (s.ringWrites r
      [(a + 8, leBytes 2 len), (a + 0xD, leBytes 1 info), (a + 0xF, leBytes 1 status), (a + 0x18, leBytes 8 stamp)]).ringAdvance r
    if fld d 0 8 % 8 ≠ 0 ∨ 3 < fld d 0xC 1 ∨ bit (fld d 0xC 1) 0 ∨ fld d 0xE 1 ≠ 0 then (close s 0 stREFUSED_FORMAT, false)
    else
      let part := data.take (fld d 8 2)
      match s.memWrite st (fld d 0 8) part with
      | (s, false) => ((close s 0 stOWNER_FAULT).ringStop r, true)
      | (s, true) => (close s part.length (if fld d 8 2 < data.length then stREFUSED_FIT else stDONE), true)

/-- A queued frame for an internal port is delivered (R350, R355). -/
def State.rxDeliver (s : State) (n : Nat) : State :=
  let r := Ring.gwy n 1
  let k := 14 + n
  let s := s.selectReady k
  if !s.ringPosted r || !s.portOn k then s
  else match s.nextFrame k with
    | none => s
    | some (tc, f) =>
      match s.rxFill r f.bytes f.ingress f.rx with
      | (s, false) => s
      | (s, true) =>
        let s := (s.setNetQueue k tc (s.netQueue k tc).tail).count .gwyPTxFrames k 1
        let (s, late) := s.launchLate f k s.workingTime
        s.frameDone f k (some s.now) late

/-! ### Session commands (R352, R353) -/

/-- A command slot. -/
def State.flwSlot (s : State) (n : Nat) : FlwSlot := sget (fun _ => {}) s.net.flw n

/-- Change a command slot. -/
def State.setFlwSlot (s : State) (n : Nat) (x : FlwSlot) : State :=
  { s with net := { s.net with flw := sset (fun _ => {}) s.net.flw n x } }

/-- The stamp of a slot's accesses: port 151 with its Plot; the Keeper's slot carries the Keeper's label. -/
def State.flwStamp (s : State) (n : Nat) : Stamp := if n < 16 then s.ringStamp n else { s.stampOf .keeper with port := 151 }

/-- A session record holds no reserved field or value (step 2 of Table 11-6, for every operation). -/
def flowRecOk (r : List Byte) : Bool :=
  let h := fld r 0 4
  let kind := bits h 3 0
  decide (1 ≤ kind) && decide (kind ≤ 3) && decide (bits h 8 4 ≤ 21) && bits h 31 29 == 0 && allZero r 0x30 16 &&
    decide (fld r 0x28 8 < 2 ^ 36) &&
    (match kind with
      | 1 => bits h 28 21 == 0 && allZero r 4 20 && allZero r 0x1E 10
      | 2 => allZero r 0xC 12 && allZero r 0x1C 12
      | _ => true)

/-- The checks of Table 11-6 after the record was read: the status of a failure. -/
def State.flowCheck (s : State) (n op : Nat) (r : List Byte) : Option Nat :=
  let key := sub r 0 40
  let a := fld r 0x28 8
  if !flowRecOk r then some stREFUSED_FORMAT
  else if n < 16 ∧ (s.portPlot (bits (fld r 0 4) 8 4) ≠ n ∨ (bit a 35 ∧ bits a 34 27 / 16 ≠ n)) then some stREFUSED_PLAN
  else if op = 1 ∧ (s.flowAction key).isNone ∧
      4 ≤ (s.net.flows.filter (fun e => s.flowBucket e.1 == s.flowBucket key)).length then some stMEMORY_EXHAUSTED
  else none

/-- The effect of a session command that passed its checks. -/
def State.flowApply (s : State) (n op a : Nat) (r : List Byte) : State :=
  let key := sub r 0 40
  let others := s.net.flows.filter (fun e => e.1 ≠ key)
  match op with
  | 1 => { s with net := { s.net with flows := others ++ [(key, fld r 0x28 8)] } }
  | 2 => { s with net := { s.net with flows := others } }
  | _ => (s.memWrite (s.flwStamp n) (a + 0x28) (leBytes 8 ((s.flowAction key).getD 0))).1

/-- The command of a slot commits (R353). -/
def State.flowCommit (s : State) (n : Nat) : State :=
  match (s.flwSlot n).op with
  | none => s
  | some op =>
    let st := s.flwStamp n
    let a := s.rd .flwCmdAddr n
    match s.memRead st a 64 with
    | (s, none) => s.setFlwSlot n ⟨none, stOWNER_FAULT, false⟩
    | (s, some r) =>
      match (if op = 3 then s.firstRefused st (a + 0x28) 8 true else none) with
      | some (b, why) => (s.logRefusal st b why true).setFlwSlot n ⟨none, stOWNER_FAULT, false⟩
      | none =>
        let found := (s.flowAction (sub r 0 40)).isSome
        match s.flowCheck n op r with
        | some w => s.setFlwSlot n ⟨none, w, found⟩
        | none => (s.flowApply n op a r).setFlwSlot n ⟨none, stDONE, found⟩

/-! ### Registers (R370) -/

/-- The refusal of a write (R369, R370). -/
def netNotOwner (inst : Nat) : WRefusal := { errBit := some 2, inst := inst, detail := 1 }

/-- A requester may write the registers of a Plot (R370). -/
def State.netMay (s : State) (who : Who) (plot : Nat) : Bool := isKeeper who || s.isCoreOf who plot

/-- Writes of the FLW block; a write of OP starts a command (R352, R353). -/
def State.flwWrite (s : State) (who : Who) (id : RegId) (ix size v hw : Nat) : State :=
  let st := s.stampOf who
  let no (ok : Bool) : Option WRefusal := if ok then none else some (netNotOwner 0)
  let slotOk := if ix < 16 then s.isCoreOf who ix else isKeeper who
  match id with
  | .flwMiss => s.regWrite st id ix size v (no (s.netMay who (s.portPlot ix))) (v < 2 ^ 36) (fun s => s.regStore id ix v hw)
  | .flwPol => s.regWrite st id ix size v (no (s.netMay who (ix / 16))) (bits v 55 32 == 0 || decide (64 ≤ bits v 55 32))
      (fun s => { s.regStore id ix v hw with
        net := { s.net with pol := sset (fun _ => ({} : Bucket)) s.net.pol ix ⟨0, s.dt⟩ } })
  | .flwCmdStatus => s.regWrite st id ix size v (no slotOk) true (fun s => s.regStore id ix v hw)
  | .flwCmdAddr => s.regWrite st id ix size v (no slotOk) true (fun s => s.regStore id ix v hw)
  | .flwCmdOp =>
    let busy : WRefusal := { errBit := some 3, inst := 0, cls := fcBUSY_WRITE, status := stBUSY, detail := 0 }
    s.regWrite st id ix size v (if !slotOk then some (netNotOwner 0) else if (s.flwSlot ix).op.isSome then some busy else none)
      (v ≠ 0) (fun s => s.setFlwSlot ix { s.flwSlot ix with op := some (v % 4) })
  | _ => s.regWrite st id ix size v none true (fun s => s.regStore id ix v hw)

/-- Views of the FLW registers that show state. -/
def State.flwView (s : State) (id : RegId) (ix : Nat) : Option Nat :=
  match id with
  | .flwStatus => some s.net.flows.length
  | .flwCmdStatus => let x := s.flwSlot ix
    some (b2n x.op.isSome + 256 * x.status + 65536 * b2n x.found)
  | _ => none

/-- A ring CFG write holds valid encodings (Table 11-16, R370). -/
def State.ringCfgOk (s : State) (r : Ring) (v : Nat) : Bool :=
  let old := s.ringCfg r
  decide (4 ≤ bits v 7 4) && decide (bits v 7 4 ≤ 12) && (!bit old 0 || bits v 7 4 == bits old 7 4)

/-- Frames in the switch no longer belong to descriptors of an internal port. -/
def State.forgetDescs (s : State) (n : Nat) : State :=
  let f (x : EthFrame) : EthFrame := if (x.desc.map (·.1)) = some n then { x with desc := none } else x
  { s with net := { s.net with
    queues := s.net.queues.map (fun e => (e.1, e.2.map f)),
    ports := s.net.ports.map (fun e => (e.1, { e.2 with sending := e.2.sending.map (fun x => (f x.1, x.2)) })) } }

/-- A CAN controller. -/
def State.can (s : State) (n : Nat) : CanSt := sget (fun _ => {}) s.net.can n

/-- Change a CAN controller. -/
def State.setCan (s : State) (n : Nat) (c : CanSt) : State :=
  { s with net := { s.net with can := sset (fun _ => {}) s.net.can n c } }

/-- Change what a CAN controller has taken from a TX ring. -/
def CanSt.setTaken (c : CanSt) (x : Nat) (t : Option (Nat × List Byte)) : CanSt :=
  if x = 0 then { c with high := t } else { c with low := t }

/-- What a CAN controller has taken from a TX ring. -/
def CanSt.taken (c : CanSt) (x : Nat) : Option (Nat × List Byte) := if x = 0 then c.high else c.low

/-- The effect of a ring CFG write: setting ENABLE zeroes TAIL and HEAD and clears STOPPED (R370). -/
def State.ringCfgStore (s : State) (r : Ring) (v hw : Nat) : State :=
  let was := bit (s.ringCfg r) 0
  let s := s.regStore r.cfg.1 r.cfg.2 v hw
  if bit v 0 && !was then
    let s := (s.wr r.tail.1 r.tail.2 0).wr r.head.1 r.head.2 0
    let s := (s.wr r.cfg.1 r.cfg.2 (clrBit (s.ringCfg r) 2)).setRing r {}
    match r with
    | .gwy n 0 => s.forgetDescs n
    | .can n 0 => s.setCan n ((s.can n).setTaken 0 none)
    | .can n 1 => s.setCan n ((s.can n).setTaken 1 none)
    | _ => s
  else s

/-- Writes of a ring's registers, with the refusal that applies. -/
def State.ringRegWrite (s : State) (st : Stamp) (r : Ring) (id : RegId) (ix size v hw : Nat) (no : Option WRefusal) : State :=
  let store (s : State) : State := s.regStore id ix v hw
  if (id, ix) = r.base then s.regWrite st id ix size v no (!bit (s.ringCfg r) 0) store
  else if (id, ix) = r.cfg then s.regWrite st id ix size v no (s.ringCfgOk r v) (fun s => s.ringCfgStore r v hw)
  else if (id, ix) = r.tail then
    s.regWrite st id ix size v no
      (decide ((v + 2 ^ 32 - s.rd r.head.1 r.head.2) % 2 ^ 32 ≤ 2 ^ bits (s.ringCfg r) 7 4)) store
  else s.regWrite st id ix size v no true store

/-- A GWY_Pk_CFG write holds valid encodings (Table 11-13). -/
def State.portCfgOk (s : State) (k v : Nat) : Bool :=
  rateAllowed k (bits v 3 1) && ((decide (2 ≤ k) && decide (k ≤ 5)) || bits v 3 1 == bits (s.rd .gwyPCfg k) 3 1)

/-- The effect of a GWY_Pk_CFG write: a port that is disabled or changes its speed has no link. -/
def State.portCfgStore (s : State) (k v hw : Nat) : State :=
  let old := s.rd .gwyPCfg k
  let s := s.regStore .gwyPCfg k v hw
  if k < 14 && (!bit v 0 || bits v 3 1 ≠ bits old 3 1) && (s.netPort k).up then
    (s.setNetPort k { s.netPort k with up := false }).slaveLost k
  else s

/-- Writes of the GWY block. A change of SPEED on a port with a gate list is ignored under R48 (R351). -/
def State.gwyWrite (s : State) (who : Who) (id : RegId) (ix size v hw : Nat) : State :=
  let st := s.stampOf who
  let no (k : Nat) : Option WRefusal := if s.netMay who (s.portPlot k) then none else some (netNotOwner k)
  let ring := Ring.gwy (ix / 2) (ix % 2)
  match id with
  | .gwyPCfg =>
    if size = 4 ∧ (s.gateOf ix).isSome ∧ bits v 3 1 ≠ bits (s.rd .gwyPCfg ix) 3 1 then
      s.lockRefused st .gwy (0x020006001000 + 0x40 * ix)
    else s.regWrite st id ix size v (no ix) (s.portCfgOk ix v) (fun s => s.portCfgStore ix v hw)
  | .gwyPAccept => s.regWrite st id ix size v (no ix) true (fun s => s.regStore id ix v hw)
  | .gwyRBase => s.ringRegWrite st ring id ix size v hw (no (14 + ix / 2))
  | .gwyRCfg => s.ringRegWrite st ring id ix size v hw (no (14 + ix / 2))
  | .gwyRTail => s.ringRegWrite st ring id ix size v hw (no (14 + ix / 2))
  | _ => s.regWrite st id ix size v none true (fun s => s.regStore id ix v hw)

/-- Views of the GWY registers that show state. -/
def State.gwyView (s : State) (id : RegId) (ix : Nat) : Option Nat :=
  match id with
  | .gwyStatus => some (b2n s.safe.safe)
  | .gwyPStatus => some (b2n (if ix < 14 then (s.netPort ix).up else s.portOn ix) + 2 * s.portRate ix +
      16 * b2n (s.gateOf ix).isSome)
  | _ => none

/-! ### Sync (R378 to R381, R384, R385) -/

/-- The domain whose enabled number is that of a Sync. -/
def State.domainNumbered (s : State) (n : Nat) : Option Nat :=
  (List.range 4).find? (fun k => bit (s.rd .timDCfg k) 0 && bits (s.rd .timDCfg k) 7 1 == n)

/-- A frame of 90 bytes stands for a Sync with its header and TLV: what it carries is written as it leaves. -/
def syncFrame (ingress rx : Nat) (c : SyncCopy) : EthFrame :=
  { bytes := zeros 90, ingress := ingress, rx := rx, sync := some c }

/-- Enqueue a Sync on the MASTER ports of its domain whose link is up, under the tests of R349. -/
def State.sendSync (s : State) (k ingress : Nat) (c : SyncCopy) : State :=
  let d := s.domain k
  let ports := (List.range 14).filter (fun p => roleOf d.roles p == 1 && (s.netPort p).up)
  (s.enqueueAll (syncFrame ingress s.now c) (bits (s.rd .timDCfg k) 13 11) ports).1

/-- The offset of a domain from its master at the receipt of a Sync, in units of 2^-32 ns: domain time less originTimestamp,
correctionField and r × D. -/
def State.syncOffset (s : State) (k : Nat) (c : SyncCopy) : Int :=
  (s.domain k).time - (4294967296 * (c.origin : Int) + 65536 * c.corr + divOpen 380 ((65536 * (c.delay : Int)) * (2 ^ 41 + c.ratio)) (2 ^ 41))

/-- A rate for slewing (Table 12-1): within ±1,000 ppm, and otherwise not stated. -/
def State.slewRate (s : State) : Int × State :=
  let (x, s) := s.fresh
  (clampI 1000000 (ofTwos 32 x.toNat), s)

/-- The domain takes the offset of a Sync (Table 12-1, R385). -/
def State.servo (s : State) (k : Nat) (off : Int) : State :=
  let d := s.domain k
  let ns := 4294967296
  let small := decide (off.natAbs ≤ 100 * ns)
  let good := if small then d.good + 1 else 0
  let acquiring := d.state ≠ 3 || decide (1000 * ns < off.natAbs)
  let d := { d with offset := divOpen 376 off ns, syncAt := s.now, good := good,
                    state := if acquiring then (if 8 ≤ good then 3 else 2) else 3 }
  if acquiring && decide (1000000 * ns < off.natAbs) then
    (s.setDomain k { d with time := addClock d.time (-off) }).logStep k (toTwos 64 (divOpen 385 (-off) ns))
  else
    let (r, s) := s.slewRate
    s.setDomain k { d with rate := r }

/-- A Sync arrives on a port (R379, R380): `ratio` is (r − 1) × 2^41 as the device has it after this Sync. -/
def State.syncReceive (s : State) (p number origin : Nat) (corr ratio : Int) : State :=
  match s.domainNumbered number with
  | none => s
  | some k =>
    let s := s.applyRoles k
    if roleOf (s.domain k).roles p ≠ 2 || !(s.netPort p).up || (s.domain k).state ≤ 1 then s
    else
      let c : SyncCopy := {
        domain := k, own := false, origin := origin, corr := corr, rx := s.rxStamp p, delay := (s.pdelay p).delay,
        ratio := ratio }
      (s.servo k (s.syncOffset k c)).sendSync k p c

/-- A grandmaster domain sends a Sync (R381): on its MASTER ports, of which the first lends its Plot. -/
def State.syncSend (s : State) (k : Nat) : State :=
  let s := s.applyRoles k
  let d := s.domain k
  if d.state ≠ 1 || decide (s.now < d.syncAt + s.syncInterval k) then s
  else
    let s := s.setDomain k { d with syncAt := s.now }
    let ports := (List.range 14).filter (fun p => roleOf d.roles p == 1 && (s.netPort p).up)
    ports.foldl (fun (s : State) p =>
      (s.enqueueAll (syncFrame p s.now { domain := k, own := true }) (bits (s.rd .timDCfg k) 13 11) [p]).1) s

/-! ### Stopping a Plot (R358) -/

/-- Cancel the taken and the waiting TX descriptors of a ring. -/
def State.cancelTx (s : State) (r : Ring) : Nat → State
  | 0 => s
  | fuel + 1 =>
    let x := s.ring r
    if bit (s.ringCfg r) 0 && x.next ≠ s.rd r.tail.1 r.tail.2 then
      let s := s.setRing r { next := (x.next + 1) % 2 ^ 32, open_ := x.open_ ++ [⟨x.next, [], none, stCANCELLED, false⟩] }
      s.cancelTx r fuel
    else s

/-- Every TX descriptor of a ring completes with CANCELLED. -/
def State.cancelRing (s : State) (r : Ring) : State :=
  let x := s.ring r
  let s := s.setRing r { x with open_ := x.open_.map (fun t => { t with left := [], status := stCANCELLED, sent := none }) }
  let s := s.cancelTx r 4096
  s.txPublish r (s.ring r).open_.length

/-- The rings of a Plot's internal ports stop; frames queued for them are dropped, their TX descriptors cancelled. -/
def State.netStopPlot (s : State) (plot : Nat) : State :=
  ((List.range 8).filter (fun n => s.ownerOf 0x0A n == plot)).foldl (fun (s : State) n =>
    let s := (s.cancelRing (.gwy n 0)).forgetDescs n
    let s := (List.range 8).foldl (fun (s : State) tc => s.purge (14 + n) tc 7 (fun _ => true)) s
    let stop (s : State) (r : Ring) : State := s.wr r.cfg.1 r.cfg.2 (clrBit (s.ringCfg r) 0)
    stop (stop s (.gwy n 0)) (.gwy n 1)) s

/-! ### Commands -/

/-- ETH_FRAME_RECEIVE (R344 to R349): `ecc` is what the session table meets (R354). -/
def execEthFrameReceive (port : Fin 14) (frame : List Byte) (ecc : Option (Fin 2 × Bool)) (s : State) : Host.Outcome State Fault Refusal :=
  .next (s.ethReceive port.val frame ecc)

/-- TRANSMIT_START (R350). -/
def execTransmitStart (port : Fin 14) (s : State) : Host.Outcome State Fault Refusal := .next (s.transmitStart port.val)

/-- TRANSMIT_END (R383). -/
def execTransmitEnd (port : Fin 14) (s : State) : Host.Outcome State Fault Refusal := .next (s.transmitEnd port.val)

/-- GATE_ENTRY_CHANGE (R351). -/
def execGateEntryChange (port : Fin 22) (s : State) : Host.Outcome State Fault Refusal := .next (s.gateRefresh port.val)

/-- ETH_LINK_UP (R343): the RATE code that the partner reports. -/
def execEthLinkUp (port : Fin 14) (speed : Fin 8) (s : State) : Host.Outcome State Fault Refusal :=
  .next (s.linkUp port.val speed.val)

/-- ETH_LINK_DOWN (R369). -/
def execEthLinkDown (port : Fin 14) (s : State) : Host.Outcome State Fault Refusal := .next (s.linkDown port.val)

/-- FLW_WRITE (R352): a write of FLW_CMD_s_OP with OP 1. -/
def execFlwWrite (who : Who) (slot : Fin 17) (s : State) : Host.Outcome State Fault Refusal :=
  .next (s.flwWrite who .flwCmdOp slot.val 4 1 0)

/-- FLW_DELETE (R352): OP 2. -/
def execFlwDelete (who : Who) (slot : Fin 17) (s : State) : Host.Outcome State Fault Refusal :=
  .next (s.flwWrite who .flwCmdOp slot.val 4 2 0)

/-- FLW_QUERY (R352): OP 3. -/
def execFlwQuery (who : Who) (slot : Fin 17) (s : State) : Host.Outcome State Fault Refusal :=
  .next (s.flwWrite who .flwCmdOp slot.val 4 3 0)

/-- FLW_COMMIT (R353): the commands of the slots of a mask commit in one cycle, in ascending slot number. -/
def execFlwCommit (slots : BitVec 17) (s : State) : Host.Outcome State Fault Refusal :=
  .next ((bitList 17 slots.toNat).foldl (fun (s : State) n => s.flowCommit n) s)

/-- TX_DESCRIPTOR (R355). -/
def execTxDescriptor (port : Fin 8) (ecc : Option (Fin 2 × Bool)) (s : State) : Host.Outcome State Fault Refusal :=
  .next (s.txTake port.val ecc)

/-- RX_DELIVER (R355). -/
def execRxDeliver (port : Fin 8) (s : State) : Host.Outcome State Fault Refusal := .next (s.rxDeliver port.val)

/-- SYNC_RECEIVE (R380). -/
def execSyncReceive (port : Fin 14) (number : BitVec 8) (origin : BitVec 80) (corr ratio : Int) (s : State) :
    Host.Outcome State Fault Refusal :=
  .next (s.syncReceive port.val number.toNat origin.toNat corr ratio)

/-- SYNC_SEND (R381). -/
def execSyncSend (domain : Fin 4) (s : State) : Host.Outcome State Fault Refusal := .next (s.syncSend domain.val)

end Sys2Proof.Machine
end

