-- ==== Sys2Proof/Machine/Boot.lean ====
section
/-! DEFINITION. Power-up and boot: rails and reset (R538 to R541, R371), the boot steps of Table 16-4 with the journal (R503
to R511), the injection test (R397, R398), and the loading of the Site Plan (R38, R39, R43 to R45, R408). -/

namespace Sys2Proof.Machine

/-! ### Journal (R511) -/

/-- The bytes of a journal entry (Table 16-5). -/
def JournalEntry.bytes (e : JournalEntry) : List Byte :=
  leBytes 1 e.step ++ leBytes 1 e.outcome ++ leBytes 1 e.status ++ leBytes 1 e.slot ++ zeros 4 ++ leBytes 8 e.time ++
    (e.detail ++ zeros 16).take 16

/-- The journal with its header; `closed` is the device time at which it closed. -/
def State.journalBytes (s : State) (closed : Nat) : List Byte :=
  leBytes 4 0x4A425A53 ++ leBytes 4 1 ++ leBytes 4 s.kpr.bootCount ++ leBytes 4 s.kpr.journal.length ++ leBytes 8 closed ++
    zeros 8 ++ s.kpr.journal.flatMap JournalEntry.bytes

/-- First byte of the journal of this boot (Table 16-2). -/
abbrev journalBase : Nat := 0x1FDC000000

/-- Place of a journal in the archive (Table 16-1). -/
def archiveSlot (count : Nat) : Nat := 0x100000 + 0x20000 * (count % 8)

/-- The BOOT_STEP record of an entry whose outcome is not DONE. -/
def State.logBootStep (s : State) (e : JournalEntry) : State :=
  if e.outcome = 0 then s
  else s.raise { s.mkRec .kpr 0 0x10 0 e.status with detail := e.step + 256 * e.outcome + 65536 * e.slot }

/-- Add an entry; from step 0x07 on it is kept in DRAM, and the Keeper logs it. -/
def State.addStep (s : State) (step outcome status slot : Nat) (detail : List Byte) : State :=
  let e : JournalEntry := ⟨step, outcome, status, slot, s.now, detail⟩
  let s := { s with kpr := { s.kpr with journal := s.kpr.journal ++ [e] } }
  if s.kpr.logOpen then (s.reservedPut journalBase (s.journalBytes 0)).logBootStep e else s

/-- The journal closes: it is written to the archive. -/
def State.closeJournal (s : State) : State :=
  let b := s.journalBytes s.now
  let s := if s.kpr.logOpen then s.reservedPut journalBase b else s
  s.flashPut (archiveSlot s.kpr.bootCount) b

/-- A step is STOPPED: the boot ends (R508). -/
def State.bootStop (s : State) (step status slot : Nat) : State :=
  let s := (s.addStep step 3 status slot []).closeJournal
  { s with kpr := { s.kpr with stopped := true } }

/-! ### Firmware (R506, R507, R509) -/

/-- Place and size limit of a firmware slot (Tables 16-1 and 16-3). -/
def fwSlot (kind slot : Nat) : Nat × Nat :=
  match kind with
  | 1 => (0x200000 + 0x100000 * slot, 524288)
  | 2 => (0xC00000 + 0x2000000 * slot, 33554432)
  | _ => (0x4C00000 + 0x2000000 * slot, 33554432)

/-- A firmware image header meets Table 16-3. -/
def fwHeaderOk (h : List Byte) (kind limit : Nat) : Bool :=
  fld h 0 4 == 0x57465A53 && fld h 4 2 == 1 && fld h 6 1 == kind && fld h 7 1 == 0 && fld h 8 4 % 8 == 0 &&
    decide (168 ≤ fld h 8 4) && decide (fld h 8 4 ≤ limit) && decide (fld h 0x10 2 ≤ 256) && allZero h 0x16 2 &&
    allZero h 0x1C 36

/-- An image's signature is accepted, and its SVN is not below the minimum (R447, R507). -/
def State.fwSigned (s : State) (kind : Nat) (img : List Byte) : State × Bool :=
  let n := img.length
  let k := fld img (n - 104) 8
  let ok := s.sigOk k (kind - 1) (sha384 (img.take (n - 104))) (beNat (sub img (n - 96) 48)) (beNat (sub img (n - 48) 48)) &&
    decide (s.gls.otp.mins.getD (kind - 1) 0 ≤ fld img 0x10 2)
  if ok then (s, true) else (s.sigFail k kind, false)

/-- Verify the image of a slot. -/
def State.fwVerify (s : State) (kind slot : Nat) (trial : Bool) : State × Option FwRun :=
  let (base, limit) := fwSlot kind slot
  let h := s.flashGet base 64
  if !fwHeaderOk h kind limit then (s, none)
  else
    let img := s.flashGet base (fld h 8 4)
    match s.fwSigned kind img with
    | (s, true) => (s, some ⟨slot, fld h 0xC 4, fld h 0x10 2, fld h 0x12 2, sha384 img, img, trial⟩)
    | (s, false) => (s, none)

/-- The firmware that runs, or will run, of a kind. -/
def State.setFw (s : State) (kind : Nat) (f : FwRun) : State :=
  { s with kpr := { s.kpr with fw := sset (fun _ => none) s.kpr.fw kind (some f) } }

/-- A firmware step: the slot of R509, then the other. It gives the image with the outcome and the status to journal. -/
def State.fwChoose (s : State) (kind : Nat) : State × Option (FwRun × Nat × Nat) :=
  let c := s.control.kind kind
  let other := 1 - c.active
  let trial := c.trial && !c.tried
  let first := if trial then other else c.active
  let s := if trial then s.setKind kind (fun c => { c with tried := true }) else s
  match s.fwVerify kind first trial with
  | (s, some f) => (s, some (f, if c.trial && c.tried then 1 else 0, stDONE))
  | (s, none) => match s.fwVerify kind (1 - first) false with
    | (s, some f) => (s, some (f, 1, stINTEGRITY))
    | (s, none) => (s, none)

/-- Steps 0x03 and 0x04: verify firmware and take it; STOPPED when both slots fail. -/
def State.fwStep (s : State) (step kind : Nat) : State :=
  if s.kpr.stopped then s
  else match s.fwChoose kind with
    | (s, some (f, o, w)) => (s.setFw kind f).addStep step o w f.slot []
    | (s, none) => s.bootStop step stINTEGRITY 0xFF

/-! ### Steps 0x01 to 0x05 -/

/-- Step 0x01; a TRNG that fails at start-up logs RNG_HEALTH (R450), and which of its tests failed is not given here. -/
def State.glsStart (s : State) (glsOk rngOk : Bool) : State :=
  if !glsOk then s.bootStop 1 stHW_ERROR 0xFF
  else
    let s := { s with gls := { s.gls with rngOk := rngOk } }
    let s := if rngOk then s
      else
        let x := s.fresh
        x.2.raise { x.2.mkRec .gls 0 0x13 2 stHW_ERROR with detail := x.1.toNat % 2 }
    s.addStep 1 (if rngOk then 0 else 2) (if rngOk then stDONE else stHW_ERROR) 0xFF []

/-- Step 0x02: BOOT_COUNT increases, and a staged session is taken up (R511, R526). -/
def State.controlStep (s : State) : State :=
  if s.kpr.stopped then s
  else
    let ok := s.kpr.bcb.all (·.isSome)
    let s := s.setControl (fun b => { b with bootCount := (b.bootCount + 1) % 2 ^ 32 })
    let s := { s with kpr := { s.kpr with bootCount := s.control.bootCount, upd := (s.control.staged).getD s.kpr.upd } }
    s.addStep 2 (if ok then 0 else 1) (if ok then stDONE else stINTEGRITY) 0xFF []

/-- Enable the first rail of the sequence (R540). -/
def State.enableRails (s : State) : State :=
  if s.kpr.stopped then s else { s with pwr := { s.pwr with enabled := 1, enabledAt := s.now } }

/-! ### Steps 0x06 to 0x0A -/

/-- Step 0x06: a channel that fails training twice is left out; more than 16 stop the boot. -/
def State.dramStep (s : State) (noTrain : Nat) : State :=
  if s.kpr.stopped then s
  else if 16 < popcount 128 noTrain then s.bootStop 6 stHW_ERROR 0xFF
  else
    let s := { s with kpr := { s.kpr with skipped := noTrain } }
    s.addStep 6 (if noTrain = 0 then 0 else 2) (if noTrain = 0 then stDONE else stHW_ERROR) 0xFF (leBytes 16 noTrain)

/-- The Keeper starts from its running half: its firmware opens the log and logs what the journal holds (R511, R524). -/
def State.startKeeper (s : State) (f : FwRun) : State :=
  let s := s.reservedPut keeperBase f.image
  let s := { s with kpr := { s.kpr with logOpen := true, wdogAt := s.now } }
  s.kpr.journal.foldl State.logBootStep s

/-- Step 0x07: the copied image is checked again; a difference takes the other slot, from step 0x04. -/
def State.keeperStep (s : State) (bad : List Bool) : State :=
  if s.kpr.stopped then s
  else match s.fwOf 2 with
    | none => s
    | some f =>
      if !bad.getD 0 false then (s.startKeeper f).addStep 7 0 stDONE f.slot []
      else if s.kpr.journal.any (fun e => e.step == 4 && e.status == stINTEGRITY) then s.bootStop 7 stINTEGRITY f.slot
      else
        let s := s.addStep 7 1 stINTEGRITY f.slot []
        match s.fwVerify 2 (1 - f.slot) false with
        | (s, none) => s.bootStop 7 stINTEGRITY (1 - f.slot)
        | (s, some g) =>
          let s := (s.setFw 2 g).addStep 4 1 stINTEGRITY g.slot []
          if bad.getD 1 false then s.bootStop 7 stINTEGRITY g.slot else (s.startKeeper g).addStep 7 0 stDONE g.slot []

/-- Step 0x08: units that fail start-up self-test are recorded unhealthy. -/
def State.selfTestStep (s : State) (bad : List (Nat × Nat)) : State :=
  if s.kpr.stopped then s
  else
    let s := { s with kpr := { s.kpr with unhealthy := bad } }
    s.addStep 8 (if bad.isEmpty then 0 else 2) (if bad.isEmpty then stDONE else stHW_ERROR) 0xFF []

/-- The pages that the retirement list names, as (channel, page). -/
def State.listedPages (s : State) : List (Nat × Nat) :=
  (List.range 128).flatMap (fun c => ((s.retireList c).filter (fun j => decide (j < 131072))).map (fun j => (c, j)))

/-- Step 0x09: a channel with the overflow marker fails start-up self-test (R76). An unreadable list counts as empty. -/
def State.bootRetire (s : State) (readable : Bool) : State :=
  if s.kpr.stopped then s
  else if !readable then s.addStep 9 1 stHW_ERROR 0xFF []
  else
    let full := (List.range 128).filter (fun c => (s.retireList c).contains 0xFFFFFFFE)
    let s := { s with kpr := { s.kpr with
      overflow := maskOf full, unhealthy := s.kpr.unhealthy ++ full.map (fun c => (0x20, c)) } }
    s.addStep 9 0 stDONE 0xFF []

/-- The listed pages are RETIRED (R76). -/
def State.markRetired (s : State) (readable : Bool) : State :=
  if readable then s.listedPages.foldl (fun (s : State) p => s.setEntry p.1 p.2 (setField (s.entry p.1 p.2) 4 2 2)) s else s

/-- The injection test (R397, R398): `fail` is the injection that the comparator does not flag. -/
def State.injection (s : State) (fail : Option (Nat × Bool)) : State :=
  match fail with
  | none => { s with gth := { s.gth with injectGroups := 64, injectFirst := 0xFF, injectDone := true, injectPass := true } }
  | some (g, single) =>
    { s with gth := { s.gth with injectGroups := g + 1, injectFirst := g, injectDone := true, injectPass := false } }.raise
      { s.mkRec .gth 0 0x11 4 stHW_ERROR with detail := g % 64 + 256 * b2n single }

/-- Step 0x0A: Gatehouse firmware and the injection test. -/
def State.gthStep (s : State) (fail : Option (Nat × Bool)) : State :=
  if s.kpr.stopped then s
  else match s.fwChoose 3 with
    | (s, none) => s.addStep 0xA 2 stINTEGRITY 0xFF []
    | (s, some (f, o, w)) =>
      let s := (s.setFw 3 f).injection fail
      let s := { s with gth := { s.gth with imageOk := true, rules := (Config.ruleTable f.image).map readRule } }
      if s.gth.injectPass then s.addStep 0xA o w f.slot [] else s.addStep 0xA 2 stHW_ERROR f.slot []

/-! ### Step 0x0B: the Site Plan -/

/-- Place of a plan slot (Table 16-1). -/
def planSlot (slot : Nat) : Nat := 0x400000 + 0x400000 * slot

/-- What the checks know of this device: a channel fails check 0x06 when it was skipped at training or its MCC failed start-up
self-test (R38, R76, R510). -/
def State.healthIn (s : State) : HealthIn :=
  { bad := s.kpr.unhealthy,
    chans := s.kpr.skipped ||| maskOf ((s.kpr.unhealthy.filter (fun u => u.1 == 0x20)).map (·.2)), rngOk := s.gls.rngOk, gthOk := s.gth.imageOk, rules := s.gth.rules,
    groveId := s.self }

/-- Checks 0x02 to 0x11 of an image for a slot (R38): 0x02 and 0x03 stop the load. -/
def State.planFails (s : State) (img : List Byte) (slot : Nat) : List PlanFail :=
  match structureFail img slot with
  | some i => [⟨2, stREFUSED_FORMAT, 0, i, 0⟩]
  | none =>
    if fld img 4 2 ≠ 1 || fld img 6 2 ≠ 0 || (readSections img).any (fun e => e.ver ≠ 1) ||
        fld img 0x10 4 < s.gls.otp.mins.getD 3 0 then [⟨3, stREFUSED_VERSION, 0, 0xFFFF, 0⟩]
    else (readPlan img).lateFails s.healthIn

/-- The checks of a slot, with its image. -/
def State.checkSlot (s : State) (slot : Nat) : State × List Byte × List PlanFail :=
  let hdr := s.flashGet (planSlot slot) 0x80
  if !locatable hdr then (s, [], [⟨2, stREFUSED_FORMAT, 0, 0xFFFF, 0⟩])
  else
    let img := s.flashGet (planSlot slot) (fld hdr 8 4)
    let n := img.length
    match s.verify (fld img (n - 104) 8) 3 4 (sha384 (img.take (n - 104))) (beNat (sub img (n - 96) 48))
        (beNat (sub img (n - 48) 48)) with
    | (s, false) => (s, img, [⟨1, stINTEGRITY, 0, 0xFFFF, 0⟩])
    | (s, true) => (s, img, s.planFails img slot)

/-- Log the failed checks of a slot and count them (R39). -/
def State.logFails (s : State) (slot : Nat) (fs : List PlanFail) : State :=
  let s := fs.foldl (fun (s : State) f => s.raise { s.mkRec .spl 0 0x10 0 f.status with detail := f.detail slot }) s
  { s with spl := { s.spl with
      failCount := s.spl.failCount + (fs.map (·.check)).eraseDups.length
      firstFail := s.spl.firstFail.or ((fs.head?).map (fun f => (f.check, slot, f.status))) } }

/-- SPL_FIRST_FAIL (Table 01-23). -/
def firstFailWord (f : Option (Nat × Nat × Nat)) : Nat :=
  match f with
  | some (c, slot, st) => c + 256 * slot + 65536 * st
  | none => 0

/-- The golden images are copied, and their addresses and CRCs set (R408). -/
def State.loadGolden (s : State) (p : Plan) : State :=
  (p.streams.filter (fun r => r.goldenEvery ≠ 0)).foldl (fun (s : State) r =>
    let fw := ((s.fwOf 3).map (·.image)).getD []
    let g := Config.goldenImage fw r.stream
    let a := (Config.goldenAddr fw r.stream).toNat
    let st : Stamp := ⟨158, r.plot, 7, s.plotSecure r.plot, 0xFFFF⟩
    let s := (s.memWrite st a g).1
    (s.wr .snsSGoldAddr r.stream a).wr .snsSGoldCrc r.stream ((crcFixed 4).value g)) s

/-- The loader accepts a plan (R43, R111, R256, R270, R436, R548) and the Gatehouse firmware starts (step 0x0C). -/
def State.acceptPlan (s : State) (p : Plan) (slot : Nat) (readable : Bool) : State :=
  let (seed, s) := s.fresh
  let s := { s with
    plan := some p
    spl := { s.spl with state := 2 + slot, acceptTime := s.now }
    net := { s.net with seed := seed.toNat }
    gth := { s.gth with started := some s.now, wdogAt := s.now } }
  let s := s.markRetired readable
  let s := (s.wr .pctLimitMw 0 (1000 * p.powerLimit)).wr .glsCtrPolicy 0 (if p.plots.any (·.secure) then 0 else 0x1F)
  let s := ((List.range 128).filter (fun n => (p.owner 0x03 n).isSome)).foldl (fun (s : State) n =>
    (s.setBed n { s.bed n with pwr := .on }).wr .bedPwr n 2) s
  let s := ((List.range 22).filter (fun k => decide (s.portPlot k < 16))).foldl (fun (s : State) k =>
    s.wr .gwyPAccept k (2 ^ s.portPlot k)) s
  let s := ((List.range 6).filter (fun n => (p.owner 0x0E n).isSome)).foldl (fun (s : State) n =>
    s.setPipe n { s.pipe n with link := true }) s
  let s := if p.groveSize = 1 then { s with elx := { s.elx with state := 3 } }
    else (List.range 4).foldl (fun (s : State) k => s.setElxPort k { s.elxPort k with state := 1 })
      { s with elx := { s.elx with state := 1 } }
  s.loadGolden p

/-- No plan is accepted (R44 step 7): PLAN_NONE, and the Keeper is in recovery (R517). -/
def State.noPlan (s : State) (readable : Bool) : State :=
  let st := ((s.spl.firstFail).map (fun f => f.2.2)).getD stREFUSED_PLAN
  let s := s.markRetired readable
  let s := { s with spl := { s.spl with state := 4 }, kpr := { s.kpr with state := 3, recovery := true } }
  s.raise { s.mkRec .spl 0 0x12 4 st with detail := firstFailWord s.spl.firstFail }

/-- Step 0x0B: the loader chooses between the slots (R44). It accepts no second plan (R46). -/
def State.planStep (s : State) (readable : Bool) : State :=
  if s.kpr.stopped || s.plan.isSome then s
  else if s.gth.injectDone && !s.gth.injectPass then
    (s.addStep 0xB 2 stREFUSED_PLAN 0xFF []).noPlan readable
  else
    let (s, imgA, fa) := s.checkSlot 0
    let s := s.logFails 0 fa
    let wordOf (slot : Nat) (fs : List PlanFail) := firstFailWord ((fs.head?).map (fun f => (f.check, slot, f.status)))
    match fa with
    | [] => (s.addStep 0xB 0 stDONE 0 (zeros 16)).acceptPlan (readPlan imgA) 0 readable
    | f :: _ =>
      let late := decide (4 ≤ f.check)
      let a := readPlan imgA
      if late && !a.altBound then (s.addStep 0xB 2 f.status 0xFF (leBytes 4 (wordOf 0 fa))).noPlan readable
      else if late && sha384 (s.flashGet (planSlot 1) (fld (s.flashGet (planSlot 1) 0x80) 8 4 % 4194305)) ≠ a.altDigest then
        (s.addStep 0xB 2 f.status 0xFF (leBytes 4 (wordOf 0 fa))).noPlan readable
      else
        let s := { s with spl := { s.spl with altTried := true } }
        let (s, imgB, fb) := s.checkSlot 1
        let s := s.logFails 1 fb
        let detail := leBytes 4 (wordOf 0 fa) ++ leBytes 4 (wordOf 1 fb)
        match fb with
        | [] =>
          let s := s.raise { s.mkRec .spl 0 0x11 1 stDONE with detail := firstFailWord s.spl.firstFail }
          (s.addStep 0xB 1 f.status 1 detail).acceptPlan (readPlan imgB) 1 readable
        | _ => (s.addStep 0xB 2 f.status 0xFF detail).noPlan readable

/-- Steps 0x06 to 0x0B, once every rail is in regulation. -/
def State.bootSteps (s : State) (b : BootIn) : State :=
  ((((((s.dramStep b.noTrain.toNat).keeperStep b.copyBad).selfTestStep b.unhealthy).bootRetire b.retireReadable).gthStep
    b.injectFail).planStep b.retireReadable)

/-! ### Step 0x0D, and the failure of step 0x0C -/

/-- A kind that booted its trial slot keeps it (R509). -/
def State.keepTrial (s : State) (kind : Nat) : State :=
  match s.fwOf kind with
  | some f => if f.trial then s.setKind kind (fun _ => { active := f.slot }) else s
  | none => s

/-- The first watchdog kick: steps 0x0C and 0x0D. -/
def State.firstKick (s : State) : State :=
  let s := s.addStep 0xC 0 stDONE 0xFF []
  let s := { s with kpr := { s.kpr with reached := true, state := 1 } }
  let s := (([1, 2, 3].foldl State.keepTrial s).addStep 0xD 0 stDONE 0xFF []).closeJournal
  s.touch

/-- The Gatehouse firmware fails to start (R416). -/
def State.startFails (s : State) : State :=
  let s := { s with gth := { s.gth with failed := true }, kpr := { s.kpr with state := 3, recovery := true } }
  s.addStep 0xC 2 stHW_ERROR 0xFF []

/-! ### Commands -/

/-- POWER_ON_RESET (R539): everything starts again; VDD_AON and VDD_GTH come into regulation. -/
def execPowerOnReset (s : State) : Host.Outcome State Fault Refusal :=
  let s := s.deviceReset
  .next { s with pwr := { por := true, rails := 3 } }

/-- RESET_N_FALL (R541). -/
def execResetNFall (s : State) : Host.Outcome State Fault Refusal :=
  let s := s.deviceReset
  .next { s with pwr := { por := s.pwr.por, rails := s.pwr.rails } }

/-- POWER_FAIL (R541): as a reset, and the device waits for POR. -/
def execPowerFail (s : State) : Host.Outcome State Fault Refusal :=
  let s := s.deviceReset
  .next { s with pwr := { por := false, rails := s.pwr.rails } }

/-- RESET_N_RISE (R371, R462, R540): the straps are sampled at RESET_N rising; the release of an internal reset keeps
them. -/
def execResetNRise (groveId : Fin 8) (hostMode : Bool) (s : State) : Host.Outcome State Fault Refusal :=
  .next (if !s.pwr.por || s.pwr.running then s
    else if s.pwr.strapped then { s with dt := 0, pwr := { s.pwr with running := true } }
    else { s with dt := 0, pwr := { s.pwr with running := true, strapped := true, groveId := groveId.val, hostMode := hostMode } })

/-- The boot ROM reads the flash's SFDP in 1S-1S-1S at 25 MHz, and switches to 8D-8D-8D at 200 MHz when SFDP declares it (R570). -/
def State.xspiMode (s : State) (sfdp8d : Bool) : State := { s with pwr := { s.pwr with xspi8d := !s.kpr.stopped && sfdp8d } }

/-- ROOT_PLL_LOCK (R371, R540, R570): the boot ROM runs steps 0x01 to 0x04 and enables rail 1. -/
def execRootPllLock (selfTest : Bool × Bool) (sfdp8d : Bool) (s : State) : Host.Outcome State Fault Refusal :=
  .next (if !s.pwr.running || s.pwr.pll then s
    else
      let s := { s with pwr := { s.pwr with pll := true } }
      (((((s.glsStart selfTest.1 selfTest.2).xspiMode sfdp8d).controlStep).fwStep 3 1).fwStep 4 2).enableRails)

/-- RAIL_IN_REGULATION (R540): the next rail is enabled; the last one completes step 0x05 and steps 0x06 to 0x0B follow. -/
def execRailInRegulation (rail : Fin 9) (regulated : Bool) (boot : BootIn) (s : State) : Host.Outcome State Fault Refusal :=
  .next (if s.kpr.stopped || s.pwr.railsDone || s.pwr.enabled ≠ rail.val + 1 then s
    else if !regulated || s.pwr.enabledAt + 200000 < s.now then s.bootStop 5 stHW_ERROR 0xFF
    else
      let s := { s with pwr := { s.pwr with rails := setBit s.pwr.rails (rail.val + 2) } }
      if rail.val < 8 then { s with pwr := { s.pwr with enabled := rail.val + 2, enabledAt := s.now } }
      else ({ s with pwr := { s.pwr with railsDone := true, normal := s.now } }.addStep 5 0 stDONE 0xFF []).bootSteps boot)

end Sys2Proof.Machine
end

