-- ==== Sys2Proof/Machine/CanLin.lean ====
section
/-! DEFINITION. The CAN and LIN controllers of spec/11 (R357 to R363). The bus itself is outside: how an arbitration ends and
the error counters of ISO 11898-1 come with the commands. -/

namespace Sys2Proof.Machine

/-- A controller or unit of a kind takes no further work: safe state with a Plot that is not SURVIVE (R357), or a stopped
Plot (R358). -/
def State.unitQuiet (s : State) (kind n : Nat) : Bool :=
  let p := s.ownerOf kind n
  (s.safe.safe && !s.survives p) || s.tensor.stopped.contains p

/-! ### CAN (R359 to R362) -/

/-- A controller takes new error counters: error active again when both are below 128 (ISO 11898-1). -/
def CanSt.counters (c : CanSt) (tec rec_ : Nat) : CanSt :=
  { c with tec := tec, rec_ := rec_, state := if c.state == 1 && decide (tec < 128) && decide (rec_ < 128) then 0 else c.state }

/-- A controller goes OFF, and its TX descriptors complete with CANCELLED (R357). -/
def State.canOff (s : State) (n : Nat) : State :=
  let c := s.can n
  let s := s.setCan n { c with state := 3, high := none, low := none, tx := none, offAt := some (c.offAt.getD s.now) }
  (s.cancelRing (.can n 0)).cancelRing (.can n 1)

/-- A controller that takes no further work goes OFF once no frame of its own is on the bus; TX descriptors posted to one that is OFF
complete with CANCELLED too. -/
def State.canSettle (s : State) (n : Nat) : State :=
  if s.unitQuiet 0x0B n && (s.can n).tx.isNone then s.canOff n else s

/-- Every controller settles. -/
def State.canSettleAll (s : State) : State := (List.range 16).foldl (fun (s : State) n => s.canSettle n) s

/-- The FD data lengths (Table 11-8). -/
def fdLength (n : Nat) : Bool := decide (n ≤ 8) || [12, 16, 20, 24, 32, 48, 64].contains n

/-- A CAN buffer is valid for its TYPE and for CFG.MODE, and holds no reserved field (Table 11-8, R360). -/
def canBufferOk (mode : Nat) (b : List Byte) : Bool :=
  let w := fld b 0 4
  let len := fld b 4 2
  let kind := bits w 31 30
  let flags := fld b 6 1
  b.length == 16 + len && decide (kind ≤ mode) && allZero b 9 3 &&
    (match kind with
      | 0 => decide (len ≤ 8) && flags &&& 0xFB == 0 && allZero b 7 9
      | 1 => fdLength len && flags &&& 0xFC == 0 && allZero b 7 9
      | 2 => decide (1 ≤ len) && decide (len ≤ 2048) && flags &&& 0xF7 == 0 && !bit w 29 && bits w 28 11 == 0
      | _ => false)

/-- A TX descriptor of a CAN ring holds no reserved field or value (Table 11-7). -/
def canDescOk (d : List Byte) : Bool :=
  fld d 0 8 % 8 == 0 && decide (16 ≤ fld d 8 2) && decide (fld d 8 2 ≤ 2064) && fld d 0xC 1 &&& 0xFD == 0 &&
    fld d 0xD 1 == 0 && decide (fld d 0xE 1 ≤ 32)

/-- A controller takes the next descriptor of a TX ring and offers its frame, or completes the descriptor without sending. -/
def State.canTake (s : State) (n x : Nat) : State :=
  let r := Ring.can n x
  let pos := (s.ring r).next
  let st := s.ringStamp (s.ringPlot r)
  let s := s.setRing r { s.ring r with next := (pos + 1) % 2 ^ 32 }
  match s.memRead st (s.descAddr r pos) 32 with
  | (s, none) => s.txAnswer r pos stOWNER_FAULT true
  | (s, some d) =>
    if !canDescOk d then s.txAnswer r pos stREFUSED_FORMAT false
    else match s.memRead st (fld d 0 8) (fld d 8 2) with
      | (s, none) => s.txAnswer r pos stOWNER_FAULT true
      | (s, some b) =>
        if !canBufferOk (bits (s.rd .canCfg n) 2 1) b then s.txAnswer r pos stREFUSED_FORMAT false
        else match s.framePath (s.ringPlot r) (fld d 0xE 1) (fld d 0xA 2) (b.drop 16) with
          | .error w => s.txAnswer r pos w false
          | .ok data =>
            let q := s.ring r
            let s := s.setRing r { q with open_ := q.open_ ++ [⟨pos, [0], none, stDONE, bit (fld d 0xC 1) 1⟩] }
            s.setCan n { ((s.can n).setTaken x (some (pos, b.take 16 ++ data))) with tx := some x }

/-- A controller offers the head of a TX ring. -/
def State.canOffer (s : State) (n x : Nat) : State :=
  if ((s.can n).taken x).isSome then s.setCan n { s.can n with tx := some x } else s.canTake n x

/-- A TX ring holds an uncompleted descriptor. -/
def State.canWaiting (s : State) (n x : Nat) : Bool :=
  bit (s.ringCfg (.can n x)) 0 && (((s.can n).taken x).isSome || s.ringPosted (.can n x))

/-- An arbitration (R360). -/
def State.canArbitrate (s : State) (n : Nat) : State :=
  let s := s.canSettle n
  let c := s.can n
  if !bit (s.rd .canCfg n) 0 || bit (s.rd .canCfg n) 5 || decide (2 ≤ c.state) || c.tx.isSome then s
  else if s.canWaiting n 0 then s.canOffer n 0
  else if s.canWaiting n 1 then s.canOffer n 1
  else s

/-- The frame on the bus ends: 0 sent, 1 arbitration lost, 2 an error of a kind of Table 11-24 (R360). -/
def State.canTxDone (s : State) (n result err tec rec_ : Nat) : State :=
  let c := s.can n
  match c.tx with
  | none => s
  | some x => match c.taken x with
    | none => s
    | some (pos, b) =>
      let c := ({ c with tx := none, lastErr := if result = 2 then err else c.lastErr }).counters tec rec_
      let close (s : State) (status : Nat) : State :=
        (s.setCan n (c.setTaken x none)).txUpdate (.can n x) pos (fun t =>
          { t with left := [], status := status, sent := if status = stDONE then some (0, s.now) else none })
      let s := if result = 0 then (close s stDONE).send (.can n b)
        else if bit (s.rd .canCfg n) 3 then close s (if result = 1 then stCANCELLED else stHW_ERROR)
        else s.setCan n c
      s.canSettle n

/-- An acceptance filter takes a frame's ID word (R361). -/
def filterTakes (f w : Nat) : Bool :=
  bit f 31 && bit f 29 == bit w 29 && (bits w 28 0 ^^^ bits f 28 0) &&& bits f 60 32 == 0

/-- A frame with an ID word is accepted (R361). -/
def State.canAccepts (s : State) (n w : Nat) : Bool :=
  let fs := (List.range 8).map (fun f => s.rd .canFilter (8 * n + f))
  fs.all (fun f => !bit f 31) || fs.any (fun f => filterTakes f w)

/-- Write an accepted frame to the RX ring; a descriptor of wrong format is passed over. -/
def State.canDeliver (s : State) (n : Nat) (b : List Byte) (stamp : Nat) : Nat → State
  | 0 => s.bump .canLost n 1
  | fuel + 1 =>
    if !s.ringPosted (.can n 2) then s.bump .canLost n 1
    else match s.rxFill (.can n 2) b 0 stamp with
      | (s, true) => s
      | (s, false) => s.canDeliver n b stamp fuel

/-- A controller takes part on the bus for a frame whose SOF came at `stamp`: one that went OFF under R357 still finishes the bit
stream that was in progress. -/
def State.canHears (s : State) (n stamp : Nat) : Bool :=
  let c := s.can n
  bit (s.rd .canCfg n) 0 && (decide (c.state ≤ 1) || (c.state == 3 && (c.offAt.map (fun t => decide (stamp < t))).getD false))

/-- A frame of another node is received without error (R361), with the receive error counter after it. -/
def State.canReceive (s : State) (n : Nat) (b : List Byte) (stamp rec_ : Nat) : State :=
  let s := s.canSettle n
  let c := s.can n
  if !s.canHears n stamp then s
  else
    let s := s.setCan n (c.counters c.tec rec_)
    if s.canAccepts n (fld b 0 4) then s.canDeliver n b stamp 4096 else s

/-- A controller is on the bus. -/
def State.canLive (s : State) (n : Nat) : Bool := bit (s.rd .canCfg n) 0 && decide ((s.can n).state ≤ 1)

/-- A controller enters error passive (R362). -/
def State.canPassive (s : State) (n tec rec_ : Nat) : State :=
  if s.canLive n && (s.can n).state == 0 then
    (s.setCan n { s.can n with state := 1, tec := tec, rec_ := rec_ }).raise
      { s.mkRec .can n 0x11 0 stDONE with detail := 256 * tec + 65536 * rec_ }
  else s

/-- A controller enters bus-off (R362): it stops transmission, and its descriptors stay pending. -/
def State.canBusOff (s : State) (n err : Nat) : State :=
  if s.canLive n then
    (s.setCan n { s.can n with state := 2, tec := 255, lastErr := err, tx := none }).raise
      { s.mkRec .can n 0x10 1 stHW_ERROR with detail := err }
  else s

/-- A bus-off controller returns to error active (R362). -/
def State.canRecover (s : State) (n : Nat) : State :=
  if (s.can n).state == 2 && bit (s.rd .canCfg n) 0 && bit (s.rd .canCfg n) 4 then
    (s.setCan n { s.can n with state := 0, tec := 0, rec_ := 0 }).canSettle n
  else s

/-- A bit timing is valid and its rate at most `mbit` Mbit/s with PER_CLK at 600 MHz (R359, Table 11-25). -/
def timingOk (mbit v : Nat) : Bool :=
  let q1 := bits v 17 10
  let q2 := bits v 24 18
  let sjw := bits v 31 25
  decide (1 ≤ q1) && decide (1 ≤ q2) && decide (1 ≤ sjw) && decide (sjw ≤ q2) &&
    decide (600 ≤ mbit * ((bits v 9 0 + 1) * (1 + q1 + q2)))

/-- The effect of a CAN_Cn_CFG write: a controller that is enabled is error active with counters of 0, one that is disabled
is off the bus. -/
def State.canCfgStore (s : State) (n v hw : Nat) : State :=
  let was := bit (s.rd .canCfg n) 0
  let s := s.regStore .canCfg n v hw
  let c := s.can n
  if bit v 0 && !was then
    (s.setCan n { c with state := 0, tec := 0, rec_ := 0, lastErr := 0, offAt := none }).canSettle n
  else if !bit v 0 then s.setCan n { c with state := 3, tx := none }
  else s

/-! ### LIN (R363) -/

/-- A LIN controller. -/
def State.linCtl (s : State) (l : Nat) : LinSt := sget (fun _ => {}) s.net.lin l

/-- Change a LIN controller. -/
def State.setLin (s : State) (l : Nat) (x : LinSt) : State :=
  { s with net := { s.net with lin := sset (fun _ => {}) s.net.lin l x } }

/-- The protected identifier of ISO 17987. -/
def linPid (i : Nat) : Nat :=
  let b (k : Nat) : Nat := i / 2 ^ k % 2
  i + 64 * ((b 0 + b 1 + b 2 + b 4) % 2) + 128 * ((1 + b 1 + b 3 + b 4 + b 5) % 2)

/-- Add a byte to a LIN checksum, with the carry. -/
def linAdd (a b : Nat) : Nat := if 256 ≤ a + b then a + b - 255 else a + b

/-- The checksum of ISO 17987 of a command's response (R363). -/
def linChecksum (cmd : Nat) (data : List Byte) : Nat :=
  let i := bits cmd 5 0
  let start := if bit cmd 11 && decide (i < 60 ∨ 61 < i) then linPid i else 0
  255 - data.foldl (fun a b => linAdd a b.toNat) start

/-- The response bytes that a LIN controller sends. -/
def State.linResponse (s : State) (l v : Nat) : List Byte :=
  if bit v 6 then
    let d := leBytes (bits v 10 7) (s.rd .linData l)
    d ++ [BitVec.ofNat 8 (linChecksum v d)]
  else []

/-- The effect of a CAN_Ll_CMD write: a frame starts. -/
def State.linStart (s : State) (l v : Nat) : State :=
  if !bit (s.rd .linCfg l) 16 || s.unitQuiet 0x0C l then s
  else (s.setLin l { s.linCtl l with cmd := some v }).send (.lin l (linPid (bits v 5 0)) (s.linResponse l v))

/-- A LIN frame ends with an error code of Table 11-27; 0 for none. -/
def State.linClose (s : State) (l err : Nat) : State :=
  s.setLin l ⟨none, if err = 0 then stDONE else stHW_ERROR, err⟩

/-- The response of a LIN frame ends on the bus. -/
def State.linEnd (s : State) (l : Nat) (data : List Byte) (sum : Nat) (framing bitErr : Bool) : State :=
  match (s.linCtl l).cmd with
  | none => s
  | some v =>
    if bitErr then s.linClose l 4
    else if bit v 6 then s.linClose l 0
    else
      let d := data.take (bits v 10 7)
      let s := s.wr .linData l (setField (s.rd .linData l) 0 (8 * d.length) (leNat d))
      s.linClose l (if framing then 3 else if sum ≠ linChecksum v d then 2 else 0)

/-- A LIN response is not complete in time. -/
def State.linNoResponse (s : State) (l : Nat) : State :=
  match (s.linCtl l).cmd with
  | none => s
  | some v => if bit v 6 then s else s.linClose l 1

/-! ### Registers (R370) -/

/-- The refusal of a write to a busy controller or unit (R359, R363, R367): `detail` is the register's offset. -/
def configBusy (inst off : Nat) : WRefusal :=
  { errBit := some 3, inst := inst, cls := 0x12, status := stBUSY, detail := off % 65536 }

/-- Offset of a register in the CAN block. -/
def canOffset (id : RegId) (ix : Nat) : Nat :=
  match id.row with
  | some d => d.addr ix - 0x020006800000
  | none => 0

/-- Writes of the CAN block. -/
def State.canWrite (s : State) (who : Who) (id : RegId) (ix size v hw : Nat) : State :=
  let st := s.stampOf who
  let canNo (n : Nat) (held : Bool) : Option WRefusal :=
    if !s.netMay who (s.ownerOf 0x0B n) then some (netNotOwner n)
    else if held && bit (s.rd .canCfg n) 0 then some (configBusy n (canOffset id ix)) else none
  let linNo (l : Nat) (held : Bool) : Option WRefusal :=
    if !s.netMay who (s.ownerOf 0x0C l) then some (netNotOwner (16 + l))
    else if held && (s.linCtl l).cmd.isSome then some (configBusy (16 + l) (canOffset id ix)) else none
  let store (s : State) : State := s.regStore id ix v hw
  let ring := Ring.can (ix / 3) (ix % 3)
  match id with
  | .canCfg =>
    s.regWrite st id ix size v (canNo ix (bits v 2 1 ≠ bits (s.rd .canCfg ix) 2 1)) (bits v 2 1 ≠ 3)
      (fun s => s.canCfgStore ix v hw)
  | .canNbt => s.regWrite st id ix size v (canNo ix true) (timingOk 1 v) store
  | .canDbt => s.regWrite st id ix size v (canNo ix true) (timingOk 8 v) store
  | .canXbt => s.regWrite st id ix size v (canNo ix true) (timingOk 20 v) store
  | .canFilter => s.regWrite st id ix size v (canNo (ix / 8) false) true store
  | .canRBase => s.ringRegWrite st ring id ix size v hw (canNo (ix / 3) false)
  | .canRCfg => s.ringRegWrite st ring id ix size v hw (canNo (ix / 3) false)
  | .canRTail => s.ringRegWrite st ring id ix size v hw (canNo (ix / 3) false)
  | .linCfg =>
    s.regWrite st id ix size v (linNo ix false) (decide (1000 ≤ bits v 14 0) && decide (bits v 14 0 ≤ 20000)) (fun s =>
      let s := store s
      if bit v 16 then s else s.setLin ix { s.linCtl ix with cmd := none })
  | .linCmd =>
    s.regWrite st id ix size v (linNo ix true) (decide (1 ≤ bits v 10 7) && decide (bits v 10 7 ≤ 8)) (fun s => s.linStart ix v)
  | .linData => s.regWrite st id ix size v (linNo ix false) true store
  | _ => s.regWrite st id ix size v none true store

/-- Views of the CAN registers that show state. -/
def State.canView (s : State) (id : RegId) (ix : Nat) : Option Nat :=
  match id with
  | .canStatus =>
    let c := s.can ix
    some (c.state + 4 * b2n c.tx.isSome + 256 * c.tec + 65536 * c.rec_ + 16777216 * c.lastErr)
  | .linStatus =>
    let x := s.linCtl ix
    some (b2n x.cmd.isSome + 256 * x.status + 65536 * x.err)
  | _ => none

/-! ### Commands -/

/-- RING_CFG_WRITE (R370). -/
def execRingCfgWrite (who : Who) (ring : RingName) (value : BitVec 32) (s : State) : Host.Outcome State Fault Refusal :=
  .next (match ring with
    | .gwy n rx => s.gwyWrite who .gwyRCfg (2 * n.val + b2n rx) 4 value.toNat 0
    | .can n x => s.canWrite who .canRCfg (3 * n.val + x.val) 4 value.toNat 0)

/-- CAN_ARBITRATION (R360). -/
def execCanArbitration (n : Fin 16) (s : State) : Host.Outcome State Fault Refusal := .next (s.canArbitrate n.val)

/-- CAN_TX_DONE (R360): 0 sent, 1 arbitration lost, 2 error `err`; the error counters after it. -/
def execCanTxDone (n : Fin 16) (result : Fin 3) (err : Fin 6) (tec rec_ : BitVec 8) (s : State) :
    Host.Outcome State Fault Refusal :=
  .next (s.canTxDone n.val result.val err.val tec.toNat rec_.toNat)

/-- CAN_FRAME_RECEIVE (R361): the frame as in Table 11-8, device time of its SOF sample point, and REC after it. -/
def execCanFrameReceive (n : Fin 16) (frame : List Byte) (stamp : BitVec 64) (rec_ : BitVec 8) (s : State) :
    Host.Outcome State Fault Refusal :=
  .next (s.canReceive n.val frame stamp.toNat rec_.toNat)

/-- ERROR_PASSIVE (R362). -/
def execErrorPassive (n : Fin 16) (tec rec_ : BitVec 8) (s : State) : Host.Outcome State Fault Refusal :=
  .next (s.canPassive n.val tec.toNat rec_.toNat)

/-- BUS_OFF (R362), with the error that led to it. -/
def execBusOff (n : Fin 16) (err : Fin 6) (s : State) : Host.Outcome State Fault Refusal := .next (s.canBusOff n.val err.val)

/-- BUS_OFF_RECOVERY (R362). -/
def execBusOffRecovery (n : Fin 16) (s : State) : Host.Outcome State Fault Refusal := .next (s.canRecover n.val)

/-- LIN_FRAME (R363): a write of CAN_Ll_CMD. -/
def execLinFrame (who : Who) (l : Fin 4) (value : BitVec 32) (s : State) : Host.Outcome State Fault Refusal :=
  .next (s.canWrite who .linCmd l.val 4 value.toNat 0)

/-- LIN_FRAME_END (R363): the response and checksum on the bus, a framing error, a read-back mismatch. -/
def execLinFrameEnd (l : Fin 4) (data : List Byte) (checksum : Byte) (framing bitErr : Bool) (s : State) :
    Host.Outcome State Fault Refusal :=
  .next (s.linEnd l.val data checksum.toNat framing bitErr)

/-- NO_RESPONSE (R363). -/
def execNoResponse (l : Fin 4) (s : State) : Host.Outcome State Fault Refusal := .next (s.linNoResponse l.val)

end Sys2Proof.Machine
end

