-- ==== Sys2Proof/Machine/Cvu.lean ====
section
/-! DEFINITION. The check-value units of spec/11 (R364 to R367). -/

namespace Sys2Proof.Machine

/-- A check-value unit. -/
def State.cvu (s : State) (u : Nat) : CvuSt := sget (fun _ => {}) s.net.cvu u

/-- Change a check-value unit. -/
def State.setCvu (s : State) (u : Nat) (x : CvuSt) : State :=
  { s with net := { s.net with cvu := sset (fun _ => {}) s.net.cvu u x } }

/-- The stamp of a unit's accesses (R366). -/
def State.cvuStamp (s : State) (u : Nat) : Stamp :=
  let p := s.ownerOf 0x0D u
  ⟨151, p, s.defaultClass p, s.secureAttr 0x0D u, 0xFFFF⟩

/-- A write of OP starts an operation, unless the unit takes none (R357). -/
def State.cvuStart (s : State) (u v : Nat) : State :=
  if s.unitQuiet 0x0D u then s else s.setCvu u { s.cvu u with op := some (v % 8, bit v 3) }

/-- The final value of a register; one that the manual does not give when WIDTH is not a multiple of 8. -/
def State.cvuFinal (s : State) (c : CrcSet) (reg : Nat) : State × Nat :=
  if c.width % 8 = 0 then (s, c.final reg)
  else
    let (x, s) := s.fresh
    (s, x.toNat % 2 ^ c.width)

/-- The operation of a unit on its bytes (R366): the state with VALUE and RESULT, and the status. -/
def State.cvuRun (s : State) (u op : Nat) (fromValue : Bool) (b : List Byte) : State × Nat :=
  let c := s.cvuSet u
  let n := c.width / 8
  let old := s.rd .cvuValue u % 2 ^ c.width
  let body := if op = 4 then b.take (b.length - n) else b
  let reg := c.run (if op = 1 || fromValue then old else c.init % 2 ^ c.width) body
  if op = 1 then (s.wr .cvuValue u reg, stDONE)
  else
    let (s, f) := s.cvuFinal c reg
    let keep (s : State) : State := (s.wr .cvuValue u reg).wr .cvuResult u f
    match op with
    | 3 => match s.memWrite (s.cvuStamp u) (s.rd .cvuSrc u + b.length) (c.stored f) with
      | (s, true) => (keep s, stDONE)
      | (s, false) => (s, stOWNER_FAULT)
    | 4 => (keep s, if c.stored f = b.drop (b.length - n) then stDONE else stINTEGRITY)
    | _ => (keep s, stDONE)

/-- The running operation of a unit completes (R366). -/
def State.cvuDone (s : State) (u : Nat) : State :=
  match (s.cvu u).op with
  | none => s
  | some (op, fromValue) =>
    let len := s.rd .cvuLen u
    if op = 4 ∧ len < (s.cvuSet u).width / 8 then s.setCvu u ⟨none, stREFUSED_FORMAT⟩
    else match s.memRead (s.cvuStamp u) (s.rd .cvuSrc u) len with
      | (s, none) => s.setCvu u ⟨none, stOWNER_FAULT⟩
      | (s, some b) =>
        let (s, status) := s.cvuRun u op fromValue b
        s.setCvu u ⟨none, status⟩

/-- A CVU_Uu_CFG write holds valid encodings (Table 11-29). -/
def cvuCfgOk (u v : Nat) : Bool :=
  if u < 28 then v / 8 == 0 else v % 8 == 0 && bits v 8 3 % 8 == 7

/-- Writes of the CVU block (R365, R367, R370). -/
def State.cvuWrite (s : State) (who : Who) (id : RegId) (ix size v hw : Nat) : State :=
  let st := s.stampOf who
  let off := match id.row with
    | some d => d.addr ix - 0x02000D000000
    | none => 0
  let no (own : Bool) : Option WRefusal :=
    let p := s.ownerOf 0x0D ix
    if !(if own && decide (28 ≤ ix) then st.secure && st.plot == p && decide (p < 16) else s.netMay who p) then some (netNotOwner ix)
    else if (s.cvu ix).op.isSome then some (configBusy ix off) else none
  let store (s : State) : State := s.regStore id ix v hw
  let fits := decide (v < 2 ^ (s.cvuSet ix).width)
  match id with
  | .cvuCfg => s.regWrite st id ix size v (no true) (cvuCfgOk ix v) store
  | .cvuOp => s.regWrite st id ix size v (no false) (decide (1 ≤ v % 8) && decide (v % 8 ≤ 4)) (fun s => s.cvuStart ix v)
  | .cvuLen => s.regWrite st id ix size v (no false) (decide (v ≤ 16777216)) store
  | .cvuSrc => s.regWrite st id ix size v (no false) true store
  | .cvuValue => s.regWrite st id ix size v (no false) fits store
  | .cvuPoly => s.regWrite st id ix size v (no true) fits store
  | .cvuInit => s.regWrite st id ix size v (no true) fits store
  | .cvuXorout => s.regWrite st id ix size v (no true) fits store
  | _ => s.regWrite st id ix size v none true store

/-- Views of the CVU registers that show state; bits at or above WIDTH read 0. -/
def State.cvuView (s : State) (id : RegId) (ix : Nat) : Option Nat :=
  match id with
  | .cvuStatus => some (b2n (s.cvu ix).op.isSome + 256 * (s.cvu ix).status)
  | .cvuValue => some (s.rd id ix % 2 ^ (s.cvuSet ix).width)
  | .cvuResult => some (s.rd id ix % 2 ^ (s.cvuSet ix).width)
  | .cvuPoly => some (s.rd id ix % 2 ^ (s.cvuSet ix).width)
  | .cvuInit => some (s.rd id ix % 2 ^ (s.cvuSet ix).width)
  | .cvuXorout => some (s.rd id ix % 2 ^ (s.cvuSet ix).width)
  | _ => none

/-- The value of an OP write. -/
def cvuOpValue (op : Nat) (fromValue : Bool) : Nat := op + 8 * b2n fromValue

/-- CONTINUE (R366): a write of CVU_Uu_OP. -/
def execCvuContinue (who : Who) (unit : Fin 32) (fromValue : Bool) (s : State) : Host.Outcome State Fault Refusal :=
  .next (s.cvuWrite who .cvuOp unit.val 4 (cvuOpValue 1 fromValue) 0)

/-- CVU_COMPUTE (R366): the COMPUTE operation. -/
def execCvuCompute (who : Who) (unit : Fin 32) (fromValue : Bool) (s : State) : Host.Outcome State Fault Refusal :=
  .next (s.cvuWrite who .cvuOp unit.val 4 (cvuOpValue 2 fromValue) 0)

/-- APPEND (R366). -/
def execAppend (who : Who) (unit : Fin 32) (fromValue : Bool) (s : State) : Host.Outcome State Fault Refusal :=
  .next (s.cvuWrite who .cvuOp unit.val 4 (cvuOpValue 3 fromValue) 0)

/-- CHECK_STRIP (R366). -/
def execCheckStrip (who : Who) (unit : Fin 32) (fromValue : Bool) (s : State) : Host.Outcome State Fault Refusal :=
  .next (s.cvuWrite who .cvuOp unit.val 4 (cvuOpValue 4 fromValue) 0)

/-- CVU_OP_DONE (R366). -/
def execCvuOpDone (unit : Fin 32) (s : State) : Host.Outcome State Fault Refusal := .next (s.cvuDone unit.val)

end Sys2Proof.Machine
end

