-- ==== Sys2Proof/Machine/Grove.lean ====
section
/-! DEFINITION. Groves of spec/08: port training (R256 to R258), the completion of remote accesses (R265), formation (R270
to R274), heartbeats and expulsion (R274 to R278), the discipline of device time in a Grove (R374), and the ELX registers
(R279, R280). -/

namespace Sys2Proof.Machine

/-! ### Ports -/

/-- A port becomes DOWN (R257): PORT_DOWN is logged with its cause and the peer seen. -/
def State.portDown (s : State) (k cause peer : Nat) : State :=
  s.raise { s.mkRec .elx k 0x11 1 stDONE with detail := cause + 256 * peer }

/-- The state in which a port comes up when the lanes of a mask passed (R256); one that came up at half width stays so. -/
def trainState (half : Bool) (lanes : Nat) : Nat :=
  if !half && lanes == 15 then 2 else if bits lanes 1 0 == 3 then 3 else if bits lanes 3 2 == 3 then 4 else 0

/-- After a change of a port's state the messages in its buffers go out, or by other routes when the port is DOWN (R256, R257). -/
def State.leavePort (s : State) (k : Nat) : State :=
  let p := s.elxPort k
  if p.routed then s.portFlush k
  else p.txq.foldl (fun s m => s.elxSend m) (s.setElxPort k { p with txq := [] })

/-- Training of a port ends (R256, R258). -/
def State.portTrain (s : State) (k lanes : Nat) : State :=
  let p := s.elxPort k
  if p.state ≠ 1 then s
  else
    let w := trainState p.half lanes
    let t := s.setElxPort k { p with state := w, laneOk := lanes, trained := true, half := p.half || decide (3 ≤ w) }
    let t := if lanes = 15 then t else t.raise { t.mkRec .elx k 0x10 1 stDONE with detail := (15 - lanes) + 16 * w }
    let t := if w = 0 then t.portDown k 0 p.peer else t
    let t := if !p.trained && decide (2 ≤ w) then t.portCtrl k (t.portPeer k) (.linkHello t.self k) else t
    (s.rerouted t).leavePort k

/-- A port retrains after 16 failures in a row of one flit (R254). -/
def State.portRetrain (s : State) (k : Nat) : State :=
  let p := s.elxPort k
  if p.live && decide (16 ≤ p.failRun) then
    s.rerouted ((s.setElxPort k { p with state := 1, failRun := 0 }).bump .elxPRetrain k 1)
  else s

/-- A LINK_HELLO arrives: the wiring check of R258. -/
def State.linkHello (s : State) (k grove peerPort : Nat) : State :=
  let p := s.elxPort k
  if !p.live then s
  else
    let ok := grove = s.portPeer k ∧ peerPort = k
    let t := s.setElxPort k { p with peer := grove, peerPort := peerPort, state := if ok then p.state else 0 }
    if ok then t else (s.rerouted (t.portDown k 9 grove)).leavePort k

/-! ### Answers to this device's remote accesses -/

/-- One remote request of a channel is complete. A status other than DONE ends its descriptor with that status, or the
command that the channel serves (R265). -/
def State.channelAnswer (s : State) (n c w : Nat) : State :=
  let b := s.bed n
  let x := b.ch c
  let x := { x with pend := x.pend - 1, curStatus := if x.curStatus = stDONE then w else x.curStatus }
  let s := s.setBed n (b.setCh c x)
  match x.copy with
  | some (q, seq) => if x.pend = 0 then s.endCopy n q seq else s
  | none =>
    if x.cur.isSome then s
    else match s.runningFlight n with
      | some f => if w = stDONE then s else (s.endCommand f.queue f.cmd.seq w (n / 8)).touch
      | none => s

/-- What the answer to a remote access does at its requester. -/
def State.remoteAnswer (s : State) (o : RemoteOp) (status : Nat) (data : List Byte) : State :=
  match o.use with
  | .plain => s
  | .dma n c t off skip len =>
    let (s, w) := if status = stDONE ∧ 0 < len then s.putShare n t o.stamp off (sub data skip len) else (s, status)
    s.channelAnswer n c w
  | .mem n c st a skip len =>
    let (s, w) := if status = stDONE then
        let (s, ok) := s.memWrite st a (sub data skip len)
        (s, if ok then stDONE else stOWNER_FAULT)
      else (s, status)
    s.channelAnswer n c w

/-- Complete a remote access. -/
def State.remoteComplete (s : State) (o : RemoteOp) (status : Nat) (data : List Byte) : State :=
  ({ s with elx := { s.elx with ops := s.elx.ops.erase o } }.remoteAnswer o status data).send
    (.remoteDone o.stamp o.msg.dest o.msg.addr status data)

/-- An answer arrives: the access of its TAG and device completes (R265). -/
def State.elxAnswer (s : State) (m : ElxMsg) : State :=
  match s.elx.ops.find? (fun o => o.msg.tag == m.tag && o.msg.dest == m.src && o.port.isSome) with
  | some o => (s.remoteComplete o m.status m.data).elxPump
  | none => s

/-! ### Leaving members out, expelling them -/

/-- Record an exclusion or departure in ELX_CAUSE. -/
def State.elxCause (s : State) (cause dev : Nat) : State := { s with elx := { s.elx with cause := cause, causeDev := dev } }

/-- Log LEFT_OUT (Table 08-18). -/
def State.logLeftOut (s : State) (cause dev : Nat) : State :=
  s.raise { s.mkRec .elx 0 0x12 1 stABORTED_GROVE with detail := cause + 256 * dev }

/-- A device runs standalone from now on: its device time holds until reset (R373). -/
def State.standalone (s : State) (cause : Nat) : State :=
  { s.elxCause cause s.self with
    elx := { (s.elxCause cause s.self).elx with state := 3, members := 0 }
    tim := { s.tim with groveHold := true } }

/-- Steps 2 and 4 of R276 need the accesses to or through the devices of a mask. -/
def RemoteOp.touches (o : RemoteOp) (mask : Nat) : Bool := bit mask o.msg.dest || o.via.any (fun d => bit mask d)

/-- Step 2 of R276: outstanding accesses to or through expelled devices complete with ABORTED_GROVE; reads return zeros. -/
def State.abortRemote (s : State) (mask : Nat) : State :=
  (s.elx.ops.filter (fun o => o.touches mask)).foldl (fun (s : State) o =>
    s.remoteComplete o stABORTED_GROVE (zeros (if o.msg.kind = 2 ∨ o.msg.kind = 7 then o.msg.dataLen else 0))) s

/-- Step 3 of R276: the RUNs of Grove-spanning programs end with ABORTED_GROVE, and later ones of these programs will. -/
def State.abortSpanning (s : State) : State :=
  let l := s.tensor.flights.filter (fun f => ((s.cmdProg f.cmd).map (fun p => decide (1 < p.devices))).getD false)
  let s := l.foldl (fun (s : State) f => s.endCommand f.queue f.cmd.seq stABORTED_GROVE) s
  { s with tensor := { s.tensor with progs := s.tensor.progs.map (fun e => (e.1, e.2.map (fun p =>
      if 1 < p.devices then { p with aborted := true } else p))) } }

/-- R216: after an expulsion every step of a GROVE space ends with ABORTED_GROVE. -/
def State.abortSpaces (s : State) : State :=
  let keys := (s.tensor.spaces.filter (fun e => (e.2.map (·.grove)).getD false)).map (·.1)
  keys.foldl (fun (s : State) k =>
    let s := s.abortGroveStep k
    match s.space? k with
    | some x => s.setSpace k (some { x with aborted := true })
    | none => s) s

/-- Steps 2 to 4 of R276. -/
def State.applyAbort (s : State) (mask cause : Nat) (recMask : Nat) : State :=
  let s := ((s.abortRemote mask).abortSpanning).abortSpaces
  let s := s.raise { s.mkRec .elx 0 0x13 2 stABORTED_GROVE with detail := cause + 256 * recMask }
  ({ s with elx := { s.elx with aborted := true } }).touch

/-- The device that ELX_CAUSE names for an expulsion: of several in one mask, which one is not stated. -/
def State.expelledDevice (s : State) (mask : Nat) : Nat × State :=
  match bitList 8 mask with
  | [d] => (d, s)
  | l => let (x, s) := s.fresh
         (l.getD (x.toNat % l.length) 0, s)

/-- A remaining member applies an expulsion (R276). -/
def State.applyExpel (s : State) (mask cause : Nat) : State :=
  let t := { s with elx := { s.elx with
    members := maskOf ((bitList 8 s.elx.members).filter (fun d => !bit mask d)),
    peers := s.elx.peers.map (fun e => (e.1, if bit mask e.1 then { e.2 with sent := [], missed := 0 } else e.2)) } }
  let t := s.rerouted t
  let (d, t) := t.expelledDevice mask
  (t.elxCause cause d).applyAbort mask cause mask

/-- A device that is expelled or leaves (R277): every other device is one to which nothing goes any more. -/
def State.leaveGrove (s : State) (cause recMask : Nat) : State :=
  (s.applyAbort 255 cause recMask).standalone cause

/-- The lengths of a HB_PERIOD and a FORM_WINDOW in ns (Table 08-12). -/
def hbNs (period : Nat) : Nat := 100000 * period

/-- FORM_WINDOW in ns. -/
def State.formWindow (s : State) : Nat := 100000000 * bits (s.rd .elxCfg 0) 31 24

/-- δ of R271 from the four time-stamps; the rounding of the half is not stated. -/
def elxDelta (ta tb tc td : Nat) : Int := divOpen 271 (((tb : Int) - ta) + ((tc : Int) - td)) 2

/-- Member 0's state of a member. -/
def State.peerSt (s : State) (d : Nat) : MemberSt := sget (fun _ => {}) s.elx.peers d

/-- Change it. -/
def State.setPeer (s : State) (d : Nat) (x : MemberSt) : State :=
  { s with elx := { s.elx with peers := sset (fun _ => {}) s.elx.peers d x } }

/-- Member 0 expels members (R275): EXPEL goes to every member, the expelled ones included. -/
def State.expel (s : State) (mask cause : Nat) : State :=
  let s := ((bitList 8 s.elx.members).filter (· ≠ 0)).foldl (fun (s : State) d => s.sendCtrl d (.expel mask cause)) s
  s.applyExpel mask cause

/-- The heartbeats to a member that were not answered within one HB_PERIOD. -/
def State.expired (s : State) (d : Nat) : List Nat :=
  (s.peerSt d).sent.filter (fun t => decide (t + hbNs s.elx.hbPeriod ≤ s.now))

/-- The other members whose third miss is due now: they travel in the same EXPEL (R278). -/
def State.alsoMissed (s : State) (d : Nat) : List Nat :=
  (bitList 8 s.elx.members).filter (fun e => e ≠ 0 && e ≠ d && !(s.expired e).isEmpty && decide (2 ≤ (s.peerSt e).missed))

/-! ### Formation -/

/-- The firmware version that a JOIN carries. -/
def State.keeperVersion (s : State) : Nat := ((sget (fun _ => none) s.kpr.fw 2).map (·.version)).getD 0

/-- t_a, t_b and t_c of a message to member 0 (R271): once a TIME message of member 0 has come. -/
def State.exchangeTimes (s : State) : Option (Nat × Nat × Nat) := s.elx.timeAt.map (fun e => (e.1, e.2, s.now))

/-- Send the JOIN (R270 step 3, R374 step 3). -/
def State.sendJoin (s : State) : State :=
  { s with elx := { s.elx with joined := true } }.sendCtrl 0
    (.join s.self ((s.plan.map (fun (p : Plan) => p.digest)).getD []) s.keeperVersion featDev s.exchangeTimes)

/-- The causes of R272 that keep a device out, ascending. -/
def State.joinCauses (s : State) (d : Nat) (digest : List Byte) (fw feat : Nat) (delta : Int) : List Nat :=
  (if (s.plan.map (fun (p : Plan) => p.digest)) = some digest then [] else [1]) ++ (if fw = s.keeperVersion then [] else [2]) ++
    (if feat = featDev then [] else [3]) ++ (if delta.natAbs ≤ bits (s.rd .elxCfg 0) 15 0 then [] else [4]) ++
    (if (s.route d).isSome then [] else [7]) ++ (if s.elx.state = 1 then [] else [8])

/-- Member 0 receives a JOIN (R270 step 4, R272, R273). -/
def State.join (s : State) (d : Nat) (digest : List Byte) (fw feat : Nat) (delta : Int) : State :=
  if s.self ≠ 0 ∨ s.groveSize ≤ d ∨ d = 0 ∨ s.elx.state = 0 ∨ s.elx.state = 3 then s
  else
    let s := s.setPeer d { s.peerSt d with delta := delta }
    match s.joinCauses d digest fw feat delta with
    | [] => { s with elx := { s.elx with admitted := setBit s.elx.admitted d } }.sendCtrl d .admitted
    | c :: _ => ((s.elxCause c d).logLeftOut c d).sendCtrl d (.leftOut c)

/-- The device is one that waits to be formed into a Grove. -/
def State.forming (s : State) : Bool := s.elx.state == 1 && s.self ≠ 0

/-- LEFT_OUT arrives. -/
def State.leftOut (s : State) (cause : Nat) : State :=
  if s.forming then (s.logLeftOut cause s.self).standalone cause else s

/-- The formation window of member 0 ends (R270 step 5). -/
def State.formationEnd (s : State) : State :=
  if s.self = 0 ∧ s.elx.state = 1 ∧ s.spl.acceptTime + s.formWindow ≤ s.now then
    let cfg := s.rd .elxCfg 0
    let mask := setBit s.elx.admitted 0
    let t := { s with elx := { s.elx with
      state := 2, members := mask, formTime := s.now, tol := bits cfg 15 0, hbPeriod := bits cfg 23 16, hbAt := s.now } }
    let t := (bitList 8 s.elx.admitted).foldl (fun (s : State) d => s.sendCtrl d (.formed mask (bits cfg 23 16))) t
    s.rerouted t
  else s

/-- FORMED arrives (R270 step 5). -/
def State.formed (s : State) (mask hb : Nat) : State :=
  if s.forming && s.elx.isAdmitted && bit mask s.self then
    s.rerouted { s with elx := { s.elx with state := 2, members := mask, formTime := s.now, hbPeriod := hb, hbAt := s.now } }
  else s

/-- No FORMED came in time (R270 step 6), or no heartbeat for 3 periods (R274, R277). -/
def State.noMaster (s : State) : State :=
  if s.forming then
    (if s.spl.acceptTime + s.formWindow + 100000000 ≤ s.now then (s.logLeftOut 6 s.self).standalone 6 else s)
  else if s.elx.state = 2 ∧ s.self ≠ 0 ∧ s.elx.hbAt + 3 * hbNs s.elx.hbPeriod ≤ s.now then s.leaveGrove 6 0
  else s

/-! ### Time in a Grove (R374) -/

/-- Step 2 of R374 with an interval in ns. -/
def State.discipline (s : State) (delta : Int) (interval : Nat) : State :=
  { s with tim := { s.tim with adj := clampI 1000000 (s.tim.adj - divOpen 374 (1000000000 * delta) (2 * interval)) } }

/-- A TIME result (R374 step 3). -/
def State.timeResult (s : State) (delta : Int) : State :=
  let good := if 2 * delta.natAbs ≤ s.elx.tol then s.elx.goodTimes + 1 else 0
  let s := { s with elx := { s.elx with goodTimes := good } }.discipline delta 1000000
  if 2 ≤ good then s.sendJoin else s

/-- The member's next TIME message is due (R374 step 3). -/
def State.timeDue (s : State) : State :=
  if s.forming && !s.elx.joined && decide (s.elx.timeSent + 1000000 ≤ s.now) then
    { s with elx := { s.elx with timeSent := s.now } }.sendCtrl 0 (.timeRequest s.self s.exchangeTimes)
  else s

/-- Member 0 answers a TIME message with its tolerance and period, and with δ once the exchange gives one (R271, R374). -/
def State.timeRequest (s : State) (d : Nat) (times : Option (Nat × Nat × Nat)) : State :=
  if s.self ≠ 0 ∨ s.groveSize ≤ d ∨ d = 0 ∨ s.elx.state = 0 ∨ s.elx.state = 3 then s
  else
    let delta := times.map (fun e => elxDelta e.1 e.2.1 e.2.2 s.now)
    let s := match delta with
      | some x => s.setPeer d { s.peerSt d with delta := x }
      | none => s
    let cfg := s.rd .elxCfg 0
    s.sendCtrl d (.timeReply delta (bits cfg 15 0) (bits cfg 23 16) s.now)

/-- A TIME message of member 0 reaches a device that forms (R374 step 3). -/
def State.timeReply (s : State) (delta : Option Int) (tol hb ta : Nat) : State :=
  if !s.forming || s.elx.joined then s
  else
    let s := { s with elx := { s.elx with tol := tol, hbPeriod := hb, timeAt := some (ta, s.now) } }
    match delta with
    | some x => s.timeResult x
    | none => s

/-- A member receives a heartbeat (R274, R374): it replies at once. -/
def State.heartbeat (s : State) (at_ : Nat) (delta : Int) : State :=
  if s.elx.state = 2 ∧ s.self ≠ 0 then
    let s := ({ s with elx := { s.elx with hbAt := s.now } }.discipline delta (hbNs s.elx.hbPeriod))
    s.sendCtrl 0 (.heartbeatReply at_ s.now s.now)
  else s

/-- Member 0 sends a heartbeat to every member (R274). -/
def State.heartbeatSend (s : State) : State :=
  if s.elx.state = 2 ∧ s.self = 0 ∧ s.elx.hbAt + hbNs s.elx.hbPeriod ≤ s.now then
    ((bitList 8 s.elx.members).filter (· ≠ 0)).foldl (fun (s : State) d =>
      let p := s.peerSt d
      (s.setPeer d { p with sent := p.sent ++ [s.now] }).sendCtrl d (.heartbeat s.now (toTwos 32 p.delta)))
      { s with elx := { s.elx with hbAt := s.now } }
  else s

/-- A reply reaches member 0 (R271, R275). One that comes after its heartbeat counted as missed does not end the run of misses. -/
def State.heartbeatReply (s : State) (d ta tb tc : Nat) : State :=
  if s.elx.state = 2 ∧ s.self = 0 ∧ d ≠ 0 ∧ bit s.elx.members d then
    let p := s.peerSt d
    let delta := elxDelta ta tb tc s.now
    let s := s.setPeer d { sent := p.sent.filter (· ≠ ta), missed := if p.sent.contains ta then 0 else p.missed, delta := delta }
    if s.elx.tol < delta.natAbs then s.expel (maskOf (d :: s.alsoMissed d)) 4 else s
  else s

/-- Count one missed heartbeat of a member. -/
def State.countMiss (s : State) (d : Nat) : State :=
  match s.expired d with
  | [] => s
  | t :: _ => let p := s.peerSt d
    s.setPeer d { p with sent := p.sent.filter (· ≠ t), missed := p.missed + 1 }

/-- A reply is late (R274, R275). The members whose third miss falls at the same time travel in one EXPEL (R278). -/
def State.heartbeatMissed (s : State) (d : Nat) : State :=
  if s.elx.state = 2 ∧ s.self = 0 ∧ d ≠ 0 ∧ bit s.elx.members d ∧ !(s.expired d).isEmpty then
    let t := s.countMiss d
    if 3 ≤ (t.peerSt d).missed then
      t.expel (maskOf (d :: s.alsoMissed d)) 5
    else t
  else s

/-- EXPEL arrives (R276, R277). -/
def State.expelReceived (s : State) (mask cause : Nat) : State :=
  if s.elx.state = 2 ∧ s.self ≠ 0 then
    (if bit mask s.self then s.leaveGrove cause mask else s.applyExpel mask cause)
  else s

/-- Half of a member's own FORM_WINDOW has passed: it sends its JOIN (R374 step 3). -/
def State.halfWindow (s : State) : State :=
  if s.forming && !s.elx.joined && decide (2 * s.spl.acceptTime + s.formWindow ≤ 2 * s.now) then s.sendJoin else s

/-! ### ELX registers -/

/-- The refusal of an ELX_CFG write (R280). -/
def elxNotKeeper : WRefusal := { errBit := some 2, inst := 0, detail := 5 }

/-- Writes of the ELX block (R279, R280). -/
def State.elxWrite (s : State) (who : Who) (id : RegId) (ix size v hw : Nat) : State :=
  let st := s.stampOf who
  match id with
  | .elxCfg => s.regWrite st id ix size v (if isKeeper who && s.elx.state == 0 then none else some elxNotKeeper)
      (bits v 15 0 ≠ 0 && bits v 23 16 ≠ 0 && bits v 31 24 ≠ 0) (fun s => s.regStore id ix v hw)
  | _ => s.regWrite st id ix size v none true (fun s => s.regStore id ix v hw)

/-- Views of the ELX registers that show state (Tables 08-10, 08-13 to 08-16). -/
def State.elxView (s : State) (id : RegId) (ix : Nat) : Option Nat :=
  match id with
  | .elxStatus => some (s.elx.state + 4 * b2n (s.elx.state == 2 && s.self == 0) + 8 * b2n s.elx.aborted +
      256 * (if s.elx.state = 2 then s.elx.members else 0) + 65536 * s.self + 0x100000 * s.groveSize)
  | .elxCause => some (s.elx.cause + 256 * s.elx.causeDev)
  | .elxFormTime => some s.elx.formTime
  | .elxDiff => some (if s.self = 0 then toTwos 32 (clampI 2147483647 (s.peerSt ix).delta) else 0)
  | .elxRoute => some (match s.route ix with
    | some (h, _) => h + 4 + 16 * maskOf (s.routePorts ix)
    | none => 0)
  | .elxPStatus => let p := s.elxPort ix
    some (p.state + 16 * p.laneOk + 256 * p.peer + 2048 * p.peerPort)
  | _ => none

/-! ### Commands -/

/-- PORT_TRAIN (R256): `lanes` passed their test. -/
def execPortTrain (port : Fin 4) (lanes : BitVec 4) (s : State) : Host.Outcome State Fault Refusal :=
  .next (s.portTrain port.val lanes.toNat)

/-- PORT_RETRAIN (R254, R256). -/
def execPortRetrain (port : Fin 4) (s : State) : Host.Outcome State Fault Refusal := .next (s.portRetrain port.val)

/-- LINK_HELLO (R258). -/
def execLinkHello (port : Fin 4) (grove : Fin 8) (peerPort : Fin 4) (s : State) : Host.Outcome State Fault Refusal :=
  .next (s.linkHello port.val grove.val peerPort.val)

/-- READ_DATA (R265). -/
def execReadData (port : Fin 4) (s : State) : Host.Outcome State Fault Refusal :=
  .next (s.takeMsg port.val 3 (fun s m => s.elxAnswer m))

/-- ACK (R265). -/
def execAck (port : Fin 4) (s : State) : Host.Outcome State Fault Refusal :=
  .next (s.takeMsg port.val 4 (fun s m => s.elxAnswer m))

/-- JOIN (R270, R272): `ta`, `tb` and `tc` are the first three time-stamps of R271; the fourth is device time. -/
def execJoin (device : Fin 8) (digest : List Byte) (fw : BitVec 32) (feat : BitVec 64) (ta tb tc : BitVec 64) (s : State) :
    Host.Outcome State Fault Refusal :=
  .next (s.join device.val digest fw.toNat feat.toNat (elxDelta ta.toNat tb.toNat tc.toNat s.now))

/-- ADMITTED (R270). -/
def execAdmitted (s : State) : Host.Outcome State Fault Refusal :=
  .next (if s.forming && s.elx.joined then { s with elx := { s.elx with isAdmitted := true } } else s)

/-- LEFT_OUT (R270). -/
def execLeftOut (cause : BitVec 8) (s : State) : Host.Outcome State Fault Refusal := .next (s.leftOut cause.toNat)

/-- FORMATION_WINDOW_END (R270). -/
def execFormationWindowEnd (s : State) : Host.Outcome State Fault Refusal := .next s.formationEnd

/-- FORMED (R270). -/
def execFormed (mask hb : BitVec 8) (s : State) : Host.Outcome State Fault Refusal := .next (s.formed mask.toNat hb.toNat)

/-- NO_MASTER (R270, R274, R277). -/
def execNoMaster (s : State) : Host.Outcome State Fault Refusal := .next s.noMaster

/-- TIME (R271, R374). -/
def execTime (msg : TimeMsg) (tol : BitVec 16) (hb : BitVec 8) (s : State) : Host.Outcome State Fault Refusal :=
  .next (match msg with
    | .due => s.timeDue
    | .request d times => s.timeRequest d.val (times.map (fun e => (e.1.toNat, e.2.1.toNat, e.2.2.toNat)))
    | .reply delta ta => s.timeReply delta tol.toNat hb.toNat ta.toNat)

/-- HEARTBEAT_SEND (R274). -/
def execHeartbeatSend (s : State) : Host.Outcome State Fault Refusal := .next s.heartbeatSend

/-- HEARTBEAT (R274, R374). -/
def execHeartbeat (at_ : BitVec 64) (delta : Int) (s : State) : Host.Outcome State Fault Refusal :=
  .next (s.heartbeat at_.toNat delta)

/-- HEARTBEAT_REPLY (R271, R275). -/
def execHeartbeatReply (device : Fin 8) (ta tb tc : BitVec 64) (s : State) : Host.Outcome State Fault Refusal :=
  .next (s.heartbeatReply device.val ta.toNat tb.toNat tc.toNat)

/-- HEARTBEAT_MISSED (R274, R275). -/
def execHeartbeatMissed (device : Fin 8) (s : State) : Host.Outcome State Fault Refusal := .next (s.heartbeatMissed device.val)

/-- EXPEL (R276, R277). -/
def execExpel (mask cause : BitVec 8) (s : State) : Host.Outcome State Fault Refusal :=
  .next (s.expelReceived mask.toNat cause.toNat)

/-- HALF_FORM_WINDOW (R374). -/
def execHalfFormWindow (s : State) : Host.Outcome State Fault Refusal := .next s.halfWindow

end Sys2Proof.Machine
end

