-- ==== Sys2Proof/Machine/Isp.lean ====
section
/-! DEFINITION. The ISP-lite pipelines of spec/09 (R293, R294, Tables 09-1, 09-3 and 09-4). Values are kept exact and rounded
once at the output. -/

namespace Sys2Proof.Machine

/-- What a pipeline is set to, and the geometry of its stream. -/
structure IspSet where
  fmt : Nat
  scale : Nat
  bayer : Nat
  black : Nat
  rGain : Nat
  bGain : Nat
  width : Nat
  height : Nat
  bpp : Nat
  raw : Nat
deriving DecidableEq, Repr

/-- A RAW data type (Table 09-1). -/
def isRawType (dt : Nat) : Bool := decide (0x2A ≤ dt) && decide (dt ≤ 0x2E)

/-- A data type that the device accepts (Table 09-1). -/
def dataTypeOk (dt : Nat) : Bool :=
  [0x12, 0x1E, 0x22, 0x24].contains dt || isRawType dt || (decide (0x30 ≤ dt) && decide (dt ≤ 0x37))

/-- Bits of a pixel of a RAW data type on the link. -/
def rawBits (dt : Nat) : Nat := 8 + 2 * (dt - 0x2A)

/-- A pixel of a line as CSI-2 packs the RAW formats; none where the line does not hold it. -/
def rawPixel (w : Nat) (l : List Byte) (x : Nat) : Option Nat :=
  let b (i : Nat) : Option Nat := (l[i]?).map BitVec.toNat
  let low (hi off sh n m : Nat) : Option Nat :=
    match b hi, (List.range n).mapM (fun j => b (off + j)) with
    | some h, some r => some (h * m + (r.foldr (fun v a => v + 256 * a) 0) / 2 ^ sh % m)
    | _, _ => none
  match w with
  | 8 => b x
  | 10 => low (5 * (x / 4) + x % 4) (5 * (x / 4) + 4) (2 * (x % 4)) 1 4
  | 12 => low (3 * (x / 2) + x % 2) (3 * (x / 2) + 2) (4 * (x % 2)) 1 16
  | 14 => low (7 * (x / 4) + x % 4) (7 * (x / 4) + 4) (6 * (x % 4)) 3 64
  | _ => low (2 * x) (2 * x + 1) 0 1 256

/-- The colour of a site of the Bayer pattern: 0 R, 1 G, 2 B. -/
def bayerSite (pattern x y : Nat) : Nat :=
  ((match pattern with
    | 0 => [0, 1, 1, 2]
    | 1 => [1, 0, 2, 1]
    | 2 => [1, 2, 0, 1]
    | _ => [2, 1, 1, 0] : List Nat)).getD (2 * (y % 2) + x % 2) 0

/-- Stages 1 and 2 on a raw pixel: in units of 1/4096. -/
def IspSet.gained (c : IspSet) (raw : Nat → Nat → Nat) (x y : Nat) : Nat :=
  let g := match bayerSite c.bayer x y with
    | 0 => c.rGain
    | 1 => 4096
    | _ => c.bGain
  min ((raw x y - c.black) * g) (4096 * (2 ^ c.bpp - 1))

/-- The 3 × 3 window around a site, with coordinates moved up by 2 so that they stay natural numbers. -/
def window3 (x y : Nat) : List (Nat × Nat) :=
  [0, 1, 2].flatMap (fun j => [0, 1, 2].map (fun i => (x + 1 + i, y + 1 + j)))

/-- Stage 3: a colour at a pixel, in units of 1/16384. A site beyond an edge holds the nearest pixel's value. -/
def IspSet.colour (c : IspSet) (raw : Nat → Nat → Nat) (col x y : Nat) : Nat :=
  if bayerSite c.bayer x y = col then 4 * c.gained raw x y
  else
    let near := (window3 x y).filter (fun p => bayerSite c.bayer p.1 p.2 == col)
    let at_ (p : Nat × Nat) : Nat := c.gained raw (min (p.1 - 2) (c.width - 1)) (min (p.2 - 2) (c.height - 1))
    sumL (near.map at_) * (4 / near.length)

/-- Stage 4: the sum of a colour over an s × s block. -/
def IspSet.block (c : IspSet) (raw : Nat → Nat → Nat) (col x y : Nat) : Nat :=
  sumL ((List.range c.scale).flatMap (fun j => (List.range c.scale).map (fun i =>
    c.colour raw col (c.scale * x + i) (c.scale * y + j))))

/-- Units of a stage 4 value. -/
def IspSet.den (c : IspSet) : Nat := 16384 * c.scale * c.scale

/-- Stage 6 of an 8-bit output: `num` over `den`, divided by 2^(BPP − 8), rounded and clamped. -/
def IspSet.out8 (c : IspSet) (num : Int) (den : Nat) : Byte :=
  let v := if 8 ≤ c.bpp then roundRne num (den * 2 ^ (c.bpp - 8)) else roundRne (num * 2 ^ (8 - c.bpp)) den
  BitVec.ofNat 8 (min v.toNat 255)

/-- Stage 5: Y × 10,000 of an output pixel. -/
def IspSet.luma (c : IspSet) (raw : Nat → Nat → Nat) (x y : Nat) : Nat :=
  2126 * c.block raw 0 x y + 7152 * c.block raw 1 x y + 722 * c.block raw 2 x y

/-- Stage 5: the mean of Cb or Cr (`k` = 18556 or 15748) over a 2 × 2 block of output pixels. -/
def IspSet.chroma (c : IspSet) (raw : Nat → Nat → Nat) (col k x y : Nat) : Byte :=
  let d (i j : Nat) : Int := 10000 * (c.block raw col (2 * x + i) (2 * y + j) : Int) - (c.luma raw (2 * x + i) (2 * y + j) : Int)
  let den := 4 * k * c.den
  c.out8 (d 0 0 + d 1 0 + d 0 1 + d 1 1 + 128 * (den : Int)) den

/-- The positions of a w × h picture, line by line. -/
def raster (w h : Nat) : List (Nat × Nat) := (List.range h).flatMap (fun y => (List.range w).map (fun x => (x, y)))

/-- The payload of a frame (Table 09-3) from its raw pixels. -/
def IspSet.payload (c : IspSet) (raw : Nat → Nat → Nat) : List Byte :=
  let w := c.width / c.scale
  let h := c.height / c.scale
  let plane (col : Nat) : List Byte := (raster w h).map (fun p => c.out8 (c.block raw col p.1 p.2) c.den)
  match c.fmt with
  | 1 => (raster c.width c.height).flatMap (fun p => leBytes 2 (roundRne (c.gained raw p.1 p.2) 4096).toNat)
  | 2 => (raster w h).flatMap (fun p => [0, 1, 2].map (fun col => c.out8 (c.block raw col p.1 p.2) c.den))
  | 3 => plane 0 ++ plane 1 ++ plane 2
  | _ => (raster w h).map (fun p => c.out8 (c.luma raw p.1 p.2) (10000 * c.den)) ++
      (raster (w / 2) (h / 2)).flatMap (fun p => [c.chroma raw 2 18556 p.1 p.2, c.chroma raw 0 15748 p.1 p.2])

/-- The raw pixels of the lines of a frame; one that they do not hold is free. -/
def frameRaw (w seed : Nat) (lines : List (List Byte)) (x y : Nat) : Nat :=
  match (lines[y]?).bind (fun l => rawPixel w l x) with
  | some v => v
  | none => (Config.lostPixel seed (65536 * y + x)).toNat % 2 ^ w

/-- Payload bytes of a format (Table 09-3); `line` is the expected line length. -/
def payloadBytes (fmt s w h line : Nat) : Nat :=
  match fmt with
  | 0 => h * line
  | 1 => 2 * w * h
  | 2 => 3 * (w / s) * (h / s)
  | 3 => 3 * (w / s) * (h / s)
  | _ => 3 * (w / s) * (h / s) / 2

end Sys2Proof.Machine
end

