-- ==== Sys2Proof/Machine/Sensor.lean ====
section
/-! DEFINITION. Sensor ingest of spec/09 (R282 to R307). A command happens when the packet's transmission starts at the port, so
device time is the stamp of R296. -/

namespace Sys2Proof.Machine

/-- A stream's state. -/
def State.snsStream (s : State) (n : Nat) : SnsStream := sget (fun _ => {}) s.sns.streams n

/-- Change a stream's state. -/
def State.setStream (s : State) (n : Nat) (x : SnsStream) : State :=
  { s with sns := { s.sns with streams := sset (fun _ => {}) s.sns.streams n x } }

/-- A stream's record. -/
def State.streamRec (s : State) (n : Nat) : Option StreamRec := s.plan.bind (fun p => p.stream n)

/-- The records of the streams of a port. -/
def State.portStreams (s : State) (k : Nat) : List StreamRec :=
  sortBy (fun a b => decide (a.stream < b.stream)) ((((s.plan.map (·.streams)).getD []).filter (fun r => r.port == k)))

/-- The class and deadline record of a stream: KIND 0x10, or 0x12 of its golden test. -/
def State.streamClass (s : State) (golden : Bool) (n : Nat) : Option ClassRec :=
  s.plan.bind (fun p => p.classRec (if golden then 0x12 else 0x10) n)

/-- MISS_SEVERITY of that record, or a default (Table 09-5). -/
def State.streamSev (s : State) (golden : Bool) (n d : Nat) : Nat := ((s.streamClass golden n).map (·.sev)).getD d

/-- A record of a stream. -/
def State.snsRec (s : State) (n cls sev st detail : Nat) : FaultRec :=
  { s.mkRec .sns n cls sev st with plot := ((s.streamRec n).map (·.plot)).getD 0xFF, detail := detail }

/-- ENABLE of a stream. -/
def State.streamOn (s : State) (n : Nat) : Bool := (s.streamRec n).isSome && bit (s.rd .snsSCfg n) 0

/-- The expected line length (R286). -/
def StreamRec.line (r : StreamRec) : Nat := ceilDiv (r.width * r.bpp) 8

/-- s of a CFG value. -/
def cfgScale (v : Nat) : Nat := 2 ^ bits v 5 4

/-- Payload bytes of a stream under a CFG value (Table 09-3). -/
def StreamRec.payload (r : StreamRec) (v : Nat) : Nat := payloadBytes (bits v 3 1) (cfgScale v) r.width r.height r.line

/-- Abandon the frames in progress that satisfy a test; each counts in DROPPED. -/
def State.abandon (s : State) (n : Nat) (p : SnsFrame → Bool) : State :=
  let x := s.snsStream n
  (s.setStream n { x with frames := x.frames.filter (fun f => !p f) }).bump .snsSDropped n (x.frames.filter p).length

/-- Take back a Frame Start of this cycle: clearing ENABLE takes effect before it (R304), so its frame was never accepted. -/
def State.unstart (s : State) (n : Nat) : State :=
  let x := s.snsStream n
  if x.lastFs ≠ some s.dt then s
  else
    let s := { s with gth := { s.gth with golden := s.gth.golden.filter (fun g => !(g.stream == n && g.fs == s.now)) } }
    (s.setStream n { x with frames := x.frames.filter (fun f => f.fs != s.dt) }).wr .snsSLastFs n x.fsWas

/-- Clear ENABLE of a stream, which abandons its frames in progress (R304). -/
def State.streamOff (s : State) (n : Nat) : State :=
  ((s.unstart n).wr .snsSCfg n (clrBit (s.rd .snsSCfg n) 0)).abandon n (fun _ => true)

/-- The streams of a stopped Plot (R292). -/
def State.snsStopPlot (s : State) (plot : Nat) : State :=
  (((s.plan.map (·.streams)).getD []).filter (fun r => r.plot == plot)).foldl (fun (s : State) r => s.streamOff r.stream) s

/-! ### Packets (R284 to R287) -/

/-- A packet's header on a port: 0 clean, 1 corrected, 2 uncorrectable. Whether the packet goes on. -/
def State.snsHeader (s : State) (k hdr : Nat) : State × Bool :=
  if (s.portStreams k).isEmpty then (s, false)
  else if hdr = 2 then (s.bump .snsPHdrDrop k 1, false)
  else
    let s := if hdr = 1 then s.bump .snsPHdrCorr k 1 else s
    ({ s with sns := { s.sns with header := sset (fun _ => none) s.sns.header k (some s.dt) } }, true)

/-- A frame is dropped at its Frame Start (Table 09-5). -/
def State.frameDrop (s : State) (n why count : Nat) : State :=
  (s.bump .snsSDropped n 1).raise (s.snsRec n 0x11 0 stCANCELLED (why + 2 ^ 32 * (count % 2 ^ 32)))

/-- The flags of R298, from CFG, the previous FNUM and this one. -/
def fnumFlags (cfg prev fnum : Nat) : Nat :=
  if !bit cfg 16 || prev == 0 || fnum == 0 then 0
  else if fnum = prev then 4
  else if fnum = (prev + 1) % 65536 ∨ fnum = 1 then 0
  else 8

/-- RD as a Frame Start sees it: a write of this cycle is applied after the free-slot test (R304). -/
def State.rdSeen (s : State) (n : Nat) : Nat :=
  if (s.snsStream n).rdAt = some s.dt then (s.snsStream n).rdWas else s.rd .snsSRd n

/-- The free slots of a stream's ring (R289). -/
def State.freeSlots (s : State) (n : Nat) : Nat :=
  bits (s.rd .snsSRingCfg n) 7 0 - (s.rd .snsSWr n + 2 ^ 32 - s.rdSeen n) % 2 ^ 32

/-- A Frame Start is early (R287). -/
def tooEarly (x : SnsStream) (period now : Nat) : Bool :=
  match x.lastFs with
  | none => false
  | some t => !x.missing && decide (4 * (now - t) < 4294967296 * (3 * period))

/-- An accepted frame of a stream begins (R287, R289, R298, R299). -/
def State.frameAccept (s : State) (r : StreamRec) (fnum : Nat) : State :=
  let n := r.stream
  let x := s.snsStream n
  let cfg := s.rd .snsSCfg n
  let golden := r.goldenEvery ≠ 0 && (x.count + 1) % r.goldenEvery == 0
  let x := { x with count := (x.count + 1) % 2 ^ 32, lastFs := some s.dt, missing := false, periods := 0,
                    fsWas := s.rd .snsSLastFs n }
  let c := (s.snsStream n).count
  let s := s.wr .snsSLastFs n s.now
  let s := if golden then { s with gth := { s.gth with golden := s.gth.golden ++ [⟨n, c, s.now, false⟩] } } else s
  let need := if !golden && r.goldenEvery ≠ 0 then 2 else 1
  if s.freeSlots n < need then
    (s.setStream n { x with fnum := if fnum = 0 then x.fnum else fnum }).frameDrop n 1 c
  else
    let flags := fnumFlags cfg x.fnum fnum
    let f : SnsFrame := {
      count := c, golden := golden, noImage := golden && s.rd .snsSGoldAddr n == 0, fs := s.dt, fnum := fnum,
      flags := flags + b2n golden, cfg := cfg, black := s.rd .snsSBlack n, gain := s.rd .snsSGain n }
    let t := s.setStream n { x with frames := x.frames ++ [f], fnum := if fnum = 0 then x.fnum else fnum }
    if flags = 0 then t
    else t.raise (s.snsRec n 0x14 1 stDONE (x.fnum + 65536 * fnum + 2 ^ 32 * b2n (flags == 4)))

/-- Reception of a frame ends: a frame whose lines are not as expected is flagged LENGTH (R286). -/
def SnsFrame.close (f : SnsFrame) (height : Nat) (fe : Option Nat) : SnsFrame :=
  { f with fe := fe, ended := true, flags := if f.lenOk && f.got == height then f.flags else setBit f.flags 4 }

/-- A Frame Start for one stream. It ends the frame that the stream still receives. Setting ENABLE in the same cycle takes effect after
it (R304). -/
def State.streamStart (s : State) (r : StreamRec) (fnum : Nat) : State :=
  let n := r.stream
  if !s.streamOn n || (s.snsStream n).onAt == some s.dt then s
  else
    let x := s.snsStream n
    let x := { x with frames := (x.frames.filter (fun f => !f.noImage)).map (fun f =>
      if f.ended then f else f.close r.height none) }
    let s := s.setStream n x
    if tooEarly x r.period s.dt then
      let (c, s) := s.fresh
      (s.setStream n { x with fnum := if fnum = 0 then x.fnum else fnum }).frameDrop n 2 c.toNat
    else s.frameAccept r fnum

/-- The streams of a port on a virtual channel; a record with a DATA_TYPE that is not in Table 09-1 receives no packets (R286). -/
def State.vcStreams (s : State) (k vc : Nat) : List StreamRec :=
  (s.portStreams k).filter (fun r => r.vc == vc && dataTypeOk r.dataType)

/-- A Frame Start arrives. -/
def State.frameStart (s : State) (k vc fnum hdr : Nat) : State :=
  match s.snsHeader k hdr with
  | (s, false) => s
  | (s, true) =>
    let l := s.vcStreams k vc
    if l.isEmpty then s.bump .snsPUnmatched k 1
    else l.foldl (fun (s : State) r => s.streamStart r fnum) s

/-- Bytes that wait in the line buffer of a port (R295): it holds received lines, and golden lines are not received. -/
def State.lineBuffer (s : State) (k : Nat) : Nat :=
  sumL ((s.portStreams k).flatMap (fun r => (s.snsStream r.stream).frames.flatMap (fun f =>
    if f.golden then [] else (f.lines.filter (·.waiting)).map (fun l => l.bytes.length))))

/-- Change the frame that a stream is receiving. -/
def SnsStream.onOpen (x : SnsStream) (g : SnsFrame → SnsFrame) : SnsStream :=
  { x with frames := updWhere (fun f => !f.ended) g x.frames }

/-- A line joins the frame that a stream is receiving; one of a stream with an output format waits for its pipeline. A received line
that finds the port's buffer full is lost. -/
def State.addLine (s : State) (r : StreamRec) (b : List Byte) (golden : Bool) : State :=
  let n := r.stream
  let viaIsp := bits (s.rd .snsSCfg n) 3 1 ≠ 0
  let lost := !golden && decide (65536 < s.lineBuffer r.port + b.length)
  let s := if lost then s.bump .snsPOverflow r.port 1 else s
  s.setStream n ((s.snsStream n).onOpen (fun f => { f with
    lines := f.lines ++ [⟨b, s.dt, viaIsp && !lost, lost⟩], flags := if lost then setBit f.flags 6 else f.flags }))

/-- The stamp with which a stream reads its golden image (R299). -/
def State.goldenStamp (s : State) (r : StreamRec) : Stamp :=
  let st := s.stampOf (.sensor (Fin.ofNat 96 r.stream))
  { st with cls := ((s.streamClass true r.stream).map (·.cls)).getD st.cls }

/-- The next golden line is fetched; a refused read gives zeros (R64). -/
def State.goldenLine (s : State) (r : StreamRec) (i : Nat) : State :=
  if r.height ≤ i then s
  else match s.memRead (s.goldenStamp r) (s.rd .snsSGoldAddr r.stream + i * r.line) r.line with
    | (s, some b) => s.addLine r b true
    | (s, none) => s.addLine r (zeros r.line) true

/-- The frame that a stream is receiving. -/
def SnsStream.open? (x : SnsStream) : Option SnsFrame := x.frames.find? (fun f => !f.ended)

/-- A long packet is a line of the frame that its stream is receiving. -/
def State.lineArrives (s : State) (r : StreamRec) (b : List Byte) (crcOk : Bool) : State :=
  match (s.snsStream r.stream).open? with
  | none => s
  | some f =>
    let s := s.setStream r.stream ((s.snsStream r.stream).onOpen (fun f => { f with
      got := f.got + 1, lenOk := f.lenOk && b.length == r.line, flags := if crcOk then f.flags else setBit f.flags 5 }))
    if f.noImage then s else if f.golden then s.goldenLine r f.got else s.addLine r b false

/-- A long packet arrives (R284 to R286). -/
def State.longPacket (s : State) (k vc dt hdr : Nat) (b : List Byte) (crcOk : Bool) : State :=
  match s.snsHeader k hdr with
  | (s, false) => s
  | (s, true) =>
    let s := if crcOk then s else s.bump .snsPCrcErr k 1
    match (s.vcStreams k vc).find? (fun r => r.dataType == dt) with
    | none => s.bump .snsPUnmatched k 1
    | some r => s.lineArrives r b crcOk

/-- A Frame End for one stream: the stamp, the geometry, and the golden lines that remain. -/
def State.streamEnd (s : State) (r : StreamRec) : State :=
  let n := r.stream
  match (s.snsStream n).open? with
  | none => s
  | some f =>
    let s := if f.golden && !f.noImage then
        (List.range (r.height - f.got)).foldl (fun (s : State) i => s.goldenLine r (f.got + i)) s
      else s
    let x := (s.snsStream n).onOpen (fun f => f.close r.height (some s.dt))
    s.setStream n { x with frames := x.frames.filter (fun f => !(f.noImage && f.ended)) }

/-- A Frame End arrives. -/
def State.frameEnd (s : State) (k vc hdr : Nat) : State :=
  match s.snsHeader k hdr with
  | (s, false) => s
  | (s, true) =>
    let l := s.vcStreams k vc
    if l.isEmpty then s.bump .snsPUnmatched k 1 else l.foldl (fun (s : State) r => s.streamEnd r) s

/-- The line that a pipeline takes next (R295): its stream and arrival. -/
def State.ispNext (s : State) (isp : Nat) : Option (Nat × Nat) :=
  let all := sortBy (fun a b => decide (a.stream < b.stream)) ((((s.plan.map (·.streams)).getD []).filter (fun r => r.isp == isp)))
  let heads := all.filterMap (fun r =>
    (((s.snsStream r.stream).frames.flatMap (·.lines)).find? (·.waiting)).map (fun l => (r.stream, l.at_)))
  heads.foldl (fun best h => match best with
    | none => some h
    | some b => if h.2 < b.2 then some h else some b) none

/-- Take the first waiting line out of a list of lines. -/
def takeLine : List SnsLine → List SnsLine
  | [] => []
  | l :: r => if l.waiting then { l with waiting := false } :: r else l :: takeLine r

/-- Take the first waiting line of the frames. -/
def takeFrameLine : List SnsFrame → List SnsFrame
  | [] => []
  | f :: r => if f.lines.any (·.waiting) then { f with lines := takeLine f.lines } :: r else f :: takeFrameLine r

/-- A pipeline processes a waiting line. -/
def State.ispLine (s : State) (isp : Nat) : State :=
  match s.ispNext isp with
  | none => s
  | some (n, _) =>
    if s.slicing 4 isp then s
    else
    let x := s.snsStream n
    s.setStream n { x with frames := takeFrameLine x.frames }

/-! ### Publication (R288 to R291, R297, R300, R302) -/

/-- The link bytes of a frame's lines. -/
def SnsFrame.link (f : SnsFrame) : List (List Byte) := (f.lines.filter (fun l => !l.lost)).map (·.bytes)

/-- The payload of a frame, at most what its slot holds. -/
def State.framePayload (s : State) (r : StreamRec) (f : SnsFrame) : State × List Byte :=
  let room := 65536 * bits (s.rd .snsSRingCfg r.stream) 24 16 - 64
  if bits f.cfg 3 1 = 0 then (s, (f.link.flatMap id).take room)
  else
    let c : IspSet := {
      fmt := bits f.cfg 3 1, scale := cfgScale f.cfg, bayer := bits f.cfg 7 6, black := f.black,
      rGain := bits f.gain 15 0, bGain := bits f.gain 31 16, width := r.width, height := r.height, bpp := r.bpp,
      raw := rawBits r.dataType }
    let lines := f.lines.map (fun l => if l.lost then [] else l.bytes)
    ({ s with free := s.free + 1 }, (c.payload (frameRaw c.raw s.free lines)).take room)

/-- The repeat run after a frame of a signature (R297). -/
def SnsStream.repeated (x : SnsStream) (sig : Nat) : SnsStream :=
  if x.lastSig = some sig then { x with run := x.run + 1 }
  else { x with run := 0, lastSig := some sig, frozen := false }

/-- The frozen check of a frame about to be published: the frame with its FROZEN flag, and the record. -/
def State.frozenCheck (s : State) (n : Nat) (f : SnsFrame) (sig : Nat) : State × SnsFrame :=
  if f.golden || bit f.flags 4 || bit f.flags 5 || bit f.flags 6 then (s, f)
  else
    let x := (s.snsStream n).repeated sig
    let limit := bits (s.rd .snsSCfg n) 15 8
    if limit = 0 ∨ x.run < limit then (s.setStream n x, f)
    else
      let t := s.setStream n { x with frozen := true }
      (if x.frozen then t
       else t.raise (s.snsRec n 0x13 (s.streamSev false n 2) stHW_ERROR (limit + 2 ^ 32 * f.count)),
       { f with flags := setBit f.flags 1 })

/-- The golden image's check (R300). -/
def State.goldenCheck (s : State) (n : Nat) (f : SnsFrame) (sig : Nat) : State × SnsFrame :=
  if f.golden && sig ≠ s.rd .snsSGoldCrc n then
    (s.raise (s.snsRec n 0x15 (s.streamSev true n 2) stINTEGRITY (sig + 2 ^ 32 * f.count)), { f with flags := setBit f.flags 8 })
  else (s, f)

/-- FE_TIME in units of 2^-32 ns: without a Frame End, FS_TIME plus the deadline that applies, of the stream's record or of its golden
test's (R301). Where there is none, the value is free. -/
def State.frameEndTime (s : State) (n : Nat) (f : SnsFrame) : Nat × State :=
  match f.fe with
  | some t => (t, s)
  | none => match s.streamClass f.golden n with
    | some c => if c.deadline = 0 then (let (v, s) := s.fresh; (2 ^ 32 * v.toNat, s)) else (f.fs + 4294967296 * c.deadline, s)
    | none => let (v, s) := s.fresh; (2 ^ 32 * v.toNat, s)

/-- The slot header (Table 09-2). -/
def slotHeader (n : Nat) (f : SnsFrame) (fe sig len : Nat) : List Byte :=
  leBytes 8 (f.fs / 4294967296) ++ leBytes 2 (f.fs / 65536 % 65536) ++ leBytes 2 f.fnum ++ leBytes 4 f.flags ++
    leBytes 8 (fe / 4294967296) ++ leBytes 2 (fe / 65536 % 65536) ++ leBytes 2 n ++ leBytes 4 f.got ++ leBytes 4 sig ++
    leBytes 4 f.count ++ leBytes 8 len ++ zeros 16

/-- A write of a stream is refused (R291). -/
def State.streamStopped (s : State) (n : Nat) : State :=
  let s := s.streamOff n
  s.setStream n { s.snsStream n with stopped := true }

/-- After the header write: WR, the semaphore, the interrupt, and what the frame's flags report (R290, Table 09-5). -/
def State.announce (s : State) (r : StreamRec) (f : SnsFrame) : State :=
  let n := r.stream
  let x := s.snsStream n
  let s := s.setStream n { x with frames := x.frames.filter (fun g => g.count ≠ f.count) }
  let s := (s.wr .snsSWr n ((s.rd .snsSWr n + 1) % 2 ^ 32)).wr .snsSFrames n ((s.rd .snsSFrames n + 1) % 2 ^ 32)
  let mark (g : GoldenSt) : GoldenSt := if g.stream == n && g.count == f.count then { g with published := true } else g
  let s := { s with gth := { s.gth with golden := s.gth.golden.map mark } }
  let sem := s.rd .snsSSem n
  let s := if bit sem 16 then s.semAddBy (s.stampOf (.sensor (Fin.ofNat 96 n))) (bits sem 13 0) 1 else s
  let s := if bit (s.rd .snsSCfg n) 17 then s.send (.irq r.plot (srcId .sns n)) else s
  if bit f.flags 4 || bit f.flags 5 || bit f.flags 6 then
    (s.bump .snsSFaults n 1).raise (s.snsRec n 0x10 1 stDONE (f.flags + 2 ^ 32 * f.count))
  else s

/-- Publish a frame (R290). -/
def State.publishFrame (s : State) (r : StreamRec) (f : SnsFrame) : State :=
  let n := r.stream
  let st := s.stampOf (.sensor (Fin.ofNat 96 n))
  let sig := (crcFixed 4).value (f.link.flatMap id)
  let cfg := s.rd .snsSRingCfg n
  let slot := s.rd .snsSRingBase n + s.rd .snsSWr n % bits cfg 7 0 * (65536 * bits cfg 24 16)
  let (s, data) := s.framePayload r f
  match s.memWrite st (slot + 64) data with
  | (s, false) => s.streamStopped n
  | (s, true) =>
    let (s, f) := s.frozenCheck n f sig
    let (s, f) := s.goldenCheck n f sig
    let (fe, s) := s.frameEndTime n f
    match s.memWrite st slot (slotHeader n f fe sig data.length) with
    | (s, false) => s.streamStopped n
    | (s, true) => s.announce r f

/-- The oldest frame of a stream is published when its reception has ended and its lines are processed. -/
def State.framePublish (s : State) (n : Nat) : State :=
  match s.streamRec n, (s.snsStream n).frames with
  | some r, f :: _ => if f.ended && !f.lines.any (·.waiting) && !f.noImage then s.publishFrame r f else s
  | _, _ => s

/-! ### Deadlines and missing frames (R301 to R303) -/

/-- Report the miss of a frame's deadline (R302). -/
def State.frameMiss (s : State) (n sev : Nat) (f : SnsFrame) : State :=
  let s := (s.bump .snsSFaults n 1).raise (s.snsRec n fcDEADLINE sev stDEADLINE_MISSED f.count)
  if 2 ≤ sev then s.abandon n (fun g => g.count == f.count)
  else
    let x := s.snsStream n
    let mark (g : SnsFrame) : SnsFrame := if g.count == f.count then { g with missed := true, flags := setBit g.flags 7 } else g
    s.setStream n { x with frames := x.frames.map mark }

/-- Device time has passed the deadlines of frames in progress: a publish in the cycle of the deadline is in time (R304). -/
def State.frameDeadline (s : State) (n : Nat) : State :=
  match s.streamClass false n with
  | none => s
  | some c =>
    if c.deadline = 0 then s
    else ((s.snsStream n).frames.filter (fun f =>
        !f.golden && !f.missed && decide (f.fs + 4294967296 * c.deadline < s.dt))).foldl (fun (s : State) f => s.frameMiss n c.sev f) s

/-- The windows of golden tests end (R301); DEADLINE_NS 0 is none. -/
def State.goldenWindowEnd (s : State) (n : Nat) : State :=
  match s.streamClass true n with
  | none => s
  | some c =>
    let due (g : GoldenSt) : Bool :=
      c.deadline != 0 && g.stream == n && !g.published && decide (g.fs + c.deadline < s.now)
    let l := s.gth.golden.filter due
    let s := { s with gth := { s.gth with golden := s.gth.golden.filter (fun g => !due g) } }
    l.foldl (fun (s : State) g =>
      ((s.bump .snsSFaults n 1).raise (s.snsRec n fcDEADLINE c.sev stDEADLINE_MISSED (g.count + 2 ^ 32))).abandon n
        (fun f => f.golden && f.count == g.count)) s

/-- No Frame Start was accepted in time (R303): the record once in a run, and the further periods. -/
def State.frameMissing (s : State) (n : Nat) : State :=
  let x := s.snsStream n
  match s.streamRec n, x.lastFs with
  | some r, some t =>
    let late := 2 * (s.dt - t)
    let p := 4294967296 * r.period
    if !s.streamOn n || decide (late < 3 * p) then s
    else
      let due := (late - 3 * p) / (2 * p)
      let u := (s.setStream n { x with missing := true, periods := due }).bump .snsSFaults n (due - x.periods)
      if x.missing then u else u.raise (s.snsRec n 0x12 (s.streamSev false n 0) stDEADLINE_MISSED (t / 4294967296))
  | _, _ => s

/-! ### Registers (R306, R307) -/

/-- A CFG value holds valid encodings for a stream (R293, Table 09-11). -/
def StreamRec.cfgOk (r : StreamRec) (v : Nat) : Bool :=
  let fmt := bits v 3 1
  let sc := cfgScale v
  decide (fmt ≤ 4) && decide (bits v 5 4 ≤ 2) &&
    (fmt == 0 || (decide (r.isp ≤ 7) && isRawType r.dataType)) &&
    (decide (2 ≤ fmt) || sc == 1) &&
    (decide (fmt < 2) || (r.width % sc == 0 && r.height % sc == 0)) &&
    (fmt ≠ 4 || (r.width / sc % 2 == 0 && r.height / sc % 2 == 0))

/-- A record and ERR_REG bit of a write ignored under R307 for a busy stream. -/
def streamBusy (n off : Nat) : WRefusal :=
  { errBit := some 3, inst := n, cls := 0x16, status := stBUSY, detail := off % 65536 }

/-- The effect of a CFG write: setting ENABLE is checked, and begins the stream anew; clearing it abandons. -/
def State.snsCfgStore (s : State) (r : StreamRec) (st : Stamp) (v hw : Nat) : State :=
  let n := r.stream
  let was := bit (s.rd .snsSCfg n) 0
  let need := r.payload v + 64
  if bit v 0 && !was then
    if decide (65536 * bits (s.rd .snsSRingCfg n) 24 16 < need) || !s.plotRunning r.plot then
      s.writerRefused st .sns (0x020004004000 + 0x80 * n)
        { errBit := some 3, inst := n, cls := 0x17, status := stREFUSED_FIT, detail := need % 2 ^ 32 }
    else
      let s := ((s.regStore .snsSCfg n v hw).wr .snsSWr n 0).wr .snsSRd n 0
      s.setStream n { s.snsStream n with
        count := 0, run := 0, frozen := false, lastFs := none, missing := false, periods := 0, stopped := false,
        onAt := some s.dt, rdAt := none }
  else
    let s := s.regStore .snsSCfg n v hw
    if was && !bit v 0 then s.streamOff n else s

/-- A write of RD: a Frame Start of the same cycle still sees the value before. -/
def State.rdStore (s : State) (n v hw : Nat) : State :=
  let x := s.snsStream n
  let x := if x.rdAt = some s.dt then x else { x with rdWas := s.rd .snsSRd n, rdAt := some s.dt }
  (s.setStream n x).regStore .snsSRd n v hw

/-- Writes of a stream's registers. -/
def State.streamWrite (s : State) (who : Who) (id : RegId) (n size v hw : Nat) : State :=
  let st := if isGatehouse who && (s.streamRec n).isSome then s.ruleStamp (((s.streamRec n).map (·.plot)).getD 0xFF)
    else s.stampOf who
  let on := bit (s.rd .snsSCfg n) 0
  let off := match id.row with
    | some d => d.addr n - 0x020004000000
    | none => 0
  let owner := ((s.streamRec n).map (·.plot)).getD 0xFF
  let ours := (s.streamRec n).isSome && (isKeeper who || s.isCoreOf who owner)
  let gold := (s.streamRec n).isSome && (isKeeper who || isGatehouse who)
  let no (ok busy : Bool) : Option WRefusal :=
    if !ok then some { errBit := some 2, inst := n, detail := 1 } else if on && busy then some (streamBusy n off) else none
  let store (s : State) : State := s.regStore id n v hw
  match id with
  | .snsSCfg =>
    let old := s.rd .snsSCfg n
    match s.streamRec n with
    | none => s.regWrite st id n size v (no false false) true store
    | some r => s.regWrite st id n size v (no ours (bits v 5 1 ≠ bits old 5 1)) (r.cfgOk v) (fun s => s.snsCfgStore r st v hw)
  | .snsSRingBase => s.regWrite st id n size v (no ours true) true store
  | .snsSRingCfg =>
    s.regWrite st id n size v (no ours true) (decide (2 ≤ bits v 7 0) && decide (1 ≤ bits v 24 16) && decide (bits v 24 16 ≤ 256)) store
  | .snsSSem => s.regWrite st id n size v (no (ours && s.ownerOf 0x06 (bits v 13 0) == owner) true) true store
  | .snsSRd =>
    s.regWrite st id n size v (no ours false)
      (decide ((s.rd .snsSWr n + 2 ^ 32 - v) % 2 ^ 32 ≤ bits (s.rd .snsSRingCfg n) 7 0)) (fun s => s.rdStore n v hw)
  | .snsSGoldAddr => s.regWrite st id n size v (no gold true) true store
  | .snsSGoldCrc => s.regWrite st id n size v (no gold true) true store
  | _ => s.regWrite st id n size v (no ours false) true store

/-- Writes of the SNS block. -/
def State.snsWrite (s : State) (who : Who) (id : RegId) (ix size v hw : Nat) : State :=
  match id with
  | .snsErrReg => s.regWrite (s.stampOf who) id ix size v none true (fun s => s.regStore id ix v hw)
  | .snsId => s.regWrite (s.stampOf who) id ix size v none true (fun s => s.regStore id ix v hw)
  | .snsStatus => s.regWrite (s.stampOf who) id ix size v none true (fun s => s.regStore id ix v hw)
  | .snsPStatus => s.regWrite (s.stampOf who) id ix size v none true (fun s => s.regStore id ix v hw)
  | .snsPHdrCorr => s.regWrite (s.stampOf who) id ix size v none true (fun s => s.regStore id ix v hw)
  | .snsPHdrDrop => s.regWrite (s.stampOf who) id ix size v none true (fun s => s.regStore id ix v hw)
  | .snsPCrcErr => s.regWrite (s.stampOf who) id ix size v none true (fun s => s.regStore id ix v hw)
  | .snsPUnmatched => s.regWrite (s.stampOf who) id ix size v none true (fun s => s.regStore id ix v hw)
  | .snsPOverflow => s.regWrite (s.stampOf who) id ix size v none true (fun s => s.regStore id ix v hw)
  | _ => s.streamWrite who id ix size v hw

/-- Views of the SNS registers that show state. -/
def State.snsView (s : State) (id : RegId) (ix : Nat) : Option Nat :=
  match id with
  | .snsStatus =>
    some (maskOf ((List.range 12).filter (fun k => !(s.portStreams k).isEmpty)) +
      65536 * ((List.range 96).filter (fun n => s.streamOn n)).length)
  | .snsPStatus =>
    match s.portStreams ix with
    | [] => some 0
    | r :: _ =>
      let up := match sget (fun _ => none) s.sns.header ix with
        | some t => decide (s.dt ≤ t + 1000000 * 4294967296)
        | none => false
      some (1 + 2 * r.phy + 4 * (r.lanes - 1) + 16 * b2n up)
  | .snsSStatus =>
    let x := s.snsStream ix
    let limit := bits (s.rd .snsSCfg ix) 15 8
    some (b2n (!x.frames.isEmpty) + 2 * b2n x.stopped + 4 * b2n (limit ≠ 0 && decide (limit ≤ x.run)) +
      8 * b2n (x.missing && s.streamOn ix) + 256 * min x.run 255)
  | _ => none

/-! ### Commands -/

/-- FRAME_START (R287): `hdr` says what the header check met (0 nothing, 1 a corrected error, 2 an uncorrectable one). -/
def execFrameStart (port : Fin 12) (vc : Fin 16) (fnum : BitVec 16) (hdr : Fin 3) (s : State) :
    Host.Outcome State Fault Refusal :=
  .next (s.frameStart port.val vc.val fnum.toNat hdr.val)

/-- LONG_PACKET (R284, R285). -/
def execLongPacket (port : Fin 12) (vc : Fin 16) (dataType : Fin 64) (data : List Byte) (crcOk : Bool) (hdr : Fin 3)
    (s : State) : Host.Outcome State Fault Refusal :=
  .next (s.longPacket port.val vc.val dataType.val hdr.val data crcOk)

/-- FRAME_END (R296). -/
def execFrameEnd (port : Fin 12) (vc : Fin 16) (hdr : Fin 3) (s : State) : Host.Outcome State Fault Refusal :=
  .next (s.frameEnd port.val vc.val hdr.val)

/-- ISP_LINE (R295). -/
def execIspLine (isp : Fin 8) (s : State) : Host.Outcome State Fault Refusal := .next (s.ispLine isp.val)

/-- FRAME_PUBLISH (R290). -/
def execFramePublish (stream : Fin 96) (s : State) : Host.Outcome State Fault Refusal := .next (s.framePublish stream.val)

/-- FRAME_DEADLINE (R302). -/
def execFrameDeadline (stream : Fin 96) (s : State) : Host.Outcome State Fault Refusal := .next (s.frameDeadline stream.val)

/-- GOLDEN_WINDOW_END (R301). -/
def execGoldenWindowEnd (stream : Fin 96) (s : State) : Host.Outcome State Fault Refusal :=
  .next (s.goldenWindowEnd stream.val)

/-- FRAME_MISSING (R303). -/
def execFrameMissing (stream : Fin 96) (s : State) : Host.Outcome State Fault Refusal := .next (s.frameMissing stream.val)

/-- SNS_CFG_WRITE (R307). -/
def execSnsCfgWrite (who : Who) (stream : Fin 96) (value : BitVec 32) (s : State) : Host.Outcome State Fault Refusal :=
  .next (s.streamWrite who .snsSCfg stream.val 4 value.toNat 0)

end Sys2Proof.Machine
end

