-- ==== Sys2Proof/Machine/Gth.lean ====
section
/-! DEFINITION. The Gatehouse of spec/13: tasks and plausibility rules (R401 to R409), watchdog and monitors (R392, R393, R396),
safe-state requests (R417), and its registers (R422). -/

namespace Sys2Proof.Machine

/-! ### Tasks (R401, R402) -/

/-- The class and deadline record of a Gatehouse task, in the accepted plan. -/
def State.gthTask (s : State) (t : Nat) : Option ClassRec := s.plan.bind (fun p => p.classRec 0x11 t)

/-- A task's state. -/
def State.taskSt (s : State) (t : Nat) : TaskSt := sget (fun _ => {}) s.gth.tasks t

/-- Change a task's state. -/
def State.setTask (s : State) (t : Nat) (x : TaskSt) : State :=
  { s with gth := { s.gth with tasks := sset (fun _ => {}) s.gth.tasks t x } }

/-- The rules of a task with their numbers. -/
def State.taskRules (s : State) (t : Nat) : List (Nat × RuleRec) :=
  (s.gth.rules.zipIdx.map (fun e => (e.2, e.1))).filter (fun e => e.2.task == t)

/-- The semaphores that an aperiodic task watches. -/
def State.taskSems (s : State) (t : Nat) : List Nat :=
  (((s.taskRules t).map (fun e => e.2.triggerSem)).filter (· ≠ 0xFFFF)).eraseDups

/-- One of a task's semaphores has grown since its previous release. -/
def State.taskGrown (s : State) (t : Nat) : Bool :=
  (s.taskSems t).any (fun n =>
    decide ((((s.taskSt t).sems.find? (fun e => e.1 == n)).map (·.2)).getD 0 < s.semVal n))

/-- The device time of the release that is due, if one is: SPL_ACCEPT_TIME + k × PERIOD_NS, or now for an aperiodic task. -/
def State.taskDue (s : State) (t : Nat) : Option Nat :=
  match s.gthTask t with
  | none => none
  | some r =>
    if r.period = 0 then (if s.taskGrown t then some s.now else none)
    else
      let at_ := s.spl.acceptTime + ((s.taskSt t).released + 1) * r.period
      if at_ ≤ s.now then some at_ else none

/-! ### Rules (R394, R404 to R406, R409) -/

/-- FP32 absolute value. -/
def f32Abs (a : Nat) : Nat := a % 2 ^ 31

/-- An FP32 comparison in which a NaN fails. -/
def f32Le (a b : Nat) : Bool := f32Cmp .le a b ≠ 0

/-- tol(a, b) of R404. -/
def RuleRec.tolOf (r : RuleRec) (a b : Nat) : Nat := f32Add r.tol (f32Mul r.rel (f32Max (f32Abs a) (f32Abs b)))

/-- Two elements are within tolerance. -/
def RuleRec.close (r : RuleRec) (a b : Nat) : Bool := f32Le (f32Abs (f32Sub a b)) (r.tolOf a b)

/-- The elements of a sample as FP32; none when the read is refused. -/
def State.readSample (s : State) (st : Stamp) (r : RuleRec) (a : Nat) : State × Option (List Nat) :=
  match s.memRead st a (fmtDataBytes r.format r.count) with
  | (s, none) => (s, none)
  | (s, some d) =>
    (s, some ((List.range r.count).map (fun i => toF32 (decodeElem (fmtElem r.format) (elemCode (elemBits (fmtElem r.format)) i d)))))

/-- The first element that fails the test of a rule's kind; `b` is sample B, or the elements at the last passing evaluation. -/
def RuleRec.firstBad (r : RuleRec) (a b : List Nat) : Option Nat :=
  match r.kind with
  | 1 => firstIdx (fun e => !(f32Le r.lo e && f32Le e r.hi)) a
  | 7 => firstIdx (fun e => (ofF32 e).isNan || (ofF32 e).isInf) a
  | _ => firstIdx (fun e => !r.close e.1 e.2) (a.zip b)

/-- What an evaluation gives: the outcome of R406, the first failing element with its value, and what DELTA remembers. -/
structure Verdict where
  outcome : Nat
  elem : Nat := 0xFFFF
  value : Nat := 0
  last : Option (List Nat)
deriving DecidableEq, Repr

/-- The verdict on samples that were read. -/
def RuleRec.judge (r : RuleRec) (last : Option (List Nat)) (a b : List Nat) : Verdict :=
  let ref := if r.kind = 2 then last else some b
  match ref.bind (fun b => r.firstBad a b) with
  | some i => ⟨1, i, a.getD i 0, last⟩
  | none => ⟨0, 0xFFFF, 0, if r.kind = 2 then some a else last⟩

/-- The verdict of a rule that reads samples: A, and B under the stamp of its place. -/
def State.judgeSamples (s : State) (r : RuleRec) (last : Option (List Nat)) : State × Verdict :=
  let st := s.ruleStamp r.plot
  match s.readSample st r r.srcA with
  | (s, none) => (s, ⟨3, 0xFFFF, 0, last⟩)
  | (s, some a) =>
    if r.kind ≠ 3 ∧ r.kind ≠ 4 then (s, r.judge last a [])
    else match s.readSample (if r.kind = 4 then s.stampOf .gatehouse else st) r r.srcB with
      | (s, none) => (s, ⟨3, 0xFFFF, 0, last⟩)
      | (s, some b) => (s, r.judge last a b)

/-- A GOLDEN rule with a TRIGGER_SEM judges when its value has reached the COUNT of a golden slot of its stream since the
previous evaluation (R409). -/
def State.goldenDue (s : State) (r : RuleRec) (old new : Nat) : Bool :=
  r.kind ≠ 4 || r.triggerSem == 0xFFFF ||
    s.gth.golden.any (fun g => g.stream == r.param && decide (old < g.count) && decide (g.count ≤ new))

/-- The verdict of a rule, given TRIGGER_SEM at the previous evaluation and now. -/
def State.verdictOf (s : State) (r : RuleRec) (x : RuleSt) (new : Nat) : State × Verdict :=
  if r.kind = 5 then
    (s, ⟨if s.rd .dspCrcValue (4 * bits r.param 2 0 + bits r.param 5 4) = r.expect then 0 else 1, 0xFFFF, 0, x.last⟩)
  else if r.kind = 6 then (s, ⟨if x.sem + r.expect ≤ new then 0 else 1, 0xFFFF, 0, x.last⟩)
  else if r.triggerSem ≠ 0xFFFF ∧ new ≤ x.sem then (s, ⟨2, 0xFFFF, 0, x.last⟩)
  else s.judgeSamples r x.last

/-- The RULE_FAIL record of a verdict. -/
def State.ruleFail (s : State) (i : Nat) (r : RuleRec) (v : Verdict) : State :=
  if v.outcome = 0 then s
  else (s.bump .gthRuleFails 0 1).raise { s.mkRec .gth 0 0x13 r.severity stHW_ERROR with
    plot := r.plot
    addr := if r.kind = 5 ∨ r.kind = 6 then 0 else r.srcA
    detail := i % 256 + 256 * v.outcome + 65536 * (v.elem % 65536) + 0x100000000 * v.value }

/-- The 16 bytes of a verdict. -/
def verdictBytes (time outcome rule sem : Nat) : List Byte :=
  leBytes 8 time ++ leBytes 1 outcome ++ leBytes 1 rule ++ zeros 2 ++ leBytes 4 sem

/-- Evaluate a rule. -/
def State.evalRule (s : State) (i : Nat) (r : RuleRec) : State :=
  let st := s.ruleStamp r.plot
  let x := sget (fun _ => ({} : RuleSt)) s.gth.ruleSt i
  let (s, new) := if r.triggerSem = 0xFFFF then (s, 0) else s.semRead st r.triggerSem
  if !s.goldenDue r x.sem new then s
  else
    let (s, v) := s.verdictOf r x new
    let s := { s with gth := { s.gth with ruleSt := sset (fun _ => {}) s.gth.ruleSt i ⟨v.last, new⟩ } }
    let s := if bit r.flags 0 then (s.memWrite st r.verdictAddr (verdictBytes s.now v.outcome i new)).1 else s
    s.ruleFail i r v

/-- What the Gatehouse SRAM met while its firmware ran (R421): `some false` a corrected error, `some true` an uncorrectable one. -/
def State.gthSram (s : State) (ecc : Option Bool) : State :=
  match ecc with
  | none => s
  | some false => s.raiseOpen (s.mkRec .gth 0 fcECC_CORRECTED 1 0)
  | some true => s.raiseOpen (s.mkRec .gth 0 fcECC_UNCORRECTED 4 0)

/-- A release of a task: the rules of the task are evaluated, while the firmware runs. -/
def State.taskRelease (s : State) (t : Nat) : State :=
  match s.taskDue t with
  | none => s
  | some at_ =>
    let x := s.taskSt t
    let rules := s.taskRules t
    let s := s.setTask t {
      open_ := x.open_ ++ [(at_, false)], released := x.released + 1, sems := (s.taskSems t).map (fun n => (n, s.semVal n)) }
    if s.gth.failed then s else rules.foldl (fun (s : State) e => s.evalRule e.1 e.2) s

/-- The releases of a task whose deadline has passed and whose miss is not yet logged. -/
def State.taskMisses (s : State) (t : Nat) : State :=
  match s.gthTask t with
  | none => s
  | some r =>
    if r.deadline = 0 then s
    else
      let x := s.taskSt t
      let due (e : Nat × Bool) : Bool := !e.2 && decide (e.1 + r.deadline ≤ s.now)
      let s' := s.setTask t { x with open_ := x.open_.map (fun e => if due e then (e.1, true) else e) }
      (x.open_.filter due).foldl (fun (s : State) _ =>
        (s.bump .gthTaskMisses 0 1).raise { s.mkRec .gth 0 fcDEADLINE r.sev stDEADLINE_MISSED with detail := t }) s'

/-- GTH_TASK_DONE: the oldest uncompleted release of a task is completed. -/
def State.taskDone (s : State) (t : Nat) : State :=
  match (s.taskSt t).open_ with
  | [] => s
  | _ :: rest => s.setTask t { s.taskSt t with open_ := rest }

/-! ### Golden tests (R409) -/

/-- The GOLDEN rules of a stream with a TRIGGER_SEM. -/
def State.goldenRules (s : State) (n : Nat) : List RuleRec :=
  s.gth.rules.filter (fun r => r.kind == 4 && r.param == n && r.triggerSem ≠ 0xFFFF)

/-- The windows of published golden slots end: a slot whose COUNT the TRIGGER_SEM has not reached is a miss. -/
def State.goldenTestEnd (s : State) (n : Nat) : State :=
  match s.streamClass true n with
  | none => s
  | some c =>
    let due (g : GoldenSt) : Bool := c.deadline != 0 && g.stream == n && g.published && decide (g.fs + c.deadline ≤ s.now)
    let l := s.gth.golden.filter due
    let late (g : GoldenSt) : Bool := (s.goldenRules n).any (fun r => decide (s.semVal r.triggerSem < g.count))
    let s := { s with gth := { s.gth with golden := s.gth.golden.filter (fun g => !due g) } }
    (l.filter late).foldl (fun (s : State) g =>
      s.raise { s.mkRec .gth 0 fcDEADLINE c.sev stDEADLINE_MISSED with
        plot := ((s.streamRec n).map (·.plot)).getD 0xFF, detail := n + 0x100000000 * g.count }) s

/-! ### Watchdog, monitors, requests (R392, R393, R396, R416, R417) -/

/-- A kick of the watchdog; the first one completes the start of the Gatehouse. -/
def State.wdogKick (s : State) : State :=
  if s.gth.started.isNone || s.gth.failed then s
  else
    let first := !s.gth.kicked
    let s := { s with gth := { s.gth with kicked := true, wdogAt := s.now } }
    if first then s.firstKick else s

/-- The watchdog's interval passes without a kick; before the first kick the firmware has failed to start. -/
def State.wdogLapse (s : State) : State :=
  if s.gth.started.isNone || s.gth.failed || decide (s.now < s.gth.wdogAt + 1000 * s.rd .gthWdogCfg 0) then s
  else
    let s := { s with gth := { s.gth with wdogAt := s.now } }.raiseOpen (s.mkRec .gth 0 fcTIMEOUT 4 0)
    if s.gth.kicked then s else s.startFails

/-- A request for safe state; one in safe state has no further effect (R419). -/
def State.safeRequest (s : State) (reason : Nat) : State :=
  if s.safe.safe then s else s.raise { s.mkRec .gth 0 0x18 4 stDONE with detail := reason % 2 ^ 32 }

/-! ### Registers (R422) -/

/-- The refusal of a write by any but the Gatehouse. -/
def gthRefusal (who : Who) : Option WRefusal :=
  if isGatehouse who then none else some { errBit := some 2, inst := 0, detail := 1 }

/-- A write of GTH_SAFE_REQ with the firmware's reason word. -/
def State.safeReqWrite (s : State) (who : Who) (size v reason : Nat) : State :=
  s.regWrite (s.stampOf who) .gthSafeReq 0 size v (gthRefusal who) true (fun s => if bit v 0 then s.safeRequest reason else s)

/-- Writes of the GTH block. -/
def State.gthWrite (s : State) (who : Who) (id : RegId) (ix size v hw : Nat) : State :=
  let st := s.stampOf who
  let no := gthRefusal who
  match id with
  | .gthSafeReq =>
    let (x, s) := s.fresh
    s.safeReqWrite who size v x.toNat
  | .gthWdogCfg => s.regWrite st id ix size v no (bits v 15 0 ≠ 0) (fun s => s.regStore id ix v hw)
  | .gthWdogKick => s.regWrite st id ix size v no true (fun s => if bit v 0 then s.wdogKick else s)
  | .gthTaskDone => s.regWrite st id ix size v no true (fun s => s.taskDone (bits v 5 0))
  | .gthStCfg =>
    s.regWrite st id ix size v no (bits v 15 0 ≠ 0 && decide (bits v 18 16 ≤ 4)) (fun s => s.regStore id ix v hw)
  | _ => s.regWrite st id ix size v no true (fun s => s.regStore id ix v hw)

/-- GTH_STATUS.STATE (Table 13-11): 0 before the start is complete, 1 RUNNING, 2 SAFE. -/
def State.gthState (s : State) : Nat :=
  if s.safe.safe then 2 else if s.gth.kicked && s.gth.injectPass && s.kpr.reached then 1 else 0

/-- The FAULT_N pin is driven low (R20, R415, R563): from power-up on but while STATE is RUNNING. -/
def State.faultNLow (s : State) : Bool := s.gthState ≠ 1

/-- GTH_STATUS (Table 13-11). -/
def State.gthStatusWord (s : State) : Nat :=
  s.gthState + 4 * b2n s.gth.injectPass + 8 * b2n s.gth.broken + 16 * b2n s.faultNLow + 256 * s.safe.block + 65536 * s.safe.cls

/-! ### Commands -/

/-- TASK_RELEASE (R401, R404 to R406), and what the Gatehouse SRAM meets as the firmware runs the task (R421). -/
def execTaskRelease (task : Fin 64 × Option Bool) (s : State) : Host.Outcome State Fault Refusal :=
  .next ((s.gthSram task.2).taskRelease task.1.val)

/-- GTH_TASK_DONE (R402): a write of GTH_TASK_DONE. -/
def execGthTaskDone (who : Who) (value : BitVec 32) (s : State) : Host.Outcome State Fault Refusal :=
  .next (s.gthWrite who .gthTaskDone 0 4 value.toNat 0)

/-- TASK_DEADLINE_MISS (R401, R402). -/
def execTaskDeadlineMiss (task : Fin 64) (s : State) : Host.Outcome State Fault Refusal := .next (s.taskMisses task.val)

/-- GOLDEN_TEST_DEADLINE (R409). -/
def execGoldenTestDeadline (stream : Fin 96) (s : State) : Host.Outcome State Fault Refusal := .next (s.goldenTestEnd stream.val)

/-- GTH_WDOG_KICK (R393, R415): a write of GTH_WDOG_KICK. -/
def execGthWdogKick (who : Who) (value : BitVec 32) (s : State) : Host.Outcome State Fault Refusal :=
  .next (s.gthWrite who .gthWdogKick 0 4 value.toNat 0)

/-- GTH_WATCHDOG_TIMEOUT (R393, R416). -/
def execGthWatchdogTimeout (s : State) : Host.Outcome State Fault Refusal := .next s.wdogLapse

/-- CLOCK_MONITOR (R392). -/
def execClockMonitor (lossOfRef : Bool) (s : State) : Host.Outcome State Fault Refusal :=
  .next (s.raise { s.mkRec .gth 0 0x16 4 stHW_ERROR with detail := b2n lossOfRef })

/-- SUPPLY_MONITOR (R392). -/
def execSupplyMonitor (overVoltage : Bool) (s : State) : Host.Outcome State Fault Refusal :=
  .next (s.raise { s.mkRec .gth 0 0x17 4 stHW_ERROR with detail := b2n overVoltage })

/-- LOCKSTEP_MISMATCH (R396): the comparator is masked once a debug session was opened (R400). -/
def execLockstepMismatch (group : Fin 64) (pc : BitVec 32) (s : State) : Host.Outcome State Fault Refusal :=
  .next (if s.gth.broken then s
    else s.raise { s.mkRec .gth 0 0x10 4 stHW_ERROR with detail := group.val + 0x100000000 * pc.toNat })

/-- SAFE_REQUEST (R417, R419): a write of GTH_SAFE_REQ. -/
def execSafeRequest (who : Who) (value : BitVec 32) (reason : BitVec 32) (s : State) : Host.Outcome State Fault Refusal :=
  .next (s.safeReqWrite who 4 value.toNat reason.toNat)

end Sys2Proof.Machine
end

