-- ==== Sys2Proof/Machine/Host.lean ====
section
/-! DEFINITION. The host interface of spec/15: instances and their drivers (R480, R481, R491 to R494, R498, R513), FREEZE
(R495, R499), and the registers of windows, root ports and instance pages (R466 to R468, R472, R482, R501, R502). -/

namespace Sys2Proof.Machine

/-! ### Instances -/

/-- The Plot of an instance. -/
def State.instPlot (s : State) (i : Nat) : Nat := s.ownerOf 0x04 i

/-- A record of the HIF block about an instance (R500). -/
def State.hifRec (s : State) (port i cls severity status detail : Nat) : FaultRec :=
  { s.mkRec .hif port cls severity status with plot := s.instPlot i, ctx := 0x8000 + i, detail := detail }

/-- The queues bound to an instance (R486). -/
def State.boundQueues (s : State) (i : Nat) : List Nat :=
  (List.range 256).filter (fun q => s.queueInst q == some i && s.queuePlot q == s.instPlot i && decide (s.queuePlot q < 16))

/-- A command of a queue bound to an instance is in flight. -/
def State.instFlight (s : State) (i : Nat) : Bool := s.tensor.flights.any (fun f => (s.boundQueues i).contains f.queue)

/-- Destroy a context with its programs, spaces and bindings, and its enclave (R443, R494). -/
def State.destroyCtx (s : State) (c : Nat) : State :=
  let s := ((s.tensor.progs.filter (fun e => (e.2.map (·.ctx)) == some c)).map (·.1)).foldl (fun (s : State) k => s.dropProg k) s
  let s := match s.enclaveOf c with
    | some (e, _) => s.destroyEnclave e
    | none => s
  let s := ((s.tensor.spaces.filter (fun e => (e.2.map (·.ctx)) == some c)).map (·.1)).foldl
    (fun (s : State) k => s.setSpace k none) s
  s.dropCtx c

/-- The contexts created through a mailbox. -/
def State.ctxsVia (s : State) (k : Nat) : List Nat :=
  (s.tensor.ctxs.filter (fun e => (e.2.map (·.via)) == some k)).map (·.1)

/-- Steps 3 to 5 of R494. -/
def State.closeInst (s : State) (i cancelled : Nat) : State :=
  let s := (s.ctxsVia (16 + i)).foldl (fun (s : State) c => s.destroyCtx c) s
  let s := s.setInst i { s.inst i with state := 0, host := false, token := 0, closing := none, freezing := none }
  let s := s.setMbx (16 + i) { s.mbx (16 + i) with isOpen := false, feat := 0 }
  (s.raise (s.hifRec 0 i 0x13 0 stCANCELLED (cancelled % 2 ^ 32))).touch

/-- Step 1 of R494: every queued command of the bound queues is cancelled. -/
def State.flushInst (s : State) (i : Nat) : State × Nat :=
  (s.boundQueues i).foldl (fun (x : State × Nat) q => let r := x.1.flushQueue q; (r.1, x.2 + r.2)) (s, 0)

/-- The reply of FREEZE, SAVE, RESTORE, THAW and DISCARD (R484). -/
def migReply (status i len : Nat) : Option (Nat × List Byte) :=
  some (status, leBytes 1 status ++ leBytes 1 i ++ zeros 2 ++ leBytes 4 len)

/-- End a FREEZE with a reply (R495). -/
def State.endFreeze (s : State) (i status : Nat) : State :=
  match (s.inst i).freezing with
  | some (k, _) =>
    (s.setInst i { s.inst i with freezing := none }).finishMbx k status (((migReply status i 0).map (·.2)).getD [])
  | none => s

/-- The 10 s of DETACHED in ns. -/
abbrev detachNs : Nat := 10000000000

/-- The whole ms left of the 10 s; how a part of a ms is rounded is not stated. -/
def State.detachLeft (s : State) (i : Nat) : Nat :=
  if (s.inst i).state = 2 then (divOpen 496 ((s.inst i).detEnd - s.now : Nat) 1000000).toNat else 0

/-- What the Keeper waits for at an instance is over: the commands in flight when it closes (R494), and for FREEZE the
request in its mailbox too (R495). -/
def State.settleInst (s : State) (i : Nat) : State :=
  let s := match (s.inst i).closing with
    | some (n, reply) =>
      if s.instFlight i then s
      else
        let s := (s.endFreeze i stREFUSED_PLAN).closeInst i n
        if reply then s.finishMbx (16 + i) stDONE [] else s
    | none => s
  match (s.inst i).freezing with
  | some _ =>
    if s.instFlight i || (s.mbx (16 + i)).busy then s
    else
      let s := s.setInst i { s.inst i with prior := (s.inst i).state, leftMs := s.detachLeft i, state := 3 }
      (s.endFreeze i stDONE).touch
  | none => s

/-- Settle every instance. -/
def State.settleHost (s : State) : State := (s.host.insts.map (·.1)).foldl (fun (s : State) i => s.settleInst i) s

/-- Begin to close an instance (R494). -/
def State.startClose (s : State) (i : Nat) (reply : Bool) : State :=
  let r := s.flushInst i
  (r.1.setInst i { r.1.inst i with closing := some (r.2, reply) }).touch

/-- End reads that wait for a tag. -/
def State.dropWaits (s : State) (waits : List OutRead) (status : Nat) : State :=
  waits.foldl (fun (s : State) r => { s with host := { s.host with waits := s.host.waits.erase r } }.send
    (.outboundDone r.stamp r.addr status (zeros r.len))) s

/-- Stop the outbound requests of an instance (R492): those that wait complete with CANCELLED. -/
def State.stopOutbound (s : State) (i : Nat) : State :=
  let mine := s.host.reads.filter (fun e => match e.2 with
    | some r => r.port == 0 && r.inst == i && s.endpoint
    | none => false)
  let waits := s.host.waits.filter (fun r => r.port == 0 && r.inst == i && s.endpoint)
  let s := (s.setInst i { s.inst i with stopped := true }).dropWaits waits stCANCELLED
  mine.foldl (fun (s : State) e => match e.2 with
    | some r =>
      { s with host := { s.host with reads := sset (fun _ => none) s.host.reads e.1 none } }.send
        (.outboundDone r.stamp r.addr stCANCELLED (zeros r.len))
    | none => s) s

/-- A reset of a function (R492). -/
def State.fnReset (s : State) (i : Nat) (linkDown : Bool) : State :=
  let s := s.stopOutbound i
  let s := if (s.inst i).state = 1 then s.setInst i { s.inst i with state := 2, detEnd := s.now + detachNs } else s
  (s.raise (s.hifRec 0 i 0x12 0 stDONE (b2n linkDown))).touch

/-! ### Mailbox requests -/

/-- OPEN (R513 to R517, Table 16-7). -/
def State.svcOpen (s : State) (k : Nat) (b : List Byte) : State × Option (Nat × List Byte) :=
  let i := k - 16
  let plot := s.mbxPlot k
  let rescue := s.kpr.recovery && k == 16
  let feat := fld b 8 8
  if !allZero b 4 4 || !bodyEnds b 16 then (s, some (stREFUSED_FORMAT, []))
  else if !rescue && !(decide (plot < 16) && s.plotRunning plot) then (s, some (stREFUSED_PLAN, []))
  else if s.mbxOpen k || (decide (16 ≤ k) && (s.inst i).closing.isSome) then (s, some (stBUSY, []))
  else if fld b 0 2 ≠ s.rd .kprIfVersion 0 / 65536 then (s, some (stREFUSED_VERSION, []))
  else if feat &&& featDev ≠ feat || !bit feat 0 then (s, some (stREFUSED_VERSION, []))
  else
    let m := s.mbx k
    let s := s.setMbx k { m with isOpen := true, feat := feat, window := [] }
    let ver := leBytes 2 (s.rd .kprIfVersion 0 / 65536) ++ leBytes 2 (s.rd .kprIfVersion 0) ++ zeros 4
    if k < 16 then (s, some (stDONE, ver ++ zeros 8))
    else
      let (x, s) := s.fresh
      let s := s.setInst i { s.inst i with state := 1, host := s.fnEnabled i, token := x.toNat, hbAt := s.now }
      (s.touch, some (stDONE, ver ++ leBytes 8 x.toNat))

/-- CLOSE (R494); a Plot mailbox has no instance to close. -/
def State.svcClose (s : State) (k : Nat) (b : List Byte) : State × Option (Nat × List Byte) :=
  if !bodyEnds b 0 then (s, some (stREFUSED_FORMAT, []))
  else if k < 16 then (s, some (stREFUSED_PLAN, []))
  else if (s.inst (k - 16)).closing.isSome then (s, some (stBUSY, []))
  else (s.startClose (k - 16) true, none)

/-- ATTACH (R493). -/
def State.svcAttach (s : State) (k : Nat) (b : List Byte) : State × Option (Nat × List Byte) :=
  let i := k - 16
  let x := s.inst i
  if !bodyEnds b 9 || 1 < fld b 8 1 then (s, some (stREFUSED_FORMAT, []))
  else if k < 16 then (s, some (stREFUSED_PLAN, []))
  else if x.closing.isSome || x.state = 0 || (x.state == 2 && decide (x.detEnd < s.now)) then (s, some (stREFUSED_PLAN, []))
  else if fld b 0 8 ≠ x.token then (s, some (stINTEGRITY, []))
  else
    let s := if fld b 8 1 = 1 then (s.flushInst i).1 else s
    let s := s.setInst i { s.inst i with state := 1, hbAt := s.now }
    ((s.setMbx k { s.mbx k with window := [] }).touch, some (stDONE, []))

/-- A migration request names an instance of the mailbox's Plot (R484). -/
def State.migOk (s : State) (k i : Nat) : Bool := decide (k < 16) && decide (i < 32) && s.instPlot i == k

/-- FREEZE (R495). -/
def State.svcFreeze (s : State) (k : Nat) (b : List Byte) : State × Option (Nat × List Byte) :=
  let i := fld b 0 1
  let ms := fld b 4 4
  if !allZero b 1 3 || !bodyEnds b 8 || 31 < i || ms = 0 || 60000 < ms then (s, migReply stREFUSED_FORMAT i 0)
  else if !s.migOk k i || (s.inst i).state = 0 || (s.inst i).state = 3 then (s, migReply stREFUSED_PLAN i 0)
  else if (s.inst i).closing.isSome then (s, migReply stBUSY i 0)
  else ((s.setInst i { s.inst i with freezing := some (k, s.now + 1000000 * ms) }).touch, none)

/-- THAW (R498). -/
def State.svcThaw (s : State) (k : Nat) (b : List Byte) : State × Option (Nat × List Byte) :=
  let i := fld b 0 1
  let x := s.inst i
  if !bodyEnds b 1 || 31 < i then (s, migReply stREFUSED_FORMAT i 0)
  else if !s.migOk k i || x.state ≠ 3 then (s, migReply stREFUSED_PLAN i 0)
  else
    let s := s.setInst i { x with state := x.prior, hbAt := s.now, detEnd := s.now + 1000000 * x.leftMs }
    (s.touch, migReply stDONE i 0)

/-- Read the unread entries of a queue in ring order and drop them (R581); a refused access stops the queue (R487). -/
def State.dropUnread (s : State) (q : Nat) : Nat → State
  | 0 => s
  | fuel + 1 =>
    if s.rd .hifQHead q = s.rd .hifQTail q || bit (s.rd .hifQCfg q) 17 then s
    else match s.readEntry q with
      | (s, none) => s
      | (s, some _) => s.dropUnread q fuel

/-- Drop every queued command of a queue (R498). -/
def State.dropQueued (s : State) (q : Nat) : State :=
  (s.setQueue q { s.queue q with head := none, dups := [], waiting := [] }).dropUnread q 4096

/-- DISCARD (R498). -/
def State.svcDiscard (s : State) (k : Nat) (b : List Byte) : State × Option (Nat × List Byte) :=
  let i := fld b 0 1
  if !bodyEnds b 1 || 31 < i then (s, migReply stREFUSED_FORMAT i 0)
  else if !s.migOk k i || (s.inst i).state ≠ 3 then (s, migReply stREFUSED_PLAN i 0)
  else (((s.boundQueues i).foldl (fun (s : State) q => s.dropQueued q) s).closeInst i 0, migReply stDONE i 0)

/-! ### Registers (R466 to R472, R482, R500 to R502) -/

/-- Who may write the page of an instance (R464, R502): none, or the reason of the refusal. -/
def State.pageWriter (s : State) (who : Who) (i : Nat) : Option Nat :=
  let fn : Bool := match who with
    | .host j => j.val == i
    | _ => false
  let core := s.isCoreOf who (s.instPlot i)
  if isKeeper who then none
  else if s.hostBacked i then (if fn then none else if core then some 3 else some 1)
  else (if core then none else if fn then some 3 else some 1)

/-- A REGISTER target lies in register space, a DRAM target ends below the reserved range (Table 15-16). -/
def targetOk (kind size target : Nat) : Bool :=
  let stop := target + 1048576 * max size 1
  if kind = 1 then decide (0x20000000000 ≤ target) && decide (stop ≤ 0x30000000000)
  else decide (stop ≤ 0x1FC0000000)

/-- A write of HIF_IBv_CFG or HIF_IBv_TARGET that holds only valid encodings. -/
def State.ibOk (s : State) (cfg target : Nat) : Bool :=
  (if s.endpoint then bits cfg 9 8 == 0 else bits cfg 9 8 ≠ 3) && (bits cfg 31 16 ≠ 0) &&
    (!bit cfg 0 || targetOk (bits cfg 7 7) (bits cfg 31 16) target)

/-- A write of HIF_OBw_CFG that holds only valid encodings: FUNC is an instance of PLOT where it is used. -/
def State.obOk (s : State) (v : Nat) : Bool :=
  bits v 3 2 ≠ 3 && bits v 31 16 ≠ 0 &&
    (!(bit v 0 && s.endpoint && bits v 3 2 == 0) || s.ownerOf 0x04 (bits v 8 4) == bits v 12 9)

/-- The refusal of a writer that is neither the Keeper nor a core of a Plot. -/
def State.hifPlotWriter (s : State) (who : Who) (plot : Nat) : Option WRefusal :=
  if isKeeper who || s.isCoreOf who plot then none else some (hifOwner 1)

/-- The sixteen words of a request. -/
def State.reqBytes (s : State) (id : RegId) (i : Nat) : List Byte :=
  (List.range 16).flatMap (fun m => leBytes 4 (s.rd id (16 * i + m)))

/-- GO that is refused because the mailbox is BUSY or the instance FROZEN (R482). -/
def goBusy : WRefusal := { errBit := some 2, inst := 0, cls := fcBUSY_WRITE, status := stBUSY, detail := 0 }

/-- A heartbeat (R481). -/
def State.beat (s : State) (i : Nat) : State :=
  if (s.inst i).state = 1 then s.setInst i { s.inst i with hbAt := s.now } else s

/-- Writes of an instance page. -/
def State.pageWrite (s : State) (who : Who) (id : RegId) (ix i size v hw : Nat) : State :=
  let st := { s.stampOf who with ctx := 0x8000 + i }
  let no := (s.pageWriter who i).map hifOwner
  match id with
  | .hifIHb => s.regWrite st id ix size v no true (fun s => if bit v 0 then s.beat i else s)
  | .hifIMbxGo =>
    let busy := (s.mbx (16 + i)).busy || (s.inst i).state == 3
    s.regWrite st id ix size v (firstSome [no, if busy then some goBusy else none]) true
      (fun s => if bit v 0 then s.mbxGo (16 + i) (s.reqBytes .hifIMbxReq i) else s)
  | _ => s.regWrite st id ix size v no true (fun s => s.regStore id ix v hw)

/-- Writes of the HIF block. -/
def State.hifWrite (s : State) (who : Who) (id : RegId) (ix size v hw : Nat) : State :=
  let st := s.stampOf who
  let keeper : Option WRefusal := if isKeeper who then none else some (hifOwner 1)
  let store (s : State) : State := s.regStore id ix v hw
  match id with
  | .hifHbTimeout => s.regWrite st id ix size v keeper (decide (10 ≤ bits v 15 0) && decide (bits v 15 0 ≤ 60000)) store
  | .hifCplTimeout => s.regWrite st id ix size v keeper (decide (1 ≤ bits v 9 0) && decide (bits v 9 0 ≤ 1000)) store
  | .hifRpOwner => s.regWrite st id ix size v keeper (!(ix == 0 && s.endpoint && bit v 4)) store
  | .hifRpCfgAddr | .hifRpCfgData =>
    let own := s.rd .hifRpOwner ix
    let w := if bit own 4 then s.hifPlotWriter who (bits own 3 0) else keeper
    s.regWrite st id ix size v w true (fun s => if id = .hifRpCfgData then
        s.send (.pcieCfg ix (s.rd .hifRpCfgAddr ix) true v) else store s)
  | .hifObCfg =>
    let plot := bits (s.rd .hifObCfg ix) 12 9
    let w := if isKeeper who || (s.isCoreOf who plot && bits v 12 9 == plot) then none else some (hifOwner 1)
    s.regWrite st id ix size v w (s.obOk v) store
  | .hifObBase | .hifObPci =>
    s.regWrite st id ix size v (s.hifPlotWriter who (bits (s.rd .hifObCfg ix) 12 9)) true store
  | .hifIbCfg =>
    let lock : Option WRefusal := if bit v 0 && bit v 6 && bit v 7 then
        some { errBit := some 3, inst := 0, cls := 0x10, status := stREFUSED_PLAN, detail := ix } else none
    s.regWrite st id ix size v
      (firstSome [s.hifPlotWriter who (s.instPlot (bits (s.rd .hifIbCfg ix) 5 1)), lock])
      (s.ibOk v (s.rd .hifIbTarget ix)) store
  | .hifIbBus => s.regWrite st id ix size v (s.hifPlotWriter who (s.instPlot (bits (s.rd .hifIbCfg ix) 5 1))) true store
  | .hifIbTarget =>
    let cfg := s.rd .hifIbCfg ix
    s.regWrite st id ix size v (s.hifPlotWriter who (s.instPlot (bits cfg 5 1))) (targetOk (bits cfg 7 7) (bits cfg 31 16) v) store
  | .hifIStatus | .hifIHb | .hifIPostedErr | .hifIErrAddr | .hifIMbxGo | .hifIMbxStatus => s.pageWrite who id ix ix size v hw
  | .hifIMbxReq => s.pageWrite who id ix (ix / 16) size v hw
  | .hifIMbxReply => s.pageWrite who id ix (ix / 8) size v hw
  | .hifQBase | .hifQCplBase | .hifQShadow | .hifQCfg | .hifQTail | .hifQHead | .hifQCplTail | .hifQCplHead =>
    s.queueWrite who id ix size v hw
  | _ => s.regWrite st id ix size v none true store

/-- MBX_STATUS of a mailbox (Table 15-17). -/
def MbxSt.word (m : MbxSt) : Nat := b2n m.busy + 2 * b2n m.ready + 256 * m.status

/-- A word of a reply. -/
def MbxSt.replyWord (m : MbxSt) (n : Nat) : Nat := fld m.reply (4 * n) 4

/-- A PCIe port's link. -/
def State.link (s : State) (p : Nat) : LinkSt := sget (fun _ => {}) s.host.links p

/-- Registers of the HIF block that show state. -/
def State.hifView (s : State) (id : RegId) (ix : Nat) : Option Nat :=
  match id with
  | .hifStatus => some (b2n s.pwr.hostMode + 2 * b2n (s.link 0).up + 4 * b2n (s.link 1).up + 8 * b2n (s.link 2).up +
      16 * (s.link 0).speed + 128 * (s.link 0).width + 65536 * s.host.vfs)
  | .hifIStatus =>
    let plot := s.instPlot ix
    some ((s.inst ix).state + 4 * b2n (s.inst ix).host + (if plot < 16 then 8 + 16 * plot else 0))
  | .hifIMbxStatus => some (s.mbx (16 + ix)).word
  | .hifIMbxReply => some ((s.mbx (16 + ix / 8)).replyWord (ix % 8))
  | _ => none

/-! ### Commands -/

/-- COMMAND_COMPLETE (R120); a closing or a FREEZE that waited for the command goes on (R494, R495). -/
def execCommandComplete (q : Fin 256) (seq : BitVec 32) (s : State) : Host.Outcome State Fault Refusal :=
  .next (s.commandComplete q.val seq.toNat).settleHost

/-- OPEN (R513). -/
def execOpenMbx (mbx : Mbx) (s : State) : Host.Outcome State Fault Refusal := .next (s.serve mbx 1 State.svcOpen)

/-- CLOSE (R494). -/
def execCloseMbx (mbx : Mbx) (s : State) : Host.Outcome State Fault Refusal := .next (s.serve mbx 2 State.svcClose).settleHost

/-- ATTACH (R493). -/
def execAttach (mbx : Mbx) (s : State) : Host.Outcome State Fault Refusal := .next (s.serve mbx 3 State.svcAttach).settleHost

/-- BEAT: a write of HIF_Ii_HB (R481). -/
def execBeat (who : Who) (inst : Fin 32) (value : BitVec 32) (s : State) : Host.Outcome State Fault Refusal :=
  .next (s.hifWrite who .hifIHb inst.val 4 value.toNat 0)

/-- HEARTBEAT_LAPSE (R491). -/
def execHeartbeatLapse (inst : Fin 32) (s : State) : Host.Outcome State Fault Refusal :=
  .next (if (s.inst inst.val).state = 1 ∧ (s.inst inst.val).hbAt + 1000000 * s.rd .hifHbTimeout 0 ≤ s.now then
      let s := s.setInst inst.val { s.inst inst.val with state := 2, detEnd := s.now + detachNs }
      (s.raiseOpen (s.hifRec 0 inst.val fcTIMEOUT 1 0 0)).touch
    else s)

/-- DETACH_EXPIRY (R494). -/
def execDetachExpiry (inst : Fin 32) (s : State) : Host.Outcome State Fault Refusal :=
  .next (if (s.inst inst.val).state = 2 ∧ (s.inst inst.val).detEnd ≤ s.now ∧ (s.inst inst.val).closing = none then
      (s.startClose inst.val false).settleHost
    else s)

/-- FREEZE (R495). -/
def execFreeze (mbx : Mbx) (s : State) : Host.Outcome State Fault Refusal := .next (s.serve mbx 0x40 State.svcFreeze).settleHost

/-- FREEZE_TIMEOUT (R495): the instance keeps its state and FREEZE answers BUSY. -/
def execFreezeTimeout (inst : Fin 32) (s : State) : Host.Outcome State Fault Refusal :=
  .next (match (s.settleInst inst.val |>.inst inst.val).freezing with
    | some (_, stop) => if stop ≤ s.now then ((s.settleInst inst.val).endFreeze inst.val stBUSY).touch else s.settleInst inst.val
    | none => s.settleInst inst.val)

/-- THAW (R498). -/
def execThaw (mbx : Mbx) (s : State) : Host.Outcome State Fault Refusal := .next (s.serve mbx 0x43 State.svcThaw)

/-- DISCARD (R498). -/
def execDiscard (mbx : Mbx) (s : State) : Host.Outcome State Fault Refusal := .next (s.serve mbx 0x44 State.svcDiscard)

/-- FLR (R492). -/
def execFlr (inst : Fin 32) (s : State) : Host.Outcome State Fault Refusal :=
  .next (if s.hostBacked inst.val then s.fnReset inst.val false else s)

/-- VF_ENABLE_CLEAR (R492): it acts on every VF that VF Enable covered. -/
def execVfEnableClear (s : State) : Host.Outcome State Fault Refusal :=
  let vfs := (List.range 32).filter (fun i => decide (1 ≤ i) && decide (i ≤ s.host.vfs) && s.hostBacked i)
  .next ((vfs.foldl (fun (s : State) i => s.fnReset i false) { s with host := { s.host with vfs := 0 } }))

/-- PCIE_LINK_UP (R463). -/
def execPcieLinkUp (port : Fin 3) (speed : Fin 6) (width : Fin 3) (s : State) : Host.Outcome State Fault Refusal :=
  let gen := max 1 (min speed.val (if port.val = 0 then 5 else 4))
  let lanes := min (2 ^ width.val) (if port.val = 0 then 4 else 2)
  .next { s with host := { s.host with links := sset (fun _ => {}) s.host.links port.val ⟨true, gen, lanes⟩ } }

/-- The outbound reads of a port end with HW_ERROR when its link goes down (R477). -/
def State.failReads (s : State) (port : Nat) : State :=
  (s.host.reads.filter (fun e => (e.2.map (·.port)) == some port)).foldl (fun (s : State) e => match e.2 with
    | some r =>
      { s with host := { s.host with reads := sset (fun _ => none) s.host.reads e.1 none } }.send
        (.outboundDone r.stamp r.addr stHW_ERROR (zeros r.len))
    | none => s) (s.dropWaits (s.host.waits.filter (fun r => r.port == port)) stHW_ERROR)

/-- PCIE_LINK_DOWN (R477, R492, R500): a hot reset of port 0 too. -/
def execPcieLinkDown (port : Fin 3) (s : State) : Host.Outcome State Fault Refusal :=
  let l := s.link port.val
  let mine := (List.range 32).filter s.hostBacked
  let s := { s with host := { s.host with links := sset (fun _ => {}) s.host.links port.val {} } }
  let s := if l.up then s.raise { s.mkRec .hif port.val 0x15 1 stHW_ERROR with detail := l.speed } else s
  .next (if port.val = 0 ∧ s.endpoint then
      let s := mine.foldl (fun (s : State) i => s.fnReset i true) s
      { s with host := { s.host with vfs := 0 } }.failReads 0
    else s.failReads port.val)

/-- BUS_MASTER_ENABLE_SET (R492): the instance's outbound requests no longer complete with CANCELLED. The command carries
the NumVFs that the host has set with VF Enable by then, which hold from a state without VFs. -/
def execBusMasterEnableSet (inst : Fin 32) (numVfs : Fin 32) (s : State) : Host.Outcome State Fault Refusal :=
  .next (if s.endpoint then
      let s := if s.host.vfs = 0 then { s with host := { s.host with vfs := numVfs.val } } else s
      if s.fnEnabled inst.val then s.setInst inst.val { s.inst inst.val with stopped := false } else s
    else s)

/-- HIF_RPR_CFG_DATA_ACCESS (R502, Table 15-14): a write sends a configuration write; a read answers the completion's data,
or all ones on UR, on a timeout, and where no link carries the request. -/
def execHifRprCfgDataAccess (who : Who) (port : Fin 3) (write : Bool) (value : BitVec 32) (reply : Option (BitVec 32))
    (s : State) : Host.Outcome State Fault Refusal :=
  .next (if write then s.hifWrite who .hifRpCfgData port.val 4 value.toNat 0
    else
      let reach := (s.link port.val).up && !(port.val == 0 && s.endpoint)
      let s := if reach then s.send (.pcieCfg port.val (s.rd .hifRpCfgAddr port.val) false 0) else s
      s.answer stDONE (leBytes 4 (match reply with
        | some d => if reach then d.toNat else 0xFFFFFFFF
        | none => 0xFFFFFFFF)))

end Sys2Proof.Machine
end

