-- ==== Sys2Proof/Machine/Log.lean ====
section
/-! DEFINITION. The fault log collector of spec/16 (R18, R520 to R523). -/

namespace Sys2Proof.Machine

/-- The order of R18: ascending device time, then ascending source block ID. -/
def recLt (a b : FaultRec) : Bool := decide (a.time < b.time) || (a.time == b.time && decide (a.source < b.source))

/-- First byte of the fault log ring (Table 16-2). -/
abbrev logRing : Nat := 0x1FD8000000

/-- Write a record as the next of the ring (R520). -/
def State.ringWrite (s : State) (r : FaultRec) : State :=
  let k := s.kpr.logWr
  { s.reservedPut (logRing + 32 * (k % 2097152)) r.bytes with kpr := { s.kpr with logWr := (k + 1) % 2 ^ 64 } }

/-- The log interrupt of a Plot for a record (R523). -/
def State.logInterrupt (s : State) (r : FaultRec) (p : Nat) : State :=
  let cfg := s.rd .kprMLogCfg p
  if bit cfg 3 && (r.plot == p || r.plot == 0xFF) && decide (bits cfg 2 0 ≤ r.severity) then
    (s.setBitOf .kprMLogPend p 0).send (.irq p (srcId .kpr p))
  else s

/-- A record reaches the collector (R520, R521, R523): it is held for its 10 µs, or written at once when late; with 4,096
records held, one of severity 0 is discarded and any other waits at its block. -/
def State.logCollect (s : State) (i : Nat) : State :=
  match s.log.raised[i]? with
  | none => s
  | some r =>
    let rest := s.log.raised.eraseIdx i
    if 4096 ≤ s.log.held.length then
      if r.severity = 0 then { s with log := { s.log with raised := rest } }.bump .kprLogDropped 0 1 else s
    else
      let s := if r.time + 10000 < s.now then
          ({ s with log := { s.log with raised := rest } }.ringWrite r).bump .kprLogLate 0 1
        else { s with log := { raised := rest, held := insBy recLt r s.log.held } }
      (List.range 16).foldl (fun s p => s.logInterrupt r p) s

/-- The collector writes the first held record once its 10 µs have passed (R520). -/
def State.logWrite (s : State) : State :=
  match s.log.held with
  | [] => s
  | r :: rest =>
    if r.time + 10000 ≤ s.now then { s with log := { s.log with held := rest } }.ringWrite r else s

/-- LOG_COLLECT (R520): the i-th record on its way reaches the collector. -/
def execLogCollect (i : Nat) (s : State) : Host.Outcome State Fault Refusal := .next (s.logCollect i)

/-- LOG_WRITE (R520). -/
def execLogWrite (s : State) : Host.Outcome State Fault Refusal := .next s.logWrite

end Sys2Proof.Machine
end

