-- ==== Sys2Proof/Machine/Update.lean ====
section
/-! DEFINITION. Updates of spec/16 (R525 to R534): the session, its blocks, staging, activation, the Keeper handover and commits. -/

namespace Sys2Proof.Machine

/-! ### The package (R525, R527) -/

/-- A header is well formed (Table 16-9); PLAIN is accepted only in Manufacture. -/
def updHeaderOk (h : List Byte) (lifecycle : Nat) : Bool :=
  let t := fld h 6 1
  let limit := if t ≤ 3 then (fwSlot t 0).2 else 4194304
  let plain := bit (fld h 7 1) 0
  fld h 0 4 == 0x50555A53 && fld h 4 2 == 1 && decide (1 ≤ t) && decide (t ≤ 5) && decide (fld h 7 1 ≤ 1) &&
    (!plain || lifecycle == 0) && decide (fld h 8 4 ≤ limit) && fld h 0xC 4 == ceilDiv (fld h 8 4) 65536 &&
    allZero h 0x84 4 && allZero h 0xB8 8 && allZero h 0xF0 16 && (!plain || (allZero h 0x18 108 && allZero h 0x88 48))

/-- The usage bit and the image code of a target (R447, Table 14-9). -/
def updUsage (t : Nat) : Nat × Nat := if t ≤ 3 then (t - 1, t) else (3, 4)

/-- The additional data under which a staged block is encrypted. -/
def stagedAad (target off : Nat) : List Byte := leBytes 1 target ++ leBytes 4 off

/-- First byte of the staging buffer (Table 16-2). -/
abbrev stagingBase : Nat := 0x1FDC200000

/-- First byte of the flash staging area (Table 16-1). -/
abbrev flashStaging : Nat := 0x8C00000

/-- Length of block `i` of an image. -/
def blockLen (len i : Nat) : Nat := min 65536 (len - 65536 * i)

/-- The image of a staging area, decrypted under KSTORE; `get` reads the area. -/
def State.stagedImage (s : State) (get : Nat → Nat → List Byte) (u : UpdSt) : Option (List Byte) :=
  let t := fld u.header 6 1
  (List.range (ceilDiv u.imageLen 65536)).foldl (fun acc i => acc.bind (fun d =>
    (gcmDecrypt s.kstore (get (32 * i) 12) (stagedAad t (65536 * i)) (get (0x10000 + 65536 * i) (blockLen u.imageLen i))
      (get (32 * i + 16) 16)).map (d ++ ·))) (some [])

/-! ### Requests (R526 to R528) -/

/-- Why a request that names a session is refused before its own checks: no session, another mailbox, another session. -/
def State.sessionGate (s : State) (k session : Nat) : Option Nat :=
  let u := s.kpr.upd
  if u.state = 0 || u.owner ≠ k || u.session ≠ session then some stREFUSED_PLAN else none

/-- A request with its status noted as LAST_STATUS. -/
def noteStatus (r : State × Option (Nat × List Byte)) : State × Option (Nat × List Byte) :=
  match r.2 with
  | some (w, _) => ({ r.1 with kpr := { r.1.kpr with upd := { r.1.kpr.upd with lastStatus := w } } }, r.2)
  | none => r

/-- UPD_BEGIN. -/
def State.svcUpdBegin (s : State) (k : Nat) (b : List Byte) : State × Option (Nat × List Byte) :=
  let a := fld b 0 8
  if !bodyEnds b 8 || a % 64 ≠ 0 then (s, some (stREFUSED_FORMAT, []))
  else if s.kpr.upd.state ≠ 0 then (s, some (stBUSY, []))
  else match s.memRead (s.mbxStamp k) a 352 with
  | (s, none) => (s, some (stOWNER_FAULT, []))
  | (s, some h) =>
    if !updHeaderOk h s.lifecycle then (s, some (stREFUSED_FORMAT, []))
    else if s.gls.halted then (s, some (stHW_ERROR, []))
    else
      let (usage, image) := updUsage (fld h 6 1)
      match s.verify (fld h 0x10 8) usage image (sha384 (h.take 0x100)) (beNat (sub h 0x100 48)) (beNat (sub h 0x130 48)) with
      | (s, false) => (s, some (stINTEGRITY, []))
      | (s, true) => match (if bit (fld h 7 1) 0 then some [] else s.unwrapKey h "SZ9 update") with
        | none => (s, some (stINTEGRITY, []))
        | some key =>
          let u : UpdSt := {
            state := 1, session := (s.kpr.upd.session + 1) % 2 ^ 32, target := fld h 6 1, owner := k, header := h, key := key,
            imageLen := fld h 8 4, lastStatus := s.kpr.upd.lastStatus }
          ({ s with kpr := { s.kpr with upd := u } }, some (stDONE, leBytes 4 u.session ++ leBytes 4 (fld h 0xC 4)))

/-- The plaintext of a block as it arrives: header and ciphertext. -/
def UpdSt.open? (u : UpdSt) (off : Nat) (d : List Byte) : Option (List Byte) :=
  if bit (fld u.header 7 1) 0 then some (d.drop 32) else gcmDecrypt u.key (d.take 12) (leBytes 8 off) (d.drop 32) (sub d 16 16)

/-- Keep a block in the staging buffer under KSTORE with a fresh IV. -/
def State.stageBlock (s : State) (off : Nat) (pt : List Byte) : State :=
  let (iv, s) := s.freshBytes 12
  let (ct, tag) := gcmEncrypt s.kstore iv (stagedAad s.kpr.upd.target off) pt
  let i := off / 65536
  let s := (s.reservedPut (stagingBase + 32 * i) (iv ++ zeros 4 ++ tag)).reservedPut (stagingBase + 0x10000 + off) ct
  let got := s.kpr.upd.received
  { s with kpr := { s.kpr with upd := { s.kpr.upd with
      received := if got.contains i then got else insBy (fun a b => decide (a < b)) i got } } }

/-- UPD_BLOCK. -/
def State.svcUpdBlock (s : State) (k : Nat) (b : List Byte) : State × Option (Nat × List Byte) :=
  let off := fld b 4 4
  let a := fld b 8 8
  let n := fld b 0x10 4
  let u := s.kpr.upd
  if !bodyEnds b 0x14 || a % 64 ≠ 0 then (s, some (stREFUSED_FORMAT, []))
  else match s.sessionGate k (fld b 0 4) with
  | some w => (s, some (w, []))
  | none =>
    if u.state = 3 ∨ u.state = 4 then (s, some (stBUSY, []))
    else if u.state ≠ 1 then (s, some (stREFUSED_PLAN, []))
    else if off % 65536 ≠ 0 || u.imageLen ≤ off || n ≠ blockLen u.imageLen (off / 65536) then (s, some (stREFUSED_FORMAT, []))
    else match s.memRead (s.mbxStamp k) a (32 + n) with
    | (s, none) => (s, some (stOWNER_FAULT, []))
    | (s, some d) =>
      if !allZero d 12 4 then (s, some (stREFUSED_FORMAT, []))
      else if s.gls.halted then (s, some (stHW_ERROR, []))
      else match u.open? off d with
      | none => (s, some (stINTEGRITY, []))
      | some pt =>
        let s := s.stageBlock off pt
        (s, some (stDONE, zeros 4 ++ leBytes 4 s.kpr.upd.received.length))

/-- The version checks of step 4. -/
def State.updVersionOk (s : State) (t : Nat) (img : List Byte) : Bool :=
  if t ≤ 3 then decide (s.gls.otp.mins.getD (t - 1) 0 ≤ fld img 0x10 2) &&
    (t ≠ 2 || decide (fld img 0x14 2 ≤ ((s.fwOf 2).map (·.hoFmt)).getD 0))
  else decide (s.gls.otp.mins.getD 3 0 ≤ fld img 0x10 4)

/-- Steps 2 to 4 of Table 16-10: the status of the first failure. -/
def State.updChecks (s : State) (u : UpdSt) (img : List Byte) : State × Option Nat :=
  let n := img.length
  let shape := if u.target ≤ 3 then fwHeaderOk (img.take 64) u.target (fwSlot u.target 0).2 else locatable (img.take 0x80)
  if sha384 img ≠ sub u.header 0xC0 48 || !shape || fld img 8 4 ≠ n then (s, some stINTEGRITY)
  else
    let (usage, image) := updUsage u.target
    match s.verify (fld img (n - 104) 8) usage image (sha384 (img.take (n - 104))) (beNat (sub img (n - 96) 48))
        (beNat (sub img (n - 48) 48)) with
    | (s, false) => (s, some stINTEGRITY)
    | (s, true) => (s, if s.updVersionOk u.target img then none else some stREFUSED_VERSION)

/-- Record the session in the boot control block (R526). -/
def State.recordSession (s : State) : State := s.setControl (fun b => { b with staged := some s.kpr.upd })

/-- UPD_STAGE. -/
def State.svcUpdStage (s : State) (k : Nat) (b : List Byte) : State × Option (Nat × List Byte) :=
  let u := s.kpr.upd
  if !bodyEnds b 4 then (s, some (stREFUSED_FORMAT, []))
  else match s.sessionGate k (fld b 0 4) with
  | some w => (s, some (w, []))
  | none =>
    if u.state = 3 ∨ u.state = 4 then (s, some (stBUSY, []))
    else if u.state ≠ 1 then (s, some (stREFUSED_PLAN, []))
    else if s.gls.halted then (s, some (stHW_ERROR, []))
    else if u.received.length ≠ ceilDiv u.imageLen 65536 then (s, some (stREFUSED_FIT, []))
    else match s.stagedImage (fun a n => s.dramGet (stagingBase + a) n) u with
    | none => (s, some (stINTEGRITY, []))
    | some img => match s.updChecks u img with
      | (s, some w) => (s, some (w, []))
      | (s, none) => match (if u.target ≤ 3 then [] else s.planFails img (u.target - 4)) with
        | f :: _ => (s, some (f.status, zeros 4 ++ leBytes 1 f.check))
        | [] =>
          let used := 0x10000 + u.imageLen
          let s := (s.flashErase flashStaging 0x4000000).flashPut flashStaging (s.dramGet stagingBase used)
          let s := { s with kpr := { s.kpr with upd := { s.kpr.upd with state := 2, key := [], lastStatus := stDONE } } }
          (s.recordSession, some (stDONE, []))

/-! ### Activation (R529, R530) -/

/-- Write an image to a slot of flash. -/
def State.writeSlot (s : State) (base size : Nat) (img : List Byte) : State := (s.flashErase base size).flashPut base img

/-- The end of an activation: the reply to UPD_ACTIVATE, or the UPDATE record of a retry. -/
def State.answerActivation (s : State) (status : Nat) : State :=
  let u := s.kpr.upd
  let s := { s with kpr := { s.kpr with upd := { u with lastStatus := status, pendingReply := none } } }
  match u.pendingReply with
  | some k => s.finishMbx k status []
  | none => s.raise { s.mkRec .kpr 0 0x11 0 status with detail := u.target % 8 + 256 * (u.session % 256) }

/-- The session waits for the power state (R530). -/
def State.deferSession (s : State) : State :=
  ({ s with kpr := { s.kpr with draining := false, upd := { s.kpr.upd with state := 4 } } }).recordSession

/-- Begin the activation of a staged session: the status, or none while a handover goes on. -/
def State.beginActivation (s : State) : State × Option Nat :=
  let u := s.kpr.upd
  if s.pwr.state ≠ 0 then (s.deferSession, some stDEFERRED)
  else if s.gls.halted then (s, some stHW_ERROR)
  else match s.stagedImage (fun a n => s.flashGet (flashStaging + a) n) u with
  | none => (s.endSession, some stINTEGRITY)
  | some img =>
    if u.target = 2 then ({ s with kpr := { s.kpr with draining := true, upd := { u with state := 3 } } }, none)
    else if u.target ≤ 3 then
      let slot := fwSlot u.target (1 - (s.control.kind u.target).active)
      let s := (s.writeSlot slot.1 slot.2 img).setKind u.target (fun c => { c with trial := true, tried := false })
      (s.endSession, some stDONE)
    else ((s.writeSlot (planSlot (u.target - 4)) 4194304 img).endSession, some stDONE)

/-- UPD_ACTIVATE. -/
def State.svcUpdActivate (s : State) (k : Nat) (b : List Byte) : State × Option (Nat × List Byte) :=
  let u := s.kpr.upd
  if !bodyEnds b 4 then (s, some (stREFUSED_FORMAT, []))
  else match s.sessionGate k (fld b 0 4) with
  | some w => (s, some (w, []))
  | none =>
    if u.state = 3 ∨ u.state = 4 then (s, some (stBUSY, []))
    else if u.state ≠ 2 then (s, some (stREFUSED_PLAN, []))
    else match s.beginActivation with
    | (s, some w) => (s, some (w, []))
    | (s, none) => ({ s with kpr := { s.kpr with upd := { s.kpr.upd with pendingReply := some k } } }, none)

/-- UPD_ABORT. -/
def State.svcUpdAbort (s : State) (k : Nat) (b : List Byte) : State × Option (Nat × List Byte) :=
  if !bodyEnds b 4 then (s, some (stREFUSED_FORMAT, []))
  else match s.sessionGate k (fld b 0 4) with
  | some w => (s, some (w, []))
  | none => if s.kpr.upd.state = 3 then (s, some (stBUSY, [])) else (s.endSession, some (stDONE, []))

/-- UPD_COMMIT (R448, R533). -/
def State.svcUpdCommit (s : State) (_ : Nat) (b : List Byte) : State × Option (Nat × List Byte) :=
  let t := fld b 0 1
  if !bodyEnds b 1 || t < 1 || 4 < t then (s, some (stREFUSED_FORMAT, []))
  else if s.gls.halted then (s, some (stHW_ERROR, []))
  else
    let running := if t = 4 then s.plan.map (·.version) else (s.fwOf t).map (·.svn)
    match running with
    | none => (s, some (stREFUSED_PLAN, []))
    | some v =>
      if (if t = 4 then s.spl.state == 3 else (s.control.kind t).trial) then (s, some (stREFUSED_PLAN, []))
      else
        let m := max (s.gls.otp.mins.getD (t - 1) 0) (min v 256)
        ({ s with gls := { s.gls with otp := { s.gls.otp with mins := setAt s.gls.otp.mins (t - 1) m } } },
          some (stDONE, zeros 4 ++ leBytes 2 m))

/-! ### The Keeper handover (R531, R532) -/

/-- Keeper firmware starts: it opens the fault log (R524), which the Gatehouse answers while its lockstep is broken (R400). -/
def State.keeperOpens (s : State) : State :=
  let s := { s with kpr := { s.kpr with logOpen := true, wdogAt := s.now } }
  if s.gth.broken then s.raise (s.mkRec .gth 0 0x12 0 stDONE) else s

/-- The old image restarts after a handover that failed: `late` for READY that did not arrive, else a failed check. -/
def State.handoverFails (s : State) (late : Bool) : State :=
  let s := { s with kpr := { s.kpr with state := s.kpr.upState, draining := false, next := none } }.keeperOpens
  ((s.raise { s.mkRec .kpr 0 0x12 1 stHW_ERROR with detail := b2n late }).answerActivation stHW_ERROR).endSession

/-- Place of a half of the Keeper range. -/
def keeperHalf (half : Nat) : Nat := keeperBase + 0x2000000 * half

/-- Steps 5 and 6. -/
def State.handoverStart (s : State) : State :=
  let u := s.kpr.upd
  match s.stagedImage (fun a n => s.flashGet (flashStaging + a) n) u with
  | none => (({ s with kpr := { s.kpr with draining := false } }).answerActivation stINTEGRITY).endSession
  | some img =>
    let s := s.reservedPut (keeperHalf (1 - s.kpr.half)) img
    match s.updChecks u img with
    | (s, some _) => s.handoverFails false
    | (s, none) =>
      let f : FwRun := ⟨1 - (s.control.kind 2).active, fld img 0xC 4, fld img 0x10 2, fld img 0x12 2, sha384 img, img, false⟩
      { s with kpr := { s.kpr with
          state := 2, draining := false, next := some f, logOpen := false, wdogAt := s.now
          upd := { s.kpr.upd with readyAt := some s.now } } }

/-- A request of another mailbox is in service. -/
def State.othersServed (s : State) : Bool :=
  s.kpr.mbx.any (fun e => e.2.serving && s.kpr.upd.pendingReply ≠ some e.1)

/-- A handover goes on once the requests in service are finished; it is abandoned when the power state leaves NORMAL. -/
def State.settleHandover (s : State) : State :=
  if !s.kpr.draining then s
  else if s.pwr.state ≠ 0 then s.deferSession.answerActivation stDEFERRED
  else if s.othersServed then s
  else s.handoverStart

/-- Steps 7 and 8: the new firmware is ready. -/
def State.handoverReady (s : State) : State :=
  match s.kpr.next with
  | none => s
  | some f =>
    if s.kpr.state ≠ 2 then s
    else
      let (base, size) := fwSlot 2 f.slot
      let s := (s.setFw 2 f).keeperOpens
      let s := { s with kpr := { s.kpr with state := s.kpr.upState, half := 1 - s.kpr.half, next := none } }
      let s := s.answerActivation stDONE
      ((s.writeSlot base size f.image).setKind 2 (fun _ => { active := f.slot })).endSession

/-- READY does not arrive within 500 ms of step 6. -/
def State.handoverLate (s : State) : State :=
  match s.kpr.upd.readyAt with
  | some t => if s.kpr.state = 2 ∧ t + 500000000 ≤ s.now then s.handoverFails true else s
  | none => s

/-- The Keeper retries a deferred activation (R530). -/
def State.retryActivation (s : State) : State :=
  if s.kpr.upd.state ≠ 4 || s.pwr.state ≠ 0 || s.now < s.pwr.normal + 1000000000 || !s.keeperServes then s
  else match s.beginActivation with
  | (t, some w) =>
    let t := t.raise { s.mkRec .kpr 0 0x11 0 w with detail := s.kpr.upd.target % 8 + 256 * (s.kpr.upd.session % 256) }
    { t with kpr := { t.kpr with upd := { t.kpr.upd with lastStatus := w } } }
  | (t, none) => t.settleHandover

/-! ### Commands -/

/-- UPD_BEGIN (R525, R526). -/
def execUpdBegin (mbx : Mbx) (s : State) : Host.Outcome State Fault Refusal :=
  .next (s.serve mbx 0x50 (fun s k b => noteStatus (s.svcUpdBegin k b)))

/-- UPD_BLOCK (R527, R534). -/
def execUpdBlock (mbx : Mbx) (s : State) : Host.Outcome State Fault Refusal :=
  .next (s.serve mbx 0x51 (fun s k b => noteStatus (s.svcUpdBlock k b)))

/-- UPD_STAGE (R528). -/
def execUpdStage (mbx : Mbx) (s : State) : Host.Outcome State Fault Refusal :=
  .next (s.serve mbx 0x52 (fun s k b => noteStatus (s.svcUpdStage k b)))

/-- UPD_ACTIVATE (R529 to R531). -/
def execUpdActivate (mbx : Mbx) (s : State) : Host.Outcome State Fault Refusal :=
  .next (s.serve mbx 0x53 (fun s k b => noteStatus (s.svcUpdActivate k b))).settleHandover

/-- UPD_ABORT (R529). -/
def execUpdAbort (mbx : Mbx) (s : State) : Host.Outcome State Fault Refusal :=
  .next (s.serve mbx 0x54 (fun s k b => noteStatus (s.svcUpdAbort k b)))

/-- UPD_COMMIT (R533). -/
def execUpdCommit (mbx : Mbx) (s : State) : Host.Outcome State Fault Refusal := .next (s.serve mbx 0x55 State.svcUpdCommit)

/-- HANDOVER_FAIL (R532). -/
def execHandoverFail (s : State) : Host.Outcome State Fault Refusal := .next s.handoverLate

/-- ACTIVATION_RETRY (R530). -/
def execActivationRetry (s : State) : Host.Outcome State Fault Refusal := .next s.retryActivation

end Sys2Proof.Machine
end

