-- ==== Sys2Proof/Machine/Keeper.lean ====
section
/-! DEFINITION. The Keeper's log and journal services (R522), its watchdog (R524), the registers of the KPR block (R536, R537) and of
the SPL block (R50). -/

namespace Sys2Proof.Machine

/-! ### LOG_READ and JOURNAL_READ -/

/-- The records of the ring that LOG_READ copies: from an index on, at most `max` of those of a Plot or of none; with the index
after the last one examined. `fuel` is how many records there are. -/
def State.logPick (s : State) (plot : Nat) : Nat → Nat → Nat → List Byte × Nat
  | 0, at_, _ => ([], at_)
  | fuel + 1, at_, max =>
    if max = 0 then ([], at_)
    else
      let r := s.dramGet (logRing + 32 * (at_ % 2097152)) 32
      let p := fld r 13 1
      if p = plot ∨ p = 0xFF then
        let rest := s.logPick plot fuel (at_ + 1) (max - 1)
        (r ++ rest.1, rest.2)
      else s.logPick plot fuel (at_ + 1) max

/-- LOG_READ (R522). -/
def State.svcLogRead (s : State) (k : Nat) (b : List Byte) : State × Option (Nat × List Byte) :=
  let from_ := fld b 0 8
  let max_ := fld b 8 4
  let a := fld b 0x10 8
  if !allZero b 0xC 4 || !bodyEnds b 0x18 || max_ < 1 || 65536 < max_ || a % 32 ≠ 0 then (s, some (stREFUSED_FORMAT, []))
  else
    let oldest := s.kpr.logWr - 2097152
    let start := max from_ oldest
    let (d, next) := s.logPick (s.mbxPlot k) (s.kpr.logWr - start) start max_
    match s.memWrite (s.mbxStamp k) a d with
    | (s, true) =>
      (s, some (stDONE, leBytes 8 next ++ leBytes 4 (d.length / 32) ++ leBytes 4 (min (start - from_) 0xFFFFFFFF)))
    | (s, false) => (s, some (stOWNER_FAULT, []))

/-- The bytes of the journal `n` boots back: of this boot from DRAM, of an earlier one from the archive; nothing where the
archive holds none. -/
def State.journalOf (s : State) (n : Nat) : List Byte :=
  if n = 0 then s.dramGet journalBase (32 + 32 * s.kpr.journal.length)
  else
    let base := archiveSlot (s.kpr.bootCount + 8 - n)
    let h := s.flashGet base 32
    if fld h 0 4 = 0x4A425A53 then s.flashGet base (min 0x20000 (32 + 32 * fld h 12 4)) else []

/-- JOURNAL_READ (R518). -/
def State.svcJournalRead (s : State) (k : Nat) (b : List Byte) : State × Option (Nat × List Byte) :=
  let n := fld b 0 1
  let a := fld b 8 8
  if !allZero b 1 7 || !bodyEnds b 0x10 || 7 < n || a % 64 ≠ 0 then (s, some (stREFUSED_FORMAT, []))
  else
    let d := s.journalOf n
    match s.memWrite (s.mbxStamp k) a d with
    | (s, true) => (s, some (stDONE, zeros 4 ++ leBytes 4 d.length))
    | (s, false) => (s, some (stOWNER_FAULT, []))

/-! ### Watchdog (R524) -/

/-- A request in service completes with HW_ERROR. -/
def State.failRequest (s : State) (k : Nat) : State :=
  let clear (x : InstSt) : InstSt := {
    x with
    freezing := match x.freezing with
      | some (m, t) => if m = k then none else some (m, t)
      | none => none }
  let s := { s with host := { s.host with insts := s.host.insts.map (fun (e : Nat × InstSt) => (e.1, clear e.2)) } }
  let s := if 16 ≤ k then s.setInst (k - 16) { s.inst (k - 16) with
      closing := (s.inst (k - 16)).closing.map (fun (c : Nat × Bool) => (c.1, false)) } else s
  s.finishMbx k stHW_ERROR []

/-- An activation that a restart interrupts: before step 6 the session is staged again, or deferred when it was a retry; after it
the session ends. -/
def State.interruptActivation (s : State) : State :=
  if s.kpr.draining then
    { s with kpr := { s.kpr with draining := false, upd := { s.kpr.upd with
        state := if s.kpr.upd.pendingReply.isSome then 2 else 4, pendingReply := none, lastStatus := stHW_ERROR } } }
  else if s.kpr.state = 2 then
    ({ s with kpr := { s.kpr with upd := { s.kpr.upd with lastStatus := stHW_ERROR, pendingReply := none } } }).endSession
  else s

/-- An interval of 100 ms passes without a kick: the Keeper restarts from its running half. -/
def State.keeperRestart (s : State) : State :=
  if s.kpr.state = 0 ∨ s.kpr.state = 4 ∨ s.now < s.kpr.wdogAt + 100000000 then s
  else
    let served := (s.kpr.mbx.filter (fun e => e.2.serving)).map (·.1)
    let s := s.raise { s.mkRec .kpr 0 0x13 2 stHW_ERROR with detail := served.length }
    let s := (served.foldl (fun (s : State) k => s.failRequest k) s).interruptActivation
    { s with kpr := { s.kpr with state := 4, logOpen := false } }

/-- A kick; the first one after a restart shows that the firmware has started. -/
def State.keeperKick (s : State) : State :=
  if s.kpr.state = 4 then ({ s with kpr := { s.kpr with state := s.kpr.upState } }).keeperOpens
  else { s with kpr := { s.kpr with wdogAt := s.now } }

/-! ### Registers -/

/-- Writes of the KPR block (R537). -/
def State.kprWrite (s : State) (who : Who) (id : RegId) (ix size v hw : Nat) : State :=
  let st := s.stampOf who
  let keeper : Option WRefusal := if isKeeper who then none else some { errBit := some 2, inst := 0, detail := 2 }
  let plot (p : Nat) : Option WRefusal :=
    if isKeeper who || s.isCoreOf who p then none else some { errBit := some 2, inst := 0, detail := 1 }
  let store (s : State) : State := s.regStore id ix v hw
  match id with
  | .kprWdog => s.regWrite st id ix size v keeper true (fun s => if bit v 0 then s.keeperKick else s)
  | .kprHandover => s.regWrite st id ix size v keeper true (fun s => if bit v 0 then s.handoverReady else s)
  | .kprMMbxGo =>
    s.regWrite st id ix size v (firstSome [plot ix, if (s.mbx ix).busy then some goBusy else none]) true
      (fun s => if bit v 0 then s.mbxGo ix (s.reqBytes .kprMMbxReq ix) else s)
  | .kprMMbxReq => s.regWrite st id ix size v (plot (ix / 16)) true store
  | .kprMMbxReply => s.regWrite st id ix size v (plot (ix / 8)) true store
  | .kprMLogCfg => s.regWrite st id ix size v (plot ix) (decide (bits v 2 0 ≤ 4)) store
  | .kprMStatus | .kprMFeat | .kprMMbxStatus | .kprMLogPend => s.regWrite st id ix size v (plot ix) true store
  | _ => s.regWrite st id ix size v none true store

/-- Keeper firmware runs. -/
def State.keeperUp (s : State) : Bool := s.kpr.logOpen || s.kpr.state ≠ 0

/-- KPR_UPD_STATUS (Table 16-19). -/
def UpdSt.word (u : UpdSt) : Nat :=
  u.state + 16 * (if u.state = 0 then 0 else u.target) + 256 * u.lastStatus + 65536 * u.received.length

/-- Views of the KPR registers that show state. -/
def State.kprView (s : State) (id : RegId) (ix : Nat) : Option Nat :=
  match id with
  | .kprStatus => some (s.kpr.state + 8 * b2n s.kpr.logOpen + 16 * b2n (s.kpr.upd.state == 4))
  | .kprFeatDev => some (if s.keeperUp then featDev else 0)
  | .kprFeatReq => some (b2n s.keeperUp)
  | .kprFwVersion => some (if s.keeperUp then ((s.fwOf 2).map (·.version)).getD 0 else 0)
  | .kprBootCount => some s.kpr.bootCount
  | .kprLogWr => some s.kpr.logWr
  | .kprUpdStatus => some s.kpr.upd.word
  | .kprMStatus => some (b2n (s.mbx ix).isOpen)
  | .kprMFeat => some (s.mbx ix).feat
  | .kprMMbxStatus => some (s.mbx ix).word
  | .kprMMbxReply => some ((s.mbx (ix / 8)).replyWord (ix % 8))
  | .kprIFeat => some (s.mbx (16 + ix)).feat
  | _ => none

/-- SPL_PLOT_p (Table 01-24). -/
def State.plotWord (s : State) (p : Nat) : Nat :=
  match s.plotRec p with
  | none => 0
  | some r => r.crit + 8 * b2n r.survive + 16 * b2n r.mustRun + 32 * b2n r.secure +
      256 * (if s.plotRunning p then 1 else 2) + 65536 * r.quota

/-- Views of the SPL registers. -/
def State.splView (s : State) (id : RegId) (ix : Nat) : Option Nat :=
  match id with
  | .splStatus => some (s.spl.state + 8 * b2n s.plan.isSome + 16 * b2n s.spl.altTried +
      65536 * maskOf (((s.plan.map (·.plots)).getD []).map (·.plot)))
  | .splFailCount => some s.spl.failCount
  | .splFirstFail => some (firstFailWord s.spl.firstFail)
  | .splPlanId => some ((s.plan.map (·.planId)).getD 0)
  | .splPlanVersion => some ((s.plan.map (·.version)).getD 0)
  | .splPowerLimit => some ((s.plan.map (·.powerLimit)).getD 0)
  | .splMustRunMw => some ((s.plan.map (·.mustRunMw)).getD 0)
  | .splAcceptTime => some s.spl.acceptTime
  | .splDigest => some (fld ((s.plan.map (·.digest)).getD []) (4 * ix) 4)
  | .splPlot => some (s.plotWord ix)
  | _ => none

/-! ### Commands -/

/-- LOG_READ (R522). -/
def execLogRead (mbx : Mbx) (s : State) : Host.Outcome State Fault Refusal := .next (s.serve mbx 0x60 State.svcLogRead)

/-- JOURNAL_READ (R518). -/
def execJournalRead (mbx : Mbx) (s : State) : Host.Outcome State Fault Refusal := .next (s.serve mbx 0x61 State.svcJournalRead)

/-- KPR_WDOG_KICK (R524): a write of KPR_WDOG. -/
def execKprWdogKick (who : Who) (value : BitVec 32) (s : State) : Host.Outcome State Fault Refusal :=
  .next (s.kprWrite who .kprWdog 0 4 value.toNat 0)

/-- KEEPER_RESTART (R524). -/
def execKeeperRestart (s : State) : Host.Outcome State Fault Refusal := .next s.keeperRestart

/-- KPR_HANDOVER_READY (R531): a write of KPR_HANDOVER. -/
def execKprHandoverReady (who : Who) (value : BitVec 32) (s : State) : Host.Outcome State Fault Refusal :=
  .next (s.kprWrite who .kprHandover 0 4 value.toNat 0)

end Sys2Proof.Machine
end

