-- ==== Sys2Proof/Machine/Migrate.lean ====
section
/-! DEFINITION. SAVE and RESTORE of spec/15 (R496, R497, Tables 15-9 and 15-10). -/

namespace Sys2Proof.Machine

/-! ### The image -/

/-- The SEQ values of a queue's window, oldest first. -/
def State.seqValues (s : State) (q : Nat) : List Byte :=
  ((s.queue q).window.reverse.flatMap (fun w => leBytes 4 w.1) ++ zeros 256).take 256

/-- A queue record: a command that was read as the head but not dispatched counts as not fetched. -/
def State.queueRecord (s : State) (q : Nat) : List Byte :=
  let head := (s.rd .hifQHead q + 2 ^ 32 - b2n (s.queue q).head.isSome) % 2 ^ 32
  leBytes 4 q ++ zeros 4 ++ leBytes 8 (s.rd .hifQBase q) ++ leBytes 8 (s.rd .hifQCplBase q) ++ leBytes 8 (s.rd .hifQShadow q)
    ++ leBytes 4 (s.rd .hifQCfg q) ++ leBytes 4 (s.rd .hifQTail q) ++ leBytes 4 head ++ leBytes 4 (s.rd .hifQCplTail q)
    ++ leBytes 4 (s.rd .hifQCplHead q) ++ zeros 12 ++ s.seqValues q

/-- A context record. -/
def ctxRecord (c : Nat) (x : CtxSt) : List Byte :=
  leBytes 4 c ++ zeros 12 ++ leBytes 16 (maskOf (x.binds.map (·.1))) ++
    leBytes 32 (sumL (x.binds.map (fun e => e.2 * 4 ^ e.1)))

/-- A program record with its image. -/
def progRecord (handle : Nat) (p : Prog) : List Byte :=
  leBytes 4 handle ++ leBytes 4 p.ctx ++ leBytes 4 p.semFirst ++ leBytes 4 p.imageLen ++ leBytes 8 p.bindAddr ++ zeros 8 ++
    p.image ++ zeros (ceilDiv p.imageLen 8 * 8 - p.imageLen)

/-- A space record. -/
def spaceRecord (key : Nat) (x : Space) : List Byte :=
  leBytes 4 x.ctx ++ leBytes 4 x.cslot ++ leBytes 4 (key / 4) ++ zeros 4 ++ leBytes 8 x.desc ++ leBytes 8 x.epoch ++
    leBytes 8 x.retired

/-- The loaded programs of an instance's contexts, with their handles. -/
def State.instProgs (s : State) (ctxs : List Nat) : List (Nat × Prog) :=
  s.tensor.progs.filterMap (fun e => match e.2 with
    | some p => if ctxs.contains p.ctx then some (4096 * p.gen + e.1, p) else none
    | none => none)

/-- The semaphores that programs name. -/
def progSems (l : List (Nat × Prog)) : List Nat :=
  (sortBy (fun a b => decide (a < b)) (l.flatMap (fun p => (List.range p.2.semCount).map (· + p.2.semFirst)))).eraseDups

/-- The state image of an instance (Table 15-9) but for its digest. -/
def State.imageBody (s : State) (i : Nat) : List Byte :=
  let x := s.inst i
  let qs := s.boundQueues i
  let cs := s.ctxsVia (16 + i)
  let ps := s.instProgs cs
  let sp := s.tensor.spaces.filterMap (fun e => match e.2 with
    | some y => if cs.contains y.ctx then some (e.1, y) else none
    | none => none)
  let sems := progSems ps
  let box := ((s.mbx (16 + i)).window.reverse.flatMap (fun r => leBytes 4 r.seq ++ r.bytes false) ++ zeros 2304).take 2304
  let recs := qs.flatMap s.queueRecord ++ cs.flatMap (fun c => ((s.ctx? c).map (ctxRecord c)).getD []) ++
    ps.flatMap (fun p => progRecord p.1 p.2) ++ sp.flatMap (fun e => spaceRecord e.1 e.2) ++
    sems.flatMap (fun n => leBytes 8 n ++ leBytes 8 (s.semVal n))
  leBytes 4 0x494D5A53 ++ leBytes 2 1 ++ leBytes 1 i ++ leBytes 1 (s.instPlot i) ++ leBytes 4 (0x980 + recs.length + 48) ++
    leBytes 1 x.prior ++ leBytes 1 (b2n x.host) ++ leBytes 2 qs.length ++ leBytes 2 cs.length ++ leBytes 2 ps.length ++
    leBytes 2 sp.length ++ leBytes 2 sems.length ++ leBytes 8 x.token ++ ((s.plan.map (·.digest)).getD (zeros 48)) ++
    leBytes 4 (if x.prior = 2 then x.leftMs else 0) ++ zeros 44 ++ box ++ recs

/-- SAVE (R496). -/
def State.svcSave (s : State) (k : Nat) (b : List Byte) : State × Option (Nat × List Byte) :=
  let i := fld b 0 1
  if !allZero b 1 3 || !bodyEnds b 16 || fld b 8 8 % 64 ≠ 0 || 31 < i then (s, migReply stREFUSED_FORMAT i 0)
  else if !s.migOk k i || (s.inst i).state ≠ 3 || (s.ctxsVia (16 + i)).any (fun c => (s.enclaveOf c).isSome) then
    (s, migReply stREFUSED_PLAN i 0)
  else
    let body := s.imageBody i
    let n := body.length + 48
    if fld b 4 4 < n then (s, migReply stREFUSED_FIT i n)
    else match s.memWrite (s.mbxStamp k) (fld b 8 8) (body ++ sha384 body) with
      | (s, true) => (s, migReply stDONE i n)
      | (s, false) => (s, migReply stOWNER_FAULT i 0)

/-! ### Reading an image -/

/-- A program record as read: handle, context, SEM_FIRST, BIND_ADDR, image. -/
structure ImgProg where
  handle : Nat
  ctx : Nat
  semFirst : Nat
  bindAddr : Nat
  image : List Byte
deriving DecidableEq, Repr

/-- The program records from an offset on, and the offset after them. -/
def readImgProgs (r : List Byte) : Nat → Nat → List ImgProg × Nat
  | 0, off => ([], off)
  | n + 1, off =>
    let len := fld r (off + 12) 4
    let p : ImgProg := {
      handle := fld r off 4, ctx := fld r (off + 4) 4, semFirst := fld r (off + 8) 4, bindAddr := fld r (off + 16) 8,
      image := sub r (off + 32) len }
    let rest := readImgProgs r n (off + 32 + ceilDiv len 8 * 8)
    (p :: rest.1, rest.2)

/-- An image as read: its records as bytes, but the programs. -/
structure InstImg where
  inst : Nat
  plot : Nat
  prior : Nat
  host : Nat
  token : Nat
  plan : List Byte
  left : Nat
  window : List Byte
  queues : List (List Byte)
  ctxs : List (List Byte)
  progs : List ImgProg
  spaces : List (List Byte)
  sems : List (Nat × Nat)
  stop : Nat
deriving DecidableEq, Repr

/-- Records of a fixed size. -/
def records (r : List Byte) (off n size : Nat) : List (List Byte) := (List.range n).map (fun i => sub r (off + size * i) size)

/-- Read an image. -/
def readInstImg (r : List Byte) : InstImg :=
  let c := 0x980 + 320 * fld r 0xE 2
  let p := readImgProgs r (fld r 0x12 2) (c + 64 * fld r 0x10 2)
  let m := p.2 + 40 * fld r 0x14 2
  { inst := fld r 6 1, plot := fld r 7 1, prior := fld r 0xC 1, host := fld r 0xD 1, token := fld r 0x18 8,
    plan := sub r 0x20 48, left := fld r 0x50 4, window := sub r 0x80 2304, queues := records r 0x980 (fld r 0xE 2) 320,
    ctxs := records r c (fld r 0x10 2) 64, progs := p.1, spaces := records r p.2 (fld r 0x14 2) 40,
    sems := (records r m (fld r 0x16 2) 16).map (fun x => (fld x 0 8, fld x 8 8)), stop := m + 16 * fld r 0x16 2 }

/-- Check 2 of Table 15-10: MAGIC, LENGTH and counts, and no reserved value. -/
def InstImg.formatOk (x : InstImg) (r : List Byte) : Bool :=
  fld r 0 4 == 0x494D5A53 && fld r 8 4 == r.length && x.stop + 48 == r.length && decide (x.inst < 32) &&
    decide (x.plot < 16) && (x.prior == 1 || x.prior == 2) && decide (x.host ≤ 1) && allZero r 0x54 44 &&
    (x.prior == 2 || x.left == 0) &&
    x.queues.all (fun q => decide (fld q 0 4 < 256) && bit (fld q 32 4) 6 && bits (fld q 32 4) 5 1 == x.inst &&
      decide (4 ≤ bits (fld q 32 4) 10 7) && decide (bits (fld q 32 4) 10 7 ≤ 12) && fld q 32 4 / 2 ^ 18 == 0) &&
    x.ctxs.all (fun c => decide (fld c 0 4 < 1024)) &&
    x.progs.all (fun p => decide (p.ctx < 1024) && (structFail p.image p.image.length).isNone) &&
    x.spaces.all (fun p => decide (fld p 0 4 < 1024) && decide (fld p 4 4 < 4) && decide (fld p 8 4 < 16)) &&
    x.sems.all (fun e => decide (e.1 < 16384))

/-- Check 4 of Table 15-10. -/
def State.imgPlanOk (s : State) (k : Nat) (x : InstImg) : Bool :=
  (s.plan.map (·.digest)) == some x.plan && s.migOk k x.inst && x.plot == k && (s.inst x.inst).state == 0 &&
    (s.inst x.inst).closing.isNone && s.fnEnabled x.inst == (x.host == 1) &&
    x.queues.all (fun q => s.queuePlot (fld q 0 4) == x.plot) && x.sems.all (fun e => s.ownerOf 0x06 e.1 == x.plot)

/-- Recreate a context; none when its number is taken. -/
def State.restoreCtx (s : State) (x : InstImg) (r : List Byte) : Option State :=
  let c := fld r 0 4
  if (s.ctx? c).isSome then none
  else
    let beds := bitList 128 (fld r 16 16)
    let y : CtxSt := { plot := x.plot, via := 16 + x.inst, binds := beds.map (fun n => (n, bits (fld r 32 32) (2 * n + 1) (2 * n))) }
    some { s with tensor := { s.tensor with ctxs := sset (fun _ => none) s.tensor.ctxs c (some y) } }

/-- Bind a space again with its recorded epochs: the checks of R185, and the effect of BIND. -/
def State.restoreSpace (s : State) (x : InstImg) (r : List Byte) : State × Except Nat Unit :=
  let c := fld r 0 4
  let pav := fld r 8 4
  let st : Stamp := ⟨128 + pav, x.plot, s.defaultClass x.plot, false, c⟩
  let cmd : Cmd := {
    seq := 0, tag := 0, opcode := 0x10, flags := 0, ctx := c, waitSem := 0xFFFF, signalSem := 0xFFFF, raw0E := 0,
    waitValue := 0, signalValue := 0, deadline := 0,
    args := leBytes 8 (fld r 16 8) ++ leBytes 1 (fld r 4 4) ++ leBytes 1 pav ++ zeros 14 }
  match s.bindCheck st cmd with
  | (s, .error w) => (s, .error w)
  | (s, .ok (key, y)) =>
    let (s, _) := s.memWrite st (y.desc + 0x50) (zeros 8)
    let s := y.seqList.foldl (fun s n => s.putSeq st y n) s
    (s.setSpace key (some { y with epoch := fld r 24 8, retired := fld r 32 8 }), .ok ())

/-- Load a program again under its handle: the checks 0x04 to 0x0D. -/
def State.restoreProg (s : State) (k : Nat) (x : InstImg) (p : ImgProg) : State × Except Nat Unit :=
  let st := { s.mbxStamp k with ctx := p.ctx }
  let slot := p.handle % 4096
  if (sget (fun _ => none) s.tensor.progs slot).isSome then (s, .error stREFUSED_FIT)
  else match s.readBinds st p.image p.bindAddr with
    | (s, none) => (s, .error stOWNER_FAULT)
    | (s, some t) =>
      let l := mkLoadIn x.plot p.ctx p.semFirst p.image t
      match s.loadChecks l with
      | (f :: _, _) => (s, .error f.status)
      | ([], m) =>
        let q := s.mkProg l p.image m p.bindAddr (p.handle / 4096)
        match q.map.foldl (fun (y : State × Bool) n => if y.2 then y.1.pinCopy q n else y) (s, true) with
        | (s, false) => (s, .error stOWNER_FAULT)
        | (s, true) => ({ s with tensor := { s.tensor with
            progs := sset (fun _ => none) s.tensor.progs slot (some q),
            gens := sset (fun _ => 0) s.tensor.gens slot (p.handle / 4096) } }, .ok ())

/-- Do each step of a list until one fails. -/
def stepAll {α : Type} (f : State → α → State × Except Nat Unit) : State → List α → State × Except Nat Unit
  | s, [] => (s, .ok ())
  | s, a :: r => match f s a with
    | (s, .ok _) => stepAll f s r
    | (s, .error w) => (s, .error w)

/-- Recreate a queue; the statuses of its window are not in the image and are free. -/
def State.restoreQueue (s : State) (r : List Byte) : State :=
  let q := fld r 0 4
  let (x, s) := s.fresh
  let seqs := (List.range 64).map (fun i => fld r (64 + 4 * i) 4)
  let n := 64 - ((firstIdx (fun v => decide (v ≠ 0)) seqs.reverse).getD 64)
  let s := ((s.wr .hifQBase q (fld r 8 8)).wr .hifQCplBase q (fld r 16 8)).wr .hifQShadow q (fld r 24 8)
  let s := ((s.wr .hifQCfg q (fld r 32 4)).wr .hifQTail q (fld r 36 4)).wr .hifQHead q (fld r 40 4)
  let s := (s.wr .hifQCplTail q (fld r 44 4)).wr .hifQCplHead q (fld r 48 4)
  s.setQueue q { window := ((seqs.take n).reverse).map (fun v => (v, (x.toNat / 2 ^ (v % 56)) % 14)) }

/-- The mailbox window of an image, newest first. -/
def InstImg.replies (x : InstImg) : List Reply :=
  (((records x.window 0 64 36).filter (fun r => !allZero r 0 36)).map (fun r =>
    ⟨fld r 0 4, fld r 8 2, fld r 10 1, sub r 20 16⟩)).reverse

/-- Check 5 of Table 15-10, on the state as it is built: contexts, spaces, programs. -/
def State.restoreAll (s : State) (k : Nat) (x : InstImg) : State × Except Nat Unit :=
  let held := (s.tensor.ctxs.filter (fun e => (e.2.map (·.plot)) == some x.plot)).length
  if ((s.plotRec x.plot).map (·.quota)).getD 0 < held + x.ctxs.length ||
      x.queues.any (fun q => bit (s.rd .hifQCfg (fld q 0 4)) 0) then (s, .error stREFUSED_FIT)
  else match stepAll (fun s r => match s.restoreCtx x r with
      | some t => (t, .ok ())
      | none => (s, .error stREFUSED_FIT)) s x.ctxs with
    | (s, .error w) => (s, .error w)
    | (s, .ok _) => match stepAll (fun s r => s.restoreSpace x r) s x.spaces with
      | (s, .error w) => (s, .error w)
      | (s, .ok _) => stepAll (fun s p => s.restoreProg k x p) s x.progs

/-- The instance of a restored image, FROZEN. The accepted features are not in the image and are free. -/
def State.restoreInst (s : State) (x : InstImg) : State :=
  let (f, s) := s.fresh
  let s := x.queues.foldl (fun (s : State) r => s.restoreQueue r) s
  let s := x.sems.foldl (fun (s : State) e => (s.setSem e.1 e.2).checkWatches e.1) s
  let s := s.setMbx (16 + x.inst) { s.mbx (16 + x.inst) with
    isOpen := true, feat := f.toNat &&& featDev, window := x.replies }
  (s.setInst x.inst { s.inst x.inst with
    state := 3, host := x.host == 1, token := x.token, prior := x.prior, leftMs := x.left }).touch

/-- RESTORE (R497). -/
def State.svcRestore (s : State) (k : Nat) (b : List Byte) : State × Option (Nat × List Byte) :=
  let len := fld b 4 4
  if !allZero b 0 4 || !bodyEnds b 16 || fld b 8 8 % 64 ≠ 0 then (s, migReply stREFUSED_FORMAT 0 0)
  else match s.memRead (s.mbxStamp k) (fld b 8 8) len with
    | (s, none) => (s, migReply stOWNER_FAULT 0 0)
    | (s, some r) =>
      let x := readInstImg r
      let fail (w : Nat) : State × Option (Nat × List Byte) := (s, migReply w x.inst 0)
      if len < 0x980 + 48 || sha384 (r.take (len - 48)) ≠ r.drop (len - 48) then fail stINTEGRITY
      else if !x.formatOk r then fail stREFUSED_FORMAT
      else if fld r 4 2 ≠ 1 then fail stREFUSED_VERSION
      else if !s.imgPlanOk k x then fail stREFUSED_PLAN
      else match s.restoreAll k x with
        | (_, .error w) => fail w
        | (t, .ok _) => (t.restoreInst x, migReply stDONE x.inst 0)

/-- SAVE (R496). -/
def execSave (mbx : Mbx) (s : State) : Host.Outcome State Fault Refusal := .next (s.serve mbx 0x41 State.svcSave)

/-- RESTORE (R497). -/
def execRestore (mbx : Mbx) (s : State) : Host.Outcome State Fault Refusal := .next (s.serve mbx 0x42 State.svcRestore)

end Sys2Proof.Machine
end

