-- ==== Sys2Proof/Machine/Orangery.lean ====
section
/-! DEFINITION. The Orangery of spec/10 (R308 to R327, R340): pass rings, passes, the geometry and tile phases, compute groups, the
instructions of Table 10-1, and the latch of a pipe with what it does to FRAME passes (R334 to R338). What shader code computes
comes with the commands. -/

namespace Sys2Proof.Machine

/-! ### Rings and records (R312, R313) -/

/-- A pass ring. -/
def State.orgRing (s : State) (p : Nat) : OrgRing := sget (fun _ => {}) s.org.rings p

/-- Change a pass ring. -/
def State.setOrgRing (s : State) (p : Nat) (x : OrgRing) : State :=
  { s with org := { s.org with rings := sset (fun _ => {}) s.org.rings p x } }

/-- Change a pass. -/
def State.updPass (s : State) (p : Nat) (f : OrgPass) (g : OrgPass → OrgPass) : State :=
  let x := s.orgRing p
  s.setOrgRing p { x with passes := updWhere (fun q => q.pos == f.pos && q.era == f.era) g x.passes }

/-- A shader core. -/
def State.orgCore (s : State) (c : Nat) : OrgCore := sget (fun _ => {}) s.org.cores c

/-- Change a shader core. -/
def State.setOrgCore (s : State) (c : Nat) (x : OrgCore) : State :=
  { s with org := { s.org with cores := sset (fun _ => {}) s.org.cores c x } }

/-- The stamp of the Orangery's accesses for a Plot (R309). -/
def State.orgStamp (s : State) (p : Nat) : Stamp := ⟨148, p, s.defaultClass p, false, 0xFFFF⟩

/-- SEQ, TAG, KIND, FLAGS of a record (Table 10-2). -/
def OrgPass.seq (f : OrgPass) : Nat := fld f.raw 0 4
/-- TAG. -/
def OrgPass.tag (f : OrgPass) : Nat := fld f.raw 4 2
/-- KIND is COMPUTE. -/
def OrgPass.compute (f : OrgPass) : Bool := fld f.raw 6 1 == 2
/-- FLAGS.FRAME. -/
def OrgPass.frame (f : OrgPass) : Bool := bit (fld f.raw 7 1) 0
/-- FLAGS.IRQ. -/
def OrgPass.irq (f : OrgPass) : Bool := bit (fld f.raw 7 1) 1
/-- PIPE. -/
def OrgPass.pipe (f : OrgPass) : Nat := fld f.raw 8 1
/-- PLANE. -/
def OrgPass.plane (f : OrgPass) : Nat := fld f.raw 9 1
/-- SIGNAL_SEM. -/
def OrgPass.signalSem (f : OrgPass) : Nat := fld f.raw 0xC 2
/-- EST_NS. -/
def OrgPass.est (f : OrgPass) : Nat := fld f.raw 0x30 4

/-- The shader cores of a Plot. -/
def State.shaders (s : State) (p : Nat) : List Nat := (List.range 16).filter (fun c => s.ownerOf 0x0F c == p)

/-- The DONE_BELOW position of a ring: that of its oldest record not completed, else HEAD. -/
def State.doneBelow (s : State) (p : Nat) : Nat :=
  let x := s.orgRing p
  let head := s.rd .orgQHead p
  let open_ := ((x.passes ++ x.dups).filter (fun f => f.era == x.era)).map (·.pos)
  match sortBy (fun a b => decide ((head + 2 ^ 32 - b) % 2 ^ 32 < (head + 2 ^ 32 - a) % 2 ^ 32)) open_ with
  | [] => head
  | a :: _ => a

/-- Write a completion record of a ring. -/
def State.orgRecord (s : State) (p : Nat) (c : Cpl) : State :=
  let x := s.orgRing p
  let a := s.rd .orgQCplBase p + 32 * (x.cpl % 2 ^ bits (s.rd .orgQCfg p) 7 4)
  (s.memWrite (s.orgStamp p) a c.bytes).1.setOrgRing p { x with cpl := x.cpl + 1 }

/-- The completion of a duplicate pass, and its interrupt: only the SIGNAL is left out (R228). -/
def State.orgDup (s : State) (p : Nat) (d : OrgPass) (status : Nat) : State :=
  let s := s.orgRecord p (dupCpl s.now (d.seq, d.tag, 0xFFFF) d.irq status)
  if d.irq then s.send (.irq p (srcId .org p)) else s

/-- A core writes back every dirty line of its data cache, which is then empty (R315). -/
def State.writeBack (s : State) (p c : Nat) : State :=
  let k := s.orgCore c
  let s := k.dcache.foldl (fun (s : State) e => (s.memWrite (s.orgStamp p) e.1 e.2).1) s
  s.setOrgCore c { s.orgCore c with dcache := [] }

/-! ### The end of a pass (R315) -/

/-- Clock cycles of the Orangery in a time: at most those of 1.2 GHz; how far slowing has lowered them is open. -/
def State.orgCycles (s : State) (ns : Nat) : Nat × State :=
  let (x, s) := s.fresh
  (x.toNat % (ns * 6 / 5 + 2), s)

/-- Count the cycles that cores spent in a pass. -/
def State.countCores (s : State) (ns : Nat) : List Nat → State
  | [] => s
  | c :: r =>
    let (n, s) := s.orgCycles ns
    (s.count .orgCBusy c n).countCores ns r

/-- A FRAME pass that completed DONE commits its plane. -/
def State.frameCommit (s : State) (f : OrgPass) : State :=
  (s.wr .dspLNext (4 * f.pipe + f.plane) (fld f.desc 0x10 8)).commitPlane f.pipe f.plane

/-- A pass completes: the write-back of its cores' caches, the plane's commit, the record, the SIGNAL, the interrupt; a pre-empted pass resumes (R315, R317). -/
def State.completePass (s : State) (p : Nat) (f : OrgPass) (status : Nat) : State :=
  let x := s.orgRing p
  let mine := x.dups.filter (fun d => d.seq == f.seq)
  let s := f.cores.foldl (fun (s : State) c => s.writeBack p c) s
  let s := s.setOrgRing p { x with
    passes := (x.passes.filter (fun q => !(q.pos == f.pos && q.era == f.era))).map (fun q => if q.state = 3 then { q with state := 2 } else q),
    window := ((f.seq, status) :: x.window).take 64, dups := x.dups.filter (fun d => d.seq ≠ f.seq) }
  let s := match f.start with
    | some t => s.countCores (s.now - t) f.cores
    | none => s
  let s := if f.frame && status == stDONE then s.frameCommit f else s
  let s := s.orgRecord p {
    seq := f.seq, tag := f.tag, status := status, flags := cplFlags false f.late f.preempted, ctx := 0xFFFF,
    parts := if f.start.isSome then f.cores.length else 0, detail := f.done, start := f.start.getD s.now, stop := s.now,
    signal := none, irq := f.irq }
  let s := if f.start.isSome && f.signalSem ≠ 0xFFFF then s.semSignalBy (s.orgStamp p) f.signalSem (fld f.raw 0x18 8) else s
  let s := if f.irq then s.send (.irq p (srcId .org p)) else s
  mine.foldl (fun (s : State) d => s.orgDup p d status) s

/-! ### Ending early (R311, R316) -/

/-- End a pass early with a status: it stops at once. -/
def State.passAbort (s : State) (p : Nat) (f : OrgPass) (status : Nat) : State :=
  s.updPass p f (fun f => { f with bad := some (f.bad.getD status), busy := [], tile := [] })

/-- The pass that a shader core runs, with its Plot. -/
def State.corePass (s : State) (c : Nat) : Option (Nat × OrgPass) :=
  let p := s.ownerOf 0x0F c
  ((s.orgRing p).passes.find? (fun f => (f.state == 2 || f.busy.contains c) && f.cores.contains c && f.bad.isNone)).map (fun f => (p, f))

/-- An exception on a shader core aborts its pass (R311). -/
def State.shaderTrap (s : State) (c code pc : Nat) : State :=
  match s.corePass c with
  | none => s
  | some (p, f) =>
    (s.raise { s.mkRec .org 0 0x10 2 stREFUSED_FORMAT with plot := p, detail := code + 256 * c + 2 ^ 32 * pc }).passAbort p f stREFUSED_FORMAT

/-- A refused access of a shader core: an access fault (R309), at an address of its code that the manual does not state. -/
def State.accessTrap (s : State) (c code : Nat) : State :=
  let (x, s) := s.fresh
  s.shaderTrap c code (x.toNat % 2 ^ 32)

/-! ### Fetch and start (R313, R314) -/

/-- Checks 1 and 2 of Table 10-3. -/
def State.passRefusal (s : State) (p : Nat) (f : OrgPass) : Option Nat :=
  let r := f.raw
  let flags := fld r 7 1
  let kind := fld r 6 1
  if !((kind == 1 || kind == 2) && decide (flags < 8) && (!f.frame || kind == 1) &&
      (if f.frame then decide (f.pipe ≤ 5) && decide (f.plane ≤ 3) else f.pipe == 0 && f.plane == 0) &&
      semFieldOk (fld r 0xA 2) && semFieldOk f.signalSem && allZero r 0xE 2 && fld r 0x28 8 % 64 == 0 && allZero r 0x34 12) then
    some stREFUSED_FORMAT
  else if !s.semNamedOk p (fld r 0xA 2) || !s.semNamedOk p f.signalSem || (f.frame && s.ownerOf 0x0E f.pipe ≠ p) then
    some stREFUSED_PLAN
  else none

/-- A WAIT condition of a pass holds. -/
def State.passWait (s : State) (p : Nat) (f : OrgPass) : Bool :=
  let n := fld f.raw 0xA 2
  n == 0xFFFF || (decide (n < 16384) && s.ownerOf 0x06 n == p && decide (fld f.raw 0x10 8 ≤ s.semVal n))

/-- Check 4 of Table 10-3 for a render descriptor (Table 10-4). -/
def renderDescOk (d : List Byte) : Bool :=
  let n := fld d 8 1
  let depth := fld d 9 1
  fld d 0 4 == 0x50525A53 && decide (1 ≤ fld d 4 2) && decide (fld d 4 2 ≤ 8192) && decide (1 ≤ fld d 6 2) &&
    decide (fld d 6 2 ≤ 8192) && decide (1 ≤ n) && decide (n ≤ 4) && [0, 0x10, 0x11].contains depth && decide (fld d 0xA 1 < 64) &&
    allZero d 0xB 1 && decide (fld d 0xE 2 ≤ 4096) &&
    (List.range n).all (fun i => isColourFmt (fld d (0x30 + i) 1) && fld d (0x10 + 8 * i) 8 % 64 == 0) &&
    decide (1 ≤ fld d 0x34 4) && decide (fld d 0x34 4 ≤ 1048576) && (depth == 0 || fld d 0x38 8 % 64 == 0) &&
    fld d 0x40 8 % 64 == 0 && fld d 0x48 8 % 64 == 0 && fld d 0x50 8 % 32 == 0 && fld d 0x58 8 % 32 == 0 &&
    fld d 0x60 8 % 65536 == 0 && fld d 0x68 4 % 65536 == 0 && allZero d 0x79 7

/-- Check 4 of Table 10-3 for a compute descriptor (Table 10-8). -/
def computeDescOk (d : List Byte) : Bool :=
  fld d 0 4 == 0x50435A53 && decide (1 ≤ fld d 4 4) && decide (fld d 4 4 ≤ 16777216) && decide (64 ≤ fld d 8 2) &&
    decide (fld d 8 2 ≤ 1024) && fld d 8 2 % 64 == 0 && decide (fld d 0xC 4 ≤ 65536) && fld d 0x10 8 % 64 == 0 &&
    decide (fld d 0x28 2 ≤ 4096) && allZero d 0x2A 22

/-- The CORES mask of a descriptor. -/
def coresMask (compute : Bool) (d : List Byte) : Nat := if compute then fld d 0xA 2 else fld d 0xC 2

/-- A core empties its instruction and residency caches at the start of a pass (R315) and fetches the first bytes of its code on a
demand miss (R308): a refused fetch is an instruction access fault (R309). -/
def State.coreStart (s : State) (p c a : Nat) : State :=
  match s.memRead (s.orgStamp p) a 64 with
  | (s, some b) => s.setOrgCore c { s.orgCore c with cache := [], icache := [(a, b)] }
  | (s, none) => (s.setOrgCore c { s.orgCore c with cache := [], icache := [] }).shaderTrap c 1 (a % 2 ^ 32)

/-- Every core of a pass is free: no self-test slice holds it, and no group of a pre-empted pass still runs on it. -/
def State.coresFree (s : State) (p : Nat) (cores : List Nat) : Bool :=
  cores.all (fun c => !s.slicing 2 c && !(s.orgRing p).passes.any (fun f => f.busy.contains c))

/-- A pass that passed every check starts when every core in its mask is free (R314 step 3). -/
def State.passBegin (s : State) (p : Nat) (f : OrgPass) : State :=
  if !s.coresFree p f.cores then s
  else
    let s := s.updPass p f (fun f => { f with state := 2, start := some s.now, nextTile := f.cores.zipIdx })
    f.cores.foldl (fun (s : State) c => s.coreStart p c (fld f.desc (if f.compute then 0x10 else 0x40) 8)) s

/-- The ready pass at the front of a ring reads its descriptor, makes checks 3 to 5 and starts (R314). -/
def State.passStart (s : State) (p : Nat) (f : OrgPass) : State :=
  if !f.desc.isEmpty then s.passBegin p f
  else match s.memRead (s.orgStamp p) (fld f.raw 0x28 8) (if f.compute then 64 else 128) with
  | (s, none) => s.completePass p f stOWNER_FAULT
  | (s, some d) =>
    let own := s.shaders p
    let named := bitList 16 (coresMask f.compute d)
    if !(if f.compute then computeDescOk d else renderDescOk d) then s.completePass p f stREFUSED_FORMAT
    else if !named.all own.contains then s.completePass p f stREFUSED_PLAN
    else
      let cores := if named.isEmpty then own else named
      (s.updPass p f (fun f => { f with desc := d, cores := cores })).passBegin p { f with desc := d, cores := cores }

/-- The pass of a ring that R314 considers next: none while one runs. -/
def OrgRing.next (x : OrgRing) : Option OrgPass :=
  if x.passes.any (fun f => f.state == 2) then none
  else x.passes.find? (fun f => decide (f.state ≤ 1))

/-- The next pass of a ring makes its checks and starts when it is ready. -/
def State.passAdvance (s : State) (p : Nat) : State :=
  match (s.orgRing p).next with
  | none => s
  | some f =>
    if f.bad.isSome then s
    else match (if f.state = 0 then s.passRefusal p f else none) with
      | some w => s.completePass p f w
      | none =>
        let s := s.updPass p f (fun f => { f with state := 1 })
        if s.passWait p f then s.passStart p { f with state := 1 } else s

/-- The Orangery fetches the next record of a ring. -/
def State.recordFetch (s : State) (p : Nat) : State :=
  let head := s.rd .orgQHead p
  if !bit (s.rd .orgQCfg p) 0 || head == s.rd .orgQTail p then s
  else
    let a := s.rd .orgQBase p + 64 * (head % 2 ^ bits (s.rd .orgQCfg p) 7 4)
    let (s, r) := match s.memRead (s.orgStamp p) a 64 with
      | (s, some r) => (s, r)
      | (s, none) => (s, zeros 64)
    let s := s.wr .orgQHead p ((head + 1) % 2 ^ 32)
    let x := s.orgRing p
    let f : OrgPass := { pos := head, era := x.era, raw := r, target := s.rd .dspPFrames (fld r 8 1 % 6) }
    match x.window.find? (fun w => w.1 == f.seq) with
    | some (_, status) => s.orgDup p f status
    | none =>
      if x.passes.any (fun q => q.seq == f.seq) then s.setOrgRing p { x with dups := x.dups ++ [f] }
      else s.setOrgRing p { x with passes := x.passes ++ [f] }

/-- PASS_FETCH: nothing in safe state (R337), while the clock is stopped (R545) or for a Plot that does not run. -/
def State.passFetch (s : State) (p : Nat) : State :=
  if s.still 20 || !s.plotRunning p || (s.shaders p).isEmpty then s else (s.recordFetch p).passAdvance p

/-! ### Accesses of shader cores (R309) -/

/-- A shader core reads DRAM. -/
def State.coreRead (s : State) (p c a n : Nat) : State × Option (List Byte) :=
  match s.memRead (s.orgStamp p) a n with
  | (s, some b) => (s, some b)
  | (s, none) => (s.accessTrap c 5, none)

/-- What a shader core's code stores stays in its write-back data cache (R308) until the pass completes, or until 64 KiB of it are
dirty. A refused store is an access fault (R309). -/
def State.coreStores (s : State) (p c : Nat) : List (Nat × List Byte) → State × Bool
  | [] =>
    if 65536 < sumL ((s.orgCore c).dcache.map (fun e => e.2.length)) then (s.writeBack p c, true) else (s, true)
  | (a, d) :: r =>
    if (s.firstRefused (s.orgStamp p) a d.length true).isSome then
      ((s.memWrite (s.orgStamp p) a d).1.accessTrap c 7, false)
    else (s.setOrgCore c { s.orgCore c with dcache := (s.orgCore c).dcache ++ [(a, d)] }).coreStores p c r

/-- A shader core's fixed functions write DRAM. -/
def State.coreWrites (s : State) (p c : Nat) : List (Nat × List Byte) → State × Bool
  | [] => (s, true)
  | (a, d) :: r =>
    match s.memWrite (s.orgStamp p) a d with
    | (s, true) => s.coreWrites p c r
    | (s, false) => (s.accessTrap c 7, false)

/-- A shader core reads a run of pieces. -/
def State.coreReads (s : State) (p c : Nat) : List (Nat × Nat) → State × Option (List (List Byte))
  | [] => (s, some [])
  | (a, n) :: r =>
    match s.coreRead p c a n with
    | (s, none) => (s, none)
    | (s, some b) => match s.coreReads p c r with
      | (s, none) => (s, none)
      | (s, some l) => (s, some (b :: l))

/-! ### The raster pipeline (R318 to R321) -/

/-- WIDTH and HEIGHT. -/
def OrgPass.dims (f : OrgPass) : Nat × Nat := (fld f.desc 4 2, fld f.desc 6 2)

/-- Tiles of a row, and of the target (R320). -/
def OrgPass.tiles (f : OrgPass) : Nat × Nat := (ceilDiv f.dims.1 32, ceilDiv f.dims.1 32 * ceilDiv f.dims.2 32)

/-- The target formats with their addresses: colour targets, then depth. -/
def OrgPass.targets (f : OrgPass) : List (Nat × Nat) :=
  (List.range (fld f.desc 8 1)).map (fun i => (fld f.desc (0x30 + i) 1, fld f.desc (0x10 + 8 * i) 8)) ++
    (if fld f.desc 9 1 = 0 then [] else [(fld f.desc 9 1, fld f.desc 0x38 8)])

/-- The vertex numbers of a draw's triangles in order (R319, Table 10-5). A strip's odd triangles are turned. -/
def drawTriangles (topology : Nat) (ix : List Nat) : List (List Nat) :=
  let g (i : Nat) : Nat := ix.getD i 0
  if topology = 0 then (List.range (ix.length / 3)).map (fun i => [g (3 * i), g (3 * i + 1), g (3 * i + 2)])
  else (List.range (ix.length - 2)).map (fun i => if i % 2 = 0 then [g i, g (i + 1), g (i + 2)] else [g (i + 1), g i, g (i + 2)])

/-- The index numbers of a draw record. -/
def State.drawIndices (s : State) (p c : Nat) (d : List Byte) : State × Option (List Nat) :=
  let n := fld d 0x10 4
  let a := fld d 8 8
  let w := if bit (fld d 0x15 1) 0 then 4 else 2
  if a = 0 then (s, some (List.range n))
  else match s.coreRead p c a (n * w) with
    | (s, none) => (s, none)
    | (s, some b) => (s, some ((List.range n).map (fun i => fld b (w * i) w)))

/-- The triangles of one draw from its shaded vertices (draw, vertex, words); one of which a vertex is missing is not drawn. -/
def drawShaded (f : OrgPass) (shaded : List (Nat × Nat × List (BitVec 32))) (k : Nat) (d : List Byte) (ix : List Nat) : List OrgTri :=
  let vert (v : Nat) : Option (List Nat) :=
    (shaded.find? (fun e => e.1 == k && e.2.1 == v)).map (fun e => e.2.2.map BitVec.toNat)
  let tris := (drawTriangles (fld d 0x14 1) ix).filterMap (fun t => (t.mapM vert).map (fun v => (⟨d, v⟩ : OrgTri)))
  if bit (fld d 0x15 1) 1 then tris.filter (fun t => triFront f.dims.1 f.dims.2 t.verts) else tris

/-- A draw record holds no reserved value. -/
def drawOk (d : List Byte) : Bool := decide (fld d 0x14 1 ≤ 1) && decide (fld d 0x15 1 < 64) && decide (fld d 0x16 1 ≤ 3)

/-- The triangles of a pass in submission order (R319): none after a refused access. -/
def State.assemble (s : State) (p c : Nat) (f : OrgPass) (shaded : List (Nat × Nat × List (BitVec 32))) :
    Nat → Nat → State × Option (List OrgTri)
  | 0, _ => (s, some [])
  | left + 1, k =>
    match s.coreRead p c (fld f.desc 0x50 8 + 32 * k) 32 with
    | (s, none) => (s, none)
    | (s, some d) =>
      if !drawOk d then (s.passAbort p f stREFUSED_FORMAT, none)
      else match s.drawIndices p c d with
        | (s, none) => (s, none)
        | (s, some ix) => match s.assemble p c f shaded left (k + 1) with
          | (s, none) => (s, none)
          | (s, some l) => (s, some (drawShaded f shaded k d ix ++ l))

/-- The running render pass of a Plot that satisfies a test. -/
def State.renderPass (s : State) (p : Nat) (t : OrgPass → Bool) : Option OrgPass :=
  (s.orgRing p).passes.find? (fun f => f.state == 2 && !f.compute && f.bad.isNone && t f)

/-- RENDER: the geometry phase. `shaded` is what the vertex shader gave (draw, vertex number, x, y, z, w and attributes), and
`binBytes` what the bins take; the layout of the bins is not stated, so their bytes are free. -/
def State.geometry (s : State) (p : Nat) (shaded : List (Nat × Nat × List (BitVec 32))) (binBytes : Nat) : State :=
  if s.still 20 then s
  else match s.renderPass p (fun f => f.tris.isNone) with
    | none => s
    | some f =>
      let c := f.cores.headD 0
      match s.assemble p c f shaded (fld f.desc 0x34 4) 0 with
      | (s, none) => s
      | (s, some tris) =>
        if fld f.desc 0x68 4 < binBytes then s.passAbort p f stMEMORY_EXHAUSTED
        else
          let (b, s) := s.freshBytes binBytes
          match s.coreWrites p c [(fld f.desc 0x60 8, b)] with
          | (s, false) => s
          | (s, true) => s.updPass p f (fun f => { f with tris := some tris })

/-- The rows of a tile inside the target: (buffer row, address offset in pixels, pixels). -/
def OrgPass.tileRows (f : OrgPass) (t : Nat) : List (Nat × Nat × Nat) :=
  let x := t % f.tiles.1 * 32
  let y := t / f.tiles.1 * 32
  (List.range (min 32 (f.dims.2 - y))).map (fun j => (j, (y + j) * f.dims.1 + x, min 32 (f.dims.1 - x)))

/-- A tile buffer of 1,024 pixels from the rows that were read. -/
def tileFrom (bytes : Nat) (rows : List (Nat × Nat × Nat)) (data : List (List Byte)) : List Nat :=
  (List.range 1024).map (fun i =>
    match rows[i / 32]? with
    | some (j, _, n) => if i % 32 < n then fld (data.getD j []) (bytes * (i % 32)) bytes else 0
    | none => 0)

/-- The clear value of a target, when its CLEAR bit is set (R321). For a depth target with stencil, the depth and the stencil
parts are cleared apart: (value, whether depth is cleared, whether stencil is). -/
def OrgPass.clearOf (f : OrgPass) (i fmt : Nat) : Option (Nat × Bool × Bool) :=
  let clear := fld f.desc 0xA 1
  if fmt < 0x10 then
    if bit clear i then
      some (pixelEncode fmt ((List.range 4).map (fun k => halfOf (fld f.desc (0x70 + 2 * k) 2))), true, true)
    else none
  else if bit clear 4 || bit clear 5 then
    let d := fld f.desc 0x6C 4
    some (if fmt = 0x10 then unormTo 24 d + 16777216 * fld f.desc 0x78 1 else d, bit clear 4, fmt == 0x10 && bit clear 5)
  else none

/-- A loaded pixel after the clear of its target. -/
def clearedPixel (fmt : Nat) (c : Option (Nat × Bool × Bool)) (old : Nat) : Nat :=
  match c with
  | none => old
  | some (v, depth, stencil) =>
    if fmt ≠ 0x10 then (if depth then v else old)
    else (if depth then v else old) % 16777216 + 16777216 * ((if stencil then v else old) / 16777216)

/-- Load or clear the targets of a tile. -/
def State.loadTargets (s : State) (p c : Nat) (f : OrgPass) (t : Nat) : Nat → List (Nat × Nat) → State × Option (List (List Nat))
  | _, [] => (s, some [])
  | i, (fmt, a) :: r =>
    let n := fmtBytes fmt
    let rows := f.tileRows t
    let clear := f.clearOf i fmt
    let whole := match clear with
      | some (_, d, st) => d && (st || fmt ≠ 0x10)
      | none => false
    match (if whole then (s, some []) else s.coreReads p c (rows.map (fun q => (a + n * q.2.1, n * q.2.2)))) with
    | (s, none) => (s, none)
    | (s, some data) => match s.loadTargets p c f t (i + 1) r with
      | (s, none) => (s, none)
      | (s, some l) => (s, some ((tileFrom n rows data).map (clearedPixel fmt clear) :: l))

/-- The writes that put a tile back into its targets. -/
def OrgPass.tileWrites (f : OrgPass) (o : OrgTile) : List (Nat × List Byte) :=
  (f.targets.zip o.bufs).flatMap (fun e =>
    let n := fmtBytes e.1.1
    (f.tileRows o.tile).map (fun q =>
      (e.1.2 + n * q.2.1, (List.range q.2.2).flatMap (fun i => leBytes n (e.2.getD (32 * q.1 + i) 0)))))

/-- A core writes its open tile back. -/
def State.tileStore (s : State) (p c : Nat) (f : OrgPass) (o : OrgTile) : State × Bool :=
  match s.coreWrites p c (f.tileWrites o) with
  | (s, false) => (s, false)
  | (s, true) => (s.updPass p f (fun f => { f with tile := f.tile.filter (fun e => e.1 ≠ c), done := f.done + 1 }), true)

/-- A core opens its next tile (R320). -/
def State.tileOpen (s : State) (p c : Nat) (f : OrgPass) : State :=
  match f.nextTile.find? (fun e => e.1 == c) with
  | none => s
  | some (_, t) =>
    if f.tiles.2 ≤ t then s
    else match s.loadTargets p c f t 0 f.targets with
      | (s, none) => s
      | (s, some bufs) => s.updPass p f (fun f => { f with
          tile := f.tile ++ [(c, { tile := t, bufs := bufs })],
          nextTile := updWhere (fun e => e.1 == c) (fun e => (e.1, e.2 + f.cores.length)) f.nextTile })

/-- TILE_PHASE: a core of a render pass writes back the tile that it has finished and loads the next one it owns. -/
def State.tilePhase (s : State) (c : Nat) : State :=
  if s.still 20 then s
  else match s.renderPass (s.ownerOf 0x0F c) (fun f => f.tris.isSome && f.cores.contains c) with
    | none => s
    | some f =>
      let p := s.ownerOf 0x0F c
      match f.tile.find? (fun e => e.1 == c) with
      | none => s.tileOpen p c f
      | some (_, o) => match s.tileStore p c f o with
        | (s, false) => s
        | (s, true) => s.tileOpen p c f

/-- A fragment's tests against a depth-stencil pixel, which they may change (R321). -/
def fragmentTest (draw : List Byte) (fmt new old : Nat) : Bool × Nat :=
  let fl := fld draw 0x15 1
  let depth := if fmt = 0x10 then old % 16777216 else old
  let stencil := fmt ≠ 0x10 || !bit fl 4 || old / 16777216 == fld draw 0x17 1
  let ok := stencil && (!bit fl 2 || depthPasses (fld draw 0x16 1) fmt new depth)
  (ok, if ok && bit fl 3 then (if fmt = 0x10 then 16777216 * (old / 16777216) + new else new) else old)

/-- The tests of a fragment, made once for all the targets that it is sent to. -/
def OrgTile.test (o : OrgTile) (f : OrgPass) (t : Nat) (tri : OrgTri) (x y : Nat) : OrgTile × Bool :=
  match o.tested.find? (fun e => e.1 == (t, x, y)) with
  | some (_, ok) => (o, ok)
  | none =>
    let fmt := fld f.desc 9 1
    if fmt = 0 then ({ o with tested := o.tested ++ [((t, x, y), true)] }, true)
    else
      let i := 32 * (y % 32) + x % 32
      let k := fld f.desc 8 1
      let buf := o.bufs.getD k []
      let (ok, v) := fragmentTest tri.draw fmt (triDepth f.dims.1 f.dims.2 fmt tri.verts x y) (buf.getD i 0)
      ({ o with bufs := setAt o.bufs k (setAt buf i v), tested := o.tested ++ [((t, x, y), ok)] }, ok)

/-- A fragment comes in order: no triangle of later submission was taken at its pixel (R321). -/
def OrgTile.inOrder (o : OrgTile) (t x y : Nat) : Bool := o.tested.all (fun e => !(e.1.2 == (x, y) && decide (t < e.1.1)))

/-- A fragment's colour goes to a target through the tests and blend. -/
def OrgTile.output (o : OrgTile) (f : OrgPass) (target : Nat) (e : Nat × Nat × Nat × List (BitVec 32)) : OrgTile :=
  let x := e.2.1
  let y := e.2.2.1
  match (f.tris.getD [])[e.1]? with
  | none => o
  | some tri =>
    if fld f.desc 8 1 ≤ target ∨ f.dims.1 ≤ x ∨ f.dims.2 ≤ y ∨ y / 32 * f.tiles.1 + x / 32 ≠ o.tile ∨
        !triCovers f.dims.1 f.dims.2 tri.verts x y ∨ !o.inOrder e.1 x y then o
    else match o.test f e.1 tri x y with
      | (o, false) => o
      | (o, true) =>
        let fmt := fld f.desc (0x30 + target) 1
        let i := 32 * (y % 32) + x % 32
        let buf := o.bufs.getD target []
        let src := (e.2.2.2.map BitVec.toNat ++ [0, 0, 0, 0]).take 4
        let v := if bit (fld tri.draw 0x15 1) 5 then sourceOver src (pixelDecode fmt (buf.getD i 0)) else src
        { o with bufs := setAt o.bufs target (setAt buf i (pixelEncode fmt v)) }

/-- ogx.out: the active fragments (triangle in submission order, x, y, colour) of a core in order. The rasteriser gives the fragments of
a pixel in submission order, so one of an earlier triangle than was taken there is none of its. -/
def State.ogxOut (s : State) (c target : Nat) (frags : List (Nat × Nat × Nat × List (BitVec 32))) : State :=
  if s.still 20 then s
  else match s.corePass c with
    | none => s
    | some (p, f) => match f.tile.find? (fun e => e.1 == c) with
      | none => s
      | some (_, o) =>
        let o := frags.foldl (fun o e => o.output f target e) o
        s.updPass p f (fun f => { f with tile := updWhere (fun e => e.1 == c) (fun _ => (c, o)) f.tile })

/-! ### Textures (R310, R322 to R325) -/

/-- Write 32-bit elements of a vector register, those that a mask names. -/
def OrgCore.put (k : OrgCore) (reg : Nat) (mask : Nat) (vals : List Nat) : OrgCore :=
  let v := vals.zipIdx.foldl (fun v e => if bit mask e.2 then setField v (32 * e.2) 32 e.1 else v) (sget (fun _ => 0) k.v reg)
  { k with v := sset (fun _ => 0) k.v reg v }

/-- The registers that hold an instruction's operands: the command says what the shader's own code left in them. -/
def OrgCore.load (k : OrgCore) (reg : Nat) (cols : List (List Nat)) : OrgCore :=
  cols.zipIdx.foldl (fun k e => k.put (reg + e.2) (2 ^ 64 - 1) e.1) k

/-- Note what an instruction's operand registers hold. -/
def State.ogxLoad (s : State) (c reg : Nat) (cols : List (List Nat)) : State := s.setOrgCore c ((s.orgCore c).load reg cols)

/-- The contents of vs2 and vs2 + 1. -/
def uvCols (uv : List (BitVec 32 × BitVec 32)) : List (List Nat) := [uv.map (fun e => e.1.toNat), uv.map (fun e => e.2.toNat)]

/-- The contents of vs2 to vs2 + 3: the colours of fragments. -/
def colourCols (frags : List (Nat × Nat × Nat × List (BitVec 32))) : List (List Nat) :=
  (List.range 4).map (fun k => frags.map (fun e => (e.2.2.2.getD k 0).toNat))

/-- An Orangery instruction runs on a core; a word that is not this instruction raises an illegal-instruction exception (R310). -/
def State.ogxRun (s : State) (c : Nat) (op : OgxOp) (word : BitVec 32) (run : State → Nat → Nat → State) : State :=
  if s.still 20 then s
  else match decodeOgx word with
    | some (o, vd, vs2) => if o = op then run s vd vs2 else s.accessTrap c 2
    | none => s.accessTrap c 2

/-- Read a byte of a residency map through the core's cache: a change made during the pass may or may not be seen (R324). -/
def State.mapByte (s : State) (p c a : Nat) : State × Option Byte :=
  let cached := (s.orgCore c).cache.find? (fun e => e.1 == a)
  let (x, s) := s.fresh
  match cached with
  | some (_, b) => if x.toNat % 2 = 0 then (s, some b) else
      match s.coreRead p c a 1 with
      | (s, some l) => (s.setOrgCore c { s.orgCore c with cache := ((s.orgCore c).cache.filter (fun e => e.1 ≠ a)) ++ [(a, l.headD 0)] }, l.head?)
      | (s, none) => (s, none)
  | none =>
      match s.coreRead p c a 1 with
      | (s, some l) => (s.setOrgCore c { s.orgCore c with cache := (s.orgCore c).cache ++ [(a, l.headD 0)] }, l.head?)
      | (s, none) => (s, none)

/-- Every texel of a sample is resident: none after a refused access. -/
def State.allResident (s : State) (p c : Nat) (d : TexDesc) : List (Num × Nat × Nat × Nat) → State × Option Bool
  | [] => (s, some true)
  | (_, l, x, y) :: r =>
    if !d.sparse then (s, some true)
    else
      let t := d.tileOf l x y
      match s.mapByte p c (d.resMap + t / 8) with
      | (s, none) => (s, none)
      | (s, some b) => if bit b.toNat (t % 8) then s.allResident p c d r else (s, some false)

/-- The level of detail of element `i`: its own, or that of its quad. -/
def elemLod (d : TexDesc) (uv : List (BitVec 32 × BitVec 32)) (lods : Option (List (BitVec 32))) (i : Nat) : Num :=
  match lods with
  | some l => ofF32 ((l.getD i 0).toNat)
  | none =>
    let q := (List.range 4).map (fun j => uv.getD (i / 4 * 4 + j) (0, 0))
    ofF32 (Config.quadLod (q.flatMap (fun e => [e.1, e.2])) d.width d.height).toNat

/-- The texels of element `i`. -/
def elemTexels (d : TexDesc) (uv : List (BitVec 32 × BitVec 32)) (lods : Option (List (BitVec 32))) (i : Nat) :
    Option (List (Num × Nat × Nat × Nat)) :=
  let e := uv.getD i (0, 0)
  d.texels (elemLod d uv lods i) (ofF32 e.1.toNat) (ofF32 e.2.toNat)

/-- Four results that the manual does not state. -/
def State.freshColour (s : State) : State × List Nat :=
  let (b, s) := s.freshBytes 16
  (s, (List.range 4).map (fun k => fld b (4 * k) 4))

/-- One sample (R310, R325). -/
def State.sampleElem (s : State) (p c : Nat) (d : TexDesc) (t : Option (List (Num × Nat × Nat × Nat))) : State × Option (List Nat) :=
  match t with
  | none =>
    let (s, v) := s.freshColour
    (s, some v)
  | some ts => match s.allResident p c d ts with
    | (s, none) => (s, none)
    | (s, some false) => (s.bump .orgQResMiss p 1, some [0, 0, 0, 0])
    | (s, some true) =>
      let n := fmtBytes d.fmt
      match s.coreReads p c (ts.map (fun t => (d.addr t.2.1 t.2.2.1 t.2.2.2, n))) with
      | (s, none) => (s, none)
      | (s, some data) =>
        let l := ts.zipWith (fun t b => (t.1, pixelDecode d.fmt (fld b 0 n))) data
        (s, some ((List.range 4).map (weighted l)))

/-- The texture descriptor that an instruction names: `some none` where the manual states no result. -/
def State.texOf (s : State) (p c : Nat) (f : OrgPass) (i : Nat) : State × Option (Option TexDesc) :=
  let (tab, n) := if f.compute then (fld f.desc 0x20 8, fld f.desc 0x28 2) else (fld f.desc 0x58 8, fld f.desc 0xE 2)
  if n ≤ i then (s, some none)
  else match s.coreRead p c (tab + 32 * i) 32 with
    | (s, none) => (s, none)
    | (s, some r) => (s, some (readTex r))

/-- Samples of the active elements below `left`, in order: the four channels of each. -/
def State.sampleAll (s : State) (p c : Nat) (d : Option TexDesc) (mask : Nat) (uv : List (BitVec 32 × BitVec 32))
    (lods : Option (List (BitVec 32))) : Nat → Nat → State × Option (List (List Nat))
  | 0, _ => (s, some [])
  | left + 1, i =>
    let one := if !bit mask i then (s, some [0, 0, 0, 0]) else match d with
      | none =>
        let (s, v) := s.freshColour
        (s, some v)
      | some d => s.sampleElem p c d (elemTexels d uv lods i)
    match one with
    | (s, none) => (s, none)
    | (s, some v) => match s.sampleAll p c d mask uv lods left (i + 1) with
      | (s, none) => (s, none)
      | (s, some l) => (s, some (v :: l))

/-- ogx.tex and ogx.texl: `vd` to `vd + 3` receive R, G, B and A of the active elements. -/
def State.ogxTex (s : State) (c vd : Nat) (tex mask : Nat) (uv : List (BitVec 32 × BitVec 32)) (lods : Option (List (BitVec 32))) : State :=
  if s.still 20 then s
  else match s.corePass c with
    | none => s
    | some (p, f) => match s.texOf p c f tex with
      | (s, none) => s
      | (s, some d) => match s.sampleAll p c d mask uv lods (min 64 uv.length) 0 with
        | (s, none) => s
        | (s, some l) =>
          s.setOrgCore c ((List.range 4).foldl (fun k ch => k.put (vd + ch) mask (l.map (fun v => v.getD ch 0))) (s.orgCore c))

/-- Residency of the active elements. -/
def State.residentMask (s : State) (p c : Nat) (d : Option TexDesc) (mask : Nat) (uv : List (BitVec 32 × BitVec 32)) :
    Nat → Nat → State × Option (List Bool)
  | 0, _ => (s, some [])
  | left + 1, i =>
    let open_ (s : State) : State × Option Bool :=
      let (x, s) := s.fresh
      (s, some (x.toNat % 2 == 1))
    let one := if !bit mask i then (s, some false) else match d with
      | none => open_ s
      | some d => match elemTexels d uv none i with
        | none => open_ s
        | some t => s.allResident p c d t
    match one with
    | (s, none) => (s, none)
    | (s, some b) => match s.residentMask p c d mask uv left (i + 1) with
      | (s, none) => (s, none)
      | (s, some l) => (s, some (b :: l))

/-- ogx.res: mask bit i of `vd` for each active element. -/
def State.ogxRes (s : State) (c vd : Nat) (tex mask : Nat) (uv : List (BitVec 32 × BitVec 32)) : State :=
  if s.still 20 then s
  else match s.corePass c with
    | none => s
    | some (p, f) => match s.texOf p c f tex with
      | (s, none) => s
      | (s, some d) => match s.residentMask p c d mask uv (min 64 uv.length) 0 with
        | (s, none) => s
        | (s, some l) =>
          let k := s.orgCore c
          let v := l.zipIdx.foldl (fun v e => if bit mask e.2 then setField v e.2 1 (b2n e.1) else v) (sget (fun _ => 0) k.v vd)
          s.setOrgCore c { k with v := sset (fun _ => 0) k.v vd v }

/-- ogx.interp: the elements' primitives and pixels are (triangle, x, y). -/
def State.ogxInterp (s : State) (c vd comp mask : Nat) (elems : List (Nat × Nat × Nat)) : State :=
  if s.still 20 then s
  else match s.corePass c with
    | none => s
    | some (_, f) =>
      let val (e : Nat × Nat × Nat) : Nat := match (f.tris.getD [])[e.1]? with
        | some t => triAttr f.dims.1 f.dims.2 comp t.verts e.2.1 e.2.2
        | none => (Config.pixelOpen 5 [e.1, e.2.1, e.2.2, comp]).toNat
      s.setOrgCore c ((s.orgCore c).put vd mask ((elems.take 64).map val))

/-! ### Compute passes (R317, R327) -/

/-- The running compute pass of a Plot. -/
def State.computePass (s : State) (p : Nat) : Option OrgPass :=
  (s.orgRing p).passes.find? (fun f => f.state == 2 && f.compute && f.bad.isNone)

/-- A core starts a group: what GROUP_MEM gives it of the group memory holds no defined value, and it runs the invocations in
vectors of 64 (R327). -/
def State.groupBegin (s : State) (f : OrgPass) (c : Nat) : State :=
  { s.setOrgCore c { s.orgCore c with group := ⟨[], some s.free⟩, vectors := fld f.desc 8 2 / 64 } with free := s.free + 1 }

/-- Free cores of a compute pass take its lowest-numbered unstarted groups (R327). -/
def OrgPass.dispatch (f : OrgPass) : OrgPass :=
  let free := f.cores.filter (fun c => !f.busy.contains c)
  let n := min free.length (fld f.desc 4 4 - f.nextGroup)
  { f with busy := f.busy ++ free.take n, nextGroup := f.nextGroup + n }

/-- COMPUTE. -/
def State.computeStart (s : State) (p : Nat) : State :=
  if s.still 20 then s
  else match s.computePass p with
    | none => s
    | some f => ((OrgPass.dispatch f).busy.drop f.busy.length).foldl (fun (s : State) c => s.groupBegin f c) (s.updPass p f OrgPass.dispatch)

/-- A compute pass of a ring is to be pre-empted (R317). -/
def State.preempts (s : State) (p : Nat) (f : OrgPass) : Bool :=
  match ((s.orgRing p).passes.dropWhile (fun q => !(q.pos == f.pos && q.era == f.era))).tail.head? with
  | none => false
  | some n =>
    n.frame && n.bad.isNone && n.est ≠ 0 && s.passWait p n &&
      (match s.pipeRec n.pipe with
       | some r => decide (s.latchTime r n.target < s.now + n.est + 1000 * s.rd .orgPreemptMargin 0)
       | none => false)

/-- The group of a core is over: it runs none, and its group memory keeps nothing. -/
def State.groupClear (s : State) (c : Nat) : State := s.setOrgCore c { s.orgCore c with vectors := 0 }

/-- COMPUTE_GROUP_END: a group ends on a core with the stores that its code made; then the pass is pre-empted, or the core takes
the next group. -/
def State.groupEnd (s : State) (c : Nat) (writes : List (Nat × List Byte)) : State :=
  if s.still 20 then s
  else match s.corePass c with
    | none => s
    | some (p, f) =>
      if !f.busy.contains c then s
      else match s.coreStores p c writes with
        | (s, false) => s
        | (s, true) =>
          let s := s.groupClear c
          let f' := { f with busy := f.busy.erase c, done := f.done + 1 }
          let stop := f.state == 2 && s.preempts p f
          if stop then (s.updPass p f (fun _ => { f' with state := 3, preempted := true })).passAdvance p
          else if f.state = 2 && f'.nextGroup < fld f.desc 4 4 then
            (s.updPass p f (fun _ => { f' with busy := f'.busy ++ [c], nextGroup := f'.nextGroup + 1 })).groupBegin f c
          else (s.updPass p f (fun _ => f')).passAdvance p

/-! ### Completion and deadlines -/

/-- The status with which a pass completes now, if it does. -/
def OrgPass.finished (f : OrgPass) : Option Nat :=
  match f.bad with
  | some w => some w
  | none =>
    if f.state < 2 then none
    else if f.compute then (if f.done = fld f.desc 4 4 then some stDONE else none)
    else if f.tris.isSome && f.tile.isEmpty && f.nextTile.all (fun e => decide (f.tiles.2 ≤ e.2)) then some stDONE
    else none

/-- PASS_COMPLETE: the first pass of a ring that has ended completes, and the next one is considered (R314). -/
def State.passComplete (s : State) (p : Nat) : State :=
  if s.still 20 then s
  else match (s.orgRing p).passes.find? (fun f => f.finished.isSome) with
    | none => s
    | some f => (s.completePass p f (f.finished.getD stDONE)).passAdvance p

/-- PASS_DEADLINE_MISS (R316): reported at severity 2, which aborts the pass (R122). -/
def State.passMiss (s : State) (p seq : Nat) : State :=
  match (s.orgRing p).passes.find? (fun f => f.seq == seq && !f.missed) with
  | none => s
  | some f =>
    if bit (fld f.raw 7 1) 2 && decide (fld f.raw 0x20 8 ≤ s.now) then
      let s := s.raise { s.mkRec .org 0 fcDEADLINE 2 stDEADLINE_MISSED with plot := p, detail := f.tag + 65536 * p }
      (s.updPass p f (fun f => { f with missed := true })).passAbort p f stDEADLINE_MISSED
    else s

/-- The passes of a stopped Plot: the ring stops, and fetched and unread passes complete with CANCELLED (R241). -/
def State.orgStopPlot (s : State) (p : Nat) : State :=
  let fuel := (s.rd .orgQTail p + 2 ^ 32 - s.rd .orgQHead p) % 2 ^ 32
  let s := (List.range (min fuel 4096)).foldl (fun (s : State) _ => s.recordFetch p) s
  let s := s.wr .orgQCfg p (clrBit (s.rd .orgQCfg p) 0)
  (s.orgRing p).passes.foldl (fun (s : State) f => s.completePass p f stCANCELLED) s

/-! ### The latch (R334 to R338) -/

/-- The rows of a plane's buffer, by the pipe's reads; a refused read gives zeros (R64). -/
def State.scanRows (s : State) (n : Nat) (pl : DspPlane) : Nat → Nat → State × List (List Byte)
  | 0, _ => (s, [])
  | left + 1, y =>
    let len := pl.w * fmtBytes pl.fmt
    let (s, b) := match s.memRead (s.stampOf (.display (Fin.ofNat 6 n))) (pl.buf + y * pl.stride) len with
      | (s, some b) => (s, b)
      | (s, none) => (s, zeros len)
    let (s, l) := s.scanRows n pl left (y + 1)
    (s, b :: l)

/-- The enabled planes of a pipe as the frame just scanned out showed them. -/
def State.scanPlanes (s : State) (n : Nat) : List Nat → State × List Scan
  | [] => (s, [])
  | j :: r =>
    let x := s.pipe n
    let pl := x.plane j
    if !pl.on then s.scanPlanes n r
    else
      let (s, rows) := s.scanRows n pl pl.h 0
      let (s, l) := s.scanPlanes n r
      (s, ⟨j, pl, rows, if x.reproj.contains j then some x.hom else none⟩ :: l)

/-- The CRC windows of a frame. -/
def State.storeCrcs (s : State) (n : Nat) (l : List Scan) : State :=
  (List.range 4).foldl (fun (s : State) w =>
    let r := s.rd .dspCrcRect (4 * n + w)
    if bits r 45 32 = 0 then s else s.wr .dspCrcValue (4 * n + w) (windowCrc l r)) s

/-- A homography is read from the pose slot (R334, R335): the identity without a slot or a slot ever complete. -/
def State.readPose (s : State) (n : Nat) : State × List Nat :=
  let ident := [f32One, 0, 0, 0, f32One, 0, 0, 0, f32One]
  let a := s.rd .dspPPoseAddr n
  if a = 0 then (s, ident)
  else
    let (s, b) := match s.memRead (s.stampOf (.display (Fin.ofNat 6 n))) a 64 with
      | (s, some b) => (s, b)
      | (s, none) => (s, zeros 64)
    if fld b 0 4 % 2 = 1 then (s, (s.pipe n).lastHom.getD ident)
    else
      let h := (List.range 9).map (fun i => fld b (0x10 + 4 * i) 4)
      (s.setPipe n { s.pipe n with lastHom := some h }, h)

/-- FRAME passes whose target latch this was (R336). -/
def State.lateFrames (s : State) (n k sev : Nat) : State :=
  let p := s.ownerOf 0x0E n
  ((s.orgRing p).passes.filter (fun f => f.frame && f.pipe == n && f.target == k && f.bad.isNone)).foldl (fun (s : State) f =>
    if 2 ≤ sev then s.passAbort p f stDEADLINE_MISSED else s.updPass p f (fun f => { f with late := true })) s

/-- The planes of a pipe that missed their frame (R336). -/
def DspPipe.missed (x : DspPipe) : List Nat :=
  (List.range 4).filter (fun j => (x.plane j).on && (x.plane j).expect && (x.commit j).isNone)

/-- Commits take effect. -/
def DspPipe.latched (x : DspPipe) : DspPipe :=
  { x with
    planes := (List.range 4).foldl (fun m j => match x.commit j with
      | some p => sset (fun _ => {}) m j p
      | none => m) x.planes,
    commits := [] }

/-- LATCH: the frame that was scanned out, then commits, misses and reprojection. -/
def State.latch (s : State) (n : Nat) : State :=
  match s.pipeRec n with
  | none => s
  | some r =>
    let k := s.rd .dspPFrames n
    let (s, l) := if s.pipeBlank n then (s, []) else s.scanPlanes n [0, 1, 2, 3]
    let s := s.storeCrcs n l
    let s := if (s.pipe n).link then
        s.send (.frame n ((rectAt 0 0 r.hActive r.vActive).flatMap (fun p => s.outPixel n (r.linkBpp / 3) l p.1 p.2)))
      else s
    let missed := (s.pipe n).missed
    let again := missed.filter (fun j => ((s.pipe n).plane j).reproject)
    let (s, h) := if again.isEmpty then (s, []) else s.readPose n
    let s := (s.setPipe n { (s.pipe n).latched with reproj := again, hom := h }).wr .dspPFrames n ((k + 1) % 2 ^ 64)
    if missed.isEmpty then s
    else
      let s := (s.bump .dspPMisses n 1).bump .dspPReproj n again.length
      let sev := s.pipeSev n
      let s := s.raise (s.dspRec n fcDEADLINE sev stDEADLINE_MISSED (maskOf missed + 16 * maskOf again + 2 ^ 32 * (k % 2 ^ 32)))
      s.lateFrames n k sev

/-! ### Registers (R340) -/

/-- The refusal of a write. -/
def orgNotOwner : WRefusal := { errBit := some 2, inst := 0, detail := 1 }

/-- The effect of an ORG_Qp_CFG write: setting ENABLE zeroes TAIL, HEAD and DONE_BELOW. -/
def State.orgCfgStore (s : State) (p v hw : Nat) : State :=
  let was := bit (s.rd .orgQCfg p) 0
  let s := s.regStore .orgQCfg p v hw
  if bit v 0 && !was then
    let x := s.orgRing p
    (((s.wr .orgQTail p 0).wr .orgQHead p 0)).setOrgRing p { x with era := x.era + 1, cpl := 0 }
  else s

/-- Writes of the ORG block. -/
def State.orgWrite (s : State) (who : Who) (id : RegId) (ix size v hw : Nat) : State :=
  let st := s.stampOf who
  let store (s : State) : State := s.regStore id ix v hw
  let no : Option WRefusal := if isKeeper who || s.isCoreOf who ix then none else some orgNotOwner
  let on := bit (s.rd .orgQCfg ix) 0
  let order := bits (s.rd .orgQCfg ix) 7 4
  match id with
  | .orgPreemptMargin => s.regWrite st id ix size v (if isKeeper who then none else some orgNotOwner) true store
  | .orgQBase => s.regWrite st id ix size v no (!on) store
  | .orgQCplBase => s.regWrite st id ix size v no (!on) store
  | .orgQCfg =>
    s.regWrite st id ix size v no (decide (4 ≤ bits v 7 4) && decide (bits v 7 4 ≤ 12) && (!on || bits v 7 4 == order))
      (fun s => s.orgCfgStore ix v hw)
  | .orgQTail => s.regWrite st id ix size v no (decide ((v + 2 ^ 32 - s.rd .orgQHead ix) % 2 ^ 32 ≤ 2 ^ order)) store
  | _ => s.regWrite st id ix size v none true store

/-- Views of the ORG registers that show state. -/
def State.orgView (s : State) (id : RegId) (ix : Nat) : Option Nat :=
  match id with
  | .orgStatus =>
    some (maskOf ((List.range 16).filter (fun c => (s.corePass c).isSome)) + 65536 * b2n s.safe.safe +
      131072 * b2n (s.plan.isSome && decide (s.effectiveLevel 20 < 16)))
  | .orgQDoneBelow => some (s.doneBelow ix)
  | .orgCStatus =>
    let p := s.ownerOf 0x0F ix
    let f := s.corePass ix
    some ((if p < 16 then p + 16 else 0) + 32 * b2n f.isSome + 64 * b2n ((f.map (fun e => e.2.busy.contains ix)).getD false))
  | _ => none

/-! ### Commands -/

/-- PASS_FETCH (R314). -/
def execPassFetch (p : Fin 16) (s : State) : Host.Outcome State Fault Refusal := .next (s.passFetch p.val)

/-- ORG_QP_CFG_WRITE (R340). -/
def execOrgQpCfgWrite (who : Who) (p : Fin 16) (value : BitVec 32) (s : State) : Host.Outcome State Fault Refusal :=
  .next (s.orgWrite who .orgQCfg p.val 4 value.toNat 0)

/-- RENDER (R319). -/
def execRender (p : Fin 16) (shaded : List (Nat × Nat × List (BitVec 32))) (binBytes : Nat) (s : State) :
    Host.Outcome State Fault Refusal :=
  .next (s.geometry p.val shaded binBytes)

/-- TILE_PHASE (R321). -/
def execTilePhase (core : Fin 16) (s : State) : Host.Outcome State Fault Refusal := .next (s.tilePhase core.val)

/-- COMPUTE (R327). -/
def execCompute (p : Fin 16) (s : State) : Host.Outcome State Fault Refusal := .next (s.computeStart p.val)

/-- COMPUTE_GROUP_END (R317, R327). -/
def execComputeGroupEnd (core : Fin 16) (writes : List (BitVec 48 × List Byte)) (s : State) :
    Host.Outcome State Fault Refusal :=
  .next (s.groupEnd core.val (writes.map (fun w => (w.1.toNat, w.2))))

/-- PASS_COMPLETE (R315). -/
def execPassComplete (p : Fin 16) (s : State) : Host.Outcome State Fault Refusal := .next (s.passComplete p.val)

/-- PASS_DEADLINE_MISS (R316). -/
def execPassDeadlineMiss (p : Fin 16) (seq : BitVec 32) (s : State) : Host.Outcome State Fault Refusal :=
  .next (s.passMiss p.val seq.toNat)

/-- SHADER_TRAP (R311). -/
def execShaderTrap (core : Fin 16) (code : BitVec 8) (pc : BitVec 32) (s : State) : Host.Outcome State Fault Refusal :=
  .next (s.shaderTrap core.val code.toNat pc.toNat)

/-- OGX_TEX (R310): `uv` holds the elements of vs2 and vs2 + 1, `tex` rs1. -/
def execOgxTex (core : Fin 16) (word : BitVec 32) (tex : BitVec 64) (mask : BitVec 64) (uv : List (BitVec 32 × BitVec 32)) (s : State) :
    Host.Outcome State Fault Refusal :=
  .next (s.ogxRun core.val .tex word (fun s vd vs2 => (s.ogxLoad core.val vs2 (uvCols uv)).ogxTex core.val vd tex.toNat mask.toNat uv none))

/-- OGX_TEXL (R310): `lods` holds the elements of vs2 + 2. -/
def execOgxTexl (core : Fin 16) (word : BitVec 32) (tex : BitVec 64) (mask : BitVec 64) (uv : List (BitVec 32 × BitVec 32))
    (lods : List (BitVec 32)) (s : State) : Host.Outcome State Fault Refusal :=
  .next (s.ogxRun core.val .texl word (fun s vd vs2 =>
    (s.ogxLoad core.val vs2 (uvCols uv ++ [lods.map BitVec.toNat])).ogxTex core.val vd tex.toNat mask.toNat uv (some lods)))

/-- OGX_RES (R310). -/
def execOgxRes (core : Fin 16) (word : BitVec 32) (tex : BitVec 64) (mask : BitVec 64) (uv : List (BitVec 32 × BitVec 32)) (s : State) :
    Host.Outcome State Fault Refusal :=
  .next (s.ogxRun core.val .res word (fun s vd vs2 => (s.ogxLoad core.val vs2 (uvCols uv)).ogxRes core.val vd tex.toNat mask.toNat uv))

/-- OGX_INTERP (R310): the elements' (triangle, x, y); how vs2 and vs2 + 1 hold a pixel is not stated. -/
def execOgxInterp (core : Fin 16) (word : BitVec 32) (comp : Fin 64) (mask : BitVec 64) (elems : List (Nat × Nat × Nat)) (s : State) :
    Host.Outcome State Fault Refusal :=
  .next (s.ogxRun core.val .interp word (fun s vd _ => s.ogxInterp core.val vd comp.val mask.toNat elems))

/-- OGX_OUT (R310, R321): the active fragments in element order, as (triangle, x, y, colour); the colours are the elements of vs2 to
vs2 + 3. -/
def execOgxOut (core : Fin 16) (insn : BitVec 32 × Fin 4) (frags : List (Nat × Nat × Nat × List (BitVec 32))) (s : State) :
    Host.Outcome State Fault Refusal :=
  .next (s.ogxRun core.val .out insn.1 (fun s _ vs2 => (s.ogxLoad core.val vs2 (colourCols frags)).ogxOut core.val insn.2.val frags))

/-- LATCH (R329, R336). -/
def execLatch (pipe : Fin 6) (s : State) : Host.Outcome State Fault Refusal := .next (s.latch pipe.val)

end Sys2Proof.Machine
end

