-- ==== Sys2Proof/Machine/Own.lean ====
section
/-! DEFINITION. The OWN block of spec/02: command slots that change owner-table entries (R66 to R70, R442). -/

namespace Sys2Proof.Machine

/-- The state of a command slot. -/
def State.ownSlot (s : State) (n : Nat) : OwnCmd := sget (fun _ => {}) s.mem.own n

/-- Change a command slot. -/
def State.setOwnSlot (s : State) (n : Nat) (o : OwnCmd) : State :=
  { s with mem := { s.mem with own := sset (fun _ => {}) s.mem.own n o } }

/-- The pages that a command names, first address and count, as the channel pages behind the addresses (none for an
address without one). -/
def State.ownPages (s : State) (a n : Nat) : List (Option (Nat × Nat)) :=
  (List.range n).map (fun i => s.pageOf (a + 8192 * i))

/-- One page passes the check of R67 for its slot. -/
def State.ownPageOk (s : State) (slot op a : Nat) : Bool :=
  match s.pageOf a with
  | none => false
  | some (c, j) =>
    let e := s.entry c j
    if slot < 16 then entryState e == 1 && entryPlot e == slot
    else decide (a < reservedBase) && (op == 5 || entryState e == 1)

/-- The entry value that an operation leaves (R67, R69): SET_SUB, SET_RO, CLEAR_RO or RETIRE. -/
def ownEffect (op sub e : Nat) : Nat :=
  match op with
  | 1 => setField e 8 12 sub
  | 2 => setBit e 7
  | 3 => clrBit e 7
  | _ => if entryState e == 2 then e else setField e 4 2 2

/-- Change the listed pages and count those whose entry changed. -/
def State.ownApply (s : State) (op sub : Nat) : List (Option (Nat × Nat)) → Nat → State × Nat
  | [], n => (s, n)
  | none :: r, n => s.ownApply op sub r n
  | some (c, j) :: r, n =>
    let e := s.entry c j
    let e' := ownEffect op sub e
    let s' := if e' = e then s else
      let s := s.setEntry c j e'
      if op = 5 then s.recordRetire c j else s
    s'.ownApply op sub r (if e' = e then n else n + 1)

/-- A page of the command has SECURE 1 (R442). -/
def State.ownTouchesSecure (s : State) (pages : List (Option (Nat × Nat))) : Bool :=
  pages.any (fun p => match p with
    | some (c, j) => bit (s.entry c j) 6
    | none => false)

/-- A command of slot `n` runs (R67): its entries change at once and its result waits for completion (R68). -/
def State.ownRun (s : State) (st : Stamp) (n op sub : Nat) : State :=
  let a := s.rd .ownCmdAddr n
  let cnt := s.rd .ownCmdCount n
  let o := s.ownSlot n
  if op = 4 then
    match s.pageOf a with
    | some (c, j) => s.setOwnSlot n { o with busy := true, pendStatus := stDONE, pendNoPage := false,
                                             pendResult := some (s.entry c j) }
    | none => s.setOwnSlot n { o with busy := true, pendStatus := stDONE, pendNoPage := true, pendResult := some 0 }
  else
    let pages := s.ownPages a cnt
    let ok := (List.range cnt).all (fun i => s.ownPageOk n op (a + 8192 * i))
    let blocked := (op == 1 || op == 2 || op == 3) && !st.secure && s.ownTouchesSecure pages
    if ok && !blocked then
      let r := s.ownApply op sub pages 0
      r.1.setOwnSlot n { o with busy := true, pendStatus := stDONE, pendNoPage := o.noPage, pendResult := some r.2 }
    else
      s.setOwnSlot n { o with busy := true, pendStatus := stOWNER_FAULT, pendNoPage := o.noPage, pendResult := some 0 }

/-- Who may write a register of a command slot (R66), and that OP is not written while the slot is busy (R70). -/
def State.ownRefusal (s : State) (who : Who) (st : Stamp) (n : Nat) (isOp : Bool) : Option WRefusal :=
  if !(if n < 16 then s.isCoreOf who n else isKeeper who) then
    some { errBit := none, inst := 0, detail := n + 256 + 65536 * st.port }
  else if isOp && (s.ownSlot n).busy then
    some { errBit := some 2, inst := 0, cls := fcBUSY_WRITE, status := stBUSY, detail := 0 }
  else none

/-- A write of OWN_CMD_s_OP: OP 1 to 4, and 5 in slot 16; SUB kind 3 is reserved for SET_SUB (Table 02-27). -/
def State.ownOpWrite (s : State) (who : Who) (n size v : Nat) : State :=
  let st := s.stampOf who
  let op := bits v 3 0
  let sub := bits v 15 4
  let enc := decide (1 ≤ op) && (decide (op ≤ 4) || (op == 5 && n == 16)) && bits sub 11 10 ≠ 3 &&
    (bits sub 11 10 ≠ 2 || bits sub 9 5 == 0)
  s.regWrite st .ownCmdOp n size v (s.ownRefusal who st n true) enc (fun s => s.ownRun st n op sub)

/-- Writes of the OWN block. -/
def State.ownWrite (s : State) (who : Who) (id : RegId) (ix size v hw : Nat) : State :=
  let st := s.stampOf who
  match id with
  | .ownCmdOp => s.ownOpWrite who ix size v
  | .ownCmdAddr => s.regWrite st id ix size v (s.ownRefusal who st ix false) true (fun s => s.regStore id ix v hw)
  | .ownCmdCount => s.regWrite st id ix size v (s.ownRefusal who st ix false)
      (decide (1 ≤ bits v 24 0) && decide (bits v 24 0 ≤ 16777216)) (fun s => s.regStore id ix v hw)
  | .ownCmdStatus => s.regWrite st id ix size 0 (s.ownRefusal who st ix false) true (fun s => s)
  | .ownCmdResult => s.regWrite st id ix size 0 (s.ownRefusal who st ix false) true (fun s => s)
  | _ => s.regWrite st id ix size v none true (fun s => s.regStore id ix v hw)

/-- Views of the OWN registers that show state. -/
def State.ownView (s : State) (id : RegId) (ix : Nat) : Option Nat :=
  match id with
  | .ownStatus => some (maskOf ((List.range 17).filter (fun n => (s.ownSlot n).busy)))
  | .ownRetiredTotal => some (sumL ((List.range 128).map s.retiredCount))
  | .ownCmdStatus => some (let o := s.ownSlot ix; b2n o.busy + 2 * b2n o.noPage + 256 * o.status)
  | .ownCmdResult => some (s.ownSlot ix).result
  | _ => none

/-- The completion of a slot's command (R68). -/
def State.ownComplete (s : State) (n : Nat) : State :=
  let o := s.ownSlot n
  if o.busy then
    s.setOwnSlot n { o with busy := false, status := o.pendStatus, noPage := o.pendNoPage,
                            result := o.pendResult.getD 0, pendResult := none }
  else s

/-- SET_SUB (R67): a write of OP 0x1 with the SUB. -/
def execSetSub (who : Who) (slot : Fin 17) (sub : BitVec 12) (s : State) : Host.Outcome State Fault Refusal :=
  .next (s.ownOpWrite who slot.val 4 (1 + 16 * sub.toNat))

/-- SET_RO (R67): a write of OP 0x2. -/
def execSetRo (who : Who) (slot : Fin 17) (s : State) : Host.Outcome State Fault Refusal :=
  .next (s.ownOpWrite who slot.val 4 2)

/-- CLEAR_RO (R67): a write of OP 0x3. -/
def execClearRo (who : Who) (slot : Fin 17) (s : State) : Host.Outcome State Fault Refusal :=
  .next (s.ownOpWrite who slot.val 4 3)

/-- QUERY (R67): a write of OP 0x4. -/
def execQuery (who : Who) (slot : Fin 17) (s : State) : Host.Outcome State Fault Refusal :=
  .next (s.ownOpWrite who slot.val 4 4)

/-- RETIRE (R67): a write of OP 0x5. -/
def execRetire (who : Who) (slot : Fin 17) (s : State) : Host.Outcome State Fault Refusal :=
  .next (s.ownOpWrite who slot.val 4 5)

/-- OWN_CMD_COMPLETE (R68). -/
def execOwnCmdComplete (slot : Fin 17) (s : State) : Host.Outcome State Fault Refusal :=
  .next (s.ownComplete slot.val)

end Sys2Proof.Machine
end

