-- ==== Sys2Proof/Machine/PlotStop.lean ====
section
/-! DEFINITION. Stopping a Plot (R19, R241, R292, R358, R443, R516) and restarting it (R49, R241, R358, R519). -/

namespace Sys2Proof.Machine

/-! ### Stop -/

/-- The queues of a Plot. -/
def State.plotQueues (s : State) (p : Nat) : List Nat := (List.range 256).filter (fun q => s.queuePlot q == p)

/-- A command in flight of a stopped Plot: its operations are aborted, and it completes with CANCELLED; in safe state no
completion is written (R417). -/
def State.cancelFlight (s : State) (f : Flight) : State :=
  let q := f.queue
  let s := (s.endCommand q f.cmd.seq stCANCELLED).updFlight q f.cmd.seq (fun g => { g with bad := some stCANCELLED })
  match s.flight? q f.cmd.seq with
  | none => s
  | some g => if s.safe.safe then s.dropFlight q f.cmd.seq else s.finish g

/-- The commands of a Plot, queued or in flight, complete with CANCELLED (R241). -/
def State.cancelCommands (s : State) (p : Nat) : State :=
  let s := (s.tensor.flights.filter (fun f => s.queuePlot f.queue == p)).foldl (fun (s : State) f => s.cancelFlight f) s
  (s.plotQueues p).foldl (fun (s : State) q => (s.flushQueue q).1) s

/-- The contexts of a Plot are destroyed (R241, R443). -/
def State.dropContexts (s : State) (p : Nat) : State :=
  ((s.tensor.ctxs.filter (fun e => (e.2.map (·.plot)) == some p)).map (·.1)).foldl (fun (s : State) c => s.destroyCtx c) s

/-- The Plot's mailbox closes (R516). -/
def State.closePlotMbx (s : State) (p : Nat) : State :=
  s.setMbx p { s.mbx p with isOpen := false, feat := 0, window := [] }

/-- Stop a Plot. -/
def State.stopPlot (s : State) (p : Nat) : State :=
  let s := ((s.cancelCommands p).dropContexts p).closePlotMbx p
  let s := ((s.snsStopPlot p).netStopPlot p)
  let s := if s.safe.safe then s else s.orgStopPlot p
  let s := { s with tensor := { s.tensor with
    stopReq := s.tensor.stopReq.filter (· ≠ p), stopped := s.tensor.stopped ++ [p] } }
  s.canSettleAll.settleHost.touch

/-! ### Restart -/

/-- A register takes its reset value. -/
def State.resetReg (s : State) (ix : Nat) (id : RegId) : State :=
  match id.row with
  | some d => s.wr id ix (d.resetVal ix)
  | none => s

/-- Registers take their reset values, for each of a list of indices. -/
def State.resetRegs (s : State) (ids : List RegId) (ixs : List Nat) : State :=
  ixs.foldl (fun (s : State) ix => ids.foldl (fun (s : State) id => s.resetReg ix id) s) s

/-- The GWY registers of a Plot's ports; ACCEPT takes the Plot's own bit. -/
def State.resetPorts (s : State) (p : Nat) : State :=
  let ports := (List.range 22).filter (fun k => s.portPlot k == p)
  let s := s.resetRegs [.gwyPCfg, .gwyPRxFrames, .gwyPTxFrames] ports
  let s := ports.foldl (fun (s : State) k => s.wr .gwyPAccept k (2 ^ p)) s
  ((List.range 8).filter (fun n => s.ownerOf 0x0A n == p)).foldl (fun (s : State) n =>
    let s := s.resetRegs [.gwyRBase, .gwyRCfg, .gwyRTail, .gwyRHead] [2 * n, 2 * n + 1]
    (s.setRing (.gwy n 0) {}).setRing (.gwy n 1) {}) s

/-- The CAN registers of a Plot's controllers, LIN among them. -/
def State.resetCan (s : State) (p : Nat) : State :=
  let s := ((List.range 16).filter (fun n => s.ownerOf 0x0B n == p)).foldl (fun (s : State) n =>
    let s := s.resetRegs [.canCfg, .canNbt, .canDbt, .canXbt, .canLost] [n]
    let s := s.resetRegs [.canRBase, .canRCfg, .canRTail, .canRHead] [3 * n, 3 * n + 1, 3 * n + 2]
    let s := s.resetRegs [.canFilter] ((List.range 8).map (· + 8 * n))
    let s := ((s.setRing (.can n 0) {}).setRing (.can n 1) {}).setRing (.can n 2) {}
    s.setCan n {}) s
  ((List.range 4).filter (fun n => s.ownerOf 0x0C n == p)).foldl (fun (s : State) n =>
    let s := s.resetRegs [.linCfg, .linData] [n]
    { s with net := { s.net with lin := sset (fun _ => {}) s.net.lin n {} } }) s

/-- The CVU registers of a Plot's units. -/
def State.resetCvu (s : State) (p : Nat) : State :=
  ((List.range 32).filter (fun n => s.ownerOf 0x0D n == p)).foldl (fun (s : State) n =>
    let s := s.resetRegs [.cvuCfg, .cvuLen, .cvuSrc, .cvuValue, .cvuResult, .cvuPoly, .cvuInit, .cvuXorout] [n]
    { s with net := { s.net with cvu := sset (fun _ => {}) s.net.cvu n {} } }) s

/-- Restart a Plot: its semaphores become 0 before any requester of it runs. -/
def State.restartPlot (s : State) (p : Nat) : State :=
  let s := { s with tensor := { s.tensor with sems := s.tensor.sems.filter (fun e => s.ownerOf 0x06 e.1 ≠ p) } }
  let s := ((s.resetPorts p).resetCan p).resetCvu p
  ({ s with tensor := { s.tensor with stopped := s.tensor.stopped.filter (· ≠ p) } }).touch

/-- PLOT_RESTART (R519). -/
def State.svcPlotRestart (s : State) (k : Nat) (b : List Byte) : State × Option (Nat × List Byte) :=
  let p := fld b 0 1
  let crit (n : Nat) := ((s.plotRec n).map (·.crit)).getD 0
  if !bodyEnds b 1 || 15 < p then (s, some (stREFUSED_FORMAT, []))
  else if 16 ≤ k || !((s.plotRec k).map (·.mustRun)).getD false || (s.plotRec p).isNone || crit k < crit p ||
      !s.tensor.stopped.contains p || s.kpr.deadPlots.contains p then (s, some (stREFUSED_PLAN, []))
  else (s.restartPlot p, some (stDONE, []))

/-! ### Commands -/

/-- PLOT_STOP (R19, R241): a Plot-fatal record asked for the stop. -/
def execPlotStop (plot : Fin 16) (s : State) : Host.Outcome State Fault Refusal :=
  .next (if s.tensor.stopReq.contains plot.val then s.stopPlot plot.val else s)

/-- PLOT_RESTART (R519). -/
def execPlotRestart (mbx : Mbx) (s : State) : Host.Outcome State Fault Refusal := .next (s.serve mbx 0x70 State.svcPlotRestart)

end Sys2Proof.Machine
end

