-- ==== Sys2Proof/Machine/SelfTest.lean ====
section
/-! DEFINITION. The periodic self-test of spec/13 (R411 to R414), with the views of the GTH registers. Kinds are those of Table
13-5. -/

namespace Sys2Proof.Machine

/-- The slices of a round. -/
def sliceCount : Nat → Nat
  | 0 => 16
  | 1 => 8
  | 2 => 12
  | _ => 4

/-- The longest duration of a slice in ns. -/
def sliceNs : Nat → Nat
  | 0 => 120000
  | 1 => 80000
  | 2 => 200000
  | 3 => 50000
  | _ => 60000

/-- The units of a kind. -/
def unitCount : Nat → Nat
  | 0 => 128
  | 1 => 16
  | 2 => 16
  | 3 => 128
  | _ => 8

/-- The streams of an ISP-lite pipeline. -/
def Plan.ispStreams (p : Plan) (isp : Nat) : List StreamRec := p.streams.filter (fun r => r.isp == isp)

/-- The Plots that own a unit or are attached to it (R411). -/
def Plan.unitPlots (p : Plan) (kind unit : Nat) : List Nat :=
  match kind with
  | 0 => (p.owner 0x03 unit).toList
  | 1 => ((List.range 8).filterMap (fun b => p.owner 0x03 (8 * unit + b))).eraseDups
  | 2 => (p.owner 0x0F unit).toList
  | 3 => []
  | _ => ((p.ispStreams unit).map (·.plot)).eraseDups

/-- A unit counts as used. -/
def State.unitUsed (s : State) (kind unit : Nat) : Bool :=
  match s.plan with
  | none => false
  | some p => decide (unit < unitCount kind) &&
      (if kind = 3 then !bit s.kpr.skipped unit && !s.kpr.unhealthy.contains (0x20, unit) else !(p.unitPlots kind unit).isEmpty)

/-- A unit is tested: it is used, and its kind is enabled. -/
def State.unitTested (s : State) (kind unit : Nat) : Bool := bit (s.rd .gthStCfg kind) 19 && s.unitUsed kind unit

/-- A unit's round. -/
def State.round (s : State) (kind unit : Nat) : RoundSt := sget (fun _ => {}) s.gth.rounds (128 * kind + unit)

/-- Change a unit's round. -/
def State.setRound (s : State) (kind unit : Nat) (r : RoundSt) : State :=
  { s with gth := { s.gth with rounds := sset (fun _ => {}) s.gth.rounds (128 * kind + unit) r } }

/-- The overdue time of a unit's round (R413). -/
def State.overdueAt (s : State) (kind unit : Nat) : Nat :=
  max (s.round kind unit).since s.spl.acceptTime + 1000000 * bits (s.rd .gthStCfg kind) 15 0

/-! ### When a slice may start (R412) -/

/-- A command works on a Trellis. -/
def State.usesTrellis (s : State) (c : Cmd) (t : Nat) : Bool :=
  if c.opcode = 1 then match s.cmdProg c with
    | some p => (s.progSpaces p).any (fun k => k / 4 == t)
    | none => false
  else decide (0x10 ≤ c.opcode) && decide (c.opcode ≤ 0x14) && (s.cmdPavs c).contains t

/-- A command needs a unit. -/
def State.cmdUses (s : State) (c : Cmd) (kind unit : Nat) : Bool :=
  match kind with
  | 0 => (s.cmdBeds c).contains unit
  | 1 => s.usesTrellis c unit
  | _ => false

/-- A core runs a pass or a compute group. -/
def State.coreBusy (s : State) (c : Nat) : Bool :=
  s.org.rings.any (fun e => e.2.passes.any (fun f => (f.state == 2 && f.cores.contains c) || f.busy.contains c))

/-- The idle condition of a unit (Table 13-5). -/
def State.unitIdle (s : State) (kind unit : Nat) : Bool :=
  match kind with
  | 0 => (s.bed unit).running.isNone
  | 1 => (s.trlSlots unit).all (fun e => (e.2.bind (·.open_)).isNone) &&
      s.tensor.flights.all (fun f => !decide (0x10 ≤ f.cmd.opcode) || f.ops.all (fun o => o.pav ≠ unit || o.status.isSome))
  | 2 => !s.coreBusy unit
  | 3 => true
  | _ => (((s.plan.map (fun p => p.ispStreams unit)).getD []).all (fun r =>
      let x := s.snsStream r.stream
      !(x.frames.any (fun f => f.lines.any (·.waiting))) && (!s.streamOn r.stream ||
        (match x.lastFs with
         | some t => decide (s.now + sliceNs 4 < t / 4294967296 + r.period)
         | none => false))))

/-- A class-7 command or pass is queued for a unit or in flight on it. -/
def State.urgent (s : State) (kind unit : Nat) : Bool :=
  s.tensor.queues.any (fun e => match e.2.head with
    | some h => s.queueClass e.1 == 7 && s.cmdUses h.cmd kind unit
    | none => false) ||
  s.tensor.flights.any (fun f => s.queueClass f.queue == 7 && s.cmdUses f.cmd kind unit) ||
  (kind == 2 && s.org.rings.any (fun e => s.ownerOf 0x0F unit == e.1 && s.defaultClass e.1 == 7 && !e.2.passes.isEmpty))

/-- The next release after now of a period from plan acceptance. -/
def State.nextRelease (s : State) (period : Nat) : Nat :=
  s.spl.acceptTime + ((s.now - s.spl.acceptTime) / period + 1) * period

/-- A periodic record whose releases a slice on a unit must end before: a Gatehouse task, or a class-7 requester that uses
the unit. -/
def Plan.mustWait (p : Plan) (kind unit : Nat) (r : ClassRec) : Bool :=
  r.period ≠ 0 && (r.kind == 0x11 ||
    (r.cls == 7 && (p.unitPlots kind unit).contains r.plot &&
      (match kind with
       | 0 => r.kind == 0x05
       | 1 => r.kind == 0x05
       | 4 => (r.kind == 0x10 || r.kind == 0x12) && (p.ispStreams unit).any (fun x => x.stream == r.index)
       | _ => false)))

/-- A slice may start on a unit now. -/
def State.sliceOk (s : State) (kind unit : Nat) : Bool :=
  s.unitIdle kind unit && !s.urgent kind unit &&
    (match s.plan with
     | none => false
     | some p => (p.classes.filter (p.mustWait kind unit)).all (fun r => decide (s.now + sliceNs kind < s.nextRelease r.period)))

/-- The slices that run on the device. -/
def State.sliceRunning (s : State) : Nat := (s.gth.rounds.filter (fun e => e.2.started.isSome)).length

/-- A due slice of another unit, whose round is overdue earlier, may start now (R413). -/
def State.otherFirst (s : State) (kind unit : Nat) : Bool :=
  (List.range 5).any (fun k => (List.range (unitCount k)).any (fun u =>
    s.unitTested k u && !s.slicing k u && decide (s.overdueAt k u < s.overdueAt kind unit) && s.sliceOk k u))

/-- A slice starts on a unit, or is deferred. -/
def State.sliceStart (s : State) (kind unit : Nat) : State :=
  if s.safe.safe || s.gth.failed || !s.unitTested kind unit || s.slicing kind unit || decide (8 ≤ s.sliceRunning) then s
  else if !s.sliceOk kind unit then s.bump .gthStDeferred kind 1
  else if s.otherFirst kind unit then s
  else s.setRound kind unit { s.round kind unit with started := some s.now }

/-! ### The end of a slice (R414) -/

/-- The state of a unit after a slice (Table 13-5). -/
def State.afterSlice (s : State) (kind unit : Nat) : State :=
  match kind with
  | 0 => s.setBed unit { s.bed unit with tiles := {}, acc := {}, vregs := {} }
  | 2 => s.setOrgCore unit { s.orgCore unit with cache := [], icache := [], dcache := [] }
  | _ => s

/-- A slice found a fault. -/
def State.sliceFault (s : State) (kind unit slice : Nat) : State :=
  let plots := (s.plan.map (fun p => p.unitPlots kind unit)).getD []
  let g := if s.gth.failedUnits.contains (kind, unit) then s.gth.failedUnits else s.gth.failedUnits ++ [(kind, unit)]
  let s := { s with
    gth := { s.gth with failedUnits := g }
    kpr := { s.kpr with deadPlots := (s.kpr.deadPlots ++ plots).eraseDups } }
  let s := s.raise { s.mkRec .gth 0 0x14 (if kind = 3 then 4 else 3) stHW_ERROR with
    plot := match plots with
      | [p] => p
      | _ => 0xFF
    detail := kind + 256 * unit + 65536 * slice }
  plots.foldl (fun (s : State) p => s.requestStop p) s

/-- A slice ends. -/
def State.sliceEnd (s : State) (kind unit : Nat) (fault : Bool) : State :=
  let r := s.round kind unit
  if r.started.isNone then s
  else
    let s := s.afterSlice kind unit
    let s := s.setRound kind unit (if r.next + 1 < sliceCount kind then { r with next := r.next + 1, started := none }
      else { since := s.now })
    if fault then s.sliceFault kind unit r.next else s

/-- A round is past its overdue time: it is logged once. -/
def State.roundOverdue (s : State) (kind unit : Nat) : State :=
  let r := s.round kind unit
  if !s.unitTested kind unit || r.overdue || decide (s.now < s.overdueAt kind unit) then s
  else
    ((s.setRound kind unit { r with overdue := true }).bump .gthStOverdue kind 1).raise
      { s.mkRec .gth 0 0x15 (bits (s.rd .gthStCfg kind) 18 16) stDEADLINE_MISSED with
        detail := kind + 256 * unit + 65536 * r.next }

/-! ### Views (R422) -/

/-- GTH_STk_STATUS (Table 13-17). -/
def State.selfTestWord (s : State) (kind : Nat) : Nat :=
  let l := (List.range (unitCount kind)).filter (s.unitTested kind)
  l.length + 256 * (s.gth.failedUnits.filter (fun e => e.1 == kind)).length +
    65536 * (l.filter (fun u => decide (s.overdueAt kind u ≤ s.now))).length

/-- The failed units of a kind as a mask. -/
def State.failedMask (s : State) (kind : Nat) : Nat :=
  maskOf ((s.gth.failedUnits.filter (fun e => e.1 == kind)).map (·.2))

/-- Views of the GTH registers that show state. -/
def State.gthView (s : State) (id : RegId) (ix : Nat) : Option Nat :=
  match id with
  | .gthStatus => some s.gthStatusWord
  | .gthSafeReq => some (b2n s.safe.safe)
  | .gthInject =>
    some (s.gth.injectGroups + 256 * s.gth.injectFirst + 65536 * b2n s.gth.injectDone + 131072 * b2n s.gth.injectPass)
  | .gthSafeTime => some s.safe.time
  | .gthStStatus => some (s.selfTestWord ix)
  | .gthStFailedLo => some (s.failedMask ix % 2 ^ 64)
  | .gthStFailedHi => some (s.failedMask ix / 2 ^ 64)
  | _ => none

/-! ### Commands -/

/-- SLICE_START (R411 to R413). -/
def execSliceStart (kind : Fin 5) (unit : Fin 128) (s : State) : Host.Outcome State Fault Refusal :=
  .next (s.sliceStart kind.val unit.val)

/-- SLICE_END (R414). -/
def execSliceEnd (kind : Fin 5) (unit : Fin 128) (fault : Bool) (s : State) : Host.Outcome State Fault Refusal :=
  .next (s.sliceEnd kind.val unit.val fault)

/-- SELFTEST_OVERDUE (R413). -/
def execSelftestOverdue (kind : Fin 5) (unit : Fin 128) (s : State) : Host.Outcome State Fault Refusal :=
  .next (s.roundOverdue kind.val unit.val)

end Sys2Proof.Machine
end

