-- ==== Sys2Proof/Machine/Register.lean ====
section
/-! DEFINITION. Accesses to register space: which register an address names, and the read and the write of any register
(R8 to R13, R435, R461, R576). -/

namespace Sys2Proof.Machine

/-! ### Addresses -/

/-- The instance that an offset selects along strides, outermost first, as a number whose innermost digit counts first;
none when the offset is that of no instance. -/
def strideIx : List (Nat × Nat) → Nat → Option Nat
  | [], off => if off = 0 then some 0 else none
  | (stride, n) :: r, off =>
    if stride = 0 ∨ n ≤ off / stride then none
    else (strideIx r (off % stride)).map (fun i => off / stride * (r.foldl (fun m p => m * p.2) 1) + i)

/-- The instance of a register at an address. -/
def RegDef.find (d : RegDef) (a : Nat) : Option Nat := if a < d.base then none else strideIx d.dims (a - d.base)

/-- The register at an address, with its instance. -/
def regAt (a : Nat) : Option (RegDef × Nat) := regTable.findSome? (fun d => (d.find a).map (fun i => (d, i)))

/-- An address within a register of the tables that is not its first byte. -/
def insideReg (a : Nat) : Bool :=
  (regAt (a / 4 * 4)).isSome || (match regAt (a / 4 * 4 - 4) with
    | some (d, _) => d.width == 64
    | none => false)

/-- The block at an address of register space, with its instance (Table 00-3, R7). -/
def blockAt (a : Nat) : Option (Block × Nat) :=
  if a < 0x020000000000 ∨ 0x020010000000 ≤ a then none
  else
    let off := a - 0x020000000000
    match off / 0x1000000 with
    | 0x0 => some (if off < 0x100000 then .gcr else .spl, 0)
    | 0x1 =>
      let p := off / 0x100000 % 16
      let b := off / 0x10000 % 16
      some (if b = 9 then (.trl, p) else if 1 ≤ b ∧ b ≤ 8 then (.bed, 8 * p + b - 1) else (.pav, p))
    | 0x2 => some (if off < 0x2800000 then (.mcc, off / 0x10000 % 128) else (.own, 0))
    | 0x3 => some (.qos, 0)
    | 0x4 => some (.sns, Block.unitAt .sns a)
    | 0x5 => some (if off < 0x5800000 then (.org, 0) else (.dsp, Block.unitAt .dsp a))
    | 0x6 => some (if off < 0x6400000 then (.gwy, Block.unitAt .gwy a) else if off < 0x6800000 then (.flw, 0) else (.can, Block.unitAt .can a))
    | 0x7 => some (.tim, Block.unitAt .tim a)
    | 0x8 => some (.gth, 0)
    | 0x9 => some (.gls, 0)
    | 0xA => some (.hif, Block.unitAt .hif a)
    | 0xB => some (.elx, Block.unitAt .elx a)
    | 0xC => some (.pct, 0)
    | 0xD => some (.cvu, Block.unitAt .cvu a)
    | 0xE => some (.sem, 0)
    | _ => some (.kpr, 0)

/-- An address of the telltale SRAM of a display pipe (R341), as an offset from that of pipe 0. -/
def telltaleOff (a : Nat) : Option Nat :=
  if 0x020005900000 ≤ a ∧ a < 0x020005900000 + 6 * 65536 then some (a - 0x020005900000) else none

/-- An access of a memory in register space: 1, 2, 4 or 8 bytes, naturally aligned. -/
def plainSize (a size : Nat) : Bool := (size == 1 || size == 2 || size == 4 || size == 8) && a % size == 0

/-! ### Reads -/

/-- What a register shows: a view of the engine's state, else its stored value. -/
def State.viewOf (s : State) (b : Block) (id : RegId) (ix : Nat) : Nat :=
  ((match b with
    | .gcr => none
    | .spl => s.splView id ix
    | .pav => s.pavView id ix
    | .bed => s.bedView id ix
    | .trl => s.trlView id ix
    | .mcc => s.mccView id ix
    | .own => s.ownView id ix
    | .qos => s.qosView id ix
    | .sns => s.snsView id ix
    | .org => s.orgView id ix
    | .dsp => s.dspView id ix
    | .gwy => s.gwyView id ix
    | .flw => s.flwView id ix
    | .can => s.canView id ix
    | .tim => s.timView id ix
    | .gth => s.gthView id ix
    | .gls => s.glsView id ix
    | .hif => s.hifView id ix
    | .elx => s.elxView id ix
    | .pct => s.pctView id ix
    | .cvu => s.cvuView id ix
    | .sem => s.semView id ix
    | .kpr => s.kprView id ix).getD (s.rd id ix))

/-- The readable value of a register: reserved and write-only bits read 0 (Table 00-4). -/
def State.readable (s : State) (d : RegDef) (ix : Nat) : Nat :=
  s.viewOf d.block d.id ix &&& (d.rw ||| d.w1c ||| d.w1s ||| d.rc ||| d.ro)

/-- The Plot that owns every assigned Bed of a Pavilion (Table 14-2). -/
def State.pavilionPlot (s : State) (p : Nat) : Option Nat :=
  match ((List.range 8).map (fun b => s.ownerOf 0x03 (8 * p + b))).filter (fun o => decide (o < 16)) with
  | [] => none
  | o :: r => if r.all (· == o) then some o else none

/-- A counter of Table 14-2: its group, the bits it takes in its register, and the Plot whose application cores may read
it while the group is blocked. -/
def State.ctrGroup (s : State) (id : RegId) (ix : Nat) : Option (Nat × Nat × Option Nat) :=
  match id with
  | .mccClsRd => some (0, 0xFFFFFFFFFFFFFFFF, none)
  | .mccClsWr => some (0, 0xFFFFFFFFFFFFFFFF, none)
  | .mccClsGrant => some (0, 0xFFFFFFFFFFFFFFFF, none)
  | .mccClsMaxlat => some (0, 0xFFFFFFFF, none)
  | .mccSlots => some (0, 0x3FF00000, none)
  | .qosPort => some (0, 0xFFC00, none)
  | .qosDeviceMbps => some (0, 0xFFFFFFFF, none)
  | .qosHeld => some (1, 0xFFFFFFFFFFFFFFFF, some (ix / 8))
  | .qosReq => some (1, 0xFFFFFFFFFFFFFFFF, some (ix / 8))
  | .pavSlotBusy => some (2, 0xFFFFFFFFFFFFFFFF, s.pavilionPlot ix)
  | .pavCompleted => some (2, 0xFFFFFFFFFFFFFFFF, s.pavilionPlot ix)
  | .pavMisses => some (2, 0xFFFFFFFF, s.pavilionPlot ix)
  | .bedMacCycles => some (2, 0xFFFFFFFFFFFFFFFF, s.pavilionPlot (ix / 8))
  | .bedBankConflict => some (2, 0xFFFFFFFFFFFFFFFF, s.pavilionPlot (ix / 8))
  | .bedDmaWait => some (2, 0xFFFFFFFFFFFFFFFF, s.pavilionPlot (ix / 8))
  | .bedOpsDone => some (2, 0xFFFFFFFFFFFFFFFF, s.pavilionPlot (ix / 8))
  | .trlMerged => some (2, 0xFFFFFFFFFFFFFFFF, s.pavilionPlot ix)
  | .elxPTxBytes => some (4, 0xFFFFFFFFFFFFFFFF, none)
  | .elxPRxBytes => some (4, 0xFFFFFFFFFFFFFFFF, none)
  | .elxPReplay => some (4, 0xFFFFFFFF, none)
  | .gwyPRxFrames => some (4, 0xFFFFFFFFFFFFFFFF, some (s.portPlot ix))
  | .gwyPTxFrames => some (4, 0xFFFFFFFFFFFFFFFF, some (s.portPlot ix))
  | .gwyDrop => some (4, 0xFFFFFFFF, none)
  | _ => none

/-- The bits of a register that R435 hides from a requester. -/
def State.hiddenBits (s : State) (who : Who) (id : RegId) (ix : Nat) : Nat :=
  match s.ctrGroup id ix with
  | none => 0
  | some (g, m, plot) =>
    if bit (s.rd .glsCtrPolicy 0) g || (s.stampOf who).secure || isKeeper who
        || (plot.map (fun p => s.isCoreOf who p)).getD false then 0 else m

/-- What a read leaves (R10, R13): RC bits clear but for an event of the same cycle; a read of HIF_Ii_POSTED_ERR also
frees ERR_ADDR (Table 15-16). -/
def State.afterRead (s : State) (d : RegDef) (ix event : Nat) : State :=
  if d.rc = 0 then s
  else
    let s := s.wr d.id ix ((s.rd d.id ix &&& (0xFFFFFFFFFFFFFFFF ^^^ d.rc)) ||| (event &&& d.rc))
    if d.id = .hifIPostedErr then s.wr .hifIErrAddr ix 0 else s

/-- GLS_RNG (Table 14-15): the next 32 bits of the DRBG, 0 while RNG_OK is 0. -/
def State.rngRead (s : State) : State × Nat :=
  if s.gls.rngOk then let (x, s) := s.fresh; (s, x.toNat % 2 ^ 32) else (s, 0)

/-- HIF_RPr_CFG_DATA without a completion in hand (Table 15-14): all ones; a live link carries the request. -/
def State.cfgRead (s : State) (r : Nat) : State × Nat :=
  if (s.link r).up && !(r == 0 && s.endpoint) then
    (s.send (.pcieCfg r (s.rd .hifRpCfgAddr r) false 0), 0xFFFFFFFF) else (s, 0xFFFFFFFF)

/-- A read of a register of the right size: who may read (R245, R435, R461), the value, and what the read clears. -/
def State.regValue (s : State) (who : Who) (d : RegDef) (ix event : Nat) : State × Nat :=
  let st := s.stampOf who
  if d.block = .gls ∧ !st.secure then ((s.hwSet d ix (event &&& d.rc)).writerRefused st .gls (d.addr ix) glsNotSecure, 0)
  else match d.id with
    | .semValue => s.semRead st ix
    | .glsRng => s.rngRead
    | .hifRpCfgData => s.cfgRead ix
    | _ =>
      let hid := s.hiddenBits who d.id ix
      if hid = 0 then (s.afterRead d ix event, s.readable d ix)
      else ((s.hwSet d ix (event &&& d.rc)).bump .glsCtrBlocked 0 1, s.readable d ix &&& (0xFFFFFFFFFFFFFFFF ^^^ hid))

/-- A read of register space (R8, R9, R576): the value. -/
def State.regRead (s : State) (who : Who) (a size event : Nat) : State × Nat :=
  let st := s.stampOf who
  match regAt a with
  | some (d, ix) =>
    if size * 8 = d.width then s.regValue who d ix event
    else ((s.hwSet d ix (event &&& d.rc)).sizeRefused st d.block (d.inst ix) a, 0)
  | none => match telltaleOff a with
    | some off =>
      if plainSize a size then (s, leNat (readBytes zeroAt s.dsp.tt off size))
      else (s.sizeRefused st .dsp (Block.unitAt .dsp a) a, 0)
    | none => match blockAt a with
      | none => (s, 0)
      | some (b, n) =>
        if (size = 4 ∨ size = 8) ∧ a % size = 0 ∧ !insideReg a then
          if b = .gls ∧ !st.secure then (s.writerRefused st .gls a glsNotSecure, 0) else (s, 0)
        else (s.sizeRefused st b n a, 0)

/-! ### Writes -/

/-- A write of a register through its block's rules. -/
def State.regWriteAt (s : State) (who : Who) (d : RegDef) (ix size v hw : Nat) : State :=
  match d.block with
  | .gcr => s
  | .spl => s.regWrite (s.stampOf who) d.id ix size v none true (fun s => s.regStore d.id ix v hw)
  | .qos => s.regWrite (s.stampOf who) d.id ix size v none true (fun s => s.regStore d.id ix v hw)
  | .trl => s.regWrite (s.stampOf who) d.id ix size v none true (fun s => s.regStore d.id ix v hw)
  | .pav => s.bedWrite who d.id ix size v hw
  | .bed => s.bedWrite who d.id ix size v hw
  | .mcc => s.mccWrite who d.id ix size v hw
  | .own => s.ownWrite who d.id ix size v hw
  | .sns => s.snsWrite who d.id ix size v hw
  | .org => s.orgWrite who d.id ix size v hw
  | .dsp => s.dspWrite who d.id ix size v hw
  | .gwy => s.gwyWrite who d.id ix size v hw
  | .flw => s.flwWrite who d.id ix size v hw
  | .can => s.canWrite who d.id ix size v hw
  | .tim => s.timWrite who d.id ix size v hw
  | .gth => s.gthWrite who d.id ix size v hw
  | .gls => s.glsWrite who d.id ix size v hw
  | .hif => s.hifWrite who d.id ix size v hw
  | .elx => s.elxWrite who d.id ix size v hw
  | .pct => s.pctWrite who d.id ix size v hw
  | .cvu => s.cvuWrite who d.id ix size v hw
  | .sem => s.semWrite who d.id ix size v hw
  | .kpr => s.kprWrite who d.id ix size v hw

/-- A write of register space (R8, R9, R11, R48, R576). What hardware sets in W1C bits in the same cycle stays set, whether
the write is made or refused (R12). -/
def State.spaceWrite (s : State) (who : Who) (a size v hw : Nat) : State :=
  let st := s.stampOf who
  match regAt a with
  | some (d, ix) => (s.regWriteAt who d ix size (v % 2 ^ d.width) hw).hwSet d ix (hw &&& d.w1c)
  | none => match telltaleOff a with
    | some off =>
      if plainSize a size then s.telltaleWrite who off (leBytes size v)
      else s.sizeRefused st .dsp (Block.unitAt .dsp a) a
    | none => match blockAt a with
      | none => s
      | some (b, n) =>
        if (size = 4 ∨ size = 8) ∧ a % size = 0 ∧ !insideReg a then
          if b = .gls ∧ !st.secure then s.writerRefused st .gls a glsNotSecure else s
        else s.sizeRefused st b n a

/-! ### Commands -/

/-- A shader core's access to register space is refused, and the core takes an access fault (R309). -/
def State.coreRefused (s : State) (c a : Nat) (write : Bool) : State :=
  ((s.raise { (s.mkRec .org 0 fcOWNER 0 stOWNER_FAULT).by (s.stampOf (.orangery (Fin.ofNat 16 c))) a with detail := 1 }).accessTrap c
    (if write then 7 else 5)).answer stOWNER_FAULT []

/-! ### Pins and system DMA channels -/

/-- The request may use a pin (kind 0x08) or system DMA channel (kind 0x07): one of its Plot's, from the secure world when its
assignment carries ATTR.SECURE (R426, R427). DEDUCED: an unassigned one is nobody's (Table 18-5), and an ordinary one is its
Plot's and the Keeper's. -/
def State.unitMine (s : State) (who : Who) (kind ix : Nat) : Bool :=
  let st := s.stampOf who
  if s.secureAttr kind ix then st.secure && st.plot == s.ownerOf kind ix
  else decide (s.ownerOf kind ix < 16) && (st.plot == s.ownerOf kind ix || isKeeper who)

/-- What a control of a pin shows: the level of an input is the ball's, that of an output (direction 1) is what was set. -/
def State.pinValue (s : State) (n control : Nat) : Nat :=
  if control = 0 ∧ !bit (sget (fun _ => 0) s.pinCtl (4 * n + 1)) 0 then b2n (bit s.pins n)
  else sget (fun _ => 0) s.pinCtl (4 * n + control)

/-- The record of a normal-world write that a secure pin or channel ignores (R428). The spec gives neither unit a block or a
chapter with reasons: source, address and detail are free. -/
def State.secureIgnored (s : State) (st : Stamp) : State :=
  let x := s.fresh
  let y := x.2.fresh
  let z := y.2.fresh
  z.2.raise { (z.2.mkRec .gls 0 fcOWNER 0 stOWNER_FAULT).by st y.1.toNat with source := x.1.toNat % 65536, detail := z.1.toNat }

/-- A write of a pin control or a word of a channel. -/
def State.unitWrite (s : State) (who : Who) (kind ix : Nat) (put : State → State) : State :=
  if s.unitMine who kind ix then put s
  else if s.secureAttr kind ix && !(s.stampOf who).secure then s.secureIgnored (s.stampOf who)
  else s

/-! ### The rows -/

/-- REGISTER_WRITE (R11, R576): a write of `size` bytes; `hw` is what hardware sets in W1C bits in the same cycle (R12).
An address outside every range of Table 00-2 answers OWNER_FAULT (R4). -/
def execRegisterWrite (who : Who) (at_ : RegTarget) (size : Nat) (value : BitVec 64) (hw : BitVec 64) (s : State) :
    Host.Outcome State Fault Refusal :=
  .next (match at_ with
    | .pin n c => (s.unitWrite who 0x08 n.val (fun s => { s with
        pinCtl := sset (fun _ => 0) s.pinCtl (4 * n.val + c.val) (value.toNat % 2 ^ (8 * size)) })).answer stDONE []
    | .channel ch w => (s.unitWrite who 0x07 ch.val (fun s => { s with
        sysDma := sset (fun _ => 0) s.sysDma (64 * ch.val + w.val) (value.toNat % 2 ^ (8 * size)) })).answer stDONE []
    | .addr a => match who with
      | .orangery c => s.coreRefused c.val a.toNat true
      | who =>
        if (blockAt a.toNat).isSome then (s.spaceWrite who a.toNat size value.toNat hw.toNat).answer stDONE []
        else s.otherAccess who a.toNat size true (leBytes size value.toNat))

/-- A read of register space, answered. -/
def State.readSpace (s : State) (who : Who) (a size event : Nat) : State :=
  match who with
  | .orangery c => s.coreRefused c.val a false
  | who =>
    if (blockAt a).isSome then
      let (s, v) := s.regRead who a size event
      s.answer stDONE (leBytes size v)
    else s.otherAccess who a size false []

/-- A read of a register, a pin control or a word of a system DMA channel; the last two read 0 to a requester that may not use
them (R426, R427). -/
def State.readTarget (s : State) (who : Who) (at_ : RegTarget) (size event : Nat) : State :=
  match at_ with
  | .addr a => s.readSpace who a.toNat size event
  | .pin n c => s.answer stDONE (leBytes size (if s.unitMine who 0x08 n.val then s.pinValue n.val c.val else 0))
  | .channel ch w =>
    s.answer stDONE (leBytes size (if s.unitMine who 0x07 ch.val then sget (fun _ => 0) s.sysDma (64 * ch.val + w.val) else 0))

/-- READ_CLEAR (R13): a read of a register; an RC register is cleared but for `event`, what arrives in the same cycle. -/
def execReadClear (who : Who) (at_ : RegTarget) (size : Nat) (event : BitVec 32) (s : State) :
    Host.Outcome State Fault Refusal :=
  .next (s.readTarget who at_ size event.toNat)

/-- COUNTER_READ (R435): a read of a counter. -/
def execCounterRead (who : Who) (at_ : RegTarget) (size : Nat) (s : State) : Host.Outcome State Fault Refusal :=
  .next (s.readTarget who at_ size 0)

end Sys2Proof.Machine
end

