-- ==== Sys2Proof/Machine/Pcie.lean ====
section
/-! DEFINITION. Transactions of the PCIe ports: inbound requests through the BARs and the inbound windows (R464 to R469,
R478, R479), and accesses of device requesters to the outbound window (R470, R471, R475, R477). -/

namespace Sys2Proof.Machine

/-! ### Inbound mapping -/

/-- Where an inbound request goes: an address of register space, the MSI-X table or the PBA of the function, or DRAM; with
the instance whose stamp it carries. -/
inductive InTarget where
  | reg (inst addr : Nat)
  | msixTable (off : Nat)
  | pba
  | dram (inst addr : Nat)
deriving DecidableEq, Repr

/-- The mapping of BAR0 (Table 15-2). -/
def State.bar0 (s : State) (i off : Nat) : Option InTarget :=
  if off < 0x10000 then some (.reg i (0x02000A100000 + 0x10000 * i + off))
  else if off < 0x10400 then some (.msixTable (off - 0x10000))
  else if off < 0x10408 then some .pba
  else if 0x80000 ≤ off ∧ off < 0x84000 ∧ s.queueInst ((off - 0x80000) / 0x40) = some i then
    some (.reg i (0x02000A400000 + (off - 0x80000)))
  else none

/-- The first valid inbound window that matches a request (R466). -/
def State.inWindow (s : State) (port func : Nat) (pref : Bool) (addr len : Nat) : Option InTarget :=
  (List.range 64).findSome? (fun v =>
    let cfg := s.rd .hifIbCfg v
    let bus := s.rd .hifIbBus v
    let stop := bus + 0x100000 * bits cfg 31 16
    let mine := if s.endpoint then port == 0 && bits cfg 5 1 == func && bit cfg 6 == pref else bits cfg 9 8 == port
    if bit cfg 0 && mine && decide (bus ≤ addr) && decide (addr + max len 1 ≤ stop) then
      let a := s.rd .hifIbTarget v + (addr - bus)
      some (if bit cfg 7 then .reg (bits cfg 5 1) a else .dram (bits cfg 5 1) a)
    else none)

/-- The mapping of an inbound request: `bar` 0, 1 or 2 stands for BAR0, BAR2 or BAR4 of an endpoint's function. -/
def State.mapIn (s : State) (port func bar addr len : Nat) : Option InTarget :=
  if s.endpoint && port == 0 && bar == 0 then s.bar0 func addr else s.inWindow port func (bar == 1) addr len

/-- The instance that a request belongs to: the function of an endpoint, else that of the window that maps it. -/
def State.inInst (s : State) (port func : Nat) (t : Option InTarget) : Option Nat :=
  if s.endpoint && port == 0 then some func
  else match t with
    | some (.reg i _) => some i
    | some (.dram i _) => some i
    | _ => none

/-- The stamp of an inbound request (R467). -/
def State.inStamp (s : State) (i : Nat) : Stamp := s.stampOf (.host (Fin.ofNat 32 i))

/-- The function of an endpoint whose TLPs are refused (R464). -/
def State.notBacked (s : State) (port func : Nat) : Bool := s.endpoint && port == 0 && !s.hostBacked func

/-! ### Inbound writes -/

/-- A posted write that the bridge cannot perform (R479). -/
def State.postedRefused (s : State) (port : Nat) (i : Option Nat) (addr code : Nat) : State :=
  let r : FaultRec := { s.mkRec .hif port 0x11 0 stOWNER_FAULT with detail := code + 256 * (addr % 2 ^ 56) }
  match i with
  | none => s.raise r
  | some i =>
    let s := if s.rd .hifIPostedErr i = 0 then s.wr .hifIErrAddr i addr else s
    let s := s.bump .hifIPostedErr i 1
    let s := s.raise { r with plot := s.instPlot i, ctx := 0x8000 + i }
    if s.hostBacked i then
      let aer := if s.host.aer.contains i then s.host.aer else s.host.aer ++ [i]
      let s := { s with host := { s.host with aer := aer } }
      if (s.inst i).stopped then s else s.send (.msix i 0)
    else s

/-- Store the enabled bytes of a write (R469). -/
def State.maskedPut (s : State) (a : Nat) : List (Option Byte) → State
  | [] => s
  | none :: r => s.maskedPut (a + 1) r
  | some b :: r => (s.setDramByte a b).maskedPut (a + 1) r

/-- The data bytes of a write. -/
def laneBytes (data : List (Option Byte)) : List Byte := data.map (fun b => b.getD 0)

/-- A request that register space takes: 4 bytes with every byte enabled, or 8, aligned (R469). Any other is made as an
access of no size, which R9 refuses. -/
def regLen (a len : Nat) (all : Bool) : Nat := if all && (len == 4 || len == 8) && a % len == 0 then len else 0

/-- Write the enabled bytes of a function's MSI-X table. -/
def putMsix (func : Nat) (m : List Host.Cell) (off : Nat) : List (Option Byte) → List Host.Cell
  | [] => m
  | none :: r => putMsix func m (off + 1) r
  | some b :: r => putMsix func (if off < 1024 then sset (fun _ => 0) m (1024 * func + off) b else m) (off + 1) r

/-- An inbound write that is mapped (R469). A REGISTER window that reaches beyond register space is refused there (R4). -/
def State.inWrite (s : State) (port func addr : Nat) (data : List (Option Byte)) : InTarget → State
  | .reg i a =>
    if (blockAt a).isNone then s.postedRefused port (some i) addr 2
    else s.spaceWrite (.host (Fin.ofNat 32 i)) a (regLen a data.length (data.all (·.isSome))) (leNat (laneBytes data)) 0
  | .msixTable off =>
    let table := putMsix func s.host.msixTable off data
    { s with host := { s.host with msixTable := table } }
  | .pba => s
  | .dram i a =>
    let st := s.inStamp i
    if data.all (·.isNone) then s
    else match s.firstRefused st a data.length true with
      | some (b, reason) => (s.passRefused st a data.length b reason true).postedRefused port (some i) addr 2
      | none => (s.pass st a data.length true).maskedPut a data

/-- INBOUND_WRITE (R466, R469, R479): a posted write of the bytes from `addr` on, `none` where a byte is not enabled; for
an endpoint's function `addr` is the offset in the BAR. -/
def execInboundWrite (port : Fin 3) (func : Fin 32) (bar : Fin 3) (addr : BitVec 64) (data : List (Option Byte))
    (poisoned : Bool) (s : State) : Host.Outcome State Fault Refusal :=
  .next (if !(s.link port.val).up then s
    else
      let t := s.mapIn port.val func.val bar.val addr.toNat data.length
      let i := s.inInst port.val func.val t
      if s.notBacked port.val func.val then s.postedRefused port.val i addr.toNat 3
      else if poisoned then s.postedRefused port.val i addr.toNat 4
      else match t with
        | none => s.postedRefused port.val i addr.toNat 1
        | some t => s.inWrite port.val func.val addr.toNat data t)

/-! ### Inbound reads -/

/-- An OWNER record of the bridge (R500). -/
def State.hifOwnerRec (s : State) (port plot ctx addr reason : Nat) : State :=
  s.raise { s.mkRec .hif port fcOWNER 0 stOWNER_FAULT with plot := plot, ctx := ctx, addr := addr, detail := reason }

/-- A read that no mapping takes, or of a function whose instance is internal: Unsupported Request. -/
def State.unsupported (s : State) (port func : Nat) (i : Option Nat) (addr reason : Nat) : State :=
  let s := match i with
    | some i => s.hifOwnerRec port (s.instPlot i) (0x8000 + i) addr reason
    | none => s.hifOwnerRec port 0xFF 0xFFFF addr reason
  s.send (.pcieCpl port func 1 [])

/-- The data of a DRAM read in completions that end at 64-byte boundaries (R469). -/
def splitCpl (port func : Nat) : Nat → Nat → List Byte → List Out
  | 0, _, _ => []
  | fuel + 1, a, d =>
    let n := 64 - a % 64
    if d.length ≤ n then [.pcieCpl port func 0 d] else .pcieCpl port func 0 (d.take n) :: splitCpl port func fuel (a + n) (d.drop n)

/-- An inbound read that is mapped (R469, R478): its completions. -/
def State.inRead (s : State) (port func len : Nat) : InTarget → State
  | .reg i a =>
    if (blockAt a).isNone then s.send (.pcieCpl port func 4 [])
    else
    let r := s.regRead (.host (Fin.ofNat 32 i)) a (regLen a len true) 0
    r.1.send (.pcieCpl port func 0 (leBytes len r.2))
  | .msixTable off => s.send (.pcieCpl port func 0 (readBytes zeroAt s.host.msixTable (1024 * func + off) len))
  | .pba => s.send (.pcieCpl port func 0 (zeros len))
  | .dram i a =>
    match s.memRead (s.inStamp i) a len with
    | (s, some d) => { s with out := s.out ++ splitCpl port func (d.length + 1) a d }
    | (s, none) => s.send (.pcieCpl port func 4 [])

/-- INBOUND_READ (R466, R469, R478): a read of `len` bytes; a zero-length read has `len` 0. -/
def execInboundRead (port : Fin 3) (func : Fin 32) (bar : Fin 3) (addr : BitVec 64) (len : Fin 4097) (s : State) :
    Host.Outcome State Fault Refusal :=
  .next (if !(s.link port.val).up then s
    else
      let t := s.mapIn port.val func.val bar.val addr.toNat len.val
      let i := s.inInst port.val func.val t
      if s.notBacked port.val func.val then s.unsupported port.val func.val i addr.toNat 3
      else match t with
        | none => s.unsupported port.val func.val i addr.toNat 2
        | some t =>
          if len.val = 0 then s.send (.pcieCpl port.val func.val 0 []) else s.inRead port.val func.val len.val t)

/-! ### The outbound window -/

/-- The first valid outbound window that holds an offset (R470): its number. -/
def State.outWindow (s : State) (off len : Nat) : Option Nat :=
  (List.range 16).find? (fun w =>
    let cfg := s.rd .hifObCfg w
    let base := s.rd .hifObBase w
    bit cfg 0 && decide (base ≤ off) && decide (off + len ≤ base + 0x100000 * bits cfg 31 16))

/-- The sizes that a requester's accesses to the outbound window have (R471). -/
def outSizeOk (who : Who) (a size : Nat) : Bool :=
  let core := size == 1 || size == 2 || size == 4 || size == 8
  let dma := size == 64 || size == 128 || size == 256
  (match who with
    | .core _ => core
    | .dma _ => dma
    | _ => core || dma) && a % size == 0

/-- Answer a requester's access: zeros for a read that fails. -/
def State.outAnswer (s : State) (st : Stamp) (addr size : Nat) (write : Bool) (status : Nat) : State :=
  s.send (.outboundDone st addr status (if write then [] else zeros size))

/-- A free tag of a port (R475). -/
def State.freeTag (s : State) (port : Nat) : Option Nat :=
  (List.range 768).find? (fun t => (sget (fun _ => none) s.host.reads (1024 * port + t)).isNone)

/-- Issue a read under a free tag of its port; while its port has none, it waits (R475). -/
def State.issueRead (s : State) (r : OutRead) : State :=
  match s.freeTag r.port with
  | none => { s with host := { s.host with waits := s.host.waits ++ [r] } }
  | some t =>
    let sent : OutRead := { r with tag := t, sent := s.now }
    ({ s with host := { s.host with reads := sset (fun _ => none) s.host.reads (1024 * r.port + t) (some sent) } }).send (.pcieRead r.port r.inst r.bus r.len t)

/-- Send an access through an outbound window (R470, R475, R492). -/
def State.outSend (s : State) (st : Stamp) (w addr off size : Nat) (write : Bool) (data : List Byte) : State :=
  let cfg := s.rd .hifObCfg w
  let port := bits cfg 3 2
  let fn := bits cfg 8 4
  let bus := s.rd .hifObPci w + (off - s.rd .hifObBase w)
  if s.endpoint && port == 0 && (s.inst fn).stopped then s.outAnswer st addr size write stCANCELLED
  else if write then
    let s := if (s.link port).up then s.send (.pcieWrite port fn bus data) else s
    s.outAnswer st addr size true stDONE
  else if !(s.link port).up then s.outAnswer st addr size false stHW_ERROR
  else s.issueRead ⟨0, port, st, addr, size, fn, s.now, bus⟩

/-- OUTBOUND_ACCESS (R470, R471). -/
def execOutboundAccess (who : Who) (addr : BitVec 48) (size : Nat) (write : Bool) (data : List Byte) (s : State) :
    Host.Outcome State Fault Refusal :=
  .next (
    let a := addr.toNat
    let st := s.stampOf who
    if a < 0x040000000000 || 0x050000000000 ≤ a || !outSizeOk who a size || (write && data.length ≠ size) then s
    else match s.outWindow (a - 0x040000000000) size with
      | none => (s.hifOwnerRec 0 st.plot st.ctx a 2).outAnswer st a size write stOWNER_FAULT
      | some w =>
        let cfg := s.rd .hifObCfg w
        if st.plot ≠ bits cfg 12 9 then
          (s.hifOwnerRec (bits cfg 3 2) st.plot st.ctx a 1).outAnswer st a size write stOWNER_FAULT
        else s.outSend st w a (a - 0x040000000000) size write data)

/-- The outstanding read of a tag. -/
def State.outRead (s : State) (port tag : Nat) : Option OutRead := sget (fun _ => none) s.host.reads (1024 * port + tag)

/-- A freed tag of a port goes to the oldest read of that port that waits for one (R475). -/
def State.nextRead (s : State) (port : Nat) : State :=
  match s.host.waits.find? (fun r => r.port == port) with
  | none => s
  | some r => { s with host := { s.host with waits := s.host.waits.erase r } }.issueRead r

/-- Free a tag and answer its requester. -/
def State.endRead (s : State) (r : OutRead) (port tag status : Nat) (data : List Byte) : State :=
  (({ s with host := { s.host with reads := sset (fun _ => none) s.host.reads (1024 * port + tag) none } }).send
    (.outboundDone r.stamp r.addr status data)).nextRead port

/-- The context field of a record about an outbound read: its function's instance in endpoint mode (R500). -/
def State.outCtx (s : State) (r : OutRead) : Nat := if s.endpoint && r.port == 0 then 0x8000 + r.inst else r.stamp.ctx

/-- OUTBOUND_COMPLETION (R477): the whole data of a read, or `err` 1 UR, 2 CA, 3 poisoned. -/
def execOutboundCompletion (port : Fin 3) (tag : Fin 768) (err : Fin 4) (data : List Byte) (s : State) :
    Host.Outcome State Fault Refusal :=
  .next (match s.outRead port.val tag.val with
    | none => s
    | some r =>
      if err.val ≠ 0 then
        (s.raise { s.mkRec .hif port.val 0x14 2 stHW_ERROR with
          plot := r.stamp.plot, ctx := s.outCtx r, addr := r.addr, detail := err.val }).endRead
            r port.val tag.val stHW_ERROR (zeros r.len)
      else if data.length = r.len then s.endRead r port.val tag.val stDONE data
      else s)

/-- COMPLETION_TIMEOUT (R477). The severity of the record is not stated: a warning (1) or an error (2), free. -/
def execCompletionTimeout (port : Fin 3) (tag : Fin 768) (s : State) : Host.Outcome State Fault Refusal :=
  .next (match s.outRead port.val tag.val with
    | none => s
    | some r =>
      if r.sent + 1000000 * s.rd .hifCplTimeout 0 ≤ s.now then
        let (x, s) := s.fresh
        (s.raise { s.mkRec .hif port.val fcTIMEOUT (1 + x.toNat % 2) stHW_ERROR with
          plot := r.stamp.plot, ctx := s.outCtx r, addr := r.addr, detail := 1 }).endRead
            r port.val tag.val stHW_ERROR (zeros r.len)
      else s)

end Sys2Proof.Machine
end

