-- ==== Sys2Proof/Machine/Dispatch.lean ====
section
/-! DEFINITION. One arm per command: a direct call of its meaning. -/

namespace Sys2Proof.Machine

/-- The effect of a command on everything but the queue. -/
def exec (i : Instr) (s : State) : Host.Outcome State Fault Refusal :=
  match i with
  | .powerOnReset => Sys2Proof.Machine.execPowerOnReset s
  | .powerFail => Sys2Proof.Machine.execPowerFail s
  | .resetNFall => Sys2Proof.Machine.execResetNFall s
  | .resetNRise groveId hostMode => Sys2Proof.Machine.execResetNRise groveId hostMode s
  | .rootPllLock selfTest sfdp8d => Sys2Proof.Machine.execRootPllLock selfTest sfdp8d s
  | .railInRegulation rail regulated boot => Sys2Proof.Machine.execRailInRegulation rail regulated boot s
  | .registerWrite who at_ size value hw => Sys2Proof.Machine.execRegisterWrite who at_ size value hw s
  | .readClear who at_ size event => Sys2Proof.Machine.execReadClear who at_ size event s
  | .counterRead who at_ size => Sys2Proof.Machine.execCounterRead who at_ size s
  | .dramRequest who addr len kind data => Sys2Proof.Machine.execDramRequest who addr len kind data s
  | .holdQueueGrant port => Sys2Proof.Machine.execHoldQueueGrant port s
  | .mccServe c ecc ecc2 => Sys2Proof.Machine.execMccServe c ecc ecc2 s
  | .scrub c page ecc => Sys2Proof.Machine.execScrub c page ecc s
  | .setSub who slot sub => Sys2Proof.Machine.execSetSub who slot sub s
  | .setRo who slot => Sys2Proof.Machine.execSetRo who slot s
  | .clearRo who slot => Sys2Proof.Machine.execClearRo who slot s
  | .query who slot => Sys2Proof.Machine.execQuery who slot s
  | .retire who slot => Sys2Proof.Machine.execRetire who slot s
  | .ownCmdComplete slot => Sys2Proof.Machine.execOwnCmdComplete slot s
  | .commandFetch q => Sys2Proof.Machine.execCommandFetch q s
  | .hifQqTailWrite who q value => Sys2Proof.Machine.execHifQqTailWrite who q value s
  | .hifQqCfgWrite who q value => Sys2Proof.Machine.execHifQqCfgWrite who q value s
  | .dispatch => Sys2Proof.Machine.execDispatch s
  | .nop q seq => Sys2Proof.Machine.execNop q seq s
  | .run q seq => Sys2Proof.Machine.execRun q seq s
  | .copy q seq ueAt => Sys2Proof.Machine.execCopy q seq ueAt s
  | .bind q seq => Sys2Proof.Machine.execBind q seq s
  | .unbind q seq => Sys2Proof.Machine.execUnbind q seq s
  | .admitSeq q seq => Sys2Proof.Machine.execAdmitSeq q seq s
  | .leave q seq => Sys2Proof.Machine.execLeave q seq s
  | .free q seq => Sys2Proof.Machine.execFree q seq s
  | .operationComplete pav slot => Sys2Proof.Machine.execOperationComplete pav slot s
  | .commandComplete q seq => Sys2Proof.Machine.execCommandComplete q seq s
  | .commandDeadlineMiss q seq => Sys2Proof.Machine.execCommandDeadlineMiss q seq s
  | .queuedDeadlineMiss q => Sys2Proof.Machine.execQueuedDeadlineMiss q s
  | .matmul bed outs tiles post => Sys2Proof.Machine.execMatmul bed outs tiles post s
  | .conv2d bed outs taps stride dilation pad post => Sys2Proof.Machine.execConv2d bed outs taps stride dilation pad post s
  | .eltwise bed elems op b c => Sys2Proof.Machine.execEltwise bed elems op b c s
  | .norm bed rows layer eps => Sys2Proof.Machine.execNorm bed rows layer eps s
  | .softmax bed rows => Sys2Proof.Machine.execSoftmax bed rows s
  | .reduce bed elems arrival => Sys2Proof.Machine.execReduce bed elems arrival s
  | .quantise bed elems => Sys2Proof.Machine.execQuantise bed elems s
  | .gather bed rows => Sys2Proof.Machine.execGather bed rows s
  | .copyOperator bed moves => Sys2Proof.Machine.execCopyOperator bed moves s
  | .attend bed => Sys2Proof.Machine.execAttend bed s
  | .exchange bed send addrs => Sys2Proof.Machine.execExchange bed send addrs s
  | .topk bed rows k tieHigh => Sys2Proof.Machine.execTopk bed rows k tieHigh s
  | .operatorComplete bed => Sys2Proof.Machine.execOperatorComplete bed s
  | .partialMerge trellis idx => Sys2Proof.Machine.execPartialMerge trellis idx s
  | .groveAdmissionReport device trellis sp epoch digest rows leaving uncovered => Sys2Proof.Machine.execGroveAdmissionReport device trellis sp epoch digest rows leaving uncovered s
  | .groveAdmissionResult trellis sp mismatch runs leaves exhausted => Sys2Proof.Machine.execGroveAdmissionResult trellis sp mismatch runs leaves exhausted s
  | .dmaDescriptor bed ch raw met => Sys2Proof.Machine.execDmaDescriptor bed ch raw met s
  | .dmaDescriptorDone bed ch => Sys2Proof.Machine.execDmaDescriptorDone bed ch s
  | .dmaStall bed port bank cycles => Sys2Proof.Machine.execDmaStall bed port bank cycles s
  | .inboundScratchpadAccess who addr size write data ecc => Sys2Proof.Machine.execInboundScratchpadAccess who addr size write data ecc s
  | .bedPwrWrite who bed value => Sys2Proof.Machine.execBedPwrWrite who bed value s
  | .bedPwrTransitionDone bed => Sys2Proof.Machine.execBedPwrTransitionDone bed s
  | .bedSlotWrite who bed slot value => Sys2Proof.Machine.execBedSlotWrite who bed slot value s
  | .shareClearDone bed => Sys2Proof.Machine.execShareClearDone bed s
  | .seqTrap bed code pc => Sys2Proof.Machine.execSeqTrap bed code pc s
  | .load mbx => Sys2Proof.Machine.execLoad mbx s
  | .unload mbx => Sys2Proof.Machine.execUnload mbx s
  | .ctxCreate mbx => Sys2Proof.Machine.execCtxCreate mbx s
  | .ctxDestroy mbx => Sys2Proof.Machine.execCtxDestroy mbx s
  | .ctxBind mbx => Sys2Proof.Machine.execCtxBind mbx s
  | .ctxUnbind mbx => Sys2Proof.Machine.execCtxUnbind mbx s
  | .ctxStats mbx => Sys2Proof.Machine.execCtxStats mbx s
  | .residencyTick => Sys2Proof.Machine.execResidencyTick s
  | .plotStop plot => Sys2Proof.Machine.execPlotStop plot s
  | .plotRestart mbx => Sys2Proof.Machine.execPlotRestart mbx s
  | .signal who n value => Sys2Proof.Machine.execSignal who n value s
  | .add who n value => Sys2Proof.Machine.execAdd who n value s
  | .semValueRead who n => Sys2Proof.Machine.execSemValueRead who n s
  | .semWatchCfgWrite who w value => Sys2Proof.Machine.execSemWatchCfgWrite who w value s
  | .semWatchThreshWrite who w value => Sys2Proof.Machine.execSemWatchThreshWrite who w value s
  | .portTrain port lanes => Sys2Proof.Machine.execPortTrain port lanes s
  | .portRetrain port => Sys2Proof.Machine.execPortRetrain port s
  | .flitReceive port flit => Sys2Proof.Machine.execFlitReceive port flit s
  | .linkHello port grove peerPort => Sys2Proof.Machine.execLinkHello port grove peerPort s
  | .write port => Sys2Proof.Machine.execWrite port s
  | .read port => Sys2Proof.Machine.execRead port s
  | .readData port => Sys2Proof.Machine.execReadData port s
  | .ack port => Sys2Proof.Machine.execAck port s
  | .semSignal port => Sys2Proof.Machine.execSemSignal port s
  | .semAdd port => Sys2Proof.Machine.execSemAdd port s
  | .semRead port => Sys2Proof.Machine.execSemRead port s
  | .remoteWindowAccess who addr size write data => Sys2Proof.Machine.execRemoteWindowAccess who addr size write data s
  | .join device digest fw feat ta tb tc => Sys2Proof.Machine.execJoin device digest fw feat ta tb tc s
  | .admitted => Sys2Proof.Machine.execAdmitted s
  | .leftOut cause => Sys2Proof.Machine.execLeftOut cause s
  | .formationWindowEnd => Sys2Proof.Machine.execFormationWindowEnd s
  | .formed mask hb => Sys2Proof.Machine.execFormed mask hb s
  | .noMaster => Sys2Proof.Machine.execNoMaster s
  | .time msg tol hb => Sys2Proof.Machine.execTime msg tol hb s
  | .heartbeatSend => Sys2Proof.Machine.execHeartbeatSend s
  | .heartbeat at_ delta => Sys2Proof.Machine.execHeartbeat at_ delta s
  | .heartbeatReply device ta tb tc => Sys2Proof.Machine.execHeartbeatReply device ta tb tc s
  | .heartbeatMissed device => Sys2Proof.Machine.execHeartbeatMissed device s
  | .expel mask cause => Sys2Proof.Machine.execExpel mask cause s
  | .frameStart port vc fnum hdr => Sys2Proof.Machine.execFrameStart port vc fnum hdr s
  | .longPacket port vc dataType data crcOk hdr => Sys2Proof.Machine.execLongPacket port vc dataType data crcOk hdr s
  | .frameEnd port vc hdr => Sys2Proof.Machine.execFrameEnd port vc hdr s
  | .ispLine isp => Sys2Proof.Machine.execIspLine isp s
  | .framePublish stream => Sys2Proof.Machine.execFramePublish stream s
  | .frameDeadline stream => Sys2Proof.Machine.execFrameDeadline stream s
  | .goldenWindowEnd stream => Sys2Proof.Machine.execGoldenWindowEnd stream s
  | .frameMissing stream => Sys2Proof.Machine.execFrameMissing stream s
  | .snsCfgWrite who stream value => Sys2Proof.Machine.execSnsCfgWrite who stream value s
  | .passFetch p => Sys2Proof.Machine.execPassFetch p s
  | .orgQpCfgWrite who p value => Sys2Proof.Machine.execOrgQpCfgWrite who p value s
  | .render p shaded binBytes => Sys2Proof.Machine.execRender p shaded binBytes s
  | .tilePhase core => Sys2Proof.Machine.execTilePhase core s
  | .compute p => Sys2Proof.Machine.execCompute p s
  | .computeGroupEnd core writes => Sys2Proof.Machine.execComputeGroupEnd core writes s
  | .passComplete p => Sys2Proof.Machine.execPassComplete p s
  | .passDeadlineMiss p seq => Sys2Proof.Machine.execPassDeadlineMiss p seq s
  | .shaderTrap core code pc => Sys2Proof.Machine.execShaderTrap core code pc s
  | .ogxTex core word tex mask uv => Sys2Proof.Machine.execOgxTex core word tex mask uv s
  | .ogxTexl core word tex mask uv lods => Sys2Proof.Machine.execOgxTexl core word tex mask uv lods s
  | .ogxRes core word tex mask uv => Sys2Proof.Machine.execOgxRes core word tex mask uv s
  | .ogxInterp core word comp mask elems => Sys2Proof.Machine.execOgxInterp core word comp mask elems s
  | .ogxOut core insn frags => Sys2Proof.Machine.execOgxOut core insn frags s
  | .commit who pipe plane value => Sys2Proof.Machine.execCommit who pipe plane value s
  | .latch pipe => Sys2Proof.Machine.execLatch pipe s
  | .dspLinkDown pipe training => Sys2Proof.Machine.execDspLinkDown pipe training s
  | .hpdRise pipe => Sys2Proof.Machine.execHpdRise pipe s
  | .ethFrameReceive port frame ecc => Sys2Proof.Machine.execEthFrameReceive port frame ecc s
  | .transmitStart port => Sys2Proof.Machine.execTransmitStart port s
  | .transmitEnd port => Sys2Proof.Machine.execTransmitEnd port s
  | .gateEntryChange port => Sys2Proof.Machine.execGateEntryChange port s
  | .ethLinkUp port speed => Sys2Proof.Machine.execEthLinkUp port speed s
  | .ethLinkDown port => Sys2Proof.Machine.execEthLinkDown port s
  | .flwWrite who slot => Sys2Proof.Machine.execFlwWrite who slot s
  | .flwDelete who slot => Sys2Proof.Machine.execFlwDelete who slot s
  | .flwQuery who slot => Sys2Proof.Machine.execFlwQuery who slot s
  | .flwCommit slots => Sys2Proof.Machine.execFlwCommit slots s
  | .txDescriptor port ecc => Sys2Proof.Machine.execTxDescriptor port ecc s
  | .rxDeliver port => Sys2Proof.Machine.execRxDeliver port s
  | .ringCfgWrite who ring value => Sys2Proof.Machine.execRingCfgWrite who ring value s
  | .canArbitration n => Sys2Proof.Machine.execCanArbitration n s
  | .canTxDone n result err tec rec_ => Sys2Proof.Machine.execCanTxDone n result err tec rec_ s
  | .canFrameReceive n frame stamp rec_ => Sys2Proof.Machine.execCanFrameReceive n frame stamp rec_ s
  | .errorPassive n tec rec_ => Sys2Proof.Machine.execErrorPassive n tec rec_ s
  | .busOff n err => Sys2Proof.Machine.execBusOff n err s
  | .busOffRecovery n => Sys2Proof.Machine.execBusOffRecovery n s
  | .linFrame who l value => Sys2Proof.Machine.execLinFrame who l value s
  | .noResponse l => Sys2Proof.Machine.execNoResponse l s
  | .cvuContinue who unit fromValue => Sys2Proof.Machine.execCvuContinue who unit fromValue s
  | .cvuCompute who unit fromValue => Sys2Proof.Machine.execCvuCompute who unit fromValue s
  | .append who unit fromValue => Sys2Proof.Machine.execAppend who unit fromValue s
  | .checkStrip who unit fromValue => Sys2Proof.Machine.execCheckStrip who unit fromValue s
  | .cvuOpDone unit => Sys2Proof.Machine.execCvuOpDone unit s
  | .syncReceive port number origin corr ratio => Sys2Proof.Machine.execSyncReceive port number origin corr ratio s
  | .syncSend domain => Sys2Proof.Machine.execSyncSend domain s
  | .pdelayInitiate port => Sys2Proof.Machine.execPdelayInitiate port s
  | .pdelayReq port => Sys2Proof.Machine.execPdelayReq port s
  | .pdelayResp port delay => Sys2Proof.Machine.execPdelayResp port delay s
  | .syncReceiptTimeout domain => Sys2Proof.Machine.execSyncReceiptTimeout domain s
  | .holdoverExpired domain => Sys2Proof.Machine.execHoldoverExpired domain s
  | .timDkStep who domain value => Sys2Proof.Machine.execTimDkStep who domain value s
  | .capture who slot value => Sys2Proof.Machine.execCapture who slot value s
  | .taskRelease task => Sys2Proof.Machine.execTaskRelease task s
  | .gthTaskDone who value => Sys2Proof.Machine.execGthTaskDone who value s
  | .taskDeadlineMiss task => Sys2Proof.Machine.execTaskDeadlineMiss task s
  | .goldenTestDeadline stream => Sys2Proof.Machine.execGoldenTestDeadline stream s
  | .gthWdogKick who value => Sys2Proof.Machine.execGthWdogKick who value s
  | .gthWatchdogTimeout => Sys2Proof.Machine.execGthWatchdogTimeout s
  | .clockMonitor lossOfRef => Sys2Proof.Machine.execClockMonitor lossOfRef s
  | .supplyMonitor overVoltage => Sys2Proof.Machine.execSupplyMonitor overVoltage s
  | .lockstepMismatch group pc => Sys2Proof.Machine.execLockstepMismatch group pc s
  | .sliceStart kind unit => Sys2Proof.Machine.execSliceStart kind unit s
  | .sliceEnd kind unit fault => Sys2Proof.Machine.execSliceEnd kind unit fault s
  | .selftestOverdue kind unit => Sys2Proof.Machine.execSelftestOverdue kind unit s
  | .safeRequest who value reason => Sys2Proof.Machine.execSafeRequest who value reason s
  | .debugToken op signer r sg => Sys2Proof.Machine.execDebugToken op signer r sg s
  | .attest mbx => Sys2Proof.Machine.execAttest mbx s
  | .random mbx => Sys2Proof.Machine.execRandom mbx s
  | .encCreate mbx => Sys2Proof.Machine.execEncCreate mbx s
  | .encImport mbx => Sys2Proof.Machine.execEncImport mbx s
  | .encSeal mbx => Sys2Proof.Machine.execEncSeal mbx s
  | .encDestroy mbx => Sys2Proof.Machine.execEncDestroy mbx s
  | .lcAdvance mbx => Sys2Proof.Machine.execLcAdvance mbx s
  | .revoke signer target record r sg => Sys2Proof.Machine.execRevoke signer target record r sg s
  | .tamper cause => Sys2Proof.Machine.execTamper cause s
  | .wipeDone => Sys2Proof.Machine.execWipeDone s
  | .rngHealth adaptive => Sys2Proof.Machine.execRngHealth adaptive s
  | .glsCtrPolicyWrite who value => Sys2Proof.Machine.execGlsCtrPolicyWrite who value s
  | .msiWrite who core value => Sys2Proof.Machine.execMsiWrite who core value s
  | .inboundWrite port func bar addr data poisoned => Sys2Proof.Machine.execInboundWrite port func bar addr data poisoned s
  | .inboundRead port func bar addr len => Sys2Proof.Machine.execInboundRead port func bar addr len s
  | .outboundAccess who addr size write data => Sys2Proof.Machine.execOutboundAccess who addr size write data s
  | .outboundCompletion port tag err data => Sys2Proof.Machine.execOutboundCompletion port tag err data s
  | .completionTimeout port tag => Sys2Proof.Machine.execCompletionTimeout port tag s
  | .hifRprCfgDataAccess who port write value reply => Sys2Proof.Machine.execHifRprCfgDataAccess who port write value reply s
  | .flr inst => Sys2Proof.Machine.execFlr inst s
  | .vfEnableClear => Sys2Proof.Machine.execVfEnableClear s
  | .pcieLinkDown port => Sys2Proof.Machine.execPcieLinkDown port s
  | .openMbx mbx => Sys2Proof.Machine.execOpenMbx mbx s
  | .closeMbx mbx => Sys2Proof.Machine.execCloseMbx mbx s
  | .attach mbx => Sys2Proof.Machine.execAttach mbx s
  | .beat who inst value => Sys2Proof.Machine.execBeat who inst value s
  | .heartbeatLapse inst => Sys2Proof.Machine.execHeartbeatLapse inst s
  | .detachExpiry inst => Sys2Proof.Machine.execDetachExpiry inst s
  | .freeze mbx => Sys2Proof.Machine.execFreeze mbx s
  | .freezeTimeout inst => Sys2Proof.Machine.execFreezeTimeout inst s
  | .save mbx => Sys2Proof.Machine.execSave mbx s
  | .restore mbx => Sys2Proof.Machine.execRestore mbx s
  | .thaw mbx => Sys2Proof.Machine.execThaw mbx s
  | .discard mbx => Sys2Proof.Machine.execDiscard mbx s
  | .updBegin mbx => Sys2Proof.Machine.execUpdBegin mbx s
  | .updBlock mbx => Sys2Proof.Machine.execUpdBlock mbx s
  | .updStage mbx => Sys2Proof.Machine.execUpdStage mbx s
  | .updActivate mbx => Sys2Proof.Machine.execUpdActivate mbx s
  | .kprHandoverReady who value => Sys2Proof.Machine.execKprHandoverReady who value s
  | .handoverFail => Sys2Proof.Machine.execHandoverFail s
  | .activationRetry => Sys2Proof.Machine.execActivationRetry s
  | .updAbort mbx => Sys2Proof.Machine.execUpdAbort mbx s
  | .updCommit mbx => Sys2Proof.Machine.execUpdCommit mbx s
  | .logRead mbx => Sys2Proof.Machine.execLogRead mbx s
  | .journalRead mbx => Sys2Proof.Machine.execJournalRead mbx s
  | .kprWdogKick who value => Sys2Proof.Machine.execKprWdogKick who value s
  | .keeperRestart => Sys2Proof.Machine.execKeeperRestart s
  | .logCollect idx => Sys2Proof.Machine.execLogCollect idx s
  | .logWrite => Sys2Proof.Machine.execLogWrite s
  | .limiterTick power temps => Sys2Proof.Machine.execLimiterTick power temps s
  | .droop sensor => Sys2Proof.Machine.execDroop sensor s
  | .droopRelease => Sys2Proof.Machine.execDroopRelease s
  | .railFault rail => Sys2Proof.Machine.execRailFault rail s
  | .pllUnlock => Sys2Proof.Machine.execPllUnlock s
  | .linFrameEnd l data checksum framing bitErr => Sys2Proof.Machine.execLinFrameEnd l data checksum framing bitErr s
  | .pcieLinkUp port speed width => Sys2Proof.Machine.execPcieLinkUp port speed width s
  | .busMasterEnableSet inst numVfs => Sys2Proof.Machine.execBusMasterEnableSet inst numVfs s
  | .pinInterrupt pin level => Sys2Proof.Machine.execPinInterrupt pin level s
  | .halfFormWindow => Sys2Proof.Machine.execHalfFormWindow s

end Sys2Proof.Machine
end

