-- ==== Sys2Proof/Machine/Idle.lean ====
section
/-! DEFINITION. What the block does while no command waits: one clock cycle passes (R371), and what waits only for the
machine's own state goes on. -/

namespace Sys2Proof.Machine

/-- One idle step (DESIGN CHOICE, log entry 3): a cycle of the clock of device time; controllers that quieten turn off
(R358), instances whose last command ended close or freeze (R494, R495), a handover whose other requests ended goes on
(R534). -/
def State.idle (s : State) : State := s.clockCycle.canSettleAll.settleHost.settleHandover

end Sys2Proof.Machine
end

