-- ==== Sys2Proof/Safety.lean ====
section
/-! DEFINITION. What counts as a good state (every memory that the block holds by address, its registers and its semaphores
are in their one canonical form), and the conditions under which a command has its own effect, as the statements name
them. -/

namespace Sys2Proof.Machine

/-- DRAM, the scratchpads, the boot flash, the registers and the semaphores are in canonical form: keys rise strictly, and
no entry equals what an unlisted key reads as. -/
def State.wf (s : State) : Bool :=
  swf (fun _ => (0 : Byte)) s.dram && swf (padDefault s.padLost) s.pads && swf (fun _ => (0xFF : Byte)) s.flash
    && swf regDefault s.regs && swf (fun _ => (0 : Nat)) s.tensor.sems

/-! ### Conditions of commands -/

/-- An access of `n` bytes from `a` on goes through at once: it lies in DRAM, no page refuses it (R63), and no request waits in
the device. -/
abbrev State.accessFree (s : State) (st : Stamp) (a n : Nat) (write : Bool) : Prop :=
  a + n ≤ dramSize ∧ s.firstRefused st a n write = none ∧ s.waitingReqs = 0

/-- The dispatched command of queue `q` with SEQ `seq` is `f`, of opcode `op`, and it may run now (R97, R117): it has not
started, every operation of its context that its Pavilions accepted earlier has, none of its operations has completed, no step of
its space waits for the Grove (R195), no self-test slice holds its Trellis, its clock runs (R545), and safe state does not
hold. -/
def State.mayRun (s : State) (q seq op : Nat) (f : Flight) : Prop :=
  s.flight? q seq = some f ∧ f.cmd.opcode = op ∧ f.startTime = none ∧ s.safe.safe = false ∧ s.inTurn f = true ∧
    s.stepOpening f.cmd = false ∧ ∀ o ∈ f.ops, o.status = none ∧ s.slicing 1 o.pav = false ∧ s.clockOff o.pav = false

/-- After the step from `s` to `t` the command has started at the device time of `s`, and every operation of it can complete
with `status`. -/
def State.ranWith (s t : State) (q seq status : Nat) : Prop :=
  ∃ g, t.flight? q seq = some g ∧ g.startTime = some s.now ∧ ∀ o ∈ g.ops, o.ready = some status

/-- The state `t` holds what running an operator left in `u`: memories, registers, records, Beds, spaces, semaphores and plan. -/
def State.holds (t u : State) : Prop :=
  t.dram = u.dram ∧ t.pads = u.pads ∧ t.padLost = u.padLost ∧ t.regs = u.regs ∧ t.log = u.log ∧ t.tensor.beds = u.tensor.beds ∧
    t.tensor.spaces = u.tensor.spaces ∧ t.tensor.sems = u.tensor.sems ∧ t.plan = u.plan

/-- What a command that runs an operator answers from `s`, where the Bed starts candidate `c` and running it gives `r`: with no
refused access the state holds what running it left, and the command holds its flags (R179); a refused access ends the command with
that status, unless an earlier one counts (R119). -/
def State.opAnswers (c : Cand) (o : Host.Outcome State Fault Refusal) (r : OpResult) : Prop :=
  (∀ g, r.2 = .ok g → ∃ t, o = .next t ∧ t.holds r.1 ∧
    ∀ f, r.1.flight? c.flight.queue c.flight.cmd.seq = some f → g ≠ NumFlags.none →
      (t.flight? c.flight.queue c.flight.cmd.seq).map (·.flags) = some (f.flags.or g)) ∧
  (∀ w g f, r.2 = .error (w, g) → r.1.flight? c.flight.queue c.flight.cmd.seq = some f →
    ∃ t h, o = .next t ∧ t.dram = r.1.dram ∧ t.pads = r.1.pads ∧ t.padLost = r.1.padLost ∧
      t.flight? c.flight.queue c.flight.cmd.seq = some h ∧ h.bad = (f.report r.1.dt (c.part.bed / 8) w).bad ∧
      ∀ x ∈ h.ops, x.status.isSome = true)

/-! ### Operands of operators -/

/-- Input and output `k` of an operator. -/
def Cand.input (c : Cand) (k : Nat) : TensorRec := ((c.prog.opTensors c.op).take c.op.nIn).getD k noTensor
def Cand.output (c : Cand) (k : Nat) : TensorRec := ((c.prog.opTensors c.op).drop c.op.nIn).getD k noTensor

/-- Element `i` of a tensor can be stored: it exists, its format stores it, and of an MX format its whole group exists. -/
def TensorRec.takes (t : TensorRec) (i : Nat) : Prop :=
  elemBits (fmtElem t.format) ≠ 0 ∧ fmtBlock t.format ≠ 3 ∧ i < t.count ∧ (fmtBlock t.format = 1 → 32 * (i / 32) + 32 ≤ t.count)

/-- The range of `n` bytes from `off` on of a tensor's binding may be accessed by the operator: within its share (R108), or in DRAM
where the owner check lets it pass; a weight segment is only read (R167). -/
def State.pieceOpen (s : State) (c : Cand) (t : TensorRec) (write : Bool) (off n : Nat) : Prop :=
  let dram (a : Nat) : Prop := a + n ≤ dramSize ∧ s.firstRefused (s.bedStamp c.part.bed c.flight) a n write = none
  match s.bindAddr c t off with
  | .share o => o + n ≤ (s.residentShare c.prog.ctx c.part.bed).2
  | .segment a => write = false ∧ dram a
  | .dram a => dram a

/-- The operator may read all of its inputs (R164), and no request waits in the device. -/
def State.readsOpen (s : State) (c : Cand) : Prop :=
  s.waitingReqs = 0 ∧ ∀ t ∈ (c.prog.opTensors c.op).take c.op.nIn,
    ∀ p ∈ pagePieces t.offset (fmtDataBytes t.format t.count) ++ pagePieces t.scaleOffset (fmtScaleBytes t.format t.count),
      s.pieceOpen c t false p.1 p.2

/-- The operator may write every range of bytes of a tensor's elements and of its scale array. -/
def State.writesOpen (s : State) (c : Cand) (t : TensorRec) : Prop :=
  ∀ off n, 0 < n → (t.offset ≤ off ∧ off + n ≤ t.offset + fmtDataBytes t.format t.count ∨
    t.scaleOffset ≤ off ∧ off + n ≤ t.scaleOffset + fmtScaleBytes t.format t.count) → s.pieceOpen c t true off n

/-- An EXCHANGE may access `n` bytes at an address: its own DRAM where the owner check lets it pass, or a remote window, which takes
every one of the requests that the access makes (R263); a write makes requests of whole words. -/
def State.windowOpen (s : State) (st : Stamp) (addr n : Nat) (write : Bool) : Prop :=
  let a := s.localAddr addr
  n = 0 ∨
  match remoteWindow a with
  | none => a + n ≤ dramSize ∧ s.firstRefused st a n write = none
  | some _ =>
    let lo := a / 64 * 64
    (write = true → a % 64 = 0 ∧ n % 64 = 0) ∧
      ∀ p ∈ remotePieces (n / 64 + 2) lo ((a + n + 63) / 64 * 64 - lo),
        ∃ d off, remoteWindow p.1 = some (d, off) ∧ s.windowReason st d off p.2 write = none

/-- Something sent out that is a CTRL message between devices of the Grove. -/
def Out.isCtrl (o : Out) : Bool :=
  match o with
  | .ctrl _ _ => true
  | _ => false

/-- The CTRL messages sent so far. -/
def State.ctrls (s : State) : List Out := s.out.filter Out.isCtrl

/-! ### Accesses that change no machine -/

/-- From `s` to `t` only registers, fault records, free values and the last answer may differ: every memory, queue, plan, engine
and mode is as it was, and nothing was sent out. -/
def State.machineKept (s t : State) : Prop :=
  t.pending = s.pending ∧ t.dt = s.dt ∧ t.out = s.out ∧ t.plan = s.plan ∧ t.spl = s.spl ∧ t.dram = s.dram ∧ t.pads = s.pads ∧
    t.padLost = s.padLost ∧ t.pinCtl = s.pinCtl ∧ t.sysDma = s.sysDma ∧ t.flash = s.flash ∧ t.safe = s.safe ∧ t.mem = s.mem ∧ t.tensor = s.tensor ∧ t.pwr = s.pwr ∧ t.kpr = s.kpr ∧
    t.gth = s.gth ∧ t.gls = s.gls ∧ t.host = s.host ∧ t.elx = s.elx ∧ t.tim = s.tim ∧ t.net = s.net ∧ t.sns = s.sns ∧
    t.org = s.org ∧ t.dsp = s.dsp ∧ t.pins = s.pins

/-- An address that its block lists no register for (R576): the block and its instance. -/
def unlistedAt (a : Nat) : Option (Block × Nat) :=
  if (regAt a).isSome || (telltaleOff a).isSome || insideReg a then none else blockAt a

/-- An access of register space at another size or alignment than what stands there has (R9): the block and instance that
refuse it. A memory in register space takes 1, 2, 4 or 8 bytes, an unlisted offset 4 or 8, naturally aligned (R576). -/
def wrongSize (a size : Nat) : Option (Block × Nat) :=
  match regAt a with
  | some (d, ix) => if size * 8 = d.width then none else some (d.block, d.inst ix)
  | none => match telltaleOff a with
    | some _ => if plainSize a size then none else some (.dsp, Block.unitAt .dsp a)
    | none => if (unlistedAt a).isSome && (size == 4 || size == 8) && a % size == 0 then none else blockAt a

/-! ### Requests to the Keeper -/

/-- The request that waits in mailbox `m` is taken now: it is not in service, the Keeper serves (R531), and no request that must be
answered before it waits (R175, R222, R438). -/
def State.takes (s : State) (m : Mbx) : Prop :=
  (s.mbx (mbxKey m)).busy = true ∧ (s.mbx (mbxKey m)).serving = false ∧ s.keeperServes = true ∧ s.mbxTurn (mbxKey m) = true

/-- SEQ, opcode and body of the request in a mailbox (Table 15-5). -/
def State.reqSeq (s : State) (m : Mbx) : Nat := fld (s.mbx (mbxKey m)).req 0 4
/-- Its opcode. -/
def State.reqOp (s : State) (m : Mbx) : Nat := fld (s.mbx (mbxKey m)).req 4 2
/-- Its body. -/
def State.reqBody (s : State) (m : Mbx) : List Byte := sub (s.mbx (mbxKey m)).req 0x10 48

/-- The Keeper executes the request of opcode `op` in mailbox `m` now: it is taken, it repeats none of the last 64 completed ones
(R483), and nothing refuses it before its own checks (R480, R484, R515 to R517). -/
def State.asks (s : State) (m : Mbx) (op : Nat) : Prop :=
  s.takes m ∧ s.reqOp m = op ∧
    (op = 1 ∨ op = 3 ∨ ∀ r ∈ (s.mbx (mbxKey m)).window, r.seq ≠ s.reqSeq m) ∧
    s.mbxGate (mbxKey m) (s.mbx (mbxKey m)).req = none

/-- The commands by which the Keeper serves the requests of a mailbox, with their opcodes. -/
def mbxCommands (m : Mbx) : List (Nat × Instr) :=
  [(0x10, .load m), (0x11, .unload m), (0x20, .ctxCreate m), (0x21, .ctxDestroy m), (0x22, .ctxBind m), (0x23, .ctxUnbind m),
   (0x24, .ctxStats m), (0x30, .attest m), (0x31, .random m), (0x32, .encCreate m), (0x33, .encImport m), (0x34, .encSeal m),
   (0x35, .encDestroy m), (0x36, .lcAdvance m), (0x41, .save m), (0x42, .restore m), (0x43, .thaw m), (0x44, .discard m),
   (0x50, .updBegin m), (0x51, .updBlock m), (0x52, .updStage m), (0x54, .updAbort m), (0x55, .updCommit m),
   (0x60, .logRead m), (0x61, .journalRead m), (0x70, .plotRestart m)]

end Sys2Proof.Machine
end

