-- ==== Sys2Proof/Certificates/Slice0/Obligations.lean ====
section
/-! DEFINITION. The statements for the provers: what the commands of each family do, by the numbered rules of spec/, and what
every step keeps. -/

open Sys2Proof Sys2Proof.Machine

/-- O1. A step takes the command at the front of the queue and runs it on the rest. Derived: Cites
spec/opcode_table.json, spec/00_scope.md. -/
def Obligations.StepRunsTheFrontCommand : Prop :=
  ∀ (c : Instr) (s : State), step (s.enqueueFront c) = exec c s

/-- O2. Right after reset every memory and the register map are in canonical form, with no plan and no command.
Derived: Cites spec/02_memory_system.md, spec/00_scope.md. -/
def Obligations.ResetIsCanonical : Prop :=
  State.reset.wf = true ∧ State.reset.pending = [] ∧ State.reset.plan = none ∧ State.reset.safe.safe = false

/-- O3. Every step keeps the canonical form of DRAM, scratchpads, flash and registers. Derived: Cites
spec/02_memory_system.md, spec/03_pavilions_and_beds.md, spec/16_keeper_firmware.md. -/
def Obligations.StepKeepsCanonicalForm : Prop :=
  ∀ (s t : State), s.wf = true → step s = .next t → t.wf = true

/-- O4. Safe state and the accepted Site Plan last until a device reset, whatever command runs. Cites R46, R418. -/
def Obligations.SafeStateAndThePlanLastUntilReset : Prop :=
  ∀ (s t : State), step s = .next t →
    ((s.safe.safe = true → t.safe.safe = true) ∧ ∀ p, s.plan = some p → t.plan = some p) ∨
    ((∃ c, s.pending.head? = some c ∧ (c = .powerOnReset ∨ c = .powerFail ∨ c = .resetNFall ∨ ∃ m, c = .lcAdvance m)) ∧
      ∃ (u : State) (p : PwrSt), t = { u.deviceReset with pwr := p })

/-- O5. Power-on, power fail, RESET_N falling and rising: what they leave. Derived: Cites
spec/17_power_clocks_and_thermal.md, spec/12_time.md. -/
def Obligations.ResetEventsReturnEverything : Prop :=
  ∀ (s : State),
    let clean (p : PwrSt) : State := { State.reset with
      pending := s.pending, free := s.free, resp := s.resp, out := s.out, flash := s.flash, pwr := p,
      kpr := { bcb := s.kpr.bcb }, gls := { otp := s.gls.otp }, pins := s.pins }
    let aon := if s.pwr.por then 3 else 0
    exec .powerOnReset s = .next (clean { por := true, rails := 3 }) ∧
    exec .powerFail s = .next (clean { por := false, rails := aon }) ∧
    exec .resetNFall s = .next (clean { por := s.pwr.por, rails := aon }) ∧
    (∀ (g : Fin 8) (h : Bool), s.pwr.por = true → s.pwr.running = false →
      exec (.resetNRise g h) s = .next { s with dt := 0, pwr :=
        if s.pwr.strapped then { s.pwr with running := true }
        else { s.pwr with running := true, strapped := true, groveId := g.val, hostMode := h } })

/-- O6. The root PLL starts the boot; rails 1 to 9 are enabled one after another. Derived: Cites
spec/17_power_clocks_and_thermal.md, spec/16_keeper_firmware.md, spec/18_package_and_electrical.md. -/
def Obligations.BootStartsAndRailsFollowInOrder : Prop :=
  (∀ (glsOk rngOk sfdp8d : Bool) (s : State), s.pwr.running = true → s.pwr.pll = false → s.kpr.stopped = false →
    s.kpr.bcb.length = 2 → s.kpr.logOpen = false →
    ∃ t, exec (.rootPllLock (glsOk, rngOk) sfdp8d) s = .next t ∧ t.pwr.pll = true ∧ t.dt = s.dt ∧
      t.pwr.xspi8d = (glsOk && sfdp8d) ∧
      (glsOk = false → t.kpr.stopped = true ∧ t.pwr.enabled = s.pwr.enabled ∧
        t.kpr.journal = s.kpr.journal ++ [⟨1, 3, stHW_ERROR, 0xFF, s.now, []⟩]) ∧
      (glsOk = true → t.kpr.bootCount = (s.control.bootCount + 1) % 2 ^ 32 ∧ t.gls.rngOk = rngOk) ∧
      (t.kpr.stopped = false → t.pwr.enabled = 1 ∧ t.pwr.enabledAt = s.now)) ∧
  (∀ (k : Fin 9) (r : Bool) (b : BootIn) (s : State), s.kpr.stopped = false → s.pwr.railsDone = false →
    s.pwr.enabled = k.val + 1 →
    (r = true → s.now ≤ s.pwr.enabledAt + 200000 → k.val < 8 →
      exec (.railInRegulation k r b) s = .next { s with pwr := { s.pwr with
        rails := setBit s.pwr.rails (k.val + 2), enabled := k.val + 2, enabledAt := s.now } }) ∧
    (r = true → s.now ≤ s.pwr.enabledAt + 200000 → k.val = 8 →
      ∃ t, exec (.railInRegulation k r b) s = .next t ∧ t.pwr.railsDone = true ∧ t.pwr.rails = setBit s.pwr.rails 10) ∧
    ((r = false ∨ s.pwr.enabledAt + 200000 < s.now) →
      ∃ t, exec (.railInRegulation k r b) s = .next t ∧ t.kpr.stopped = true ∧ t.pwr = s.pwr ∧
        t.kpr.journal = s.kpr.journal ++ [⟨5, 3, stHW_ERROR, 0xFF, s.now, []⟩]))

/-- O7. A limiter tick takes its measurement and moves at most one group by one level. Derived: Cites R547, R549,
R550, spec/17_power_clocks_and_thermal.md. -/
def Obligations.LimiterTickMovesOneLevel : Prop :=
  (∀ (a b c : Nat) (gs : List Nat), (∀ g ∈ gs, g = 1 ∨ g = 2 ∨ g = 3) →
    (1 ≤ a ∧ a ≤ 16) → (1 ≤ b ∧ b ≤ 16) → (1 ≤ c ∧ c ≤ 16) →
    (∃ x y z, lowerLevels gs [a, b, c] = [x, y, z] ∧ 1 ≤ x ∧ x ≤ a ∧ 1 ≤ y ∧ y ≤ b ∧ 1 ≤ z ∧ z ≤ c ∧
      a + b + c ≤ x + y + z + 1) ∧
    (∃ x y z, raiseLevels gs [a, b, c] = [x, y, z] ∧ a ≤ x ∧ x ≤ 16 ∧ b ≤ y ∧ y ≤ 16 ∧ c ≤ z ∧ z ≤ 16 ∧
      x + y + z ≤ a + b + c + 1)) ∧
  (∀ (power : BitVec 32) (temps : List (BitVec 16)) (s : State),
    ∃ t, exec (.limiterTick power temps) s = .next t ∧ t.pwr.power = power.toNat ∧
      t.pwr.energy = s.pwr.energy + power.toNat ∧
      (∀ i, i < 28 → i < temps.length → t.pwr.temps.getD i 0 = (temps.map BitVec.toNat).getD i 0) ∧
      t.regs = s.regs ∧ t.dram = s.dram ∧ t.plan = s.plan ∧ t.pwr.rails = s.pwr.rails ∧
      (s.pwr.emPower = false → t.pwr.emPower = false →
        let w := s.rd .pctLimitMw 0
        let p := power.toNat
        (w < p → t.pwr.lim = lowerLevels s.groups s.pwr.lim) ∧
        (p ≤ w → (∃ t0, s.pwr.below = some t0 ∧ t0 + 1000000 ≤ s.now) → 100 * p < 98 * w →
          t.pwr.lim = raiseLevels s.groups s.pwr.lim) ∧
        (p ≤ w → ¬ 100 * p < 98 * w → t.pwr.lim = s.pwr.lim)))

/-- O8. Droop, its release, a rail fault, a lost PLL lock and the Gatehouse monitors. Derived: Cites R542, R546, R551,
R392, spec/17_power_clocks_and_thermal.md, spec/13_safety.md. -/
def Obligations.SupplyAndClockEvents : Prop :=
  (∀ (k : Fin 8) (s : State), s.pwr.droop = none →
    exec (.droop k) s = .next ({ s with pwr := { s.pwr with droop := some (s.now, k.val) } }.bump .pctDroopCount 0 1)) ∧
  (∀ (t0 k : Nat) (s : State), s.pwr.droop = some (t0, k) →
    (s.now - t0 - 1000 ≤ 10000 → exec .droopRelease s = .next { s with pwr := { s.pwr with droop := none } }) ∧
    (10000 < s.now - t0 - 1000 → exec .droopRelease s = .next { s with
      pwr := { s.pwr with droop := none },
      log := { s.log with raised := s.log.raised ++ [⟨s.now, 0x1400, 0x10, 0, stDONE, 0xFF, 0xFFFF, 0,
        min (s.now - t0 - 1000) 0xFFFFFFFF + 0x100000000 * k⟩] } })) ∧
  (∀ (k : Fin 9) (s : State), s.pwr.railsDone = true →
    ∃ t, exec (.railFault k) s = .next t ∧ t.pwr = { s.pwr with rails := clrBit s.pwr.rails (k.val + 2) } ∧
      t.safe.safe = true ∧ t.regs = s.regs ∧ t.dram = s.dram ∧
      t.log.raised = s.log.raised ++ [⟨s.now, 0x1400, 0x13, 4, stHW_ERROR, 0xFF, 0xFFFF, 0, k.val + 1⟩]) ∧
  (∀ (s : State), ∃ t, exec .pllUnlock s = .next t ∧ t.safe.safe = true ∧ t.regs = s.regs ∧ t.dram = s.dram ∧
    t.log.raised = s.log.raised ++ [⟨s.now, 0x1400, 0x14, 4, stHW_ERROR, 0xFF, 0xFFFF, 0, 0⟩]) ∧
  (∀ (b : Bool) (s : State), ∃ t, exec (.clockMonitor b) s = .next t ∧ t.safe.safe = true ∧ t.regs = s.regs ∧
    t.dram = s.dram ∧ t.log.raised = s.log.raised ++ [⟨s.now, srcId .gth 0, 0x16, 4, stHW_ERROR, 0xFF, 0xFFFF, 0,
      b2n b⟩]) ∧
  (∀ (b : Bool) (s : State), ∃ t, exec (.supplyMonitor b) s = .next t ∧ t.safe.safe = true ∧ t.regs = s.regs ∧
    t.dram = s.dram ∧ t.log.raised = s.log.raised ++ [⟨s.now, srcId .gth 0, 0x17, 4, stHW_ERROR, 0xFF, 0xFFFF, 0,
      b2n b⟩])

/-- O9. The fault-log collector holds a record in order for 10 µs and then writes it to the ring. Derived: Cites R18,
R520, spec/16_keeper_firmware.md. -/
def Obligations.LogCollectorHoldsAndWrites : Prop :=
  (∀ (i : Nat) (r : FaultRec) (s : State), s.log.raised[i]? = some r →
    (s.log.held.length < 4096 → s.now ≤ r.time + 10000 →
      ∃ t, exec (.logCollect i) s = .next t ∧
        t.log = { raised := s.log.raised.eraseIdx i, held := insBy recLt r s.log.held } ∧
        t.dram = s.dram ∧ t.kpr = s.kpr ∧ t.plan = s.plan) ∧
    (4096 ≤ s.log.held.length → r.severity = 0 →
      exec (.logCollect i) s = .next ({ s with log := { s.log with raised := s.log.raised.eraseIdx i } }.bump
        .kprLogDropped 0 1))) ∧
  (∀ (r : FaultRec) (rest : List FaultRec) (s : State), s.wf = true → s.log.held = r :: rest → r.time + 10000 ≤ s.now →
    ∃ t, exec .logWrite s = .next t ∧ t.log = { s.log with held := rest } ∧
      t.kpr = { s.kpr with logWr := (s.kpr.logWr + 1) % 2 ^ 64 } ∧ t.regs = s.regs ∧
      let p := logRing + 32 * (s.kpr.logWr % 2097152)
      (s.channelOut (reservedPage p).1 = true → t.dram = s.dram) ∧
      (s.channelOut (reservedPage p).1 = false → ∀ a, a < 32 → t.dramByte (p + a) = r.bytes.getD a 0) ∧
      (∀ a, a < p ∨ p + 32 ≤ a → t.dramByte a = s.dramByte a))

/-- O10. A DRAM request waits in the hold queue of its port under the stamp that the port gives it, or hits in the
cache. Derived: Cites R56, R59, R82, R432, R433, R434, spec/02_memory_system.md. -/
def Obligations.DramRequestIsStampedAndHeld : Prop :=
  ∀ (who : Who) (a : BitVec 48) (len : Nat) (w : Bool) (data : List Byte) (cache : CacheUse) (s : State),
    (len = 64 ∨ len = 128 ∨ len = 256) → a.toNat % len = 0 → a.toNat + len ≤ dramSize → (w = true → data.length = len) →
    let st := s.stampOf who
    let looked : Bool := decide (cache = .cached) && usesCache who && !(s.cacheWays st).isEmpty
    let hit : Bool := looked && !w && s.cacheHits st (linesOf a.toNat len)
    let mine (x : CacheLine) : Bool := (linesOf a.toNat len).any (fun l => x.isFor st l)
    let req : DramReq := ⟨st, a.toNat, len, w, data, s.now, looked⟩
    (cache ≠ .maintain → hit = false → (s.pageOf a.toNat).isSome = true →
      ∃ t, exec (.dramRequest who a len (w, cache) data) s = .next t ∧
        sget (fun _ => []) (t.port st.port).hold (holdIdx st) = sget (fun _ => []) (s.port st.port).hold (holdIdx st) ++ [req] ∧
        (∀ i, i ≠ holdIdx st → sget (fun _ => []) (t.port st.port).hold i = sget (fun _ => []) (s.port st.port).hold i) ∧
        (∀ q, q ≠ st.port → t.port q = s.port q) ∧
        t.mem.cache = (if looked && w then s.mem.cache.filter (fun x => !mine x) else s.mem.cache) ∧
        t.mem.mcc = s.mem.mcc ∧ t.mem.entries = s.mem.entries ∧ t.dram = s.dram ∧ t.log = s.log ∧ t.safe = s.safe) ∧
    (cache ≠ .maintain → hit = false → s.pageOf a.toNat = none →
      ∃ t, exec (.dramRequest who a len (w, cache) data) s = .next t ∧
        t.resp = ⟨stOWNER_FAULT, if w then [] else zeros len⟩ ∧ t.mem.ports = s.mem.ports ∧ t.mem.mcc = s.mem.mcc ∧
        t.mem.entries = s.mem.entries ∧ t.dram = s.dram) ∧
    (hit = true →
      ∃ t, exec (.dramRequest who a len (w, cache) data) s = .next t ∧ t.mem = s.mem ∧ t.dram = s.dram ∧ t.regs = s.regs ∧
        t.resp = ⟨stDONE, (s.hitLines st (linesOf a.toNat len)).1⟩ ∧
        ((∀ l ∈ linesOf a.toNat len, ∀ x ∈ s.mem.cache, x.isFor st l = true → x.data = s.dramGet (64 * l) 64) →
          t.resp.data = s.dramGet a.toNat len)) ∧
    (cache = .maintain →
      ∃ t, exec (.dramRequest who a len (w, cache) data) s = .next t ∧ t.resp = ⟨stDONE, []⟩ ∧ t.dram = s.dram ∧
        t.mem.ports = s.mem.ports ∧ t.mem.cache = (if usesCache who then s.mem.cache.filter (fun x => !mine x) else s.mem.cache))

/-- O11. The owner check passes exactly the requests that own the page, with the security, context and write right it
asks. Derived: Cites R56, R58, R63, R74, spec/02_memory_system.md. -/
def Obligations.OwnerCheckPassesOnlyOwners : Prop :=
  ∀ (s : State) (st : Stamp) (a : Nat) (w : Bool),
    (reservedBase ≤ a → (s.ownerCheck st a w = none ↔
      reservedOk st a = true ∧ entryState (s.entry (reservedPage a).1 (reservedPage a).2) ≠ 2)) ∧
    (a < reservedBase → s.plan = none → s.ownerCheck st a w = some 0x01) ∧
    (∀ p, a < reservedBase → s.plan = some p → p.region a = none → s.ownerCheck st a w = some 0x01) ∧
    (∀ p r, a < reservedBase → s.plan = some p → p.region a = some r →
      let e := s.entry (p.page r a).1 (p.page r a).2
      (s.ownerCheck st a w = none ↔
        st.plot = r.plot ∧ entryState e = 1 ∧ entryPlot e = st.plot ∧ (r.secure = true ∨ bit e 6 = true → st.secure = true) ∧
        subOk (entrySub e) st = true ∧ (w = true → bit e 7 = false)))

/-- O12. A master port grants one request from its pointer on, and it enters a slot of its channel. Derived: Cites
R82, R83, R87, spec/02_memory_system.md. -/
def Obligations.PortGrantsTheNextRequestASlot : Prop :=
  (∀ (q : Fin 161) (s : State), 144 ≤ q.val → portLimit q.val ≤ s.inFlight q.val →
    exec (.holdQueueGrant q) s = .next s) ∧
  (∀ (q : Fin 161) (s : State) (r : DramReq) (rest : List DramReq) (tier : Tier), 144 ≤ q.val →
    s.inFlight q.val < portLimit q.val → (s.port q.val).rr < 129 →
    sget (fun _ => []) (s.port q.val).hold (s.port q.val).rr = r :: rest → s.tierFor (s.channelOf r.addr) r = some tier →
    ∃ t, exec (.holdQueueGrant q) s = .next t ∧
      t.mem.ports = sset (fun _ => {}) s.mem.ports q.val
        { hold := sset (fun _ => []) (s.port q.val).hold (s.port q.val).rr rest, rr := ((s.port q.val).rr + 1) % 129 } ∧
      (t.mccOf (s.channelOf r.addr)).slots = insBy slotLt ⟨r, tier, s.dt⟩ (s.mccOf (s.channelOf r.addr)).slots ∧
      (t.mccOf (s.channelOf r.addr)).half = (s.mccOf (s.channelOf r.addr)).half ∧
      t.mem.entries = s.mem.entries ∧ t.dram = s.dram ∧ t.log = s.log)

/-- O13. The controller serves no request while another that may be served ranks before it. Derived: Cites R84, R87. -/
def Obligations.MccChoosesTheBestRank : Prop :=
  ∀ (m : MccSt) (p : SlotReq → Bool) (i : Nat) (x : SlotReq), m.choose p = some (i, x) →
    p x = true ∧ m.slots[i]? = some x ∧
    (∀ y ∈ serveable [] m.slots 0, p y.2 = true → rankLt (rankKey m.rr y.2) (rankKey m.rr x) = false) ∧
    (∀ y ∈ serveable [] m.slots 0, p y.2 = true → y.2.tier = .device → x.tier = .device) ∧
    (∀ y ∈ serveable [] m.slots 0, p y.2 = true → y.2.tier = .guaranteed → x.tier ≠ .shared)

/-- O14. A served request is checked against its owner and then done whole, or refused whole. Derived: Cites R63, R64,
R84, spec/02_memory_system.md. -/
def Obligations.MccServesAChosenRequest : Prop :=
  ∀ (c : Fin 128) (e e2 : EccEvent) (s : State) (x : SlotReq), x.tier ≠ .guaranteed →
    let m := s.mccOf c.val
    let left (i : Nat) : MccSt :=
      { slots := m.slots.eraseIdx i, rr := if x.tier = .shared then (holdIdx x.req.stamp + 1) % 129 else m.rr }
    (∀ i, m.half = none → m.choose (fun _ => true) = some (i, x) → x.req.len = 256 →
      exec (.mccServe c e e2) s = .next (s.setMcc c.val { left i with half := some x })) ∧
    ∀ s1 : State,
      ((∃ i, m.half = none ∧ m.choose (fun _ => true) = some (i, x) ∧ x.req.len ≠ 64 ∧ x.req.len ≠ 256 ∧
          s1 = s.setMcc c.val (left i)) ∨
        (m.half = some x ∧ s1 = s.setMcc c.val { m with half := none })) →
      let cls := x.req.stamp.cls % 8
      let data := s.dramGet x.req.addr x.req.len
      (∀ reason, s.ownerCheck x.req.stamp x.req.addr x.req.write = some reason →
        ∃ t, exec (.mccServe c e e2) s = .next t ∧
          t.resp = ⟨stOWNER_FAULT, if x.req.write then [] else zeros x.req.len⟩ ∧ t.mem = s1.mem ∧ t.dram = s.dram ∧
          t.regs = s.regs) ∧
      (s.ownerCheck x.req.stamp x.req.addr x.req.write = none → x.req.write = true → e = .clean →
        exec (.mccServe c e e2) s = .next (((((s1.count .mccClsWr (8 * c.val + cls) x.req.len).dramPut x.req.addr
          x.req.data).cacheDone x.req []).answer stDONE []).send (.memDone x.req.stamp x.req.addr true stDONE []))) ∧
      (s.ownerCheck x.req.stamp x.req.addr x.req.write = none → x.req.write = false → e = .clean →
        exec (.mccServe c e e2) s = .next ((((s1.count .mccClsRd (8 * c.val + cls) x.req.len).cacheDone x.req data).answer
          stDONE data).send (.memDone x.req.stamp x.req.addr false stDONE data)))

/-- O15. The patrol scrub: a clean page, a corrected error, an uncorrectable error. Derived: Cites R72, R74, R77,
spec/02_memory_system.md. -/
def Obligations.ScrubAppliesTheEccRules : Prop :=
  ∀ (c : Fin 128) (j : Fin 131072) (s : State),
    let a := (s.addrOfPage c.val j.val).getD 0
    (∀ e : EccEvent, ∃ t, exec (.scrub c j e) s = .next t ∧ t.dram = s.dram ∧ t.pads = s.pads ∧ t.plan = s.plan) ∧
    exec (.scrub c j .clean) s = .next s ∧
    (∃ t, exec (.scrub c j .onDieUncorrectable) s = .next t ∧ t.dram = s.dram ∧ t.plan = s.plan ∧
      t.mem.entries = (s.setEntry c.val j.val (setField (s.entry c.val j.val) 4 2 2)).mem.entries ∧
      ∃ more, t.log.raised = s.log.raised ++ [⟨s.now, srcId .mcc c.val, fcECC_UNCORRECTED,
        if 130048 ≤ j.val then 4 else 2, stHW_ERROR, s.pagePlot c.val j.val, 0xFFFF, a, 0⟩] ++ more) ∧
    (bits (s.rd .mccEccCfg c.val) 3 0 = 0 →
      ∃ t, exec (.scrub c j .onDieCorrected) s = .next t ∧ t.dram = s.dram ∧ t.plan = s.plan ∧ t.safe = s.safe ∧
      t.log.raised = s.log.raised ++ [⟨s.now, srcId .mcc c.val, fcECC_CORRECTED, 1, stDONE, s.pagePlot c.val j.val, 0xFFFF,
        a, 0⟩] ∧
      t.mem.entries = (s.setEntry c.val j.val (setField (s.entry c.val j.val) 20 4
        (min 15 (bits (s.entry c.val j.val) 23 20 + 1)))).mem.entries)

/-- O16. SET_SUB, SET_RO, CLEAR_RO, QUERY and RETIRE act on the named pages alone, and complete with a status.
Derived: Cites R66, R67, R68, spec/02_memory_system.md. -/
def Obligations.OwnCommandsChangeTheNamedPages : Prop :=
  (∀ (who : Who) (n : Fin 17) (s : State) (c : Instr) (op sub : Nat),
    ((c = .setSub who n (BitVec.ofNat 12 sub) ∧ op = 1 ∧ sub < 4096 ∧ bits sub 11 10 ≠ 3 ∧
        (bits sub 11 10 = 2 → bits sub 9 5 = 0)) ∨
      (c = .setRo who n ∧ op = 2 ∧ sub = 0) ∨ (c = .clearRo who n ∧ op = 3 ∧ sub = 0) ∨
      (c = .retire who n ∧ op = 5 ∧ sub = 0 ∧ n.val = 16)) →
    (if n.val < 16 then s.isCoreOf who n.val = true else isKeeper who = true) → (s.ownSlot n.val).busy = false →
    let a := s.rd .ownCmdAddr n.val
    let cnt := s.rd .ownCmdCount n.val
    let pages := s.ownPages a cnt
    let ok := (List.range cnt).all (fun i => s.ownPageOk n.val op (a + 8192 * i)) &&
      !(op != 5 && !(s.stampOf who).secure && s.ownTouchesSecure pages)
    let o := s.ownSlot n.val
    (ok = true → exec c s = .next ((s.ownApply op sub pages 0).1.setOwnSlot n.val { o with
      busy := true, pendStatus := stDONE, pendNoPage := o.noPage, pendResult := some (s.ownApply op sub pages 0).2 })) ∧
    (ok = false → exec c s = .next (s.setOwnSlot n.val { o with
      busy := true, pendStatus := stOWNER_FAULT, pendNoPage := o.noPage, pendResult := some 0 }))) ∧
  (∀ (who : Who) (n : Fin 17) (s : State),
    (if n.val < 16 then s.isCoreOf who n.val = true else isKeeper who = true) → (s.ownSlot n.val).busy = false →
    exec (.query who n) s = .next (s.setOwnSlot n.val { s.ownSlot n.val with
      busy := true, pendStatus := stDONE, pendNoPage := (s.pageOf (s.rd .ownCmdAddr n.val)).isNone,
      pendResult := some (((s.pageOf (s.rd .ownCmdAddr n.val)).map (fun x => s.entry x.1 x.2)).getD 0) })) ∧
  (∀ (n : Fin 17) (s : State), (s.ownSlot n.val).busy = true →
    exec (.ownCmdComplete n) s = .next (s.setOwnSlot n.val { s.ownSlot n.val with
      busy := false, status := (s.ownSlot n.val).pendStatus, noPage := (s.ownSlot n.val).pendNoPage,
      result := (s.ownSlot n.val).pendResult.getD 0, pendResult := none })) ∧
  (∀ (s : State) (op sub k : Nat) (pages : List (Option (Nat × Nat))) (c j : Nat),
    (∀ x ∈ pages, ∀ y, x = some y → 131072 * y.1 + y.2 ≠ 131072 * c + j) →
    (s.ownApply op sub pages k).1.entry c j = s.entry c j ∧ (s.ownApply op sub pages k).1.dram = s.dram)

/-- O17. A fetch reads the ring entry at HEAD; TAIL and CFG of a queue take the writes that R502 allows. Derived:
Cites R228, R486, R488, R502, spec/15_host_interface_and_instances.md, spec/07_scheduling_and_contexts.md. -/
def Obligations.QueuesAreWrittenAndFetched : Prop :=
  (∀ (q : Fin 256) (s : State), s.wf = true → s.fetchable q.val = true → (s.queue q.val).head = none →
    (s.queue q.val).waiting = [] → s.rd .hifQHead q.val ≠ s.rd .hifQTail q.val →
    let a := s.rd .hifQBase q.val + 64 * (s.rd .hifQHead q.val % 2 ^ bits (s.rd .hifQCfg q.val) 10 7)
    let c := readCmd (s.dramGet a 64)
    s.accessFree (s.queueStamp q.val) a 64 false →
    ∃ t, exec (.commandFetch q) s = .next t ∧ t.rd .hifQHead q.val = (s.rd .hifQHead q.val + 1) % 2 ^ 32 ∧
      t.tensor.flights = s.tensor.flights ∧ t.plan = s.plan ∧
      ((s.queue q.val).window.find? (fun w => w.1 == c.seq) = none → s.flight? q.val c.seq = none →
        t.dram = s.dram ∧ ∃ h, (t.queue q.val).head = some h ∧ h.cmd = c ∧ h.headTime = s.now)) ∧
  (∀ (who : Who) (q : Fin 256) (v : BitVec 32) (s : State), s.queueWriter who q.val true = true →
    (v.toNat + 2 ^ 32 - s.rd .hifQHead q.val) % 2 ^ 32 ≤ 2 ^ bits (s.rd .hifQCfg q.val) 10 7 →
    exec (.hifQqTailWrite who q v) s = .next (s.regStore .hifQTail q.val v.toNat 0)) ∧
  (∀ (who : Who) (q : Fin 256) (v : BitVec 32) (s : State), s.wf = true → s.queueWriter who q.val false = true →
    s.queueCfgOk q.val v.toNat = true → v.toNat < 2 ^ 17 → bit v.toNat 0 = true → bit (s.rd .hifQCfg q.val) 0 = false →
    ∃ t, exec (.hifQqCfgWrite who q v) s = .next t ∧ bit (t.rd .hifQCfg q.val) 0 = true ∧
      bit (t.rd .hifQCfg q.val) 17 = false ∧ t.rd .hifQHead q.val = 0 ∧ t.rd .hifQTail q.val = 0 ∧
      t.rd .hifQCplTail q.val = 0 ∧ t.rd .hifQCplHead q.val = 0 ∧ t.dram = s.dram) ∧
  (∀ (who : Who) (q : Fin 256) (v : BitVec 32) (s : State), s.wf = true →
    (s.queueWriter who q.val true = false → ∃ t, exec (.hifQqTailWrite who q v) s = .next t ∧
      t.rd .hifQTail q.val = s.rd .hifQTail q.val ∧ bit (t.rd .hifErrReg 0) 2 = true ∧ t.dram = s.dram) ∧
    (s.queueWriter who q.val false = false → ∃ t, exec (.hifQqCfgWrite who q v) s = .next t ∧
      t.rd .hifQCfg q.val = s.rd .hifQCfg q.val ∧ bit (t.rd .hifErrReg 0) 2 = true ∧ t.dram = s.dram))

/-- O18. Dispatch puts the head of the first eligible queue in flight, or refuses it; none is dispatched in safe
state. Derived: Cites R229, R231, R417, spec/03_pavilions_and_beds.md, spec/07_scheduling_and_contexts.md. -/
def Obligations.DispatchTakesTheFirstEligibleQueue : Prop :=
  (∀ (s : State) (q : Nat), s.chosenQueue = some q → s.eligible q = true ∧
    ∀ q' ∈ s.tensor.queues.map (·.1), s.eligible q' = true → s.before q' q = false) ∧
  (∀ (s : State), s.safe.safe = true → exec .dispatch s = .next s) ∧
  (∀ (s : State) (q : Nat) (h : HeadCmd), s.safe.safe = false → s.touch.chosenQueue = some q →
    (s.touch.queue q).head = some h →
    ∃ t, exec .dispatch s = .next t ∧ t.plan = s.plan ∧
      (s.touch.dispatchRefusal q h.cmd = none →
        ∃ f, t.tensor.flights = s.tensor.flights ++ [f] ∧ f.queue = q ∧ f.cmd = h.cmd ∧ f.startTime = none ∧
          f.ops.map (·.pav) = s.touch.cmdPavs h.cmd ∧ t.tensor.rr = (q + 1) % 256 ∧ t.dram = s.dram) ∧
      (∀ w, s.touch.dispatchRefusal q h.cmd = some w →
        t.tensor.flights = s.tensor.flights ∧ (t.queue q).window.head? = some (h.cmd.seq, w)))

/-- O19. NOP, BIND, UNBIND, ADMIT, LEAVE and FREE run once and take effect on their space alone. Derived: Cites R117,
R185, R201, R213, spec/06_trellis_attention.md. -/
def Obligations.CommandsRunOnceOnTheirTrellis : Prop :=
  ∀ (q : Fin 256) (seq : BitVec 32) (s : State) (f : Flight),
    let s0 := s.startFlight q.val seq.toNat
    (s.mayRun q.val seq.toNat 0x00 f → ∃ t, exec (.nop q seq) s = .next t ∧ s.ranWith t q.val seq.toNat stDONE ∧
      t.dram = s.dram ∧ t.tensor.spaces = s.tensor.spaces ∧ t.regs = s.regs) ∧
    (s.mayRun q.val seq.toNat 0x10 f → ∀ s1 key x,
      s0.bindCheck (s0.trlStamp (fld f.cmd.args 9 1) f.queue f.cmd.ctx) f.cmd = (s1, .ok (key, x)) →
      ∃ t, exec (.bind q seq) s = .next t ∧ s.ranWith t q.val seq.toNat stDONE ∧ t.space? key = some x ∧
        ∀ k, k ≠ key → t.space? k = s.space? k) ∧
    (s.mayRun q.val seq.toNat 0x10 f → ∀ s1 w,
      s0.bindCheck (s0.trlStamp (fld f.cmd.args 9 1) f.queue f.cmd.ctx) f.cmd = (s1, .error w) →
      ∃ t, exec (.bind q seq) s = .next t ∧ s.ranWith t q.val seq.toNat w ∧ t.tensor.spaces = s.tensor.spaces ∧
        t.dram = s1.dram) ∧
    (s.mayRun q.val seq.toNat 0x11 f → ∀ key x, s.cmdSpace f.cmd = some (key, x) →
      ∃ t, exec (.unbind q seq) s = .next t ∧ t.dram = s.dram ∧
        (x.open_ = none → s.spaceQueued key = false → s.ranWith t q.val seq.toNat stDONE ∧
          t.tensor.spaces = sset (fun _ => none) s.tensor.spaces key none) ∧
        (x.open_ ≠ none ∨ s.spaceQueued key = true → s.ranWith t q.val seq.toNat stBUSY ∧
          t.tensor.spaces = s.tensor.spaces)) ∧
    (s.mayRun q.val seq.toNat 0x12 f → ∀ key x, s.cmdSpace f.cmd = some (key, x) →
      ∃ t y, exec (.admitSeq q seq) s = .next t ∧ s.ranWith t q.val seq.toNat stDONE ∧ t.space? key = some y ∧
        (∀ k, k ≠ key → t.space? k = s.space? k) ∧
        ∀ n, y.seq n = if n ∈ f.cmd.seqRange ∧ (x.seq n).state = 0 then { x.seq n with state := 1 } else x.seq n) ∧
    (s.mayRun q.val seq.toNat 0x13 f → ∀ key x, s.cmdSpace f.cmd = some (key, x) →
      ∃ t y, exec (.leave q seq) s = .next t ∧ s.ranWith t q.val seq.toNat stDONE ∧ t.space? key = some y ∧
        (∀ k, k ≠ key → t.space? k = s.space? k) ∧
        ∀ n, ((x.seq n).state = 2 → n ∈ f.cmd.seqRange →
            y.seq n = { x.seq n with state := 3, freeOnLeave := bit (fld f.cmd.args 1 1) 0 }) ∧
          ((x.seq n).state = 2 ∨ (x.seq n).state = 3 → n ∉ f.cmd.seqRange → y.seq n = x.seq n)) ∧
    (s.mayRun q.val seq.toNat 0x14 f → ∀ key x d s1 s2 used, s.cmdSpace f.cmd = some (key, x) → x.open_ ≠ none →
      let n := fld f.cmd.args 4 4
      let st := s0.trlStamp (key / 4) f.queue f.cmd.ctx
      let blocks := (List.range n).map (fun i => fld d (4 * i) 4)
      s0.memRead st (fld f.cmd.args 8 8) (4 * n) = (s1, some d) → s1.ringUsed st x = (s2, used) →
      (∀ b ∈ blocks, b < x.poolBlocks) → x.quar.length + used + n ≤ x.poolBlocks →
      ∃ t, exec (.free q seq) s = .next t ∧ s.ranWith t q.val seq.toNat stDONE ∧
        t.space? key = some { x with quar := x.quar ++ blocks } ∧ ∀ k, k ≠ key → t.space? k = s.space? k)

/-- O20. RUN starts once its arguments pass and fails with the status of the check; COPY reports what it moved.
Derived: Cites R97, R113, R115, R117, R178, R206, spec/03_pavilions_and_beds.md, spec/05_programs_and_operators.md. -/
def Obligations.RunAndCopyStart : Prop :=
  (∀ (q : Fin 256) (seq : BitVec 32) (s : State) (f : Flight) (p : Prog), s.flight? q.val seq.toNat = some f →
    f.cmd.opcode = 0x01 → f.checked = false → f.argsBad = false → f.finished = false → s.safe.safe = false →
    s.inTurn f = true → s.cmdProg f.cmd = some p →
    (∀ s1 argv, s.argCheck (s.flightStamp f) p (fld f.cmd.args 8 8) = (s1, .ok argv) →
      (∀ o ∈ p.ops, o.kind = 0x000A → s1.attendCheck p o = none) →
      ∃ t g, exec (.run q seq) s = .next t ∧ t.flight? q.val seq.toNat = some g ∧ g.checked = true ∧ g.argv = argv ∧
        (f.startTime = none → g.startTime = some s.now ∧ ∀ o ∈ g.ops, o.status = none → o.started = true) ∧ g.cmd = f.cmd ∧
        t.dram = s1.dram) ∧
    (∀ s1 w, s.argCheck (s.flightStamp f) p (fld f.cmd.args 8 8) = (s1, .error w) →
      ∃ t g, exec (.run q seq) s = .next t ∧ t.flight? q.val seq.toNat = some g ∧ g.checked = false ∧ g.argsBad = true ∧
        g.bad = (f.report s.dt 0 w).bad ∧ g.startTime = f.startTime ∧ (∀ o ∈ g.ops, o.status.isSome = true) ∧
        t.dram = s1.dram)) ∧
  (∀ (q : Fin 256) (seq : BitVec 32) (ue : Option Nat) (s : State) (f : Flight), s.flight? q.val seq.toNat = some f →
    f.cmd.opcode = 0x02 → f.startTime = none → f.finished = false →
    let a := f.cmd.args
    let n := fld a 16 1
    s.still (n / 8) = false → s.copyReady f = true →
    let d : Desc := ⟨fld a 0 8, fld a 8 4, 0xFF, fld a 17 1, 1, fld a 12 4, 0, 0, 0, 0⟩
    let s0 := (s.startFlight q.val seq.toNat).updFlight q.val seq.toNat (fun f => { f with
      ops := f.ops.map (fun o => { o with parts := o.parts.map (fun b => { b with started := true }) }) })
    let r := s0.runDesc n 3 d (s0.bedStamp n f) ue
    ((r.1.bed n).ch 3).pend = 0 → r.1.flight? q.val seq.toNat = s0.flight? q.val seq.toNat →
    ∃ t, exec (.copy q seq ue) s = .next t ∧ t.dram = r.1.dram ∧ t.pads = r.1.pads ∧ t.padLost = r.1.padLost ∧
      ((t.bed n).ch 3).cur = none ∧ ((t.bed n).ch 3).status = r.2 ∧
      ((t.bed n).ch 3).done = (((r.1.bed n).ch 3).done + 1) % 65536 ∧
      ∃ g, t.flight? q.val seq.toNat = some g ∧ g.startTime = some s.now ∧
        ∀ o ∈ g.ops, o.status = none → o.ready = some r.2)

/-- O21. An operation completes with its status, and a finished command leaves its completion behind. Derived: Cites
R119, R120, R228, R417, spec/03_pavilions_and_beds.md. -/
def Obligations.OperationsAndCommandsComplete : Prop :=
  (∀ (pav : Fin 16) (slot : Fin 64) (s : State) (f : Flight) (o : Oper) (w : Nat), s.safe.safe = false →
    let mine := fun (x : Oper) => x.pav == pav.val && x.slot == slot.val && x.status.isNone
    s.tensor.flights.find? (fun g => g.ops.any mine) = some f → f.ops.find? mine = some o → s.operDone f o = some w →
    s.flight? f.queue f.cmd.seq = some f →
    ∃ t g, exec (.operationComplete pav slot) s = .next t ∧ t.flight? f.queue f.cmd.seq = some g ∧ t.dram = s.dram ∧
      (w = stDONE → g.bad = f.bad ∧ g.lastPav = some pav.val ∧
        g.ops = updWhere mine (fun x => { x with status := some stDONE }) f.ops) ∧
      (w ≠ stDONE → g.bad = (f.report s.dt pav.val w).bad ∧ ∀ x ∈ g.ops, x.status.isSome = true)) ∧
  (∀ (pav : Fin 16) (slot : Fin 64) (s : State), s.safe.safe = true → exec (.operationComplete pav slot) s = .next s) ∧
  (∀ (q : Fin 256) (seq : BitVec 32) (s : State) (f : Flight), s.safe.safe = false →
    s.flight? q.val seq.toNat = some f → f.finished = true → s.readyBefore f = [] →
    ∃ t, exec (.commandComplete q seq) s = .next t ∧
      t.tensor.flights = s.tensor.flights.filter (fun x => !(x.queue == q.val && x.cmd.seq == seq.toNat)) ∧
      (t.queue q.val).window.head? = some (seq.toNat, f.bad.getD stDONE) ∧ t.plan = s.plan)

/-- O22. A missed deadline is logged once, at the severity of its queue, and ends the command from severity 2 on.
Derived: Cites R121, R122, R123, R235, spec/07_scheduling_and_contexts.md. -/
def Obligations.MissedDeadlinesAreReportedOnce : Prop :=
  (∀ (q : Fin 256) (seq : BitVec 32) (s : State) (f : Flight), s.flight? q.val seq.toNat = some f → f.missed = false →
    s.passed f.cmd = true →
    ∃ t r g, exec (.commandDeadlineMiss q seq) s = .next t ∧ t.log.raised = s.log.raised ++ [r] ∧ r.cls = fcDEADLINE ∧
      r.severity = s.missSeverity q.val ∧ r.status = stDEADLINE_MISSED ∧ r.plot = s.queuePlot q.val ∧ r.ctx = f.cmd.ctx ∧
      r.time = s.now ∧ t.dram = s.dram ∧ t.flight? q.val seq.toNat = some g ∧ g.missed = true ∧
      (s.missSeverity q.val < 2 → g.late = true ∧ g.bad = f.bad ∧ g.ops = f.ops) ∧
      (2 ≤ s.missSeverity q.val → g.bad = (f.report s.dt 0 stDEADLINE_MISSED).bad ∧ ∀ o ∈ g.ops, o.status.isSome = true)) ∧
  (∀ (q : Fin 256) (s : State) (h : HeadCmd), (s.queue q.val).head = some h → h.missed = false → s.passed h.cmd = true →
    ∃ t, exec (.queuedDeadlineMiss q) s = .next t ∧
      (s.missSeverity q.val < 2 → (t.queue q.val).head = some { h with missed := true, late := true } ∧ t.dram = s.dram ∧
        ∃ r, t.log.raised = s.log.raised ++ [r] ∧ r.cls = fcDEADLINE ∧ r.severity = s.missSeverity q.val ∧
          r.status = stDEADLINE_MISSED) ∧
      (2 ≤ s.missSeverity q.val → (t.queue q.val).window.head? = some (h.cmd.seq, stDEADLINE_MISSED)))

/-- O23. SIGNAL takes the larger value, ADD saturates, a read shows the value; others change nothing. Derived: Cites
R244, R245, R246, spec/07_scheduling_and_contexts.md. -/
def Obligations.SemaphoreOperations : Prop :=
  ∀ (who : Who) (n : Fin 16384) (s : State), s.wf = true →
    let st := s.stampOf who
    (s.semAllowed st n.val = true →
      (∀ v : BitVec 64, ∃ t, exec (.signal who n v) s = .next t ∧ t.semVal n.val = max (s.semVal n.val) v.toNat ∧
        (∀ m, m ≠ n.val → t.semVal m = s.semVal m) ∧ t.dram = s.dram ∧ t.plan = s.plan) ∧
      (∀ v : BitVec 32, v.toNat ≠ 0 → ∃ t, exec (.add who n v) s = .next t ∧
        t.semVal n.val = min (s.semVal n.val + v.toNat) 0xFFFFFFFFFFFFFFFF ∧
        (∀ m, m ≠ n.val → t.semVal m = s.semVal m) ∧ t.dram = s.dram ∧ t.plan = s.plan) ∧
      exec (.add who n 0) s = .next s ∧
      exec (.semValueRead who n) s = .next (s.answer stDONE (leBytes 8 (s.semVal n.val)))) ∧
    (s.semAllowed st n.val = false →
      ∀ c, ((∃ v, c = .signal who n v) ∨ (∃ v, c = .add who n v) ∨ c = .semValueRead who n) →
      ∃ t r, exec c s = .next t ∧ t.tensor = s.tensor ∧ t.dram = s.dram ∧ t.log.raised = s.log.raised ++ [r] ∧
        r.cls = fcOWNER ∧ r.severity = 0 ∧ r.status = stOWNER_FAULT ∧ r.plot = st.plot ∧
        (c = .semValueRead who n → t.resp = ⟨stDONE, leBytes 8 0⟩))

/-- O24. A watch unit arms when enabled or re-written, and fires at once when its value is reached. Derived: Cites
R248, R249, spec/07_scheduling_and_contexts.md. -/
def Obligations.WatchUnitsArmAndFire : Prop :=
  ∀ (who : Who) (w : Fin 256) (s : State), s.wf = true → (s.isCoreOf who (w.val / 16) || isKeeper who) = true →
    (∀ n, n < 16384 → s.ownerOf 0x06 n = w.val / 16 →
      (bit (s.rd .semWatchCfg w.val) 16 = false →
        let irq : Out := .irq (w.val / 16) (srcId .sem w.val)
        let again := if bit (s.rd .semWatchCfg w.val) 17 then [irq] else []
        ∃ t, exec (.semWatchCfgWrite who w (BitVec.ofNat 32 (n + 65536))) s = .next t ∧ t.dram = s.dram ∧
          t.tensor.sems = s.tensor.sems ∧
          (s.semVal n < s.rd .semWatchThresh w.val → t.tensor.armed.contains w.val = true ∧ t.out = s.out ++ again) ∧
          (s.rd .semWatchThresh w.val ≤ s.semVal n → t.tensor.armed.contains w.val = false ∧
            bit (t.rd .semWatchCfg w.val) 17 = true ∧ t.out = s.out ++ again ++ [irq])) ∧
      (∃ t, exec (.semWatchCfgWrite who w (BitVec.ofNat 32 n)) s = .next t ∧ t.tensor.armed.contains w.val = false ∧
        t.tensor.sems = s.tensor.sems ∧ t.out = s.out)) ∧
    (∀ v : BitVec 64, bit (s.rd .semWatchCfg w.val) 16 = true →
      ∃ t, exec (.semWatchThreshWrite who w v) s = .next t ∧ t.rd .semWatchThresh w.val = v.toNat ∧ t.dram = s.dram ∧
        t.tensor.sems = s.tensor.sems ∧
        let reached := decide (v.toNat ≤ s.semVal (bits (s.rd .semWatchCfg w.val) 13 0))
        t.tensor.armed.contains w.val = !reached ∧
        t.out = if reached then s.out ++ [.irq (w.val / 16) (srcId .sem w.val)] else s.out)

/-- O25. A Bed starts an operator only when it is ON and idle, and none that is ready goes before it. Derived: Cites
R97, R181, R233, spec/03_pavilions_and_beds.md, spec/07_scheduling_and_contexts.md. -/
def Obligations.BedStartsTheFirstReadyOperator : Prop :=
  ∀ (s : State) (n : Nat) (c : Cand), s.chosenOp n = some c →
    (s.bed n).pwr = .on ∧ (s.bed n).running = none ∧ s.slicing 0 n = false ∧ s.safe.safe = false ∧ s.clockOff (n / 8) = false ∧ c ∈ s.cands n ∧
    (∀ d ∈ s.cands n, s.candBefore d c = false) ∧ c.part.bed = n ∧
    ((s.startOp c).bed n).running = some ⟨c.flight.queue, c.flight.cmd.seq, c.part.next, c.op.kind⟩ ∧
    ((s.startOp c).bed n).imem = { cells := writeBytes zeroAt [] 0 (sub c.prog.code c.op.codeRel c.op.codeBytes) } ∧
    ((s.startOp c).bed n).dmem = { cells := writeBytes zeroAt [] 0 (sub c.prog.code c.op.paramRel c.op.paramBytes) } ∧
    (s.startOp c).dram = s.dram ∧ (s.startOp c).pads = s.pads ∧ (s.startOp c).padLost = s.padLost ∧ (s.startOp c).plan = s.plan

/-- O26. Each operator command runs the operator that its Bed starts, stores what it computes, and completes on open
operands. Derived: Cites spec/05_programs_and_operators.md, spec/04_numerics.md, spec/03_pavilions_and_beds.md,
spec/08_groves.md. -/
def Obligations.OperatorCommandsRunTheChosenOperator : Prop :=
  ∀ (s : State) (n : Fin 128) (c : Cand), s.chosenOp n.val = some c →
    let s1 := s.startOp c
    let y := c.output 0
    let ready : Prop := s.readsOpen c ∧ s.writesOpen c y
    let done (o : Host.Outcome State Fault Refusal) (r : OpResult) : Prop := ∃ t g, o = .next t ∧ r.2 = .ok g ∧ t.holds r.1
    (∀ outs tiles post ecc, let r := s1.withEcc c ecc (fun s => s.matmul c outs tiles post)
      (c.op.kind = 0x0001 → State.opAnswers c (exec (.matmul n outs tiles (post, ecc)) s) r) ∧
      (c.op.kind ≠ 0x0001 → exec (.matmul n outs tiles (post, ecc)) s = .next s) ∧
      (c.op.kind = 0x0001 → ready → (ecc = .clean ∨ ∃ u b k, ecc = .event false u b k) →
        (∀ o ∈ outs, y.takes (o.1 * y.dim 0 + o.2.2)) → done (exec (.matmul n outs tiles (post, ecc)) s) r)) ∧
    (∀ outs taps st dil pad post, let r := s1.conv2d c outs taps st dil pad post
      (c.op.kind = 0x0002 → State.opAnswers c (exec (.conv2d n outs taps st dil pad post) s) r) ∧
      (c.op.kind = 0x0002 → ready → (∀ o ∈ outs, y.takes (o.1 * y.dim 0 + o.2.2)) →
        done (exec (.conv2d n outs taps st dil pad post) s) r)) ∧
    (∀ elems op a b, let r := s1.eltwise c elems op a.toNat b.toNat
      (c.op.kind = 0x0003 → State.opAnswers c (exec (.eltwise n elems op a b) s) r) ∧
      (c.op.kind = 0x0003 → ready → (∀ e ∈ elems, y.takes e.2.2) → done (exec (.eltwise n elems op a b) s) r)) ∧
    (∀ rows layer eps, let r := s1.rowOp c rows (b2n layer) eps
      (c.op.kind = 0x0004 → State.opAnswers c (exec (.norm n rows layer eps) s) r) ∧
      (c.op.kind = 0x0004 → ready → (∀ k ∈ rows, ∀ i, i < (c.input 0).dim 0 → y.takes (k * (c.input 0).dim 0 + i)) →
        done (exec (.norm n rows layer eps) s) r)) ∧
    (∀ rows, let r := s1.rowOp c rows 2 0
      (c.op.kind = 0x0005 → State.opAnswers c (exec (.softmax n rows) s) r) ∧
      (c.op.kind = 0x0005 → ready → (∀ k ∈ rows, ∀ i, i < (c.input 0).dim 0 → y.takes (k * (c.input 0).dim 0 + i)) →
        done (exec (.softmax n rows) s) r)) ∧
    (∀ elems arr, let r := s1.reduce c elems arr
      (c.op.kind = 0x0006 → State.opAnswers c (exec (.reduce n elems arr) s) r) ∧
      (c.op.kind = 0x0006 → ready → (∀ e ∈ elems, y.takes e) → done (exec (.reduce n elems arr) s) r)) ∧
    (∀ elems, let r := s1.quantise c elems
      (c.op.kind = 0x0007 → State.opAnswers c (exec (.quantise n elems) s) r) ∧
      (c.op.kind = 0x0007 → ready → (∀ e ∈ elems, y.takes e) → done (exec (.quantise n elems) s) r)) ∧
    (∀ rows, let r := s1.withInputs c (fun s st xs ts => s.gatherRows c st (inAt xs 0) (inAt xs 1) (outAt ts 0) rows)
      (c.op.kind = 0x0008 → State.opAnswers c (exec (.gather n rows) s) r) ∧
      (c.op.kind = 0x0008 → ready →
        (let x := c.input 0
         ∀ k ∈ rows, (∀ i, i < x.dim 0 → y.takes (k * x.dim 0 + i)) ∧
          (fmtScaleBytes x.format (x.dim 0) = 0 ∨
            fmtScaleBytes x.format (x.dim 0) * (k + 1) ≤ fmtScaleBytes y.format y.count)) →
        done (exec (.gather n rows) s) r)) ∧
    (∀ moves, let r := s1.withInputs c (fun s st xs ts =>
        s.copyPieces c st (xs.flatMap (·.data) ++ xs.flatMap (·.scales)) (outAt ts 0) moves)
      (c.op.kind = 0x0009 → State.opAnswers c (exec (.copyOperator n moves) s) r) ∧
      (c.op.kind = 0x0009 → ready →
        (∀ m ∈ moves, m.2.1 + m.2.2 ≤ fmtDataBytes y.format y.count + fmtScaleBytes y.format y.count) →
        done (exec (.copyOperator n moves) s) r)) ∧
    (∀ snd a b, let r := s1.exchange c snd a.toNat b.toNat
      let st := s.bedStamp c.part.bed c.flight
      let bytes (f : Nat → Nat → Nat) : Nat := sumL (((c.prog.opTensors c.op).take c.op.nIn).map (fun t => f t.format t.count))
      (c.op.kind = 0x000B → State.opAnswers c (exec (.exchange n snd (a, b)) s) r) ∧
      (c.op.kind = 0x000B → snd = true → s.readsOpen c → s.windowOpen st a.toNat (bytes fmtDataBytes) true →
        s.windowOpen st b.toNat (bytes fmtScaleBytes) true → done (exec (.exchange n snd (a, b)) s) r) ∧
      (c.op.kind = 0x000B → snd = false → s.waitingReqs = 0 → s.writesOpen c y →
        s.windowOpen st a.toNat (fmtDataBytes y.format y.count) false →
        s.windowOpen st b.toNat (fmtScaleBytes y.format y.count) false → done (exec (.exchange n snd (a, b)) s) r)) ∧
    (∀ rows k hi, let r := s1.topkOp c rows (min k 64) hi
      (c.op.kind = 0x000C → State.opAnswers c (exec (.topk n rows k hi) s) r) ∧
      (c.op.kind = 0x000C → ready → s.writesOpen c (c.output 1) →
        (∀ q ∈ rows, ∀ j, j < min k 64 → y.takes (q * min k 64 + j) ∧ (c.output 1).takes (q * min k 64 + j)) →
        done (exec (.topk n rows k hi) s) r))

/-- O27. Converted results stand in the scratchpad at their element, and no other byte changes. Derived: Cites R134,
R146, R158, spec/04_numerics.md, spec/05_programs_and_operators.md. -/
def Obligations.ResultsAreStoredWhereTheTensorLies : Prop :=
  ∀ (s : State) (c : Cand) (st : Stamp) (t : TensorRec) (g : NumFlags) (l : List (Nat × Nat)), s.wf = true → 2 ≤ t.bind →
    let w := elemBits (fmtElem t.format)
    8 ≤ w → w % 8 = 0 → (l.map (·.1)).Nodup →
    let share := s.residentShare c.prog.ctx c.part.bed
    (∀ e ∈ l, t.offset + w / 8 * e.1 + w / 8 ≤ share.2) →
    let at_ := fun (i : Nat) => padAddr c.part.bed (share.1 + (t.offset + w / 8 * i))
    ∃ s' g', s.putResults c st t g l = (s', .ok g') ∧ s'.dram = s.dram ∧ s'.regs = s.regs ∧ s'.padLost = s.padLost ∧
      (∀ e ∈ l, s'.padBytes (at_ e.1) (w / 8) = leBytes (w / 8) (convertElem (fmtElem t.format) (fmtSat t.format) e.2).1) ∧
      (∀ k, (∀ e ∈ l, k < at_ e.1 ∨ at_ e.1 + w / 8 ≤ k) → s'.padBytes k 1 = s.padBytes k 1)

/-- O28. ATTEND opens the step of its space and runs in it; a Trellis merges partials until the last one. Derived:
Cites R193, R195, R207, R209, spec/06_trellis_attention.md. -/
def Obligations.AttendRunsInItsStepAndPartialsMerge : Prop :=
  (∀ (s : State) (n : Fin 128) (c : Cand) (key : Nat) (x : Space), s.chosenOp n.val = some c → c.op.kind = 0x000A →
    s.spaceOf c.prog.ctx (fld (c.prog.attendParams c.op) 0 1) = some (key, x) → s.space? key = some x →
    (x.open_ = some (c.flight.queue, c.flight.cmd.seq) → x.agreed = true → (x.grove && x.aborted) = false →
      State.opAnswers c (exec (.attend n) s) ((s.startOp c).attendRun c key x)) ∧
    (x.open_ = none → x.grove = false → s.slicing 1 (key / 4) = false →
      ∃ t y, exec (.attend n) s = .next t ∧ t.space? key = some y ∧ y.epoch = (x.epoch + 1) % 2 ^ 64 ∧
        y.open_ = some (c.flight.queue, c.flight.cmd.seq) ∧ t.plan = s.plan)) ∧
  (∀ (s : State) (p : Fin 16) (i : Nat) (m : PartMsg) (x : Merge), s.still p.val = false →
    let mine := fun (y : Merge) => y.trellis == p.val && y.final == m.final && y.key == m.key
    (s.tensor.parts.filter (fun y => y.trellis == p.val))[i]? = some m → s.tensor.merges.find? mine = some x →
    ∃ t, exec (.partialMerge p i) s = .next t ∧
      (x.seen + 1 < x.need → t.tensor.parts = s.tensor.parts.erase m ∧ t.dram = s.dram ∧
        t.regs = (s.count .trlMerged p.val 1).regs ∧
        t.tensor.merges = updWhere mine (fun y => { y with seen := y.seen + 1, acc := x.acc.merge m.part }) s.tensor.merges) ∧
      (x.need ≤ x.seen + 1 → t.tensor.merges = s.tensor.merges.filter (fun y => !mine y) ∧
        (m.final = false → ∀ k, s.leadCtx m.key = some k → t.dram = s.dram ∧
          t.tensor.parts = s.tensor.parts.erase m ++ [⟨k.key / 4, true, m.key, x.acc.merge m.part⟩])))

/-- O29. An operator that ends frees its Bed and signals; members report, and a joint result opens the step. Derived:
Cites R180, R215, R216, R233, spec/06_trellis_attention.md. -/
def Obligations.OperatorEndsAndJointAdmission : Prop :=
  (∀ (s : State) (n : Fin 128) (r : RunningOp), (s.bed n.val).running = some r → s.still (n.val / 8) = false →
    s.attendIdle r = true → (∀ d ∈ (s.bed n.val).dma, d.2.pend = 0 ∧ d.2.cur = none) →
    ∃ t, exec (.operatorComplete n) s = .next t ∧
      t.tensor.beds = (s.setBed n.val { s.bed n.val with running := none }).tensor.beds ∧ t.dram = s.dram ∧
      t.pads = s.pads ∧
      (∀ f p o, s.flight? r.queue r.seq = some f → s.cmdProg f.cmd = some p → p.ops[r.op]? = some o → o.signalPsem = 0xFF →
        t.tensor.sems = s.tensor.sems ∧ t.regs = (s.count .bedOpsDone n.val 1).regs)) ∧
  (∀ (s : State) (d : Fin 8) (tr : Fin 16) (sp : Fin 4) (e : BitVec 64) (dig : List Byte) (rows lv un : List Nat) (x : Space),
    s.space? (4 * tr.val + sp.val) = some x → x.grove = true → s.self = 0 → s.isMember d.val = true →
    let y : Space := { x with
      reports := x.reports.filter (fun r => r.device ≠ d.val) ++ [⟨d.val, e.toNat, dig, rows, lv, un⟩] }
    (x.open_ = none ∨ x.agreed = true ∨ ∃ m ∈ bitList 8 s.elx.members, ∀ r ∈ y.reports, r.device ≠ m) →
    exec (.groveAdmissionReport d tr sp e dig rows lv un) s = .next (s.setSpace (4 * tr.val + sp.val) (some y))) ∧
  (∀ (s : State) (tr : Fin 16) (sp : Fin 4) (runs : List (Nat × Nat)) (lv ex : List Nat) (x : Space) (q seq : Nat),
    s.space? (4 * tr.val + sp.val) = some x → x.grove = true → x.agreed = false → x.open_ = some (q, seq) →
    (∃ t y, exec (.groveAdmissionResult tr sp none runs lv ex) s = .next t ∧ t.space? (4 * tr.val + sp.val) = some y ∧
      y.agreed = true ∧ y.epoch = x.epoch ∧ y.open_ = x.open_ ∧ y.prov = []) ∧
    (∀ b, ∃ t r, exec (.groveAdmissionResult tr sp (some b) runs lv ex) s = .next t ∧
      t.log.raised = s.log.raised ++ [r] ∧ r.cls = 0x12 ∧ r.severity = 2 ∧ r.status = stABORTED_GROVE ∧ r.ctx = x.ctx ∧
      r.plot = x.plot ∧ t.dram = s.dram))

/-- O30. A descriptor of one local row copies exactly its bytes, one way or the other. Derived: Cites R115, R116,
spec/03_pavilions_and_beds.md. -/
def Obligations.DmaMovesTheRowsOfADescriptor : Prop :=
  ∀ (s : State) (n ch : Nat) (d : Desc) (st : Stamp), s.descRefusal n d st = (s, none) → d.rows = 1 → d.target n = n →
    remoteWindow d.dramAddr = none →
    let up := (s.residentShare st.ctx n).1 + d.shareOff
    (d.dir = 0 → s.accessFree st d.dramAddr d.rowBytes false →
      ∃ t, s.runDesc n ch d st none = (t, stDONE) ∧ t.dram = s.dram ∧ t.mem.entries = s.mem.entries ∧ t.log = s.log ∧
        t.padLost = s.padLost ∧ t.pads = writeBytes (padDefault s.padLost) s.pads (padAddr n up) (s.dramGet d.dramAddr d.rowBytes)) ∧
    (d.dir = 1 → s.accessFree st d.dramAddr d.rowBytes true →
      ∃ t, s.runDesc n ch d st none = (t, stDONE) ∧ t.pads = s.pads ∧ t.log = s.log ∧
        (∀ a, a < reservedBase → t.dramByte a = (s.dramPut d.dramAddr (s.padGet n up d.rowBytes)).dramByte a))

/-- O31. A DMA channel takes a descriptor and ends it with its status, event and count. Derived: Cites R106, R114,
R115, R126, spec/03_pavilions_and_beds.md. -/
def Obligations.DescriptorsStartAndEnd : Prop :=
  (∀ (s : State) (n : Fin 128) (ch : Fin 4) (raw : List Byte) (ue : Option Nat) (ecc : BedEcc) (f : Flight),
    s.runningFlight n.val = some f → ((s.bed n.val).ch ch.val).cur = none → s.still (n.val / 8) = false →
    let r := s.runDesc n.val ch.val (readDesc raw) (s.bedStamp n.val f) ue ecc
    ∃ t, exec (.dmaDescriptor n ch raw (ue, ecc)) s = .next t ∧ t.dram = r.1.dram ∧ t.pads = r.1.pads ∧ t.padLost = r.1.padLost ∧ t.log = r.1.log ∧
      ((t.bed n.val).ch ch.val).cur = some (readDesc raw, s.bedStamp n.val f) ∧
      ((t.bed n.val).ch ch.val).curStatus = r.2) ∧
  (∀ (s : State) (n : Fin 128) (ch : Fin 4) (d : Desc) (st : Stamp),
    let b := s.bed n.val
    let x := b.ch ch.val
    let b1 := b.setCh ch.val { status := x.curStatus, done := (x.done + 1) % 65536 }
    let s1 := s.setBed n.val { b1 with
      events := sset (fun _ => 0) b.events d.event (sget (fun _ => 0) b.events d.event + 1) }
    x.cur = some (d, st) → x.pend = 0 → x.copy = none → s.still (n.val / 8) = false →
    (x.curStatus = stDONE → exec (.dmaDescriptorDone n ch) s = .next s1) ∧
    (∀ f, x.curStatus ≠ stDONE → s.runningFlight n.val = some f →
      ∃ t g, exec (.dmaDescriptorDone n ch) s = .next t ∧ t.dram = s.dram ∧ t.pads = s.pads ∧
        t.flight? f.queue f.cmd.seq = some g ∧ g.bad = (f.report s.dt (n.val / 8) x.curStatus).bad ∧ ∀ o ∈ g.ops, o.status.isSome = true)) ∧
  (∀ (s : State) (n : Fin 128) (p : Fin 5) (k : Fin 32) (cy : BitVec 32),
    (s.rd .bedDmaStallLimit n.val ≠ 0 → cy.toNat = s.rd .bedDmaStallLimit n.val →
      exec (.dmaStall n p k cy) s = .next { s with log := { s.log with raised := s.log.raised ++ [⟨s.now, srcId .bed n.val,
        0x11, 0, stBUSY, s.ownerOf 0x03 n.val, 0xFFFF, 0, p.val + 8 * k.val + 0x100000000 * cy.toNat⟩] } }) ∧
    (s.rd .bedDmaStallLimit n.val = 0 ∨ cy.toNat ≠ s.rd .bedDmaStallLimit n.val → exec (.dmaStall n p k cy) s = .next s))

/-- O32. An inbound access reads or writes the bytes of its Bed when R110 admits it, and no byte otherwise. Derived:
Cites R110, R113, R126, spec/03_pavilions_and_beds.md. -/
def Obligations.InboundScratchpadAccesses : Prop :=
  ∀ (who : Who) (a : BitVec 48) (size : Nat) (w : Bool) (data : List Byte) (en : List Bool) (s : State),
    padBase ≤ a.toNat → a.toNat < padBase + 128 * 2097152 →
    let n := (a.toNat - padBase) / 2097152
    let off := (a.toNat - padBase) % 2097152
    let reason := s.inboundReason who n off size w
      (((List.range size).filter (fun i => !w || en.getD i true)).map (off + ·))
    ((s.bed n).pwr = .on → reason = none → w = true →
      exec (.inboundScratchpadAccess who a size w (data, en) .clean) s = .next ({ s with
        pads := writeMasked (padDefault s.padLost) s.pads (padAddr n off) ((List.range size).map (fun i => (en.getD i true, data.getD i 0))) }.answer
          stDONE [])) ∧
    ((s.bed n).pwr = .on → reason = none → w = false →
      exec (.inboundScratchpadAccess who a size w (data, en) .clean) s = .next (s.answer stDONE (s.padGet n off size))) ∧
    ((s.bed n).pwr = .on → reason = none → ∀ u b k, ∃ t r,
      exec (.inboundScratchpadAccess who a size w (data, en) (.event true u b k)) s = .next t ∧
      t.resp = ⟨stHW_ERROR, if w then [] else zeros size⟩ ∧ t.pads = s.pads ∧ t.dram = s.dram ∧
      t.log.raised = s.log.raised ++ [r] ∧ r.source = srcId .bed n ∧ r.cls = fcECC_UNCORRECTED ∧ r.severity = 2 ∧
      r.status = stHW_ERROR ∧ r.addr = a.toNat) ∧
    (((s.bed n).pwr ≠ .on ∨ reason ≠ none) → ∀ ecc, ∃ t r,
      exec (.inboundScratchpadAccess who a size w (data, en) ecc) s = .next t ∧
      t.pads = s.pads ∧ t.dram = s.dram ∧ t.regs = s.regs ∧ t.log.raised = s.log.raised ++ [r] ∧
      t.resp = ⟨if (s.bed n).pwr = .on then stOWNER_FAULT else stBUSY, if w then [] else zeros size⟩)

/-- O33. Bed power transitions, share slots and their clear, and a sequencer trap. Derived: Cites R107, R109, R112,
R113, R124, R129, spec/03_pavilions_and_beds.md. -/
def Obligations.BedPowerAndShares : Prop :=
  (∀ (s : State) (n : Fin 128) (v : BitVec 32), v.toNat < 3 → s.bedPwrRefusal .keeper (s.stampOf .keeper) n.val v.toNat = none →
    (s.plan.map (fun p => p.usedPavilions.contains (n.val / 8))).getD false = true → (s.bed n.val).goal = none →
    exec (.bedPwrWrite .keeper n v) s = .next ((s.regStore .bedPwr n.val v.toNat 0).setBed n.val
      ((s.bed n.val).start (targetPwr (bits v.toNat 1 0)) s.dt))) ∧
  (∀ (s : State) (n : Fin 128) (p : Pwr), (s.bed n.val).goal = some p → (s.bed n.val).want = none →
    s.tensor.moves.find? (fun m => m.1 == n.val) = none →
    ∃ t, exec (.bedPwrTransitionDone n) s = .next t ∧ (t.bed n.val).pwr = p ∧ (t.bed n.val).goal = none ∧ t.dram = s.dram ∧
      ((s.bed n.val).left = .off → ∀ off, off < 2097152 → t.padGet n.val off 1 = [0])) ∧
  (∀ (s : State) (n : Fin 128) (k : Fin 4) (c : Nat), s.wf = true → c < 1024 →
    let v : BitVec 32 := BitVec.ofNat 32 (c + 65536)
    s.bedSlotRefusal .keeper (s.stampOf .keeper) n.val k.val v.toNat = none →
    bit (s.rd .bedSlot (4 * n.val + k.val)) 16 = false →
    ∃ t, exec (.bedSlotWrite .keeper n k v) s = .next t ∧ t.slotCtx n.val k.val = some c ∧
      (t.bed n.val).clearing = some k.val ∧ t.dram = s.dram ∧
      ∀ i, i < 65536 * (s.share n.val k.val).1 →
        t.padGet n.val (65536 * (s.share n.val k.val).2.1 + i) 1 = [0]) ∧
  (∀ (s : State) (n : Fin 128) (k : Nat), (s.bed n.val).clearing = some k → s.waitingReqs = 0 →
    s.tensor.moves.find? (fun m => m.1 == n.val) = none →
    ∃ t, exec (.shareClearDone n) s = .next t ∧ t.dram = s.dram ∧
      t.tensor.beds = (s.setBed n.val { s.bed n.val with clearing := none }).tensor.beds) ∧
  (∀ (s : State) (n : Fin 128) (code : BitVec 8) (pc : BitVec 32) (f : Flight), s.runningFlight n.val = some f → s.still (n.val / 8) = false →
    ∃ t g, exec (.seqTrap n code pc) s = .next t ∧ t.dram = s.dram ∧ t.pads = s.pads ∧
      t.log.raised = s.log.raised ++ [⟨s.now, srcId .bed n.val, 0x10, 2, stREFUSED_FORMAT, s.queuePlot f.queue, f.cmd.ctx, 0,
        code.toNat + 0x100000000 * pc.toNat⟩] ∧
      t.flight? f.queue f.cmd.seq = some g ∧ g.bad = (f.report s.dt (n.val / 8) stREFUSED_FORMAT).bad) ∧
  (∀ (s : State) (who : Who) (n : Fin 128) (k : Fin 4) (v : BitVec 32), isKeeper who = false →
    (∃ t, exec (.bedPwrWrite who n v) s = .next t ∧ t.tensor = s.tensor ∧ t.pads = s.pads ∧ t.dram = s.dram ∧
      t.rd .bedPwr n.val = s.rd .bedPwr n.val) ∧
    (∃ t, exec (.bedSlotWrite who n k v) s = .next t ∧ t.tensor = s.tensor ∧ t.pads = s.pads ∧ t.dram = s.dram ∧
      t.rd .bedSlot (4 * n.val + k.val) = s.rd .bedSlot (4 * n.val + k.val)))

/-- O34. What a register write stores, by access code, and the writes that store nothing. Derived: Cites R4, R10, R11,
R12, R42, R48, R309, R426, R427, R428, spec/00_scope.md. -/
def Obligations.RegisterWritesStoreByTheirAccessCodes : Prop :=
  (∀ (who : Who) (a : BitVec 48) (size : Nat) (v hw : BitVec 64) (s : State) (d : RegDef) (ix : Nat),
    (∀ c, who ≠ .orangery c) → (blockAt a.toNat).isSome = true → regAt a.toNat = some (d, ix) → size * 8 = d.width →
    let x := v.toNat % 2 ^ d.width
    (d.block = .spl ∨ d.block = .qos ∨ d.block = .trl →
      (x &&& (0xFFFFFFFFFFFFFFFF ^^^ d.mask) ≠ 0 → exec (.registerWrite who (.addr a) size v hw) s =
        .next (((s.reservedRefused (s.stampOf who) d.block (d.inst ix) (d.addr ix)).hwSet d ix (hw.toNat &&& d.w1c)).answer
          stDONE [])) ∧
      (x &&& (0xFFFFFFFFFFFFFFFF ^^^ d.mask) = 0 → exec (.registerWrite who (.addr a) size v hw) s =
        .next (((s.wr d.id ix (d.merge (s.rd d.id ix) x hw.toNat)).hwSet d ix (hw.toNat &&& d.w1c)).answer stDONE []))) ∧
    (d.locked = true → exec (.registerWrite who (.addr a) size v hw) s = .next (((s.raise ⟨s.now, srcId .spl 0, 0x13, 0,
      stREFUSED_PLAN, (s.stampOf who).plot, (s.stampOf who).ctx, d.addr ix,
      d.block.code + 65536 * (s.stampOf who).port⟩).hwSet d ix (hw.toNat &&& d.w1c)).answer stDONE []))) ∧
  (∀ d ∈ regTable, ∀ (old v hw : BitVec 64) (i : Nat), i < 64 →
    (d.merge old.toNat v.toNat hw.toNat).testBit i =
      if d.w1c.testBit i then hw.toNat.testBit i || (old.toNat.testBit i && !v.toNat.testBit i)
      else if d.w1s.testBit i then old.toNat.testBit i || v.toNat.testBit i
      else if d.rw.testBit i then v.toNat.testBit i else old.toNat.testBit i) ∧
  (∀ (who : Who) (a : BitVec 48) (size : Nat) (v hw : BitVec 64) (ev : BitVec 32) (s : State), (∀ c, who ≠ .orangery c) →
    listedAddr a.toNat = false →
    exec (.registerWrite who (.addr a) size v hw) s = .next (s.answer stOWNER_FAULT []) ∧
    exec (.readClear who (.addr a) size ev) s = .next (s.answer stOWNER_FAULT (zeros size)) ∧
    exec (.counterRead who (.addr a) size) s = .next (s.answer stOWNER_FAULT (zeros size))) ∧
  (∀ (c : Fin 16) (a : BitVec 48) (size : Nat) (v hw : BitVec 64) (ev : BitVec 32) (s : State) (i : Instr),
    i = .registerWrite (.orangery c) (.addr a) size v hw ∨ i = .readClear (.orangery c) (.addr a) size ev ∨
      i = .counterRead (.orangery c) (.addr a) size →
    ∃ t r more, exec i s = .next t ∧ t.resp = ⟨stOWNER_FAULT, []⟩ ∧
      (s.corePass c.val = none → t.regs = s.regs ∧ t.dram = s.dram ∧ more = []) ∧ t.log.raised = s.log.raised ++ r :: more ∧ r.cls = fcOWNER ∧ r.severity = 0 ∧ r.status = stOWNER_FAULT ∧ r.addr = a.toNat) ∧
  (∀ (who : Who) (n : Fin 128) (c : Fin 4) (ch w : Fin 64) (size : Nat) (v hw : BitVec 64) (s : State),
    let x := v.toNat % 2 ^ (8 * size)
    (s.unitMine who 0x08 n.val = true → exec (.registerWrite who (.pin n c) size v hw) s =
      .next ({ s with pinCtl := sset (fun _ => 0) s.pinCtl (4 * n.val + c.val) x }.answer stDONE [])) ∧
    (s.unitMine who 0x07 ch.val = true → exec (.registerWrite who (.channel ch w) size v hw) s =
      .next ({ s with sysDma := sset (fun _ => 0) s.sysDma (64 * ch.val + w.val) x }.answer stDONE [])) ∧
    ((s.stampOf who).secure = false →
      ∀ i, (i = .registerWrite who (.pin n c) size v hw ∧ s.secureAttr 0x08 n.val = true) ∨
        (i = .registerWrite who (.channel ch w) size v hw ∧ s.secureAttr 0x07 ch.val = true) →
      ∃ t r, exec i s = .next t ∧ t.pinCtl = s.pinCtl ∧ t.sysDma = s.sysDma ∧ t.regs = s.regs ∧
        t.log.raised = s.log.raised ++ [r] ∧ r.cls = fcOWNER ∧ r.severity = 0 ∧ r.status = stOWNER_FAULT))

/-- O35. An access of another size or alignment is not performed; an unlisted offset reads 0 and ignores writes. Cites
R9, R576. -/
def Obligations.WrongSizesAndUnlistedOffsets : Prop :=
  (∀ (who : Who) (a : BitVec 48) (size : Nat) (s : State) (b : Block) (n : Nat),
    (∀ c, who ≠ .orangery c) → (blockAt a.toNat).isSome = true → wrongSize a.toNat size = some (b, n) →
    let set (u : State) (w1c : Bool) (x : Nat) : State := match regAt a.toNat with
      | some (d, ix) => u.hwSet d ix (x &&& if w1c then d.w1c else d.rc)
      | none => u
    let refused (t u : State) : Prop := s.machineKept t ∧ t.regs = u.regs ∧ ∃ r, t.log = { s.log with
      raised := s.log.raised ++ [r] } ∧ r.time = s.now ∧ r.source = srcId b n ∧ r.severity = 0 ∧ r.cls = fcACCESS_SIZE ∧
      r.status = stREFUSED_FORMAT
    (∀ v hw, ∃ t, exec (.registerWrite who (.addr a) size v hw) s = .next t ∧ t.resp = ⟨stDONE, []⟩ ∧
      refused t (set (s.setErr b n 1) true hw.toNat)) ∧
    (∀ ev, ∃ t, exec (.readClear who (.addr a) size ev) s = .next t ∧ t.resp = ⟨stDONE, zeros size⟩ ∧
      refused t ((set s false ev.toNat).setErr b n 1)) ∧
    (∃ t, exec (.counterRead who (.addr a) size) s = .next t ∧ t.resp = ⟨stDONE, zeros size⟩ ∧ refused t (s.setErr b n 1))) ∧
  (∀ (who : Who) (a : BitVec 48) (size : Nat) (s : State) (b : Block) (n : Nat), (∀ c, who ≠ .orangery c) → unlistedAt a.toNat = some (b, n) →
    (b = .gls → (s.stampOf who).secure = true) → size = 4 ∨ size = 8 → a.toNat % size = 0 →
    (∀ v hw, exec (.registerWrite who (.addr a) size v hw) s = .next (s.answer stDONE [])) ∧
    (∀ ev, exec (.readClear who (.addr a) size ev) s = .next (s.answer stDONE (zeros size))) ∧
    exec (.counterRead who (.addr a) size) s = .next (s.answer stDONE (zeros size)))

/-- O36. A read of an RC register keeps the event of its cycle; a blocked counter reads 0 and keeps its count. Cites
R13, R435. -/
def Obligations.ReadsClearAndCountersHide : Prop :=
  ∀ (who : Who) (a : BitVec 48) (size : Nat) (ev : BitVec 32) (s : State) (d : RegDef) (ix : Nat), s.wf = true →
    (∀ c, who ≠ .orangery c) →
    (blockAt a.toNat).isSome = true → regAt a.toNat = some (d, ix) → size * 8 = d.width → (d.block = .gls → (s.stampOf who).secure = true) →
    d.id ≠ .semValue → d.id ≠ .glsRng → d.id ≠ .hifRpCfgData →
    let mayRead (g : Nat) (p : Option Nat) : Prop := bit (s.rd .glsCtrPolicy 0) g = true ∨ (s.stampOf who).secure = true ∨
      isKeeper who = true ∨ ∃ n, p = some n ∧ s.isCoreOf who n = true
    ((∀ g m p, s.ctrGroup d.id ix = some (g, m, p) → mayRead g p) →
      (∃ t, exec (.readClear who (.addr a) size ev) s = .next t ∧ t.resp = ⟨stDONE, leBytes size (s.readable d ix)⟩ ∧
        s.machineKept t ∧ t.log = s.log ∧
        (∀ i, i < 64 → (t.rd d.id ix).testBit i =
          if d.rc.testBit i then ev.toNat.testBit i else (s.rd d.id ix).testBit i) ∧
        (∀ id i, id.key i ≠ d.id.key ix → (d.id = .hifIPostedErr → id ≠ .hifIErrAddr) → t.rd id i = s.rd id i)) ∧
      (∃ t, exec (.counterRead who (.addr a) size) s = .next t ∧ t.resp = ⟨stDONE, leBytes size (s.readable d ix)⟩ ∧
        s.machineKept t ∧ t.log = s.log)) ∧
    (∀ g m p, s.ctrGroup d.id ix = some (g, m, p) → ¬ mayRead g p →
      let shown := leBytes size (s.readable d ix &&& (0xFFFFFFFFFFFFFFFF ^^^ m))
      exec (.readClear who (.addr a) size ev) s =
        .next (((s.hwSet d ix (ev.toNat &&& d.rc)).bump .glsCtrBlocked 0 1).answer stDONE shown) ∧
      exec (.counterRead who (.addr a) size) s = .next ((s.bump .glsCtrBlocked 0 1).answer stDONE shown))

/-- O37. The Keeper serves a waiting mailbox request: duplicates, gates, and what a reply leaves. Derived: Cites R482,
R483, R484, R485, R515, R517, spec/15_host_interface_and_instances.md. -/
def Obligations.MailboxRequestsAreServedInOrder : Prop :=
  (∀ (m : Mbx) (s : State), ∀ p ∈ mbxCommands m,
    ((¬ s.takes m ∨ s.reqOp m ≠ p.1) → exec p.2 s = .next s) ∧
    (s.takes m → s.reqOp m = p.1 →
      (∀ r, (s.mbx (mbxKey m)).window.find? (fun r => r.seq == s.reqSeq m) = some r →
        exec p.2 s = .next (s.putReply (mbxKey m) r true false)) ∧
      (∀ w, (∀ r ∈ (s.mbx (mbxKey m)).window, r.seq ≠ s.reqSeq m) → s.mbxGate (mbxKey m) (s.mbx (mbxKey m)).req = some w →
        exec p.2 s = .next (s.finishMbx (mbxKey m) w (gateBody p.1 w (s.reqBody m)))))) ∧
  (∀ (k : Nat) (s : State) (r : Reply) (dup keep : Bool),
    let b := s.mbx k
    let t := s.putReply k r dup keep
    t.mbx k = { b with
      busy := false, serving := false, ready := true, status := r.status, reply := r.bytes dup,
      window := if keep then (r :: b.window).take 64 else b.window } ∧
    (∀ j, j ≠ k → t.mbx j = s.mbx j) ∧ t.host = s.host ∧ t.tensor = s.tensor ∧ t.dram = s.dram ∧ t.regs = s.regs ∧
    (bit (fld b.req 6 1) 0 = false → t.out = s.out) ∧
    (bit (fld b.req 6 1) 0 = true → k < 16 → t.out = s.out ++ [.irq (s.mbxPlot k) (srcId .kpr k)]) ∧
    (bit (fld b.req 6 1) 0 = true → 16 ≤ k → s.hostBacked (k - 16) = true → (s.inst (k - 16)).stopped = false →
      t.out = s.out ++ [.msix (k - 16) 0]))

/-- O38. Creating, binding, unbinding, destroying and reading a context, and the residency tick. Derived: Cites R219,
R220, R221, R225, R239, R242, spec/07_scheduling_and_contexts.md. -/
def Obligations.ContextServicesAndResidency : Prop :=
  let reply (w c : Nat) : List Byte := leBytes 1 w ++ zeros 1 ++ leBytes 2 c ++ zeros 12
  (∀ (m : Mbx) (s : State) (c : Nat), s.asks m 0x20 → bodyEnds (s.reqBody m) 0 = true →
    (List.range 1024).find? (fun c => (s.ctx? c).isNone) = some c →
    let plot := s.mbxPlot (mbxKey m)
    let held := (s.tensor.ctxs.filter (fun e => (e.2.map (·.plot)) == some plot)).length
    let quota := ((s.plotRec plot).map (·.quota)).getD 0
    (held < quota → ∃ (t : State) (x : CtxSt), exec (.ctxCreate m) s = .next (t.finishMbx (mbxKey m) stDONE (reply stDONE c)) ∧
      x.plot = plot ∧ x.via = mbxKey m ∧ x.binds = [] ∧ x.commands = 0 ∧
      t = { s with tensor := { s.tensor with ctxs := sset (fun _ => none) s.tensor.ctxs c (some x) } }) ∧
    (quota ≤ held → exec (.ctxCreate m) s = .next (s.finishMbx (mbxKey m) stREFUSED_FIT (reply stREFUSED_FIT 0)))) ∧
  (∀ (m : Mbx) (s : State) (x : CtxSt),
    let b := s.reqBody m
    let c := fld b 0 2
    let n := fld b 2 1
    let slot := fld b 3 1
    s.ctx? c = some x → x.plot = s.mbxPlot (mbxKey m) → c < 1024 → n < 128 →
    (s.asks m 0x22 → bodyEnds b 4 = true → slot < 4 → s.ownerOf 0x03 n = x.plot → 0 < (s.share n slot).1 →
      (s.share n slot).2.2 = x.plot → x.home n = none → s.homed n slot < 8 →
      ∃ (t : State) (y : CtxSt), exec (.ctxBind m) s = .next (t.finishMbx (mbxKey m) stDONE (reply stDONE c)) ∧ t.ctx? c = some y ∧
        y.binds = sins x.binds n slot ∧ y.plot = x.plot ∧ t.regs = s.regs ∧ t.dram = s.dram ∧ t.pads = s.pads) ∧
    (s.asks m 0x23 → bodyEnds b 3 = true → x.home n ≠ none → s.bindingBusy c n x = false → s.enclaveOf c = none →
      ∃ (t : State) (y : CtxSt), exec (.ctxUnbind m) s = .next (t.finishMbx (mbxKey m) stDONE (reply stDONE c)) ∧ t.ctx? c = some y ∧
        y.binds = sdel x.binds n ∧ t.dram = s.dram ∧ t.pads = s.pads) ∧
    (s.asks m 0x21 → bodyEnds b 2 = true → s.ctxHasProg c = false → s.ctxHasSpace c = false → s.ctxHasCommand c = false →
      s.enclaveOf c = none → swf (fun _ => none) s.tensor.ctxs = true →
      ∃ t : State, exec (.ctxDestroy m) s = .next (t.finishMbx (mbxKey m) stDONE (reply stDONE c)) ∧ t.ctx? c = none ∧
        t.dram = s.dram ∧ t.mem = s.mem) ∧
    (s.asks m 0x24 → allZero b 2 6 = true → bodyEnds b 16 = true → fld b 8 8 % 64 = 0 →
      s.accessFree { s.mbxStamp (mbxKey m) with ctx := c } (fld b 8 8) 64 true →
      ∃ t : State, exec (.ctxStats m) s = .next (t.finishMbx (mbxKey m) stDONE (reply stDONE c)) ∧ t.tensor = s.tensor ∧
        t.dram = (s.dramPut (fld b 8 8) (x.record c)).dram)) ∧
  (∀ (s : State) (w : Waiter) (n k : Nat) (x : CtxSt), s.wf = true → s.kpr.draining = false → s.kpr.state ≠ 2 →
    let u := s.touch
    u.waiters = [w] → w.beds = [n] → u.tensor.moves = [] → w.ctx < 1024 → u.ctx? w.ctx = some x → n < 128 →
    (u.bed n).pwr = .on → (u.bed n).clearing = none → u.slotFor w.ctx n [] = some (k, none) →
    ∃ t : State, exec .residencyTick s = .next t ∧ t.slotCtx n k = some w.ctx ∧ t.dram = s.dram ∧ t.tensor.moves = [])

/-- O39. A load that passes every check, an unload, the stop of a Plot and its restart. Derived: Cites R19, R49, R171,
R173, R176, R241, R519, spec/05_programs_and_operators.md. -/
def Obligations.LoadingStoppingAndRestarting : Prop :=
  (∀ (m : Mbx) (s s1 s2 s3 s5 : State) (img bt : List Byte) (map_ : List (Nat × Nat)),
    let k := mbxKey m
    let b := s.reqBody m
    let st : Stamp := { s.mbxStamp k with ctx := fld b 0 2 }
    let len := fld b 4 4
    let l := mkLoadIn st.plot (fld b 0 2) (fld b 2 2) img bt
    let beds := (l.mine s.self).map (fun v => ((map_.find? (fun e => e.1 == v)).map (·.2)).getD 0xFF)
    let s4 := s3.pickStore
    let p := s4.2.mkProg l img map_ (fld b 0x10 8) (sget (fun _ => 0) s3.tensor.gens s4.1)
    s.asks m 0x10 → loadBodyOk b = true → s.memRead st (fld b 8 8) len = (s1, some img) →
    sha384 (img.take (len - 48)) = sub img (len - 48) 48 → s.enclaveOf (fld b 0 2) = none → structFail img len = none →
    fld img 4 2 = 1 → fld img 6 2 = 0 → s1.readBinds st img (fld b 0x10 8) = (s2, some bt) → s2.loadChecks l = ([], map_) →
    s2.memWrite st (fld b 0x18 8) ((beds.map (BitVec.ofNat 8) ++ List.replicate 1024 0xFF).take 1024) = (s3, true) →
    p.map.foldl (fun (x : State × Bool) n => if x.2 then x.1.pinCopy p n else x) (s4.2, true) = (s5, true) →
    ∃ t : State, exec (.load m) s = .next (t.finishMbx k stDONE (leBytes 1 stDONE ++ zeros 3 ++
        leBytes 4 (p.gen % 2 ^ 20 * 4096 + s4.1) ++ leBytes 8 0xFFFFFFFF)) ∧
      s4.1 < 4096 ∧ sget (fun _ => none) s3.tensor.progs s4.1 = none ∧ sget (fun _ => none) t.tensor.progs s4.1 = some p ∧
      t.dram = s5.dram ∧ t.pads = s5.pads ∧ t.padLost = s5.padLost ∧ t.plan = s.plan) ∧
  (∀ (m : Mbx) (s : State) (p : Prog),
    let b := s.reqBody m
    let h := fld b 4 4
    s.asks m 0x11 → allZero b 2 2 = true → bodyEnds b 8 = true → fld b 0 2 < 1024 →
    (s.ctx? (fld b 0 2)).map (·.plot) = some (s.mbxPlot (mbxKey m)) → s.prog? h = some p → p.ctx = fld b 0 2 →
    s.progBusy h = false → swf (fun _ => none) s.tensor.progs = true → swf (fun _ => 0) s.tensor.gens = true →
    ∃ t : State, exec (.unload m) s = .next (t.finishMbx (mbxKey m) stDONE []) ∧ sget (fun _ => none) t.tensor.progs (h % 4096) = none ∧
      sget (fun _ => 0) t.tensor.gens (h % 4096) = (sget (fun _ => 0) s.tensor.gens (h % 4096) + 1) % 2 ^ 20 ∧
      t.dram = s.dram ∧ t.pads = s.pads ∧ t.regs = s.regs) ∧
  (∀ (s : State) (p : Fin 16), swf (fun _ => none) s.tensor.ctxs = true →
    (s.tensor.stopReq.contains p.val = false → exec (.plotStop p) s = .next s) ∧
    (s.tensor.stopReq.contains p.val = true → ∃ t : State, exec (.plotStop p) s = .next t ∧ t.tensor.stopped.contains p.val = true ∧
      t.tensor.stopReq.contains p.val = false ∧ t.plan = s.plan ∧ (∀ f ∈ t.tensor.flights, t.queuePlot f.queue ≠ p.val) ∧
      ∀ e ∈ t.tensor.ctxs, e.2.map (·.plot) ≠ some p.val)) ∧
  (∀ (m : Mbx) (s : State) (r : PlotRec),
    let k := mbxKey m
    let p := fld (s.reqBody m) 0 1
    s.asks m 0x70 → bodyEnds (s.reqBody m) 1 = true → p < 16 → k < 16 → s.plotRec k = some r → r.mustRun = true →
    (∃ r', s.plotRec p = some r' ∧ r'.crit ≤ r.crit) → s.tensor.stopped.contains p = true → s.kpr.deadPlots.contains p = false →
    ∃ t : State, exec (.plotRestart m) s = .next (t.finishMbx k stDONE []) ∧ t.tensor.stopped = s.tensor.stopped.filter (· ≠ p) ∧
      (∀ n, s.ownerOf 0x06 n = p → t.semVal n = 0) ∧ (∀ n, s.ownerOf 0x06 n ≠ p → t.semVal n = s.semVal n) ∧
      t.plan = s.plan ∧ t.dram = s.dram)

/-- O40. An Eliravy port trains, retrains, checks its wiring and receives flits in sequence. Derived: Cites R254,
R256, R257, R258, spec/08_groves.md. -/
def Obligations.PortsTrainAndCarryFlits : Prop :=
  ∀ (k : Fin 4) (s : State),
    let p := s.elxPort k.val
    (∀ lanes : BitVec 4,
      let w := trainState p.half lanes.toNat
      (p.state ≠ 1 → exec (.portTrain k lanes) s = .next s) ∧
      (p.state = 1 → ∃ t, exec (.portTrain k lanes) s = .next t ∧ (t.elxPort k.val).state = w ∧
        (t.elxPort k.val).laneOk = lanes.toNat ∧ (t.elxPort k.val).half = (p.half || decide (3 ≤ w)) ∧
        (p.half = false → lanes = 15 → w = 2) ∧ (w = 2 → lanes = 15) ∧ w ≤ 4 ∧ t.dram = s.dram ∧ t.tensor = s.tensor ∧
        t.log.raised = s.log.raised ++
          (if lanes = 15 then [] else [⟨s.now, srcId .elx k.val, 0x10, 1, stDONE, 0xFF, 0xFFFF, 0, 15 - lanes.toNat + 16 * w⟩]) ++
          (if w = 0 then [⟨s.now, srcId .elx k.val, 0x11, 1, stDONE, 0xFF, 0xFFFF, 0, 256 * p.peer⟩] else []))) ∧
    (p.live = true → 16 ≤ p.failRun → ∃ t, exec (.portRetrain k) s = .next t ∧ (t.elxPort k.val).state = 1 ∧
      (t.elxPort k.val).failRun = 0 ∧ t.rd .elxPRetrain k.val = satAdd32 (s.rd .elxPRetrain k.val) 1 ∧ t.dram = s.dram) ∧
    ((p.live = false ∨ p.failRun < 16) → exec (.portRetrain k) s = .next s) ∧
    (∀ (g : Fin 8) (q : Fin 4),
      (p.live = false → exec (.linkHello k g q) s = .next s) ∧
      (p.live = true → g.val = s.portPeer k.val → q = k →
        exec (.linkHello k g q) s = .next (s.setElxPort k.val { p with peer := g.val, peerPort := q.val })) ∧
      (p.live = true → swf (fun _ => {}) s.elx.ports = true → g.val ≠ s.portPeer k.val ∨ q ≠ k →
        ∃ t, exec (.linkHello k g q) s = .next t ∧ (t.elxPort k.val).state = 0 ∧
          t.log.raised = s.log.raised ++ [⟨s.now, srcId .elx k.val, 0x11, 1, stDONE, 0xFF, 0xFFFF, 0, 9 + 256 * g.val⟩])) ∧
    (∀ f : List Byte,
      (p.live = false → exec (.flitReceive k f) s = .next s) ∧
      (p.live = true → f.length ≠ 256 ∨ crc64 0 (f.take 248) ≠ fld f 248 8 →
        let n := if !p.replayReq || bits (fld f 0 8) 11 0 == p.rxNext then p.failRun + 1 else p.failRun
        exec (.flitReceive k f) s = .next ((s.setElxPort k.val { p with replayReq := true, failRun := n }).sendHeader k.val)) ∧
      (p.live = true → f.length = 256 → crc64 0 (f.take 248) = fld f 248 8 →
        ∃ t, exec (.flitReceive k f) s = .next t ∧ t.dram = s.dram ∧ t.tensor = s.tensor ∧
          (bits (fld f 0 8) 11 0 ≠ p.rxNext → (t.elxPort k.val).failRun = p.failRun ∧
            (t.elxPort k.val).rxNext = p.rxNext ∧ (t.elxPort k.val).inbox = p.inbox) ∧
          (bits (fld f 0 8) 11 0 = p.rxNext → (t.elxPort k.val).rxNext = (p.rxNext + 1) % 4096 ∧
            (t.elxPort k.val).failRun = 0 ∧ (t.elxPort k.val).replayReq = false ∧ (t.elxPort k.val).inbox = p.inbox ++
              (parseMsgs 40 (p.rx ++ sub f 8 240)).1.filter (fun m => m.kind ≠ 8))))

/-- O41. Messages of members are performed as if local and answered; accesses to remote windows are sent or refused.
Derived: Cites R244, R260, R263, R264, R265, spec/08_groves.md. -/
def Obligations.RemoteAccessesArePerformedAtTheTarget : Prop :=
  (∀ (k : Fin 4) (s : State) (m : ElxMsg) (r : List ElxMsg), (s.elxPort k.val).inbox = m :: r →
    let p := s.elxPort k.val
    let s1 := s.setElxPort k.val { p with inbox := r, owed := bumpAt p.owed (elxVc m.kind m.hop) }
    let st := m.stamp k.val
    let n := m.addr % 16384
    let here := m.dest = s.self ∧ s.isMember m.src = true
    (∀ c ∈ [(1, Instr.write k), (2, .read k), (3, .readData k), (4, .ack k), (5, .semSignal k), (6, .semAdd k), (7, .semRead k)],
      (m.kind ≠ c.1 → exec c.2 s = .next s) ∧
      (m.kind = c.1 → m.dest ≠ s.self → (s.elx.state ≠ 3 ∨ m.kind = 3 ∨ m.kind = 4) →
        exec c.2 s = .next ((s1.elxForward m).returnCredits k.val)) ∧
      (m.kind = c.1 → (m.dest = s.self ∧ s.isMember m.src = false) ∨
          (m.dest ≠ s.self ∧ s.elx.state = 3 ∧ m.kind ≠ 3 ∧ m.kind ≠ 4) →
        exec c.2 s = .next ((s1.raise
          ⟨s.now, srcId .elx k.val, fcOWNER, 0, stOWNER_FAULT, m.plot, m.ctx, m.addr, 4⟩).returnCredits k.val))) ∧
    (here → m.kind = 1 →
      (s.accessFree st m.addr m.data.length true →
        ∃ t : State, exec (.write k) s = .next ((t.elxSend (m.answer s.self 4 stDONE 0 [])).returnCredits k.val) ∧
          t.dram = (s.dramPut m.addr m.data).dram ∧ t.elx = s1.elx ∧ t.tensor = s.tensor ∧ t.log = s.log) ∧
      (m.addr + m.data.length ≤ dramSize → s.firstRefused st m.addr m.data.length true ≠ none →
        ∃ (t : State) (x : FaultRec),
          exec (.write k) s = .next ((t.elxSend (m.answer s.self 4 stOWNER_FAULT 0 [])).returnCredits k.val) ∧
          t.dram = s.dram ∧ t.mem = s.mem ∧ t.log.raised = s.log.raised ++ [x] ∧ x.cls = fcOWNER ∧ x.severity = 2)) ∧
    (here → m.kind = 2 → s.accessFree st m.addr m.dataLen false →
      ∃ t : State, exec (.read k) s = .next ((t.elxSend
          (m.answer s.self 3 stDONE m.dataLen (s.dramGet m.addr m.dataLen))).returnCredits k.val) ∧
        t.dram = s.dram ∧ t.elx = s1.elx ∧ t.log = s.log) ∧
    (here → m.kind = 5 → s.semAllowed st n = true → s.wf = true →
      ∃ t : State, exec (.semSignal k) s = .next ((t.elxSend (m.answer s.self 4 stDONE 0 [])).returnCredits k.val) ∧
        t.semVal n = max (s.semVal n) (leNat m.data) ∧ t.dram = s.dram) ∧
    (here → m.kind = 6 → s.semAllowed st n = true → s.wf = true →
      ∃ t : State, exec (.semAdd k) s = .next ((t.elxSend (m.answer s.self 4 stDONE 0 [])).returnCredits k.val) ∧
        t.semVal n = (if leNat m.data = 0 then s.semVal n else min (s.semVal n + leNat m.data) 0xFFFFFFFFFFFFFFFF) ∧
        t.dram = s.dram) ∧
    (here → m.kind = 7 → s.semAllowed st n = true →
      exec (.semRead k) s =
        .next ((s1.elxSend (m.answer s.self 3 stDONE 8 (leBytes 8 (s.semVal n)))).returnCredits k.val)) ∧
    (∀ o : RemoteOp, here → s.elx.ops.find? (fun o => o.msg.tag == m.tag && o.msg.dest == m.src && o.port.isSome) = some o →
      ∀ c ∈ [(3, Instr.readData k), (4, .ack k)], m.kind = c.1 →
        (o.use = .plain → ∃ t : State, exec c.2 s = .next (t.elxPump.returnCredits k.val) ∧ t.elx = { s1.elx with ops := s.elx.ops.erase o } ∧
          t.out = s.out ++ [.remoteDone o.stamp o.msg.dest o.msg.addr m.status m.data]) ∧
        (∀ b ch off skip len, o.use = .dma b ch b off skip len → m.status = stDONE → 0 < len →
          ∃ t, exec c.2 s = .next t ∧ t.pads = writeBytes (padDefault s.padLost) s.pads (padAddr b off) (sub m.data skip len) ∧ t.dram = s.dram))) ∧
  (∀ (who : Who) (a : BitVec 48) (size : Nat) (w : Bool) (data : List Byte) (s : State) (d off : Nat),
    remoteWindow a.toNat = some (d, off) →
    let st := s.stampOf who
    (windowSizeOk st a.toNat size = false → exec (.remoteWindowAccess who a size w data) s =
      .next ((s.sizeRefused st .elx 0 a.toNat).answer stREFUSED_FORMAT (zeros (if w then 0 else size)))) ∧
    (windowSizeOk st a.toNat size = true → d ≠ s.self → ∀ r, s.windowReason st d off size w = some r →
      exec (.remoteWindowAccess who a size w data) s =
        .next ((s.windowRefused st a.toNat r).answer stOWNER_FAULT (zeros (if w then 0 else size)))) ∧
    (windowSizeOk st a.toNat size = true → d ≠ s.self → s.windowReason st d off size w = none → windowKind off size = some 0 →
      exec (.remoteWindowAccess who a size w data) s =
        .next ((s.elxOp st (if w then 1 else 2) d off size (data.take size) .plain).answer stDONE [])) ∧
    (windowSizeOk st a.toNat size = true → d = s.self → windowKind off size = some 0 → w = false →
      s.accessFree st off size false → ∃ t, exec (.remoteWindowAccess who a size w data) s = .next t ∧
        t.resp = ⟨stDONE, s.dramGet off size⟩ ∧ t.dram = s.dram))

/-- O42. Formation, heartbeats, discipline and expulsion change the Grove as the manual describes. Derived: Cites
R270, R271, R272, R274, R275, R276, R277, R374, spec/08_groves.md. -/
def Obligations.GrovesFormBeatAndExpel : Prop :=
  (∀ (s : State) (d : Fin 8) (dig : List Byte) (fw : BitVec 32) (ft ta tb tc : BitVec 64), s.self = 0 → d.val ≠ 0 →
    d.val < s.groveSize → s.elx.state = 1 ∨ s.elx.state = 2 →
    let delta := elxDelta ta.toNat tb.toNat tc.toNat s.now
    let s1 := s.setPeer d.val { s.peerSt d.val with delta := delta }
    (s.joinCauses d.val dig fw.toNat ft.toNat delta = [] → exec (.join d dig fw ft ta tb tc) s = .next (State.sendCtrl
      { s1 with elx := { s1.elx with admitted := setBit s.elx.admitted d.val } } d.val .admitted)) ∧
    (∀ c l, s.joinCauses d.val dig fw.toNat ft.toNat delta = c :: l → ∃ t, exec (.join d dig fw ft ta tb tc) s = .next t ∧
      t.ctrls = s.ctrls ++ [.ctrl d.val (.leftOut c)] ∧ t.elx.cause = c ∧ t.elx.causeDev = d.val ∧ t.elx.admitted = s.elx.admitted ∧
      t.log.raised = s.log.raised ++ [⟨s.now, srcId .elx 0, 0x12, 1, stABORTED_GROVE, 0xFF, 0xFFFF, 0, c + 256 * d.val⟩])) ∧
  (∀ s : State, s.self = 0 → s.elx.state = 1 → s.spl.acceptTime + s.formWindow ≤ s.now →
    let mask := setBit s.elx.admitted 0
    let hb := bits (s.rd .elxCfg 0) 23 16
    ∃ t, exec .formationWindowEnd s = .next t ∧ t.elx.state = 2 ∧ t.elx.members = mask ∧ t.elx.formTime = s.now ∧
      t.elx.hbPeriod = hb ∧ t.ctrls = s.ctrls ++ (bitList 8 s.elx.admitted).map (fun d => .ctrl d (.formed mask hb))) ∧
  (∀ s : State, s.forming = true →
    (s.elx.joined = false → 2 * s.spl.acceptTime + s.formWindow ≤ 2 * s.now → exec .halfFormWindow s = .next s.sendJoin) ∧
    (∀ (tol : BitVec 16) (hb : BitVec 8), s.elx.joined = false → s.elx.timeSent + 1000000 ≤ s.now → exec (.time .due tol hb) s = .next (State.sendCtrl
      { s with elx := { s.elx with timeSent := s.now } } 0 (.timeRequest s.self s.exchangeTimes))) ∧
    (∀ (delta : Int) (tol : BitVec 16) (hb : BitVec 8) (ta : BitVec 64), s.elx.joined = false →
      let good := if 2 * delta.natAbs ≤ tol.toNat then s.elx.goodTimes + 1 else 0
      ∃ t, exec (.time (.reply (some delta) ta) tol hb) s = .next t ∧ t.elx.timeAt = some (ta.toNat, s.now) ∧ t.elx.goodTimes = good ∧ t.elx.joined = decide (2 ≤ good) ∧
        t.tim.adj = clampI 1000000 (s.tim.adj - divOpen 374 (1000000000 * delta) 2000000) ∧ t.elx.state = 1) ∧
    (s.elx.joined = true → exec .admitted s = .next { s with elx := { s.elx with isAdmitted := true } }) ∧
    (∀ mask hb : BitVec 8, s.elx.isAdmitted = true → bit mask.toNat s.self = true →
      ∃ t, exec (.formed mask hb) s = .next t ∧ t.elx.state = 2 ∧ t.elx.members = mask.toNat ∧ t.elx.hbPeriod = hb.toNat ∧
        t.elx.hbAt = s.now ∧ t.dram = s.dram) ∧
    (∀ c : BitVec 8, ∃ t, exec (.leftOut c) s = .next t ∧ t.elx.state = 3 ∧ t.elx.members = 0 ∧ t.elx.cause = c.toNat ∧
      t.tim.groveHold = true) ∧
    (s.spl.acceptTime + s.formWindow + 100000000 ≤ s.now → ∃ t, exec .noMaster s = .next t ∧ t.elx.state = 3 ∧ t.elx.cause = 6)) ∧
  (∀ s : State, s.elx.state = 2 → s.self = 0 → s.elx.hbAt + hbNs s.elx.hbPeriod ≤ s.now →
    let ms := (bitList 8 s.elx.members).filter (· ≠ 0)
    ∃ t, exec .heartbeatSend s = .next t ∧ t.elx.hbAt = s.now ∧
      t.ctrls = s.ctrls ++ ms.map (fun d => .ctrl d (.heartbeat s.now (toTwos 32 (s.peerSt d).delta))) ∧
      ∀ d ∈ ms, (t.peerSt d).sent = (s.peerSt d).sent ++ [s.now] ∧ (t.peerSt d).missed = (s.peerSt d).missed) ∧
  (∀ (s : State) (d : Fin 8) (ta tb tc : BitVec 64), s.elx.state = 2 → s.self = 0 → d.val ≠ 0 → d.val < s.groveSize → bit s.elx.members d.val = true →
    let delta := elxDelta ta.toNat tb.toNat tc.toNat s.now
    (delta.natAbs ≤ s.elx.tol → exec (.heartbeatReply d ta tb tc) s = .next (s.setPeer d.val
      { sent := (s.peerSt d.val).sent.filter (· ≠ ta.toNat), missed := if (s.peerSt d.val).sent.contains ta.toNat then 0
          else (s.peerSt d.val).missed, delta := delta })) ∧
    (s.elx.tol < delta.natAbs → ∃ t, exec (.heartbeatReply d ta tb tc) s = .next t ∧ bit t.elx.members d.val = false ∧
      t.elx.aborted = true ∧ t.elx.cause = 4 ∧ (s.alsoMissed d.val = [] → t.elx.causeDev = d.val)) ∧
    (∀ (times : Option (BitVec 64 × BitVec 64 × BitVec 64)) (tol : BitVec 16) (hb : BitVec 8), ∃ t, exec (.time (.request d times) tol hb) s = .next t ∧ t.elx.members = s.elx.members ∧
      let x := times.map (fun e => elxDelta e.1.toNat e.2.1.toNat e.2.2.toNat s.now)
      t.ctrls = s.ctrls ++ [.ctrl d.val (.timeReply x (bits (s.rd .elxCfg 0) 15 0) (bits (s.rd .elxCfg 0) 23 16) s.now)]) ∧
    (s.expired d.val ≠ [] → (s.peerSt d.val).missed < 2 → exec (.heartbeatMissed d) s = .next (s.countMiss d.val) ∧
      ((s.countMiss d.val).peerSt d.val).missed = (s.peerSt d.val).missed + 1) ∧
    (s.expired d.val ≠ [] → 2 ≤ (s.peerSt d.val).missed → ∃ t, exec (.heartbeatMissed d) s = .next t ∧
      bit t.elx.members d.val = false ∧ t.elx.aborted = true ∧ t.elx.cause = 5)) ∧
  (∀ s : State, s.elx.state = 2 → s.self ≠ 0 →
    (∀ (at_ : BitVec 64) (delta : Int), ∃ t, exec (.heartbeat at_ delta) s = .next t ∧ t.elx.hbAt = s.now ∧ t.elx.state = 2 ∧
      t.elx.members = s.elx.members ∧ t.ctrls = s.ctrls ++ [.ctrl 0 (.heartbeatReply at_.toNat s.now s.now)] ∧
      t.tim.adj = clampI 1000000 (s.tim.adj - divOpen 374 (1000000000 * delta) (2 * hbNs s.elx.hbPeriod))) ∧
    (s.elx.hbAt + 3 * hbNs s.elx.hbPeriod ≤ s.now → ∃ t, exec .noMaster s = .next t ∧ t.elx.state = 3 ∧ t.elx.members = 0 ∧
      t.elx.cause = 6 ∧ t.tim.groveHold = true) ∧
    (∀ mask c : BitVec 8,
      (bit mask.toNat s.self = true → ∃ t, exec (.expel mask c) s = .next t ∧ t.elx.state = 3 ∧ t.elx.members = 0 ∧
        t.elx.cause = c.toNat) ∧
      (bit mask.toNat s.self = false → ∃ t, exec (.expel mask c) s = .next t ∧ t.elx.state = 2 ∧ t.elx.cause = c.toNat ∧
        t.elx.aborted = true ∧ ∀ d, bit t.elx.members d = (bit s.elx.members d && !bit mask.toNat d && decide (d < 8)))))

/-- O43. Packets of a port build the frame of their stream line by line; ISP lines and enabling a stream. Derived:
Cites R284, R285, R286, R287, R289, R295, R304, R306, R307, spec/09_sensor_ingest.md. -/
def Obligations.SensorFramesAreReceived : Prop :=
  (∀ (k : Fin 12) (vc : Fin 16) (s : State),
    (s.portStreams k.val ≠ [] → (∀ fnum, exec (.frameStart k vc fnum 2) s = .next (s.bump .snsPHdrDrop k.val 1)) ∧
      (∀ dt b ok, exec (.longPacket k vc dt b ok 2) s = .next (s.bump .snsPHdrDrop k.val 1)) ∧
      exec (.frameEnd k vc 2) s = .next (s.bump .snsPHdrDrop k.val 1)) ∧
    (∀ (hdr : Fin 3) (r : StreamRec), hdr ≠ 2 → s.vcStreams k.val vc.val = [r] →
      let n := r.stream
      let x := s.snsStream n
      let old := (x.frames.filter (fun f => !f.noImage)).map (fun f => if f.ended then f else f.close r.height none)
      (∀ fnum : BitVec 16, s.streamOn n = true → x.onAt ≠ some s.dt → tooEarly x r.period s.dt = false → r.goldenEvery = 0 →
        (1 ≤ s.freeSlots n → ∃ (t : State) (f : SnsFrame), exec (.frameStart k vc fnum hdr) s = .next t ∧
          t.snsStream n = { x with
            frames := old ++ [f], count := (x.count + 1) % 2 ^ 32, lastFs := some s.dt, missing := false, periods := 0,
            fsWas := s.rd .snsSLastFs n, fnum := if fnum = 0 then x.fnum else fnum.toNat } ∧
          f.fs = s.dt ∧ f.count = x.count ∧ f.fnum = fnum.toNat ∧ f.lines = [] ∧ f.ended = false ∧
          f.flags = fnumFlags (s.rd .snsSCfg n) x.fnum fnum.toNat ∧ f.cfg = s.rd .snsSCfg n ∧ t.dram = s.dram) ∧
        (s.freeSlots n = 0 → ∃ t, exec (.frameStart k vc fnum hdr) s = .next t ∧ (t.snsStream n).frames = old ∧
          (t.snsStream n).count = (x.count + 1) % 2 ^ 32 ∧ t.rd .snsSDropped n = satAdd32 (s.rd .snsSDropped n) 1 ∧
          t.log.raised = s.log.raised ++ [s.snsRec n 0x11 0 stCANCELLED (1 + 2 ^ 32 * (x.count % 2 ^ 32))])) ∧
      (∀ (dt : Fin 64) (b : List Byte) (ok : Bool) (f : SnsFrame), r.dataType = dt.val → dataTypeOk dt.val = true →
        x.open? = some f → f.golden = false → f.noImage = false →
        let isp := decide (bits (s.rd .snsSCfg n) 3 1 ≠ 0)
        let lost := decide (65536 < s.lineBuffer r.port + b.length)
        let flags := if ok then f.flags else setBit f.flags 5
        ∃ t, exec (.longPacket k vc dt b ok hdr) s = .next t ∧ t.dram = s.dram ∧
          t.rd .snsPOverflow r.port = (if lost then satAdd32 (s.rd .snsPOverflow r.port) 1 else s.rd .snsPOverflow r.port) ∧
          t.snsStream n = x.onOpen (fun f => { f with
            lines := f.lines ++ [⟨b, s.dt, isp && !lost, lost⟩], got := f.got + 1, lenOk := f.lenOk && b.length == r.line,
            flags := if lost then setBit flags 6 else flags })) ∧
      (∀ f : SnsFrame, x.open? = some f → f.golden = false → f.noImage = false → ∃ t, exec (.frameEnd k vc hdr) s = .next t ∧
        t.dram = s.dram ∧ (t.snsStream n).frames = ((x.onOpen (fun f => { f with
          fe := some s.dt, ended := true,
          flags := if f.lenOk && f.got == r.height then f.flags else setBit f.flags 4 })).frames.filter
            (fun f => !(f.noImage && f.ended)))))) ∧
  (∀ (i : Fin 8) (s : State),
    let waits := fun (l : List SnsFrame) => (l.flatMap (·.lines)).filter (·.waiting)
    (s.ispNext i.val = none → exec (.ispLine i) s = .next s) ∧
    (∀ n a, s.ispNext i.val = some (n, a) → s.slicing 4 i.val = false →
      let l := takeFrameLine (s.snsStream n).frames
      exec (.ispLine i) s = .next (s.setStream n { s.snsStream n with frames := l }) ∧
      (waits l).length + 1 = (waits (s.snsStream n).frames).length)) ∧
  (∀ (who : Who) (n : Fin 96) (v : BitVec 32) (s : State) (r : StreamRec), s.wf = true → s.streamRec n.val = some r →
    r.stream = n.val →
    (isKeeper who = false → s.isCoreOf who r.plot = false → ∃ t, exec (.snsCfgWrite who n v) s = .next t ∧ t.sns = s.sns ∧
      t.rd .snsSCfg n.val = s.rd .snsSCfg n.val) ∧
    ((isKeeper who = true ∨ s.isCoreOf who r.plot = true) → r.cfgOk v.toNat = true →
      (∀ d, RegId.row .snsSCfg = some d → v.toNat &&& (0xFFFFFFFFFFFFFFFF ^^^ d.mask) = 0) →
      (bit (s.rd .snsSCfg n.val) 0 = false → bit v.toNat 0 = true → s.plotRunning r.plot = true →
        r.payload v.toNat + 64 ≤ 65536 * bits (s.rd .snsSRingCfg n.val) 24 16 →
        ∃ t, exec (.snsCfgWrite who n v) s = .next t ∧ bit (t.rd .snsSCfg n.val) 0 = true ∧ t.rd .snsSWr n.val = 0 ∧
          t.rd .snsSRd n.val = 0 ∧ t.sns = (s.setStream n.val { s.snsStream n.val with
            count := 0, run := 0, frozen := false, lastFs := none, missing := false, periods := 0, stopped := false,
            onAt := some s.dt, rdAt := none }).sns) ∧
      (bit (s.rd .snsSCfg n.val) 0 = true → bit v.toNat 0 = false → bits v.toNat 5 1 = bits (s.rd .snsSCfg n.val) 5 1 →
        let x := s.snsStream n.val
        ∃ t, exec (.snsCfgWrite who n v) s = .next t ∧ bit (t.rd .snsSCfg n.val) 0 = false ∧
          t.sns = (s.setStream n.val { x with frames := [] }).sns ∧
          (x.lastFs ≠ some s.dt → t.rd .snsSLastFs n.val = s.rd .snsSLastFs n.val ∧
            t.rd .snsSDropped n.val = min (s.rd .snsSDropped n.val + x.frames.length) 0xFFFFFFFF) ∧
          (x.lastFs = some s.dt → t.rd .snsSLastFs n.val = x.fsWas ∧
            t.rd .snsSDropped n.val = min (s.rd .snsSDropped n.val + (x.frames.filter (fun f => f.fs ≠ s.dt)).length) 0xFFFFFFFF))))

/-- O44. A frame is published into its slot; deadlines, golden windows and missing frames are reported. Derived: Cites
R288, R289, R290, R291, R301, R302, R303, R304, spec/09_sensor_ingest.md. -/
def Obligations.SensorFramesArePublished : Prop :=
  ∀ (n : Fin 96) (s : State), s.wf = true → swf (fun _ => {}) s.sns.streams = true →
    let x := s.snsStream n.val
    let cfg := s.rd .snsSRingCfg n.val
    let slot := s.rd .snsSRingBase n.val + s.rd .snsSWr n.val % bits cfg 7 0 * (65536 * bits cfg 24 16)
    let st := s.stampOf (.sensor n)
    let rec_ (cls sev w detail : Nat) : FaultRec :=
      ⟨s.now, srcId .sns n.val, cls, sev, w, ((s.streamRec n.val).map (·.plot)).getD 0xFF, 0xFFFF, 0, detail⟩
    (∀ (r : StreamRec) (f : SnsFrame) (rest : List SnsFrame), s.streamRec n.val = some r → r.stream = n.val → st.plot < 16 →
      x.frames = f :: rest → f.ended = true → f.lines.any (·.waiting) = false → f.noImage = false →
      let data := (s.framePayload r f).2
      (s.accessFree st (slot + 64) data.length true → s.accessFree st slot 64 true →
        ∃ t, exec (.framePublish n) s = .next t ∧ (∀ i, i < data.length → t.dramByte (slot + 64 + i) = data.getD i 0) ∧
          t.dramGet slot 8 = leBytes 8 (f.fs / 4294967296) ∧
          (∀ a, a < slot ∨ slot + 64 + data.length ≤ a → t.dramByte a = s.dramByte a) ∧
          t.rd .snsSWr n.val = (s.rd .snsSWr n.val + 1) % 2 ^ 32 ∧
          t.rd .snsSFrames n.val = (s.rd .snsSFrames n.val + 1) % 2 ^ 32 ∧
          (t.snsStream n.val).frames = x.frames.filter (fun g => g.count ≠ f.count) ∧
          (let sem := s.rd .snsSSem n.val
           bit sem 16 = true → s.semAllowed st (bits sem 13 0) = true →
            t.semVal (bits sem 13 0) = satAdd64 (s.semVal (bits sem 13 0)) 1)) ∧
      (slot + 64 + data.length ≤ dramSize → s.firstRefused st (slot + 64) data.length true ≠ none →
        ∃ t, exec (.framePublish n) s = .next t ∧ (t.snsStream n.val).stopped = true ∧ t.streamOn n.val = false ∧
          t.dram = s.dram ∧ t.rd .snsSWr n.val = s.rd .snsSWr n.val)) ∧
    (∀ (c : ClassRec) (f : SnsFrame), s.streamClass false n.val = some c → c.deadline ≠ 0 →
      x.frames.filter (fun f => !f.golden && !f.missed && decide (f.fs + 4294967296 * c.deadline < s.dt)) = [f] →
      ∃ t, exec (.frameDeadline n) s = .next t ∧ t.rd .snsSFaults n.val = satAdd32 (s.rd .snsSFaults n.val) 1 ∧
        t.log.raised = s.log.raised ++ [rec_ fcDEADLINE c.sev stDEADLINE_MISSED f.count] ∧
        (2 ≤ c.sev → (t.snsStream n.val).frames = x.frames.filter (fun g => g.count ≠ f.count)) ∧
        (c.sev < 2 → (t.snsStream n.val).frames = x.frames.map (fun g => if g.count = f.count then { g with
          missed := true, flags := setBit g.flags 7 } else g))) ∧
    (∀ (c : ClassRec) (g : GoldenSt), s.streamClass true n.val = some c → c.deadline ≠ 0 →
      s.gth.golden.filter (fun g => g.stream == n.val && !g.published && decide (g.fs + c.deadline < s.now)) = [g] →
      ∃ t, exec (.goldenWindowEnd n) s = .next t ∧ t.rd .snsSFaults n.val = satAdd32 (s.rd .snsSFaults n.val) 1 ∧
        t.log.raised = s.log.raised ++ [rec_ fcDEADLINE c.sev stDEADLINE_MISSED (g.count + 2 ^ 32)] ∧
        (∀ h ∈ t.gth.golden, h ∈ s.gth.golden ∧ h ≠ g) ∧
        (t.snsStream n.val).frames = x.frames.filter (fun f => !(f.golden && f.count == g.count))) ∧
    (∀ (r : StreamRec) (t0 : Nat), s.streamRec n.val = some r → x.lastFs = some t0 → s.streamOn n.val = true →
      let p := 4294967296 * r.period
      let due := (2 * (s.dt - t0) - 3 * p) / (2 * p)
      (2 * (s.dt - t0) < 3 * p → exec (.frameMissing n) s = .next s) ∧
      (3 * p ≤ 2 * (s.dt - t0) → ∃ t, exec (.frameMissing n) s = .next t ∧ (t.snsStream n.val).missing = true ∧
        (t.snsStream n.val).periods = due ∧ t.rd .snsSFaults n.val = satAdd32 (s.rd .snsSFaults n.val) (due - x.periods) ∧
        t.log.raised = s.log.raised ++ (if x.missing then [] else
          [rec_ 0x12 (s.streamSev false n.val 0) stDEADLINE_MISSED (t0 / 4294967296)])))

/-- O45. A pass is fetched, starts when ready, runs its groups and completes; deadlines and traps end it. Derived:
Cites R311, R313, R314, R315, R316, R317, R327, R340, spec/10_orangery_graphics_and_display.md. -/
def Obligations.PassesAreFetchedRunAndCompleted : Prop :=
  (∀ (p : Fin 16) (s : State), s.wf = true →
    let x := s.orgRing p.val
    let st := s.orgStamp p.val
    let head := s.rd .orgQHead p.val
    let a := s.rd .orgQBase p.val + 64 * (head % 2 ^ bits (s.rd .orgQCfg p.val) 7 4)
    ((s.still 20 = true ∨ s.plotRunning p.val = false ∨ s.shaders p.val = []) → exec (.passFetch p) s = .next s) ∧
    (s.still 20 = false → s.plotRunning p.val = true → s.shaders p.val ≠ [] →
      (bit (s.rd .orgQCfg p.val) 0 = true → head ≠ s.rd .orgQTail p.val → (∃ q ∈ x.passes, q.state = 2) →
        s.accessFree st a 64 false →
        (∀ w ∈ x.window, w.1 ≠ fld (s.dramGet a 64) 0 4) → (∀ q ∈ x.passes, q.seq ≠ fld (s.dramGet a 64) 0 4) →
        ∃ (t : State) (f : OrgPass), exec (.passFetch p) s = .next t ∧ t.orgRing p.val = { x with passes := x.passes ++ [f] } ∧
          f.raw = s.dramGet a 64 ∧ f.pos = head ∧ f.state = 0 ∧ f.era = x.era ∧ t.rd .orgQHead p.val = (head + 1) % 2 ^ 32 ∧
          t.dram = s.dram) ∧
      (∀ f : OrgPass, head = s.rd .orgQTail p.val → x.next = some f → f.bad = none →
        (f.state = 0 → ∀ w, s.passRefusal p.val f = some w → exec (.passFetch p) s = .next (s.completePass p.val f w)) ∧
        ((f.state = 0 → s.passRefusal p.val f = none) → s.passWait p.val f = true →
          f.desc = [] →
          let n := if f.compute then 64 else 128
          let da := fld f.raw 0x28 8
          let d := s.dramGet da n
          let named := bitList 16 (coresMask f.compute d)
          let cores := if named.isEmpty then s.shaders p.val else named
          s.accessFree st da n false →
          (if f.compute then computeDescOk d else renderDescOk d) = true → named.all (s.shaders p.val).contains = true →
          ∃ t g, exec (.passFetch p) s = .next t ∧ (t.orgRing p.val).passes.find? (fun q => q.pos == f.pos && q.era == f.era) = some g ∧
            g.desc = d ∧ g.cores = cores ∧ t.dram = s.dram ∧
            (s.coresFree p.val cores = true → g.state = 2 ∧ g.start = some s.now) ∧
            (s.coresFree p.val cores = false → g.state = 1))))) ∧
  (∀ (who : Who) (p : Fin 16) (v : BitVec 32) (s : State), s.wf = true → isKeeper who = true ∨ s.isCoreOf who p.val = true →
    (∀ d, RegId.row .orgQCfg = some d → v.toNat &&& (0xFFFFFFFFFFFFFFFF ^^^ d.mask) = 0) → 4 ≤ bits v.toNat 7 4 →
    bits v.toNat 7 4 ≤ 12 → bit v.toNat 0 = true → bit (s.rd .orgQCfg p.val) 0 = false →
    ∃ t, exec (.orgQpCfgWrite who p v) s = .next t ∧ t.rd .orgQTail p.val = 0 ∧ t.rd .orgQHead p.val = 0 ∧
      bit (t.rd .orgQCfg p.val) 0 = true ∧ (t.orgRing p.val).era = (s.orgRing p.val).era + 1 ∧
      (t.orgRing p.val).passes = (s.orgRing p.val).passes ∧ (t.orgRing p.val).cpl = 0 ∧
      (t.orgRing p.val).dups = (s.orgRing p.val).dups) ∧
  (∀ (p : Fin 16) (s : State), s.still 20 = false → swf (fun _ => {}) s.org.cores = true →
    (∀ f, s.computePass p.val = some f → (∃ t, exec (.compute p) s = .next t ∧
        t.org.rings = (s.updPass p.val f OrgPass.dispatch).org.rings ∧ t.dram = s.dram ∧
        (∀ c ∈ f.dispatch.busy, c ∉ f.busy → (t.orgCore c).vectors = fld f.desc 8 2 / 64 ∧
          (t.orgCore c).group.cells = [] ∧ (t.orgCore c).group.lost ≠ none)) ∧
      f.dispatch.busy.length = f.busy.length + (f.dispatch.nextGroup - f.nextGroup) ∧ f.nextGroup ≤ f.dispatch.nextGroup ∧
      (f.nextGroup ≤ fld f.desc 4 4 → f.dispatch.nextGroup ≤ fld f.desc 4 4)) ∧
    (∀ f w, (s.orgRing p.val).passes.find? (fun f => f.finished.isSome) = some f → f.finished = some w →
      exec (.passComplete p) s = .next ((s.completePass p.val f w).passAdvance p.val) ∧
      ((s.orgRing p.val).dups = [] → f.frame = false → ∃ l, (s.completePass p.val f w).orgRing p.val = { s.orgRing p.val with
        passes := l, window := ((f.seq, w) :: (s.orgRing p.val).window).take 64, cpl := (s.orgRing p.val).cpl + 1 } ∧
        ∀ q ∈ l, ¬ (q.pos = f.pos ∧ q.era = f.era)))) ∧
  (∀ (c : Fin 16) (ws : List (BitVec 48 × List Byte)) (s s1 : State) (p : Nat) (f : OrgPass), s.still 20 = false →
    s.corePass c.val = some (p, f) → f.busy.contains c.val = true →
    let l := ws.map (fun w => (w.1.toNat, w.2))
    s.coreStores p c.val l = (s1, true) →
    let s2 := s1.groupClear c.val
    let g := { f with busy := f.busy.erase c.val, done := f.done + 1 }
    exec (.computeGroupEnd c ws) s = .next
      (if f.state = 2 ∧ s2.preempts p f = true then
        (s2.updPass p f (fun _ => { g with state := 3, preempted := true })).passAdvance p
      else if f.state = 2 ∧ f.nextGroup < fld f.desc 4 4 then
        (s2.updPass p f (fun _ => { g with busy := g.busy ++ [c.val], nextGroup := g.nextGroup + 1 })).groupBegin f c.val
      else (s2.updPass p f (fun _ => g)).passAdvance p) ∧
    (swf (fun _ => {}) s.org.cores = true → sumL (((s.orgCore c.val).dcache ++ l).map (fun e => e.2.length)) ≤ 65536 →
      s1.dram = s.dram ∧ (s1.orgCore c.val).dcache = (s.orgCore c.val).dcache ++ l)) ∧
  (∀ (p : Fin 16) (seq : BitVec 32) (s : State) (f : OrgPass),
    (s.orgRing p.val).passes.find? (fun f => f.seq == seq.toNat && !f.missed) = some f → bit (fld f.raw 7 1) 2 = true →
    (s.now < fld f.raw 0x20 8 → exec (.passDeadlineMiss p seq) s = .next s) ∧
    (fld f.raw 0x20 8 ≤ s.now → ∃ t, exec (.passDeadlineMiss p seq) s = .next t ∧
      t.log.raised = s.log.raised ++ [⟨s.now, srcId .org 0, fcDEADLINE, 2, stDEADLINE_MISSED, p.val, 0xFFFF, 0,
        f.tag + 65536 * p.val⟩] ∧ ∀ q ∈ (t.orgRing p.val).passes, q.pos = f.pos → q.era = f.era →
          q.bad.isSome = true ∧ q.busy = [] ∧ q.tile = [])) ∧
  (∀ (c : Fin 16) (code : BitVec 8) (pc : BitVec 32) (s : State),
    (s.corePass c.val = none → exec (.shaderTrap c code pc) s = .next s) ∧
    (∀ p f, s.corePass c.val = some (p, f) → ∃ t, exec (.shaderTrap c code pc) s = .next t ∧
      t.log.raised = s.log.raised ++ [⟨s.now, srcId .org 0, 0x10, 2, stREFUSED_FORMAT, p, 0xFFFF, 0,
        code.toNat + 256 * c.val + 2 ^ 32 * pc.toNat⟩] ∧ ∀ q ∈ (t.orgRing p).passes, q.pos = f.pos → q.era = f.era →
          q.bad.isSome = true ∧ q.busy = [] ∧ q.tile = []))

/-- O46. The geometry and tile phases, texture, residency and interpolation results, and fragment output. Derived:
Cites R310, R319, R320, R321, R323, R325, spec/10_orangery_graphics_and_display.md. -/
def Obligations.TilesTexturesAndFragments : Prop :=
  (∀ (p : Fin 16) (sh : List (Nat × Nat × List (BitVec 32))) (n : Nat) (s s1 : State) (f : OrgPass) (tris : List OrgTri),
    s.still 20 = false → s.renderPass p.val (fun f => f.tris.isNone) = some f →
    s.assemble p.val (f.cores.headD 0) f sh (fld f.desc 0x34 4) 0 = (s1, some tris) →
    (fld f.desc 0x68 4 < n → exec (.render p sh n) s = .next (s1.passAbort p.val f stMEMORY_EXHAUSTED)) ∧
    (n ≤ fld f.desc 0x68 4 → s1.accessFree (s.orgStamp p.val) (fld f.desc 0x60 8) n true →
      ∃ t, exec (.render p sh n) s = .next t ∧ t.org = (s1.updPass p.val f (fun f => { f with tris := some tris })).org ∧
        t.plan = s.plan)) ∧
  (∀ (c : Fin 16) (s : State) (f : OrgPass), s.still 20 = false →
    s.renderPass (s.ownerOf 0x0F c.val) (fun f => f.tris.isSome && f.cores.contains c.val) = some f →
    let p := s.ownerOf 0x0F c.val
    (∀ s1 k bufs, f.tile.find? (fun e => e.1 == c.val) = none → f.nextTile.find? (fun e => e.1 == c.val) = some (c.val, k) →
      k < f.tiles.2 → s.loadTargets p c.val f k 0 f.targets = (s1, some bufs) →
      exec (.tilePhase c) s = .next (s1.updPass p f (fun f => { f with
        tile := f.tile ++ [(c.val, ⟨k, bufs, []⟩)],
        nextTile := updWhere (fun e => e.1 == c.val) (fun e => (e.1, e.2 + f.cores.length)) f.nextTile }))) ∧
    (∀ s1 o, f.tile.find? (fun e => e.1 == c.val) = some (c.val, o) → s.coreWrites p c.val (f.tileWrites o) = (s1, true) →
      exec (.tilePhase c) s = .next ((s1.updPass p f (fun f => { f with
        tile := f.tile.filter (fun e => e.1 ≠ c.val), done := f.done + 1 })).tileOpen p c.val f))) ∧
  (∀ (c : Fin 16) (word : BitVec 32) (tex mask : BitVec 64) (uv : List (BitVec 32 × BitVec 32)) (s : State) (p : Nat) (f : OrgPass),
    s.still 20 = false → s.corePass c.val = some (p, f) → s.waitingReqs = 0 →
    swf (fun _ => {}) s.org.cores = true → swf (fun _ => 0) (s.orgCore c.val).v = true →
    let reg (t : State) (r : Nat) : Nat := sget (fun _ => 0) (t.orgCore c.val).v r
    let is (o : OgxOp) (vd vs2 : Nat) : Prop := decodeOgx word = some (o, vd, vs2)
    let not (o : OgxOp) : Prop := ∀ vd vs2, ¬ is o vd vs2
    (not .tex → exec (.ogxTex c word tex mask uv) s = .next (s.accessTrap c.val 2)) ∧
    (∀ lods, not .texl → exec (.ogxTexl c word tex mask uv lods) s = .next (s.accessTrap c.val 2)) ∧
    (not .res → exec (.ogxRes c word tex mask uv) s = .next (s.accessTrap c.val 2)) ∧
    (∀ comp el, not .interp → exec (.ogxInterp c word comp mask el) s = .next (s.accessTrap c.val 2)) ∧
    (∀ k fr, not .out → exec (.ogxOut c (word, k) fr) s = .next (s.accessTrap c.val 2)) ∧
    (∀ (vd vs2 : Nat) (lods : Option (List (BitVec 32))) (s1 s2 : State) (d : Option TexDesc) (l : List (List Nat)),
      is (if lods.isSome then .texl else .tex) vd vs2 →
      let cols := uvCols uv ++ (match lods with | none => [] | some z => [z.map BitVec.toNat])
      let s0 := s.ogxLoad c.val vs2 cols
      s0.texOf p c.val f tex.toNat = (s1, some d) →
      s1.sampleAll p c.val d mask.toNat uv lods (min 64 uv.length) 0 = (s2, some l) →
      ∃ t, exec (match lods with | none => .ogxTex c word tex mask uv | some z => .ogxTexl c word tex mask uv z) s = .next t ∧
        t.dram = s.dram ∧ (∀ r, r < vd ∨ vd + 4 ≤ r → reg t r = reg s0 r) ∧
        (∀ r, r < vs2 ∨ vs2 + cols.length ≤ r → reg s0 r = reg s r) ∧
        ∀ ch e, ch < 4 → e < 64 → bits (reg t (vd + ch)) (32 * e + 31) (32 * e) =
          if bit mask.toNat e = true ∧ e < l.length then (l.getD e []).getD ch 0 % 2 ^ 32
          else bits (reg s0 (vd + ch)) (32 * e + 31) (32 * e)) ∧
    (∀ (vd vs2 : Nat) (s1 s2 : State) (d : Option TexDesc) (l : List Bool), is .res vd vs2 →
      let s0 := s.ogxLoad c.val vs2 (uvCols uv)
      s0.texOf p c.val f tex.toNat = (s1, some d) →
      s1.residentMask p c.val d mask.toNat uv (min 64 uv.length) 0 = (s2, some l) →
      ∃ t, exec (.ogxRes c word tex mask uv) s = .next t ∧ t.dram = s.dram ∧ (∀ r, r ≠ vd → reg t r = reg s0 r) ∧
        ∀ e, bit (reg t vd) e = if bit mask.toNat e = true ∧ e < l.length then l.getD e false else bit (reg s0 vd) e) ∧
    (∀ (vd vs2 : Nat) (comp : Fin 64) (elems : List (Nat × Nat × Nat)), is .interp vd vs2 →
      ∃ t, exec (.ogxInterp c word comp mask elems) s = .next t ∧ t.dram = s.dram ∧ (∀ r, r ≠ vd → reg t r = reg s r) ∧
        ∀ e i, e < 64 → elems[e]? = some i → bit mask.toNat e = true → ∀ tri, (f.tris.getD [])[i.1]? = some tri →
          bits (reg t vd) (32 * e + 31) (32 * e) = triAttr f.dims.1 f.dims.2 comp.val tri.verts i.2.1 i.2.2 % 2 ^ 32) ∧
    (∀ (vd vs2 : Nat) (k : Fin 4) (frags : List (Nat × Nat × Nat × List (BitVec 32))) (o : OrgTile), is .out vd vs2 →
      f.tile.find? (fun e => e.1 == c.val) = some (c.val, o) →
      exec (.ogxOut c (word, k) frags) s = .next ((s.ogxLoad c.val vs2 (colourCols frags)).updPass p f (fun g => { g with
        tile := updWhere (fun e => e.1 == c.val) (fun _ => (c.val, frags.foldl (fun o e => o.output f k.val e) o)) g.tile })))) ∧
  (∀ w : BitVec 32, (∀ o vd vs2, decodeOgx w = some (o, vd, vs2) →
      w.toNat % 128 = 0x5B ∧ w.toNat / 2 ^ 25 = 0 ∧ w.toNat / 4096 % 8 ≤ 4 ∧ vd = w.toNat / 128 % 32 ∧
      vs2 = w.toNat / 2 ^ 20 % 32 ∧ (o = .out → vd = 0)) ∧
    (5 ≤ w.toNat / 4096 % 8 → decodeOgx w = none)) ∧
  (∀ (o : OrgTile) (f : OrgPass) (k i x y : Nat) (col : List (BitVec 32)) (tri : OrgTri), (f.tris.getD [])[i]? = some tri →
    (triCovers f.dims.1 f.dims.2 tri.verts x y = false → o.output f k (i, x, y, col) = o) ∧
    (o.inOrder i x y = false → o.output f k (i, x, y, col) = o) ∧
    (triCovers f.dims.1 f.dims.2 tri.verts x y = true → k < fld f.desc 8 1 → x < f.dims.1 → y < f.dims.2 →
      y / 32 * f.tiles.1 + x / 32 = o.tile → fld f.desc 9 1 = 0 → bit (fld tri.draw 0x15 1) 5 = false → o.tested = [] →
      o.output f k (i, x, y, col) = { o with bufs := setAt o.bufs k (setAt (o.bufs.getD k []) (32 * (y % 32) + x % 32)
        (pixelEncode (fld f.desc (0x30 + k) 1) ((col.map BitVec.toNat ++ [0, 0, 0, 0]).take 4))) }))

/-- O47. A commit is checked and waits for the latch; a latch takes the commits and reports missed planes; links.
Derived: Cites R329, R330, R331, R336, R339, spec/10_orangery_graphics_and_display.md. -/
def Obligations.PipesCommitAndLatch : Prop :=
  (∀ (who : Who) (n : Fin 6) (j : Fin 4) (s : State),
    ((isKeeper who = true ∨ s.isCoreOf who (s.ownerOf 0x0E n.val) = true) → ∀ r, s.pipeRec n.val = some r →
      (r.refusal (s.pipe n.val) j.val (s.staged n.val j.val) = none → exec (.commit who n j 1) s = .next (s.setPipe n.val
        { s.pipe n.val with
          commits := sset (fun _ => none) (s.pipe n.val).commits j.val (some (s.staged n.val j.val)) })) ∧
      (∀ k, r.refusal (s.pipe n.val) j.val (s.staged n.val j.val) = some k → exec (.commit who n j 1) s = .next (s.raise
        ⟨s.now, srcId .dsp n.val, 0x11, 0, stREFUSED_PLAN, s.ownerOf 0x0E n.val, 0xFFFF, 0, j.val + 16 * k⟩))) ∧
    (isKeeper who = false → s.isCoreOf who (s.ownerOf 0x0E n.val) = false → ∀ v,
      ∃ t, exec (.commit who n j v) s = .next t ∧ t.dsp = s.dsp)) ∧
  (∀ (n : Fin 6) (s : State), s.wf = true → swf (fun _ => {}) s.dsp.pipes = true →
    swf (fun _ => {}) (s.pipe n.val).planes = true →
    (s.pipeRec n.val = none → exec (.latch n) s = .next s) ∧
    (∀ r, s.pipeRec n.val = some r → ∃ t, exec (.latch n) s = .next t ∧ (s.waitingReqs = 0 → t.dram = s.dram) ∧
      (∀ j, j < 4 → (t.pipe n.val).plane j = ((s.pipe n.val).commit j).getD ((s.pipe n.val).plane j)) ∧
      (t.pipe n.val).commits = [] ∧ t.rd .dspPFrames n.val = (s.rd .dspPFrames n.val + 1) % 2 ^ 64 ∧
      ((s.pipe n.val).link = true → s.waitingReqs = 0 → ∃ px, t.out = s.out ++ [.frame n.val px]) ∧
      ((s.pipe n.val).missed = [] → t.rd .dspPMisses n.val = s.rd .dspPMisses n.val) ∧
      ((s.pipe n.val).missed ≠ [] → t.rd .dspPMisses n.val = satAdd32 (s.rd .dspPMisses n.val) 1 ∧
        ∃ x ∈ t.log.raised, x.cls = fcDEADLINE ∧ x.source = srcId .dsp n.val ∧ x.status = stDEADLINE_MISSED ∧
          x.severity = s.pipeSev n.val))) ∧
  (∀ (n : Fin 6) (b : Bool) (s : State),
    (s.pipeRec n.val = none → exec (.dspLinkDown n b) s = .next s ∧ exec (.hpdRise n) s = .next s) ∧
    ((s.pipeRec n.val).isSome = true → exec (.hpdRise n) s = .next (s.setPipe n.val { s.pipe n.val with link := true }) ∧
      exec (.dspLinkDown n b) s = .next ((s.setPipe n.val { s.pipe n.val with link := false }).raise
        ⟨s.now, srcId .dsp n.val, 0x10, s.pipeSev n.val, stHW_ERROR, s.ownerOf 0x0E n.val, 0xFFFF, 0, b2n b⟩)))

/-- O48. Ethernet frames: receive checks, lookup and egress tests; gates, selection, transmission; links. Derived:
Cites R343, R344, R346, R348, R349, R350, R351, R354, R383, spec/11_gateway.md. -/
def Obligations.FramesAreForwardedAndTransmitted : Prop :=
  (∀ (k : Fin 14) (raw : List Byte) (s : State),
    ((s.netPort k.val).up = false ∨ s.portOn k.val = false → ∀ ecc, exec (.ethFrameReceive k raw ecc) s = .next s) ∧
    ((s.netPort k.val).up = true → s.portOn k.val = true →
      let s1 := s.count .gwyPRxFrames k.val 1
      let l := raw.take (raw.length - 4)
      let good : Prop := 4 ≤ raw.length ∧ (crcFixed 4).value l = fld raw (raw.length - 4) 4
      let tag := s.frameTag k.val l (bits (s.rd .gwyPCfg k.val) 18 16)
      let a := ((flowKeys k.val tag.1 l).findSome? s.flowAction).getD (s.rd .flwMiss k.val)
      let tc := if bit a 26 then bits a 25 23 else tag.2
      let f : EthFrame := { bytes := l, ingress := k.val, rx := (s.rxStamp k.val / 4294967296).toNat }
      (∀ ecc, (¬ good → exec (.ethFrameReceive k raw ecc) s = .next (s1.dropFrame 0)) ∧
        (good → frameOk l = false → exec (.ethFrameReceive k raw ecc) s = .next (s1.dropFrame 1)) ∧
        (good → frameOk l = true → etherType l = 0x88F7 → exec (.ethFrameReceive k raw ecc) s = .next s1)) ∧
      (good → frameOk l = true → etherType l ≠ 0x88F7 →
        (bit a 0 = false → exec (.ethFrameReceive k raw none) s = .next (s1.dropFrame 2)) ∧
        (bit a 0 = true → bit a 35 = true → (s1.police (bits a 34 27) f.len).2 = false →
          ∃ t, exec (.ethFrameReceive k raw none) s = .next t ∧ t.net.queues = s.net.queues ∧ t.net.ports = s.net.ports) ∧
        (bit a 0 = true → (bit a 35 = true → (s1.police (bits a 34 27) f.len).2 = true) →
          ∃ t, exec (.ethFrameReceive k raw none) s = .next t ∧ t.net.ports = s.net.ports ∧ t.net.flows = s.net.flows ∧
            t.dram = s.dram ∧ t.out = s.out ∧ t.log = s.log ∧ ∀ j c, c < 8 →
              t.netQueue j c = if j < 22 ∧ j ≠ k.val ∧ bit a (j + 1) = true ∧ c = tc ∧ s.egressDrop f j tc = none
                then s.netQueue j c ++ [f] else s.netQueue j c) ∧
        (∀ i : Fin 2, let keys := flowKeys k.val tag.1 l
          let met : Prop := i.val < keys.length ∧ ∀ j, j < i.val → s.flowAction (keys.getD j []) = none
          (¬ met → ∀ u, exec (.ethFrameReceive k raw (some (i, u))) s = exec (.ethFrameReceive k raw none) s) ∧
          (met → (∃ t, exec (.ethFrameReceive k raw (some (i, true))) s = .next t ∧ t.net.queues = s.net.queues ∧
              t.net.flows = s.net.flows.filter (fun e => s.flowBucket e.1 ≠ s.flowBucket (keys.getD i.val []))) ∧
            ∃ t u, exec (.ethFrameReceive k raw (some (i, false))) s = .next t ∧
              exec (.ethFrameReceive k raw none) s = .next u ∧ t.net.queues = u.net.queues ∧ t.net.flows = s.net.flows)))))
  ∧ (∀ (k : Fin 22) (s : State),
    (s.gateOf k.val = none → exec (.gateEntryChange k) s = .next s) ∧
    (∀ g, s.gateOf k.val = some g → exec (.gateEntryChange k) s = .next (s.setNetPort k.val
      { s.netPort k.val with entry := (gateAt g.entries (s.gatePhase g) 0).1 }))) ∧
  (∀ (l : List (Nat × Nat)) (phase : Nat), phase < 4294967296 * sumL (l.map (·.2)) →
    let i := (gateAt l phase 0).1
    i < l.length ∧ 4294967296 * sumL ((l.take i).map (·.2)) ≤ phase ∧
      phase + (gateAt l phase 0).2 = 4294967296 * sumL ((l.take (i + 1)).map (·.2)) ∧ 0 < (gateAt l phase 0).2) ∧
  (∀ (k tc : Nat) (f : EthFrame) (s : State), s.nextFrame k = some (tc, f) ↔
    tc < 8 ∧ (s.netQueue k tc).head? = some f ∧ s.mayTransmit k tc f = true ∧
      ∀ c, tc < c → c < 8 → ∀ g, (s.netQueue k c).head? = some g → s.mayTransmit k c g = false) ∧
  (∀ (k : Fin 14) (s : State), swf (fun _ => []) s.net.queues = true →
    let s1 := s.selectReady k.val
    (((s1.netPort k.val).sending.isSome = true ∨ (s.netPort k.val).up = false ∨ s.portOn k.val = false ∨
      s1.nextFrame k.val = none) → exec (.transmitStart k) s = .next s1) ∧
    (∀ tc f, (s1.netPort k.val).sending = none → (s1.netPort k.val).up = true → s1.portOn k.val = true →
      s1.nextFrame k.val = some (tc, f) → ∃ t, exec (.transmitStart k) s = .next t ∧
        (t.netPort k.val).sending = some ({ f with sync := f.sync.map s1.stampSync }, s.dt, s1.workingTime) ∧
        t.netQueue k.val tc = (s1.netQueue k.val tc).tail ∧ (∀ j c, c < 8 → (j ≠ k.val ∨ c ≠ tc) →
          t.netQueue j c = s1.netQueue j c) ∧ t.dram = s1.dram ∧ t.log = s1.log)) ∧
  (∀ (k : Fin 14) (s : State),
    ((s.netPort k.val).sending = none → exec (.transmitEnd k) s = .next s) ∧
    (∀ f tx work, (s.netPort k.val).sending = some (f, tx, work) →
      let s1 := (s.setNetPort k.val { s.netPort k.val with sending := none }).count .gwyPTxFrames k.val 1
      (∀ c, f.sync = some c → exec (.transmitEnd k) s = .next (s1.send (.sync k.val c.domain c.origin (c.corrOut tx)
        (if c.own then 0 else c.ratio)))) ∧
      (f.sync = none → f.desc = none → exec (.transmitEnd k) s =
        .next (s1.send (.eth k.val (f.bytes ++ leBytes 4 ((crcFixed 4).value f.bytes))))) ∧
      (f.sync = none → ∀ n pos l, f.desc = some (n, pos) → f.launch = some l → 4294967296 * (l + 1000) < work →
        ∃ (t : State) (more : List Out), exec (.transmitEnd k) s = .next t ∧
          t.out = s.out ++ [.eth k.val (f.bytes ++ leBytes 4 ((crcFixed 4).value f.bytes))] ++ more ∧
          ∃ r ∈ t.log.raised, r.cls = fcDEADLINE ∧ r.source = srcId .gwy k.val ∧ r.severity = 0 ∧ r.status = stDEADLINE_MISSED))) ∧
  (∀ (k : Fin 14) (sp : Fin 8) (s : State),
    (s.portOn k.val = true → sp.val = s.portRate k.val → exec (.ethLinkUp k sp) s =
      .next (s.setNetPort k.val { s.netPort k.val with up := true, speed := sp.val })) ∧
    ((s.portOn k.val = false ∨ sp.val ≠ s.portRate k.val) → exec (.ethLinkUp k sp) s = .next s) ∧
    ((s.netPort k.val).up = true → s.portOn k.val = true → exec (.ethLinkDown k) s =
      .next (((s.setNetPort k.val { s.netPort k.val with up := false }).raise
        ⟨s.now, srcId .gwy k.val, 0x10, 1, stHW_ERROR, 0xFF, 0xFFFF, 0, s.portRate k.val⟩).slaveLost k.val)) ∧
    ((s.netPort k.val).up = false ∨ s.portOn k.val = false → exec (.ethLinkDown k) s = .next s))

/-- O49. Session table commands and their commit; TX and RX descriptors; enabling a ring. Derived: Cites R352, R353,
R355, R356, R370, spec/11_gateway.md. -/
def Obligations.SessionsAndDescriptorRings : Prop :=
  (∀ (who : Who) (n : Fin 17) (s : State) (op : Nat) (c : Instr),
    (c, op) ∈ [(Instr.flwWrite who n, 1), (Instr.flwDelete who n, 2), (Instr.flwQuery who n, 3)] →
    let mine : Bool := if n.val < 16 then s.isCoreOf who n.val else isKeeper who
    (mine = true → (s.flwSlot n.val).op = none →
      exec c s = .next (s.setFlwSlot n.val { s.flwSlot n.val with op := some op })) ∧
    ((mine = false ∨ (s.flwSlot n.val).op.isSome = true) → ∃ t, exec c s = .next t ∧ t.net = s.net)) ∧
  (∀ (n : Fin 17) (op : Nat) (s : State), swf (fun _ => {}) s.net.flw = true → (s.flwSlot n.val).op = some op → op = 1 ∨ op = 2 ∨ op = 3 →
    let a := s.rd .flwCmdAddr n.val
    let r := s.dramGet a 64
    let key := sub r 0 40
    let st := s.flwStamp n.val
    let found := (s.flowAction key).isSome
    s.accessFree st a 64 false → (op = 3 → s.accessFree st (a + 0x28) 8 true) →
    ∃ t, exec (.flwCommit (BitVec.ofNat 17 (2 ^ n.val))) s = .next t ∧
      t.flwSlot n.val = ⟨none, (s.flowCheck n.val op r).getD stDONE, found⟩ ∧
      (∀ m, m ≠ n.val → t.flwSlot m = s.flwSlot m) ∧ t.net.queues = s.net.queues ∧ t.log = s.log ∧
      (op ≠ 3 ∨ s.flowCheck n.val op r ≠ none → t.dram = s.dram) ∧ (∀ k, k ≠ key → t.flowAction k = s.flowAction k) ∧
      (s.flowCheck n.val op r ≠ none → t.flowAction key = s.flowAction key) ∧
      (s.flowCheck n.val op r = none →
        (op = 1 → t.flowAction key = some (fld r 0x28 8)) ∧ (op = 2 → t.flowAction key = none) ∧
        (op = 3 → t.flowAction key = s.flowAction key ∧
          t.dram = (s.dramPut (a + 0x28) (leBytes 8 ((s.flowAction key).getD 0))).dram))) ∧
  (∀ (n : Fin 8) (s : State), s.wf = true → swf (fun _ => {}) s.net.rings = true →
    let ring := Ring.gwy n.val 0
    let x := s.ring ring
    let st := s.ringStamp (s.ringPlot ring)
    let a := s.descAddr ring x.next
    let d := s.dramGet a 32
    let head := s.rd .gwyRHead (2 * n.val)
    ((s.ringPosted ring = false ∨ s.portOn (14 + n.val) = false) → ∀ e, exec (.txDescriptor n e) s = .next s) ∧
    (s.ringPosted ring = true → s.portOn (14 + n.val) = true → x.open_ = [] → a + 32 ≤ reservedBase →
      s.accessFree st a 32 false → s.accessFree st (a + 0xF) 1 true → s.accessFree st (a + 0x18) 8 true →
      (∀ w e, s.txRefusal d = some w → ∃ t, exec (.txDescriptor n e) s = .next t ∧ t.net.queues = s.net.queues ∧
        t.dram = ((s.dramPut (a + 0xF) [BitVec.ofNat 8 w]).dramPut (a + 0x18) (leBytes 8 0)).dram ∧
        t.rd .gwyRHead (2 * n.val) = (head + 1) % 2 ^ 32) ∧
      (∀ l, s.txRefusal d = none → s.accessFree st (fld d 0 8) (fld d 8 2) false →
        s.framePath (s.ringPlot ring) (fld d 0xE 1) (fld d 0xA 2) (s.dramGet (fld d 0 8) (fld d 8 2)) = .ok l →
        frameOk l = true →
        let k := 14 + n.val
        let tag := s.frameTag k l (fld d 0xD 1)
        let act := ((flowKeys k tag.1 l).findSome? s.flowAction).getD (s.rd .flwMiss k)
        let tc := if bit act 26 then bits act 25 23 else tag.2
        let f : EthFrame := ⟨l, k, s.now, if bit (fld d 0xC 1) 0 then some (fld d 0x10 8) else none, some (n.val, x.next), none⟩
        let took := (List.range 22).filter (fun j => decide (j ≠ k) && bit act (j + 1) && (s.egressDrop f j tc).isNone)
        bit act 0 = true → bit act 35 = false → ∃ t, exec (.txDescriptor n none) s = .next t ∧
          (∀ j ∈ took, t.netQueue j tc = s.netQueue j tc ++ [f]) ∧
          (took ≠ [] → t.ring ring = ⟨(x.next + 1) % 2 ^ 32, [⟨x.next, took, none, stDONE, bit (fld d 0xC 1) 1⟩]⟩ ∧
            t.dram = s.dram) ∧
          (took = [] → t.rd .gwyRHead (2 * n.val) = (head + 1) % 2 ^ 32)))) ∧
  (∀ (n : Fin 8) (s : State), s.wf = true → swf (fun _ => []) s.net.queues = true →
    let s1 := s.selectReady (14 + n.val)
    let ring := Ring.gwy n.val 1
    let st := s1.ringStamp (s1.ringPlot ring)
    let a := s1.descAddr ring (s1.ring ring).next
    let d := s1.dramGet a 32
    ((s1.ringPosted ring = false ∨ s1.portOn (14 + n.val) = false ∨ s1.nextFrame (14 + n.val) = none) →
      exec (.rxDeliver n) s = .next s1) ∧
    (∀ tc f, s1.ringPosted ring = true → s1.portOn (14 + n.val) = true → s1.nextFrame (14 + n.val) = some (tc, f) →
      f.desc = none → a + 32 ≤ reservedBase → s1.accessFree st a 32 false → fld d 0 8 % 8 = 0 → fld d 0xC 1 ≤ 3 →
      bit (fld d 0xC 1) 0 = false → fld d 0xE 1 = 0 →
      let part := f.bytes.take (fld d 8 2)
      let b := fld d 0 8
      b + part.length ≤ reservedBase →
      (∀ w ∈ [(b, part.length), (a + 8, 2), (a + 0xD, 1), (a + 0xF, 1), (a + 0x18, 8)], s1.accessFree st w.1 w.2 true) →
      ∃ t, exec (.rxDeliver n) s = .next t ∧ t.netQueue (14 + n.val) tc = (s1.netQueue (14 + n.val) tc).tail ∧
        t.rd .gwyRHead (2 * n.val + 1) = (s1.rd .gwyRHead (2 * n.val + 1) + 1) % 2 ^ 32 ∧
        t.dram = (((((s1.dramPut b part).dramPut (a + 8) (leBytes 2 part.length)).dramPut (a + 0xD)
          (leBytes 1 f.ingress)).dramPut (a + 0xF) (leBytes 1 (if fld d 8 2 < f.bytes.length then stREFUSED_FIT else stDONE))).dramPut
          (a + 0x18) (leBytes 8 f.rx)).dram)) ∧
  (∀ (who : Who) (ring : RingName) (v : BitVec 32) (s : State) (d : RegDef), s.wf = true →
    let e : Ring × Nat := match ring with
      | .gwy n rx => (.gwy n.val (b2n rx), s.ownerOf 0x0A n.val)
      | .can n x => (.can n.val x.val, s.ownerOf 0x0B n.val)
    isKeeper who = true ∨ s.isCoreOf who e.2 = true → e.1.cfg.1.row = some d →
    v.toNat &&& (0xFFFFFFFFFFFFFFFF ^^^ d.mask) = 0 → 4 ≤ bits v.toNat 7 4 → bits v.toNat 7 4 ≤ 12 → bit v.toNat 0 = true →
    bit (s.ringCfg e.1) 0 = false →
    ∃ t, exec (.ringCfgWrite who ring v) s = .next t ∧ t.rd e.1.tail.1 e.1.tail.2 = 0 ∧ t.rd e.1.head.1 e.1.head.2 = 0 ∧
      bit (t.ringCfg e.1) 0 = true ∧ bit (t.ringCfg e.1) 2 = false ∧ t.dram = s.dram)

/-- O50. CAN arbitration, sending, reception, filters and error states; LIN frames. Derived: Cites R357, R359, R360,
R361, R362, R363, spec/11_gateway.md. -/
def Obligations.CanAndLinControllers : Prop :=
  (∀ (n : Fin 16) (s : State), swf (fun _ => {}) s.net.can = true → swf (fun _ => {}) s.net.rings = true →
    let c := s.can n.val
    let cfg := s.rd .canCfg n.val
    let ready : Prop := bit cfg 0 = true ∧ bit cfg 5 = false ∧ c.state < 2 ∧ c.tx = none
    (s.unitQuiet 0x0B n.val = true → c.tx = none →
      ∃ t, exec (.canArbitration n) s = .next t ∧
        t.can n.val = { c with state := 3, high := none, low := none, tx := none, offAt := some (c.offAt.getD s.now) } ∧
        (t.ring (.can n.val 0)).open_ = [] ∧ (t.ring (.can n.val 1)).open_ = []) ∧
    (s.unitQuiet 0x0B n.val = false →
      (¬ ready → exec (.canArbitration n) s = .next s) ∧
      (ready → s.canWaiting n.val 0 = false → s.canWaiting n.val 1 = false → exec (.canArbitration n) s = .next s) ∧
      (ready → ∀ x, (x = 0 ∨ x = 1) → s.canWaiting n.val x = true → (x = 1 → s.canWaiting n.val 0 = false) →
        ((c.taken x).isSome = true → exec (.canArbitration n) s = .next (s.setCan n.val { c with tx := some x })) ∧
        (c.taken x = none →
          let r := Ring.can n.val x
          let pos := (s.ring r).next
          let st := s.ringStamp (s.ringPlot r)
          let a := s.descAddr r pos
          let d := s.dramGet a 32
          let b := s.dramGet (fld d 0 8) (fld d 8 2)
          ∀ data, s.accessFree st a 32 false → canDescOk d = true → s.accessFree st (fld d 0 8) (fld d 8 2) false →
            canBufferOk (bits cfg 2 1) b = true →
            s.framePath (s.ringPlot r) (fld d 0xE 1) (fld d 0xA 2) (b.drop 16) = .ok data →
            ∃ t, exec (.canArbitration n) s = .next t ∧ (t.can n.val).tx = some x ∧
              (t.can n.val).taken x = some (pos, b.take 16 ++ data) ∧ (t.ring r).next = (pos + 1) % 2 ^ 32 ∧
              (t.ring r).open_ = (s.ring r).open_ ++ [⟨pos, [0], none, stDONE, bit (fld d 0xC 1) 1⟩] ∧
              t.dram = s.dram ∧ t.out = s.out))) ∧
    (∀ (res : Fin 3) (err : Fin 6) (tec rec_ : BitVec 8),
      (c.tx = none → exec (.canTxDone n res err tec rec_) s = .next s) ∧
      (∀ x pos b, c.tx = some x → c.taken x = some (pos, b) → s.unitQuiet 0x0B n.val = false →
        let c1 := ({ c with tx := none, lastErr := if res.val = 2 then err.val else c.lastErr }).counters tec.toNat rec_.toNat
        (res.val ≠ 0 → bit cfg 3 = false → exec (.canTxDone n res err tec rec_) s = .next (s.setCan n.val c1)) ∧
        ((res.val = 0 ∨ bit cfg 3 = true) → ∃ t more, exec (.canTxDone n res err tec rec_) s = .next t ∧
          t.can n.val = c1.setTaken x none ∧
          t.out = s.out ++ more ++ (if res.val = 0 then [.can n.val b] else [])))) ∧
    (∀ (frame : List Byte) (stamp : BitVec 64) (rec_ : BitVec 8), s.unitQuiet 0x0B n.val = false →
      let s1 := s.setCan n.val (c.counters c.tec rec_.toNat)
      let hears : Prop := bit cfg 0 = true ∧ (c.state ≤ 1 ∨ (c.state = 3 ∧ ∃ at_, c.offAt = some at_ ∧ stamp.toNat < at_))
      (¬ hears → exec (.canFrameReceive n frame stamp rec_) s = .next s) ∧
      (hears →
        (s.canAccepts n.val (fld frame 0 4) = false → exec (.canFrameReceive n frame stamp rec_) s = .next s1) ∧
        (s.canAccepts n.val (fld frame 0 4) = true → s.ringPosted (.can n.val 2) = false →
          exec (.canFrameReceive n frame stamp rec_) s = .next (s1.bump .canLost n.val 1)) ∧
        (∀ t, s.canAccepts n.val (fld frame 0 4) = true → s.ringPosted (.can n.val 2) = true →
          s1.rxFill (.can n.val 2) frame 0 stamp.toNat = (t, true) →
          exec (.canFrameReceive n frame stamp rec_) s = .next t)))) ∧
  (∀ (n w : Nat) (s : State), s.canAccepts n w = true ↔
    (∀ f, f < 8 → bit (s.rd .canFilter (8 * n + f)) 31 = false) ∨
    ∃ f, f < 8 ∧ bit (s.rd .canFilter (8 * n + f)) 31 = true ∧ bit (s.rd .canFilter (8 * n + f)) 29 = bit w 29 ∧
      ∀ i, i < 29 → bit (s.rd .canFilter (8 * n + f)) (32 + i) = true → bit (s.rd .canFilter (8 * n + f)) i = bit w i) ∧
  (∀ (n : Fin 16) (s : State),
    (∀ (tec rec_ : BitVec 8), (s.canLive n.val = true → (s.can n.val).state = 0 → exec (.errorPassive n tec rec_) s =
      .next ((s.setCan n.val { s.can n.val with state := 1, tec := tec.toNat, rec_ := rec_.toNat }).raise
        ⟨s.now, srcId .can n.val, 0x11, 0, stDONE, 0xFF, 0xFFFF, 0, 256 * tec.toNat + 65536 * rec_.toNat⟩)) ∧
      (s.canLive n.val = false ∨ (s.can n.val).state ≠ 0 → exec (.errorPassive n tec rec_) s = .next s)) ∧
    (∀ e : Fin 6, (s.canLive n.val = true → exec (.busOff n e) s =
      .next ((s.setCan n.val { s.can n.val with state := 2, tec := 255, lastErr := e.val, tx := none }).raise
        ⟨s.now, srcId .can n.val, 0x10, 1, stHW_ERROR, 0xFF, 0xFFFF, 0, e.val⟩)) ∧
      (s.canLive n.val = false → exec (.busOff n e) s = .next s)) ∧
    ((s.can n.val).state = 2 → bit (s.rd .canCfg n.val) 0 = true → bit (s.rd .canCfg n.val) 4 = true →
      s.unitQuiet 0x0B n.val = false → exec (.busOffRecovery n) s =
        .next (s.setCan n.val { s.can n.val with state := 0, tec := 0, rec_ := 0 })) ∧
    (((s.can n.val).state ≠ 2 ∨ bit (s.rd .canCfg n.val) 0 = false ∨ bit (s.rd .canCfg n.val) 4 = false) →
      exec (.busOffRecovery n) s = .next s)) ∧
  (∀ (who : Who) (l : Fin 4) (v : BitVec 32) (s : State), v.toNat < 4096 →
    let may := s.netMay who (s.ownerOf 0x0C l.val)
    (may = true → (s.linCtl l.val).cmd = none → 1 ≤ bits v.toNat 10 7 → bits v.toNat 10 7 ≤ 8 →
      bit (s.rd .linCfg l.val) 16 = true → s.unitQuiet 0x0C l.val = false → exec (.linFrame who l v) s =
        .next ((s.setLin l.val { s.linCtl l.val with cmd := some v.toNat }).send
          (.lin l.val (linPid (bits v.toNat 5 0)) (s.linResponse l.val v.toNat)))) ∧
    ((may = false ∨ (s.linCtl l.val).cmd.isSome = true) → ∃ t, exec (.linFrame who l v) s = .next t ∧ t.net = s.net)) ∧
  (∀ (l : Fin 4) (data : List Byte) (sum : Byte) (framing bitErr : Bool) (s : State),
    ((s.linCtl l.val).cmd = none → exec (.linFrameEnd l data sum framing bitErr) s = .next s ∧ exec (.noResponse l) s = .next s) ∧
    (∀ v, (s.linCtl l.val).cmd = some v →
      exec (.noResponse l) s = .next (if bit v 6 then s else s.setLin l.val ⟨none, stHW_ERROR, 1⟩) ∧
      exec (.linFrameEnd l data sum framing true) s = .next (s.setLin l.val ⟨none, stHW_ERROR, 4⟩) ∧
      (bit v 6 = true → exec (.linFrameEnd l data sum framing false) s = .next (s.setLin l.val ⟨none, stDONE, 0⟩)) ∧
      (bit v 6 = false →
        let d := data.take (bits v 10 7)
        let err := if framing then 3 else if sum.toNat ≠ linChecksum v d then 2 else 0
        exec (.linFrameEnd l data sum framing false) s = .next ((s.wr .linData l.val
          (setField (s.rd .linData l.val) 0 (8 * d.length) (leNat d))).setLin l.val
            ⟨none, if err = 0 then stDONE else stHW_ERROR, err⟩))))

/-- O51. Operations of the check-value units: start, and what they leave. Derived: Cites R364, R366, R367,
spec/11_gateway.md. -/
def Obligations.CheckValueUnitsComputeAndCheck : Prop :=
  (∀ (who : Who) (u : Fin 32) (fv : Bool) (s : State) (op : Nat) (c : Instr),
    (c, op) ∈ [(Instr.cvuContinue who u fv, 1), (Instr.cvuCompute who u fv, 2), (Instr.append who u fv, 3),
      (Instr.checkStrip who u fv, 4)] →
    let may := s.netMay who (s.ownerOf 0x0D u.val)
    (may = true → (s.cvu u.val).op = none → s.unitQuiet 0x0D u.val = false →
      exec c s = .next (s.setCvu u.val { s.cvu u.val with op := some (op, fv) })) ∧
    (may = true → (s.cvu u.val).op = none → s.unitQuiet 0x0D u.val = true → exec c s = .next s) ∧
    ((may = false ∨ (s.cvu u.val).op.isSome = true) → ∃ t, exec c s = .next t ∧ t.net = s.net)) ∧
  (∀ (u : Fin 32) (s : State), s.wf = true → swf (fun _ => {}) s.net.cvu = true →
    ((s.cvu u.val).op = none → exec (.cvuOpDone u) s = .next s) ∧
    (∀ op fv, (s.cvu u.val).op = some (op, fv) → 1 ≤ op → op ≤ 4 →
      let c := s.cvuSet u.val
      let n := c.width / 8
      let len := s.rd .cvuLen u.val
      let src := s.rd .cvuSrc u.val
      let st := s.cvuStamp u.val
      let b := s.dramGet src len
      let body := if op = 4 then b.take (len - n) else b
      let reg := c.run (if op = 1 ∨ fv = true then s.rd .cvuValue u.val % 2 ^ c.width else c.init % 2 ^ c.width) body
      (op = 4 → len < n → exec (.cvuOpDone u) s = .next (s.setCvu u.val ⟨none, stREFUSED_FORMAT⟩)) ∧
      ((op = 4 → n ≤ len) → src + len ≤ dramSize → s.firstRefused st src len false ≠ none →
        ∃ t, exec (.cvuOpDone u) s = .next t ∧ t.cvu u.val = ⟨none, stOWNER_FAULT⟩ ∧ t.dram = s.dram ∧
          t.rd .cvuValue u.val = s.rd .cvuValue u.val) ∧
      ((op = 4 → n ≤ len) → s.accessFree st src len false →
        (op = 3 → s.accessFree st (src + len) n true ∧ c.width % 8 = 0) →
        ∃ t, exec (.cvuOpDone u) s = .next t ∧ (t.cvu u.val).op = none ∧ t.rd .cvuValue u.val = reg % 2 ^ 64 ∧
          (op = 1 → t.rd .cvuResult u.val = s.rd .cvuResult u.val) ∧
          (op ≠ 1 → c.width % 8 = 0 → t.rd .cvuResult u.val = c.final reg % 2 ^ 64) ∧
          (op ≠ 3 → t.dram = s.dram) ∧ (op = 3 → t.dram = (s.dramPut (src + len) (c.stored (c.final reg))).dram) ∧
          (op ≠ 4 → (t.cvu u.val).status = stDONE) ∧
          (op = 4 → c.width % 8 = 0 → (t.cvu u.val).status =
            if c.stored (c.final reg) = b.drop (len - n) then stDONE else stINTEGRITY) ∧
          (op = 4 → c.width % 8 = 0 → ∀ l, b = l ++ c.stored (c.final (c.run (if fv = true then
            s.rd .cvuValue u.val % 2 ^ c.width else c.init % 2 ^ c.width) l)) → (t.cvu u.val).status = stDONE))))

/-- O52. Sync receipt and sending, link delay, HOLDOVER, domain steps, captures and the idle clock. Derived: Cites
R371, R375, R376, R377, R380, R381, R384, R385, spec/12_time.md. -/
def Obligations.DomainsFollowAndSendSync : Prop :=
  (∀ (p : Fin 14) (num : BitVec 8) (origin : BitVec 80) (corr ratio : Int) (s : State),
    swf (fun _ => {}) s.tim.domains = true →
    (s.domainNumbered num.toNat = none → exec (.syncReceive p num origin corr ratio) s = .next s) ∧
    (∀ k, s.domainNumbered num.toNat = some k → s.rd .timDRoles k = (s.domain k).roles →
      let d := s.domain k
      ((roleOf d.roles p.val ≠ 2 ∨ (s.netPort p.val).up = false ∨ d.state ≤ 1) →
        exec (.syncReceive p num origin corr ratio) s = .next s) ∧
      (roleOf d.roles p.val = 2 → (s.netPort p.val).up = true → 2 ≤ d.state →
        let c : SyncCopy := ⟨k, false, origin.toNat, corr, s.rxStamp p.val, (s.pdelay p.val).delay, ratio⟩
        let off := s.syncOffset k c
        let ns : Nat := 4294967296
        let good := if off.natAbs ≤ 100 * ns then d.good + 1 else 0
        let acquiring := d.state ≠ 3 ∨ 1000 * ns < off.natAbs
        let tc := bits (s.rd .timDCfg k) 13 11
        ∃ t, exec (.syncReceive p num origin corr ratio) s = .next t ∧ (t.domain k).syncAt = s.now ∧
          (t.domain k).good = good ∧ (t.domain k).offset = divOpen 376 off ns ∧
          (acquiring → (t.domain k).state = if 8 ≤ good then 3 else 2) ∧ (¬ acquiring → (t.domain k).state = 3) ∧
          (acquiring → 1000000 * ns < off.natAbs → (t.domain k).time = addClock d.time (-off) ∧ (t.domain k).rate = d.rate ∧
            ∃ r ∈ t.log.raised, r.source = srcId .tim k ∧ r.cls = 0x10) ∧
          (¬ (acquiring ∧ 1000000 * ns < off.natAbs) → (t.domain k).time = d.time ∧ (t.domain k).rate.natAbs ≤ 1000000 ∧
            t.log = s.log) ∧
          (∀ m, m ≠ k → t.domain m = s.domain m) ∧ t.dt = s.dt ∧
          ∀ j, j < 14 → roleOf d.roles j = 1 → (s.netPort j).up = true →
            s.egressDrop (syncFrame p.val s.now c) j tc = none →
            t.netQueue j tc = s.netQueue j tc ++ [syncFrame p.val s.now c]))) ∧
  (∀ (k : Fin 4) (s : State), swf (fun _ => {}) s.tim.domains = true → s.rd .timDRoles k.val = (s.domain k.val).roles →
    let d := s.domain k.val
    let due := d.syncAt + s.syncInterval k.val
    let tc := bits (s.rd .timDCfg k.val) 13 11
    ((d.state ≠ 1 ∨ s.now < due) → exec (.syncSend k) s = .next s) ∧
    (d.state = 1 → due ≤ s.now → ∃ t, exec (.syncSend k) s = .next t ∧ t.domain k.val = { d with syncAt := s.now } ∧
      ∀ j, j < 14 → roleOf d.roles j = 1 → (s.netPort j).up = true →
        let f := syncFrame j s.now ⟨k.val, true, 0, 0, 0, 0, 0⟩
        s.egressDrop f j tc = none → t.netQueue j tc = s.netQueue j tc ++ [f])) ∧
  (∀ (p : Fin 14) (s : State), swf (fun _ => {}) s.tim.ports = true →
    let x := s.pdelay p.val
    exec (.pdelayReq p) s = .next { s with out := s.out ++ [.pdelay p.val 1, .pdelay p.val 2] } ∧
    (∀ t0, x.last = some t0 → s.now < t0 + 1000000000 → exec (.pdelayInitiate p) s = .next s) ∧
    ((∀ t0, x.last = some t0 → t0 + 1000000000 ≤ s.now) → ∃ t, exec (.pdelayInitiate p) s = .next t ∧
      t.out = s.out ++ [.pdelay p.val 0] ∧ (t.pdelay p.val).waiting = some s.now ∧ (t.pdelay p.val).last = some s.now ∧
      (t.pdelay p.val).fails = if x.waiting.isSome then min (x.fails + 1) 255 else x.fails) ∧
    (∀ dl : BitVec 48, (x.waiting = none → exec (.pdelayResp p dl) s = .next s) ∧
      (x.waiting.isSome = true → ∃ t, exec (.pdelayResp p dl) s = .next t ∧ t.pdelay p.val =
        { x with waiting := none, fails := 0, delay := dl.toNat, capable := decide (dl.toNat ≤ 800 * 65536) }))) ∧
  (∀ (k : Fin 4) (s : State), swf (fun _ => {}) s.tim.domains = true →
    let d := s.domain k.val
    let lim := bits (s.rd .timDHoldLimit k.val) 15 0
    let late := d.state = 4 ∧ d.expired = false ∧ lim ≠ 0 ∧ d.holdAt + 1000000000 * lim ≤ s.now
    ((d.follows = false ∨ s.now < d.syncAt + 3 * s.syncInterval k.val) → exec (.syncReceiptTimeout k) s = .next s) ∧
    (d.follows = true → d.syncAt + 3 * s.syncInterval k.val ≤ s.now → ∃ t, exec (.syncReceiptTimeout k) s = .next t ∧
      t.domain k.val = { d with state := 4, expired := false, holdAt := s.now, good := 0 } ∧
      ∃ r ∈ t.log.raised, r.source = srcId .tim k.val ∧ r.cls = fcTIMEOUT ∧ r.severity = 1 ∧ r.time = s.now) ∧
    (¬ late → exec (.holdoverExpired k) s = .next s) ∧
    (late → exec (.holdoverExpired k) s = .next ((s.setDomain k.val { d with expired := true }).raise
      ⟨s.now, srcId .tim k.val, 0x11, 1, stDONE, 0xFF, 0xFFFF, 0, lim⟩)) ∧
    (∀ (who : Who) (v : BitVec 64), (isKeeper who = true → d.state ≤ 1 → ∃ t, exec (.timDkStep who k v) s = .next t ∧
        t.domain k.val = { d with time := addClock d.time (4294967296 * ofTwos 64 v.toNat) } ∧
        (∀ m, m ≠ k.val → t.domain m = s.domain m) ∧ t.dt = s.dt ∧
        t.log.raised = s.log.raised ++
          [⟨s.now, srcId .tim k.val, 0x10, 0, stDONE, 0xFF, 0xFFFF, 0, toTwos 64 (ofTwos 64 v.toNat)⟩]) ∧
      ((isKeeper who = false ∨ 1 < d.state) → ∃ t, exec (.timDkStep who k v) s = .next t ∧ t.tim = s.tim ∧ t.dt = s.dt))) ∧
  (∀ (who : Who) (i : Fin 17) (s : State), s.wf = true →
    let mine : Bool := if i.val < 16 then s.isCoreOf who i.val else isKeeper who
    (mine = true → exec (.capture who i 0) s = .next s ∧
      ∃ t, exec (.capture who i 1) s = .next t ∧ t.rd .timCDt i.val = s.now % 2 ^ 64 ∧
        t.rd .timCFrac i.val = s.dt / 65536 % 65536 ∧ t.dram = s.dram ∧ t.tim = s.tim ∧
        ∀ k, k < 4 → t.rd .timCDom (4 * i.val + k) = (s.domain k).time / 4294967296 % 2 ^ 64) ∧
    (mine = false → ∀ v, ∃ t, exec (.capture who i v) s = .next t ∧ t.tim = s.tim ∧
      t.rd .timCDt i.val = s.rd .timCDt i.val)) ∧
  (∀ s : State, s.pending = [] → s.pwr.running = true → swf (fun _ => {}) s.tim.domains = true →
    let inc (a : Int) : Int := if s.pwr.pll then clockInc a else 20 * 4294967296
    ∃ t, step s = .next t ∧ t.dt = addClock s.dt (inc s.tim.adj) ∧
      ∀ k, k < 4 → (t.domain k).time = addClock (s.domain k).time (inc (s.domain k).rate))

/-- O53. A task release evaluates its rules; verdicts; deadlines of tasks and golden tests. Derived: Cites R401, R402,
R404, R406, R409, R421, R422, spec/13_safety.md. -/
def Obligations.TasksRulesAndGoldenTests : Prop :=
  (∀ (k : Fin 64) (u : Bool) (s : State),
    exec (.taskRelease (k, some u)) s = exec (.taskRelease (k, none)) (s.gthSram (some u)) ∧ (s.gthSram (some u)).gth = s.gth ∧
    (s.gthSram (some u)).dram = s.dram ∧ (s.gthSram (some u)).regs = s.regs ∧
    ∃ w, w < 14 ∧ (s.gthSram (some u)).log.raised = s.log.raised ++ [⟨s.now, srcId .gth 0,
      if u then fcECC_UNCORRECTED else fcECC_CORRECTED, if u then 4 else 1, w, 0xFF, 0xFFFF, 0, 0⟩]) ∧
  (∀ (k : Fin 64) (s : State),
    (s.taskDue k.val = none → exec (.taskRelease (k, none)) s = .next s) ∧
    (∀ at_, s.taskDue k.val = some at_ →
      let x := s.taskSt k.val
      let s1 := s.setTask k.val ⟨x.open_ ++ [(at_, false)], x.released + 1, (s.taskSems k.val).map (fun n => (n, s.semVal n))⟩
      (s.gth.failed = true ∨ s.taskRules k.val = [] → exec (.taskRelease (k, none)) s = .next s1) ∧
      (∀ i r b, s.wf = true → swf (fun _ => ({} : RuleSt)) s.gth.ruleSt = true → s.gth.failed = false → s.taskRules k.val = [(i, r)] → (r.kind = 1 ∨ r.kind = 2 ∨ r.kind = 7) →
        r.triggerSem = 0xFFFF → bit r.flags 0 = false →
        s.accessFree (s.ruleStamp r.plot) r.srcA (fmtDataBytes r.format r.count) false →
        b = s.dramGet r.srcA (fmtDataBytes r.format r.count) →
        let a := (List.range r.count).map (fun j => toF32 (decodeElem (fmtElem r.format) (elemCode (elemBits (fmtElem r.format)) j b)))
        let v := r.judge (sget (fun _ => ({} : RuleSt)) s.gth.ruleSt i).last a []
        ∃ t, exec (.taskRelease (k, none)) s = .next t ∧ t.dram = s.dram ∧ t.gth.tasks = s1.gth.tasks ∧
          (sget (fun _ => ({} : RuleSt)) t.gth.ruleSt i).last = v.last ∧
          (v.outcome = 0 → t.log = s.log ∧ t.rd .gthRuleFails 0 = s.rd .gthRuleFails 0) ∧
          (v.outcome ≠ 0 → t.rd .gthRuleFails 0 = satAdd32 (s.rd .gthRuleFails 0) 1 ∧ t.log.raised = s.log.raised ++
            [⟨s.now, srcId .gth 0, 0x13, r.severity, stHW_ERROR, r.plot, 0xFFFF, r.srcA,
              i % 256 + 256 * v.outcome + 65536 * (v.elem % 65536) + 0x100000000 * v.value⟩])))) ∧
  (∀ (r : RuleRec) (last : Option (List Nat)) (a b : List Nat),
    let v := r.judge last a b
    let bad (j : Nat) : Prop := j < a.length ∧
      if r.kind = 1 then ¬ (f32Le r.lo (a.getD j 0) = true ∧ f32Le (a.getD j 0) r.hi = true)
      else if r.kind = 7 then ((ofF32 (a.getD j 0)).isNan || (ofF32 (a.getD j 0)).isInf) = true
      else ∃ l, (if r.kind = 2 then last else some b) = some l ∧ j < l.length ∧ r.close (a.getD j 0) (l.getD j 0) = false
    (r.kind = 2 → last = none → v.outcome = 0 ∧ v.last = some a) ∧
    (v.outcome = 0 ↔ ∀ j, ¬ bad j) ∧
    (v.outcome ≠ 0 → v.outcome = 1 ∧ bad v.elem ∧ (∀ j, j < v.elem → ¬ bad j) ∧ v.value = a.getD v.elem 0 ∧ v.last = last) ∧
    (v.outcome = 0 → v.last = if r.kind = 2 then some a else last)) ∧
  (∀ (who : Who) (v : BitVec 32) (s : State), v.toNat < 64 →
    (isGatehouse who = true → exec (.gthTaskDone who v) s = .next (match (s.taskSt v.toNat).open_ with
      | [] => s
      | _ :: rest => s.setTask v.toNat { s.taskSt v.toNat with open_ := rest })) ∧
    (isGatehouse who = false → ∃ t, exec (.gthTaskDone who v) s = .next t ∧ t.gth = s.gth)) ∧
  (∀ (k : Fin 64) (s : State), swf (fun _ => {}) s.gth.tasks = true →
    ((∀ r, s.gthTask k.val = some r → r.deadline = 0) → exec (.taskDeadlineMiss k) s = .next s) ∧
    (∀ r, s.gthTask k.val = some r → r.deadline ≠ 0 →
      let due (e : Nat × Bool) : Bool := !e.2 && decide (e.1 + r.deadline ≤ s.now)
      let l := (s.taskSt k.val).open_
      ∃ t, exec (.taskDeadlineMiss k) s = .next t ∧
        (t.taskSt k.val).open_ = l.map (fun e => if due e then (e.1, true) else e) ∧
        t.log.raised = s.log.raised ++ List.replicate (l.filter due).length
          ⟨s.now, srcId .gth 0, fcDEADLINE, r.sev, stDEADLINE_MISSED, 0xFF, 0xFFFF, 0, k.val⟩ ∧ t.dram = s.dram)) ∧
  (∀ (n : Fin 96) (s : State),
    (s.streamClass true n.val = none → exec (.goldenTestDeadline n) s = .next s) ∧
    (∀ c, s.streamClass true n.val = some c → c.deadline = 0 → exec (.goldenTestDeadline n) s = .next s) ∧
    (∀ c, s.streamClass true n.val = some c → c.deadline ≠ 0 →
      let due (g : GoldenSt) : Bool := g.stream == n.val && g.published && decide (g.fs + c.deadline ≤ s.now)
      let late (g : GoldenSt) : Bool := (s.goldenRules n.val).any (fun r => decide (s.semVal r.triggerSem < g.count))
      ∃ t, exec (.goldenTestDeadline n) s = .next t ∧ t.gth.golden = s.gth.golden.filter (fun g => !due g) ∧ t.regs = s.regs ∧
        t.log.raised = s.log.raised ++ ((s.gth.golden.filter due).filter late).map (fun g =>
          ⟨s.now, srcId .gth 0, fcDEADLINE, c.sev, stDEADLINE_MISSED, ((s.streamRec n.val).map (·.plot)).getD 0xFF, 0xFFFF, 0,
            n.val + 0x100000000 * g.count⟩)))

/-- O54. The watchdog, lockstep, safe-state requests, and self-test slices and rounds. Derived: Cites R392, R393,
R396, R411, R412, R413, R414, R416, R417, R419, spec/13_safety.md. -/
def Obligations.WatchdogMonitorsAndSelfTest : Prop :=
  (∀ (who : Who) (s : State), isGatehouse who = true → exec (.gthWdogKick who 0) s = .next s ∧
    (s.gth.started = none ∨ s.gth.failed = true → exec (.gthWdogKick who 1) s = .next s) ∧
    (s.gth.started.isSome = true → s.gth.failed = false →
      (s.gth.kicked = true → exec (.gthWdogKick who 1) s = .next { s with gth := { s.gth with wdogAt := s.now } }) ∧
      (s.gth.kicked = false → ∃ t, exec (.gthWdogKick who 1) s = .next t ∧ t.gth = { s.gth with kicked := true, wdogAt := s.now } ∧
        t.kpr.reached = true ∧ t.kpr.state = 1 ∧ t.safe = s.safe))) ∧
  (∀ (who : Who) (v : BitVec 32) (x : BitVec 32) (s : State), isGatehouse who = false →
    (∃ t, exec (.gthWdogKick who v) s = .next t ∧ t.gth = s.gth ∧ t.kpr = s.kpr) ∧
    ∃ t, exec (.safeRequest who v x) s = .next t ∧ t.safe = s.safe) ∧
  (∀ s : State, let late := s.gth.wdogAt + 1000 * s.rd .gthWdogCfg 0
    (s.gth.started = none ∨ s.gth.failed = true ∨ s.now < late → exec .gthWatchdogTimeout s = .next s) ∧
    (s.gth.started.isSome = true → s.gth.failed = false → late ≤ s.now → ∃ t, exec .gthWatchdogTimeout s = .next t ∧
      t.safe.safe = true ∧ t.gth.wdogAt = s.now ∧ (s.gth.kicked = true → t.gth.failed = false) ∧
      (s.gth.kicked = false → t.gth.failed = true ∧ t.kpr.state = 3 ∧ t.kpr.recovery = true) ∧
      ∃ r ∈ t.log.raised, r.cls = fcTIMEOUT ∧ r.severity = 4 ∧ r.source = srcId .gth 0 ∧ r.time = s.now)) ∧
  (∀ (g : Fin 64) (pc : BitVec 32) (s : State),
    (s.gth.broken = true → exec (.lockstepMismatch g pc) s = .next s) ∧
    (s.gth.broken = false → ∃ t, exec (.lockstepMismatch g pc) s = .next t ∧ t.safe.safe = true ∧
      (s.safe.safe = false → t.safe = ⟨true, srcId .gth 0, 0x10, s.now⟩) ∧ t.regs = s.regs ∧ t.dram = s.dram ∧
      t.log.raised = s.log.raised ++ [⟨s.now, srcId .gth 0, 0x10, 4, stHW_ERROR, 0xFF, 0xFFFF, 0,
        g.val + 0x100000000 * pc.toNat⟩])) ∧
  (∀ (who : Who) (x : BitVec 32) (s : State), isGatehouse who = true →
    exec (.safeRequest who 0 x) s = .next s ∧ (s.safe.safe = true → exec (.safeRequest who 1 x) s = .next s) ∧
    (s.safe.safe = false → ∃ t, exec (.safeRequest who 1 x) s = .next t ∧ t.safe = ⟨true, srcId .gth 0, 0x18, s.now⟩ ∧
      t.log.raised = s.log.raised ++ [⟨s.now, srcId .gth 0, 0x18, 4, stDONE, 0xFF, 0xFFFF, 0, x.toNat⟩])) ∧
  (∀ (k : Fin 5) (u : Fin 128) (s : State),
    let may : Prop := s.safe.safe = false ∧ s.gth.failed = false ∧ s.unitTested k.val u.val = true ∧
      s.slicing k.val u.val = false ∧ s.sliceRunning < 8
    let r := s.round k.val u.val
    let plots := (s.plan.map (fun p => p.unitPlots k.val u.val)).getD []
    (¬ may → exec (.sliceStart k u) s = .next s) ∧
    (may → s.sliceOk k.val u.val = false → exec (.sliceStart k u) s = .next (s.bump .gthStDeferred k.val 1)) ∧
    (may → s.sliceOk k.val u.val = true → s.otherFirst k.val u.val = true → exec (.sliceStart k u) s = .next s) ∧
    (may → s.sliceOk k.val u.val = true → s.otherFirst k.val u.val = false →
      exec (.sliceStart k u) s = .next (s.setRound k.val u.val { r with started := some s.now })) ∧
    (r.started = none → ∀ f, exec (.sliceEnd k u f) s = .next s) ∧
    (r.started.isSome = true →
      let s1 := (s.afterSlice k.val u.val).setRound k.val u.val
        (if r.next + 1 < sliceCount k.val then { r with next := r.next + 1, started := none } else { since := s.now })
      exec (.sliceEnd k u false) s = .next s1 ∧
      ∃ t, exec (.sliceEnd k u true) s = .next t ∧ (k.val, u.val) ∈ t.gth.failedUnits ∧ t.gth.rounds = s1.gth.rounds ∧
        (∀ p ∈ plots, p ∈ t.kpr.deadPlots ∧ (p < 16 → p ∈ t.tensor.stopReq ∨ p ∈ t.tensor.stopped)) ∧
        (k.val = 3 → t.safe.safe = true) ∧ ∃ p, (plots = [p] ∨ (p = 0xFF ∧ plots.length ≠ 1)) ∧
        t.log.raised = s.log.raised ++ [⟨s.now, srcId .gth 0, 0x14, if k.val = 3 then 4 else 3, stHW_ERROR, p, 0xFFFF, 0,
          k.val + 256 * u.val + 65536 * r.next⟩]) ∧
    (k.val = 0 → s.afterSlice k.val u.val = s.setBed u.val { s.bed u.val with tiles := {}, acc := {}, vregs := {} }) ∧
    (k.val = 2 → s.afterSlice k.val u.val =
      s.setOrgCore u.val { s.orgCore u.val with cache := [], icache := [], dcache := [] }) ∧
    (k.val ≠ 0 → k.val ≠ 2 → s.afterSlice k.val u.val = s) ∧
    ((s.unitTested k.val u.val = false ∨ r.overdue = true ∨ s.now < s.overdueAt k.val u.val) →
      exec (.selftestOverdue k u) s = .next s) ∧
    (s.unitTested k.val u.val = true → r.overdue = false → s.overdueAt k.val u.val ≤ s.now → ∃ t,
      exec (.selftestOverdue k u) s = .next t ∧ (t.round k.val u.val).overdue = true ∧
      t.log.raised = s.log.raised ++ [⟨s.now, srcId .gth 0, 0x15, bits (s.rd .gthStCfg k.val) 18 16, stDEADLINE_MISSED, 0xFF,
        0xFFFF, 0, k.val + 256 * u.val + 65536 * r.next⟩]))

/-- O55. Attestation, random values, enclaves and the life-cycle step, as the mailbox requests them. Derived: Cites
R438, R439, R440, R441, R443, R450, R453, R458, spec/14_isolation_and_security.md. -/
def Obligations.GlasshouseServicesAndEnclaves : Prop :=
  let reply (w c : Nat) : List Byte := leBytes 1 w ++ zeros 1 ++ leBytes 2 c ++ zeros 12
  (∀ (m : Mbx) (s : State) (p : Nat × Instr),
    p ∈ [(0x30, Instr.attest m), (0x31, .random m), (0x32, .encCreate m), (0x33, .encImport m), (0x34, .encSeal m),
      (0x35, .encDestroy m), (0x36, .lcAdvance m)] → s.asks m p.1 → s.gls.halted = true →
      exec p.2 s = .next (s.finishMbx (mbxKey m) stHW_ERROR (reply stHW_ERROR 0))) ∧
  (∀ (m : Mbx) (s : State), s.gls.halted = false →
    let k := mbxKey m
    let b := s.reqBody m
    let plot := s.mbxPlot k
    let st := s.glsStamp plot (mbxCtx k) false
    let a := fld b 8 8
    let ctx := fld b 0 2
    (let rep := fld b 0x10 8
     let man := ((s.enclaveOfPlot ctx plot).map (·.2.manifest)).getD (zeros 48)
     let body := s.reportBody plot ctx (s.dramGet a 48) man
     s.asks m 0x30 → allZero b 2 6 = true → bodyEnds b 0x18 = true → rep % 64 = 0 → s.lifecycle ≠ 0 →
      (ctx = 0xFFFF ∨ (s.enclaveOfPlot ctx plot).isSome = true) → s.accessFree st a 48 false →
      s.accessFree st rep 512 true → s.gls.rngOk = true → body.length = 416 →
      ∃ (t : State) (n : Nat), exec (.attest m) s = .next (t.finishMbx k stDONE (reply stDONE ctx)) ∧ t.gls = s.gls ∧
        let sg := ecdsaSign (ecPrivate (s.derived 0)) (sha384 body) n
        t.dram = (s.dramPut rep (body ++ beBytes 48 sg.1 ++ beBytes 48 sg.2)).dram) ∧
    (let n := fld b 0 4
     s.asks m 0x31 → allZero b 4 4 = true → bodyEnds b 0x10 = true → 1 ≤ n → n ≤ 4096 → s.accessFree st a n true →
      (s.gls.rngOk = false → exec (.random m) s = .next (s.finishMbx k stHW_ERROR (reply stHW_ERROR 0))) ∧
      (s.gls.rngOk = true → ∃ (t : State) (bytes : List Byte), exec (.random m) s = .next (t.finishMbx k stDONE (reply stDONE 0)) ∧
        bytes.length = n ∧ t.dram = (s.dramPut a bytes).dram ∧ t.gls = { s.gls with nonces := s.gls.nonces ++ [(s.now, bytes)] })) ∧
    (let d := s.dramGet a 2080
     let c := fld d 6 2
     let ranges := manifestRanges d
     let pages := ranges.flatMap rangePages
     let signed := s.sigOk (fld d 0x10 8) 4 (sha384 (d.take 0x7C0)) (beNat (sub d 0x7C0 48)) (beNat (sub d 0x7F0 48))
     ∀ e, s.asks m 0x32 → allZero b 0 8 = true → bodyEnds b 0x10 = true → a % 64 = 0 → s.lifecycle ≠ 0 →
      s.accessFree st a 2080 false → manifestOk d = true → (s.ctx? c).map (·.plot) = some plot →
      s.plotSecure plot = false → s.enclaveOf c = none → s.ctxHasProg c = false → s.ctxHasSpace c = false →
      s.ctxHasCommand c = false → ranges.all (s.rangeOwned plot) = true →
      ranges.Pairwise (fun x y => rangesMeet x y = false) →
      (∀ x ∈ ranges, ∀ y ∈ s.gls.enclaves.flatMap (fun e => (e.2.map (·.ranges)).getD []), rangesMeet x y = false) →
      (List.range 32).find? (fun e => (sget (fun _ => none) s.gls.enclaves e : Option EncSt).isNone) = some e →
      ∃ (t : State) (w : Nat), exec (.encCreate m) s = .next (t.finishMbx k w (reply w c)) ∧
        (w = stDONE ↔ signed = true ∧ (s.unwrapKey d "SZ9 enclave").isSome = true) ∧ (w ≠ stDONE → w = stINTEGRITY ∧ t.gls = s.gls ∧
          t.dram = s.dram ∧ t.mem.entries = s.mem.entries) ∧
        (w = stDONE → ∀ key, s.unwrapKey d "SZ9 enclave" = some key → sget (fun _ => none) t.gls.enclaves e =
          some ⟨c, plot, false, key, ranges, (List.range (fld d 9 1)).map (fun i => sub d (0xC0 + 48 * i) 48), sha384 d⟩ ∧
          t.dram = (s.zeroPages pages).dram ∧ t.gls.otp = s.gls.otp ∧ t.mem.entries = (s.mapEntries (fun x =>
            setField (setField (setField x 6 1 1) 7 1 0) 8 12 (0x400 + c)) pages).mem.entries)) ∧
    (∀ e x, s.enclaveOfPlot ctx plot = some (e, x) →
      (let n := fld b 4 4
       let dst := fld b 0x10 8
       let st := s.glsStamp plot ctx false
       let d := s.dramGet a (32 + n)
       let pieces := sealedPieces x.ranges dst n
       let pt := gcmDecrypt x.key (d.take 12) (leBytes 8 dst) (d.drop 32) (sub d 16 16)
       s.asks m 0x33 → allZero b 2 2 = true → bodyEnds b 0x18 = true → 64 ≤ n → n ≤ 1073741824 → n % 64 = 0 → dst % 64 = 0 →
        x.isSealed = false → dst + n ≤ sumL (x.ranges.map (fun r => 8192 * r.2.1)) →
        s.accessFree st a (32 + n) false → (∀ q ∈ pieces, q.1 + q.2 ≤ reservedBase ∧
          s.firstRefused (s.glsStamp plot ctx true) q.1 q.2 true = none) →
        ∃ (t : State) (w : Nat), exec (.encImport m) s = .next (t.finishMbx k w (reply w ctx)) ∧ t.gls = s.gls ∧
          w = (if pt.isSome then stDONE else stINTEGRITY) ∧
          t.dram = (s.writePieces (s.glsStamp plot ctx true) pieces (pt.getD (zeros n))).1.dram ∧
          (pt = none → ∃ r ∈ t.log.raised, r.cls = 0x12 ∧ r.source = srcId .gls 0 ∧ r.plot = plot ∧ r.ctx = ctx)) ∧
      (s.asks m 0x34 → bodyEnds b 2 = true → exec (.encSeal m) s = .next (((s.mapEntries (fun v => setBit v 7)
        ((x.ranges.filter (·.2.2)).flatMap rangePages)).setEnclave e (some { x with isSealed := true })).finishMbx k stDONE
          (reply stDONE ctx))) ∧
      (s.asks m 0x35 → bodyEnds b 2 = true → s.ctxHasProg ctx = false → swf (fun _ => none) s.gls.enclaves = true →
        ∃ t : State, exec (.encDestroy m) s = .next (t.finishMbx k stDONE (reply stDONE ctx)) ∧
          sget (fun _ => none) t.gls.enclaves e = none ∧ t.dram = (s.zeroPages (x.ranges.flatMap rangePages)).dram ∧
          ∀ j, j ≠ e → sget (fun _ => none) t.gls.enclaves j = sget (fun _ => none) s.gls.enclaves j)) ∧
    (let r := s.dramGet a 168
     let target := fld r 0 1
     let signed := s.lcSigner target (sha384 (r.take 72)) (beNat (sub r 72 48)) (beNat (sub r 120 48))
     let fresh := s.gls.nonces.any (fun n => n.2 == sub r 24 48 && decide (s.now ≤ n.1 + 60000000000))
     s.asks m 0x36 → allZero b 0 8 = true → bodyEnds b 0x10 = true → s.accessFree st a 168 false →
      allZero r 1 7 = true → ∃ t, exec (.lcAdvance m) s = .next t ∧
        if signed = true ∧ sub r 8 16 = s.gls.otp.serial ∧ fresh = true ∧ target = s.lifecycle + 1 ∧ target ≤ 3 ∧
            (target = 1 → s.gls.rngOk = true) then
          t.gls.otp.lifecycle = setAt s.gls.otp.lifecycle (target - 1) 0xFFFFFFFF ∧ t.gls.otp.keys = s.gls.otp.keys ∧
            t.plan = none ∧ t.regs = [] ∧ t.pwr.running = false ∧ t.dram = [] ∧ t.gls.sram = []
        else t.gls.otp = s.gls.otp ∧ t.plan = s.plan ∧ t.dram = s.dram ∧ (t.mbx k).busy = false ∧ (t.mbx k).ready = true)) ∧
  (∀ (l : List Nat) (s : State) (a : Nat), sget (fun _ => 0) (s.zeroPages l).dram a =
    if ∃ p ∈ l, p ≤ a ∧ a < p + 8192 then 0 else sget (fun _ => 0) s.dram a)

/-- O56. Key revocation, debug tokens, tamper, wipe, RNG health, the counter policy, MSIs and pins. Derived: Cites
R400, R425, R426, R436, R450, R452, R454, R455, R456, R457, R573, spec/14_isolation_and_security.md. -/
def Obligations.GlasshouseEventsAndPolicies : Prop :=
  (∀ (signer : BitVec 64) (k : Fin 16) (rec_ : List Byte) (r sg : BitVec 384) (s : State),
    let left := (List.range 16).filter (fun j => j ≠ k.val && (s.keySlot j).present && !(s.keySlot j).revoked)
    let writable := s.lifecycle = 1 ∨ s.lifecycle = 2 ∨ (s.lifecycle = 0 ∧ k.val ≤ 1)
    let kept := ∀ u ∈ s.neededUsages, ∃ j ∈ left, bit (s.keySlot j).usage u = true
    ∃ t, exec (.revoke signer k rec_ r sg) s = .next t ∧ t.plan = s.plan ∧ t.dram = s.dram ∧ t.regs = s.regs ∧
      (s.sigOk signer.toNat 7 (sha384 rec_) r.toNat sg.toNat = false → t.resp.status = stINTEGRITY ∧ t.gls = s.gls ∧
        t.log.raised = s.log.raised ++ [⟨s.now, srcId .gls 0, 0x11, 0, stINTEGRITY, 0xFF, 0xFFFF, 0,
          (if signer.toNat ≤ 15 then signer.toNat else 0xF) + 256 * 8⟩]) ∧
      (s.sigOk signer.toNat 7 (sha384 rec_) r.toNat sg.toNat = true → t.log = s.log ∧
        (¬ (writable ∧ kept) → t.resp.status = stREFUSED_PLAN ∧ t.gls = s.gls) ∧
        (writable ∧ kept → t.resp.status = stDONE ∧ (∀ u dg x y, t.sigOk k.val u dg x y = false) ∧
          ∀ j, j ≠ k.val → t.keySlot j = s.keySlot j))) ∧
  (∀ (token : List Byte) (signer : BitVec 64) (r sg : BitVec 384) (s : State),
    let ports := fld token 64 4 &&& debugAllowed s.lifecycle
    let signed := s.sigOk signer.toNat 5 (sha384 token) r.toNat sg.toNat
    let open_ := s.lifecycle = 0 ∨ (signed = true ∧ token.length = 72 ∧ allZero token 68 4 = true ∧ token.take 64 ∈ s.gls.challenges)
    (token = [] → s.gls.rngOk = false → ∃ t, exec (.debugToken (.debug token) signer r sg) s = .next t ∧
      t.resp = ⟨stHW_ERROR, []⟩ ∧ t.gls = s.gls) ∧
    (token = [] → s.gls.rngOk = true → ∃ (t : State) (n : List Byte), exec (.debugToken (.debug token) signer r sg) s = .next t ∧ n.length = 32 ∧
      t.gls = { s.gls with challenges := s.gls.challenges ++ [s.gls.otp.serial ++ zeros 16 ++ n] } ∧
      t.resp = ⟨stDONE, s.gls.otp.serial ++ zeros 16 ++ n⟩) ∧
    (token ≠ [] → ∃ t, exec (.debugToken (.debug token) signer r sg) s = .next t ∧ t.dram = s.dram ∧ t.gls.otp = s.gls.otp ∧
      (¬ open_ → t.resp.status = stINTEGRITY ∧ t.gls = s.gls ∧ t.gth = s.gth) ∧
      (open_ → t.resp.status = stDONE ∧ t.gls.debugPorts = s.gls.debugPorts ||| ports ∧ t.gls.debugSeen = true ∧
        t.gls.challenges = (if s.lifecycle = 0 then s.gls.challenges else s.gls.challenges.erase (token.take 64)) ∧
        t.gth = { s.gth with broken := s.gth.broken || bit ports 3 } ∧ ∃ x ∈ t.log.raised, x.cls = 0x15 ∧ x.detail = ports))) ∧
  (∀ (i : JtagIns) (tdi : List Bool) (signer : BitVec 64) (r sg : BitVec 384) (s : State),
    let bytes := tdi.map (fun b => BitVec.ofNat 8 (b2n b))
    let open_ : Prop := s.lifecycle = 0 ∨ s.lifecycle = 3
    (∃ t, exec (.debugToken (.load i) signer r sg) s = .next t ∧ t.gls = { s.gls with jtag := i } ∧ t.dram = s.dram ∧ t.regs = s.regs) ∧
    (∃ t, exec (.debugToken (.shift tdi) signer r sg) s = .next t ∧ t.gls = s.gls ∧ t.dram = s.dram ∧ t.resp.data.length = tdi.length ∧
      (s.gls.jtag = .idcode → t.resp.data = ((List.range 32).map (fun j => BitVec.ofNat 8 (b2n (bit 0x1595A0B3 j))) ++
        bytes).take tdi.length) ∧
      ((s.gls.jtag = .bypass ∨ (¬ open_ ∧ (s.gls.jtag = .boundary ∨ ∃ n, s.gls.jtag = .other n))) →
        t.resp.data = (zeros 1 ++ bytes).take tdi.length))) ∧
  (∀ (c : Fin 5) (s : State),
    (c.val = 0 → bit (s.rd .glsTamperCfg 0) 0 = false → exec (.tamper c) s = .next s) ∧
    ((c.val = 0 → bit (s.rd .glsTamperCfg 0) 0 = true) →
      ((s.lifecycle = 0 ∨ s.lifecycle = 3) → exec (.tamper c) s = .next (s.raise
        ⟨s.now, srcId .gls 0, 0x10, 0, stHW_ERROR, 0xFF, 0xFFFF, 0, 2 ^ c.val⟩)) ∧
      (s.lifecycle = 1 ∨ s.lifecycle = 2 → ∃ t, exec (.tamper c) s = .next t ∧ t.gls.halted = true ∧ t.gls.sram = [] ∧
        bit t.gls.tamper c.val = true ∧ t.gls.wiping = some (s.gls.wiping.getD s.now) ∧ t.safe.safe = true ∧
        t.dram = (s.zeroPages s.sealedPages).dram ∧ t.pinCtl = s.pinCtl.filter (fun e => !s.secureAttr 0x08 (e.1 / 4)) ∧ t.gls.otp = s.gls.otp ∧
        (∀ e ∈ t.gls.enclaves, ∀ x, e.2 = some x → x.key = zeros 32) ∧
        (∀ k, k < 48 → 0x30 ≤ fld (s.mbx k).req 4 2 → fld (s.mbx k).req 4 2 ≤ 0x36 → (t.mbx k).busy = false) ∧
        ∃ x ∈ t.log.raised, x.cls = 0x10 ∧ x.severity = 4 ∧ x.source = srcId .gls 0))) ∧
  (∀ (b : Bool) (s : State),
    exec (.rngHealth b) s = .next ({ s with gls := { s.gls with rngOk := false } }.raise
      ⟨s.now, srcId .gls 0, 0x13, 2, stHW_ERROR, 0xFF, 0xFFFF, 0, b2n b⟩) ∧
    (∀ t0, s.gls.wiping = some t0 → t0 + 10240 ≤ s.now → exec .wipeDone s = .next { s with gls := { s.gls with wiping := none } }) ∧
    ((∀ t0, s.gls.wiping = some t0 → s.now < t0 + 10240) → exec .wipeDone s = .next s)) ∧
  (∀ (who : Who) (v : BitVec 32) (s : State), s.wf = true → v.toNat &&& 0xFFFFFEE0 = 0 → ∃ t,
    exec (.glsCtrPolicyWrite who v) s = .next t ∧ t.gls = s.gls ∧ t.plan = s.plan ∧
    ((s.stampOf who).secure = false → t.rd .glsCtrPolicy 0 = s.rd .glsCtrPolicy 0) ∧
    ((s.stampOf who).secure = true → bit (s.rd .glsCtrPolicy 0) 8 = true → t.rd .glsCtrPolicy 0 = s.rd .glsCtrPolicy 0 ∧
      bit (t.rd .glsErrReg 0) 2 = true) ∧
    ((s.stampOf who).secure = true → bit (s.rd .glsCtrPolicy 0) 8 = false → t.rd .glsCtrPolicy 0 = v.toNat)) ∧
  (∀ (who : Who) (c : Fin 16) (v : BitVec 32) (s : State),
    let st := s.stampOf who
    let may := s.plotSecure (s.ownerOf 0x01 c.val) = false ∨ st.secure = true ∨
      ((∀ n, who ≠ .core n) ∧ st.plot = s.ownerOf 0x01 c.val)
    (may → exec (.msiWrite who c v) s = .next { s with out := s.out ++ [.msi c.val v.toNat] }) ∧
    (¬ may → exec (.msiWrite who c v) s = .next s)) ∧
  (∀ (p : Fin 128) (b : Bool) (s : State),
    (bit s.pins p.val = b → exec (.pinInterrupt p b) s = .next s) ∧
    (bit s.pins p.val ≠ b → ∃ t, exec (.pinInterrupt p b) s = .next t ∧ bit t.pins p.val = b ∧
      (∀ j, j ≠ p.val → bit t.pins j = bit s.pins j) ∧ t.dram = s.dram ∧ t.regs = s.regs ∧
      (s.ownerOf 0x08 p.val < 16 → t.out = s.out ++ [.pinIrq (s.ownerOf 0x08 p.val) p.val (s.secureAttr 0x08 p.val)]) ∧
      (16 ≤ s.ownerOf 0x08 p.val → t.out = s.out)))

/-- O57. Inbound and outbound PCIe requests, configuration accesses, links and function resets. Derived: Cites R464,
R466, R469, R470, R471, R475, R477, R478, R479, R492, R502, spec/15_host_interface_and_instances.md. -/
def Obligations.PcieRequestsAndLinks : Prop :=
  (∀ (p : Fin 3) (fn : Fin 32) (bar : Fin 3) (a : BitVec 64) (data : List (Option Byte)) (pz : Bool) (len : Fin 4097) (s : State), s.wf = true →
    let up := (s.link p.val).up
    let backed := s.notBacked p.val fn.val = false
    let t := s.mapIn p.val fn.val bar.val a.toNat data.length
    let i := s.inInst p.val fn.val t
    let u := s.mapIn p.val fn.val bar.val a.toNat len.val
    (up = false → exec (.inboundWrite p fn bar a data pz) s = .next s ∧ exec (.inboundRead p fn bar a len) s = .next s) ∧
    (up = true →
      (¬ backed → exec (.inboundWrite p fn bar a data pz) s = .next (s.postedRefused p.val i a.toNat 3)) ∧
      (backed → exec (.inboundWrite p fn bar a data true) s = .next (s.postedRefused p.val i a.toNat 4)) ∧
      (backed → t = none → exec (.inboundWrite p fn bar a data false) s = .next (s.postedRefused p.val i a.toNat 1)) ∧
      (∀ n x, backed → t = some (.reg n x) → (blockAt x).isNone = true →
        exec (.inboundWrite p fn bar a data false) s = .next (s.postedRefused p.val i a.toNat 2)) ∧
      (∀ n x, backed → u = some (.reg n x) → 0 < len.val → (blockAt x).isNone = true →
        exec (.inboundRead p fn bar a len) s = .next { s with out := s.out ++ [.pcieCpl p.val fn.val 4 []] }) ∧
      (∀ n x, backed → t = some (.reg n x) → (blockAt x).isSome = true → x % data.length = 0 → (data.length = 4 ∨ data.length = 8) →
        data.all (·.isSome) = true → exec (.inboundWrite p fn bar a data false) s =
          .next (s.spaceWrite (.host (Fin.ofNat 32 n)) x data.length (leNat (data.map (·.getD 0))) 0)) ∧
      (∀ n x, backed → t = some (.dram n x) → x + data.length ≤ reservedBase → data.any (·.isSome) = true →
        s.accessFree (s.inStamp n) x data.length true →
        ∃ t, exec (.inboundWrite p fn bar a data false) s = .next t ∧ t.host = s.host ∧ t.log = s.log ∧
          ∀ y, t.dramByte y = if x ≤ y ∧ y < x + data.length then (data.getD (y - x) none).getD (s.dramByte y) else s.dramByte y) ∧
      (∀ n x, backed → u = some (.dram n x) → 0 < len.val → s.accessFree (s.inStamp n) x len.val false →
        ∃ (t : State) (ps : List (List Byte)), exec (.inboundRead p fn bar a len) s = .next t ∧ t.out = s.out ++ ps.map (Out.pcieCpl p.val fn.val 0) ∧
          ps.flatten = s.dramGet x len.val ∧
          (∀ j, j + 1 < ps.length → (x + (ps.take (j + 1)).flatten.length) % 64 = 0 ∧ (ps.getD j []).length ≤ 64) ∧
          t.dram = s.dram ∧ t.log = s.log) ∧
      (∀ n x, backed → u = some (.dram n x) → 0 < len.val → x + len.val ≤ dramSize →
        s.firstRefused (s.inStamp n) x len.val false ≠ none →
        ∃ t, exec (.inboundRead p fn bar a len) s = .next t ∧ t.out = s.out ++ [.pcieCpl p.val fn.val 4 []] ∧ t.dram = s.dram) ∧
      ((¬ backed ∨ u = none) → ∃ t, exec (.inboundRead p fn bar a len) s = .next t ∧
        t.out = s.out ++ [.pcieCpl p.val fn.val 1 []] ∧ t.dram = s.dram ∧
        ∃ r ∈ t.log.raised, r.cls = fcOWNER ∧ r.source = srcId .hif p.val ∧ r.addr = a.toNat))) ∧
  (∀ (port n a code : Nat) (s : State), s.wf = true → ∃ r : FaultRec,
    (s.postedRefused port (some n) a code).log.raised = s.log.raised ++ [r] ∧ r.cls = 0x11 ∧ r.severity = 0 ∧
      r.detail = code + 256 * (a % 2 ^ 56) ∧ r.ctx = 0x8000 + n ∧
      (s.postedRefused port (some n) a code).rd .hifIPostedErr n = satAdd32 (s.rd .hifIPostedErr n) 1 ∧
      (s.rd .hifIPostedErr n = 0 → (s.postedRefused port (some n) a code).rd .hifIErrAddr n = a % 2 ^ 64) ∧
      (s.postedRefused port (some n) a code).dram = s.dram) ∧
  (∀ (who : Who) (a : BitVec 48) (size : Nat) (w : Bool) (data : List Byte) (s : State),
    let st := s.stampOf who
    let off := a.toNat - 0x040000000000
    let ok := 0x040000000000 ≤ a.toNat ∧ a.toNat < 0x050000000000 ∧ outSizeOk who a.toNat size = true ∧ (w = true → data.length = size)
    (¬ ok → exec (.outboundAccess who a size w data) s = .next s) ∧
    (ok →
      (s.outWindow off size = none → ∃ t, exec (.outboundAccess who a size w data) s = .next t ∧ t.host = s.host ∧ t.out = s.out ++
        [.outboundDone st a.toNat stOWNER_FAULT (if w then [] else zeros size)]) ∧
      (∀ n, s.outWindow off size = some n →
        let cfg := s.rd .hifObCfg n
        let port := bits cfg 3 2
        let f := bits cfg 8 4
        let bus := s.rd .hifObPci n + (off - s.rd .hifObBase n)
        let free := (s.endpoint && port == 0 && (s.inst f).stopped) = false
        (st.plot ≠ bits cfg 12 9 → ∃ t, exec (.outboundAccess who a size w data) s = .next t ∧ t.host = s.host ∧ t.out = s.out ++
          [.outboundDone st a.toNat stOWNER_FAULT (if w then [] else zeros size)]) ∧
        (st.plot = bits cfg 12 9 → ¬ free → exec (.outboundAccess who a size w data) s =
          .next { s with out := s.out ++ [.outboundDone st a.toNat stCANCELLED (if w then [] else zeros size)] }) ∧
        (st.plot = bits cfg 12 9 → free → w = true → (s.link port).up = true → exec (.outboundAccess who a size w data) s =
          .next { s with out := s.out ++ [.pcieWrite port f bus data, .outboundDone st a.toNat stDONE []] }) ∧
        (∀ tag, st.plot = bits cfg 12 9 → free → w = false → (s.link port).up = true → s.freeTag port = some tag →
          tag < 768 ∧ s.outRead port tag = none ∧ ∃ t, exec (.outboundAccess who a size w data) s = .next t ∧
            t.outRead port tag = some ⟨tag, port, st, a.toNat, size, f, s.now, bus⟩ ∧
            t.out = s.out ++ [.pcieRead port f bus size tag]) ∧
        (st.plot = bits cfg 12 9 → free → w = false → (s.link port).up = true → s.freeTag port = none →
          exec (.outboundAccess who a size w data) s =
            .next { s with host := { s.host with waits := s.host.waits ++ [⟨0, port, st, a.toNat, size, f, s.now, bus⟩] } }) ∧
        (st.plot = bits cfg 12 9 → free → (s.link port).up = false → exec (.outboundAccess who a size w data) s =
          .next { s with out := s.out ++ [.outboundDone st a.toNat (if w then stDONE else stHW_ERROR)
            (if w then [] else zeros size)] })))) ∧
  (∀ (p : Fin 3) (tag : Fin 768) (err : Fin 4) (data : List Byte) (s : State), swf (fun _ => none) s.host.reads = true →
    (s.outRead p.val tag.val = none → exec (.outboundCompletion p tag err data) s = .next s ∧ exec (.completionTimeout p tag) s = .next s) ∧
    (∀ r, s.outRead p.val tag.val = some r →
      let ended (t : State) (status : Nat) (d : List Byte) : Prop :=
        match s.host.waits.find? (fun q => q.port == p.val) with
        | none => t.outRead p.val tag.val = none ∧ t.out = s.out ++ [.outboundDone r.stamp r.addr status d]
        | some q => ∃ tg, t.host.waits = s.host.waits.erase q ∧ t.outRead p.val tg = some { q with tag := tg, sent := s.now } ∧
            t.out = s.out ++ [.outboundDone r.stamp r.addr status d, .pcieRead p.val q.inst q.bus q.len tg]
      (err.val ≠ 0 ∨ data.length = r.len → ∃ t, exec (.outboundCompletion p tag err data) s = .next t ∧
        if err.val = 0 then ended t stDONE data else ended t stHW_ERROR (zeros r.len)) ∧
      (s.now < r.sent + 1000000 * s.rd .hifCplTimeout 0 → exec (.completionTimeout p tag) s = .next s) ∧
      (r.sent + 1000000 * s.rd .hifCplTimeout 0 ≤ s.now → ∃ t, exec (.completionTimeout p tag) s = .next t ∧
        ended t stHW_ERROR (zeros r.len) ∧
        ∃ x ∈ t.log.raised, x.cls = fcTIMEOUT ∧ x.source = srcId .hif p.val ∧ (x.severity = 1 ∨ x.severity = 2)))) ∧
  (∀ (who : Who) (p : Fin 3) (v : BitVec 32) (rep : Option (BitVec 32)) (s : State),
    let own := s.rd .hifRpOwner p.val
    let may : Bool := isKeeper who || (bit own 4 && s.isCoreOf who (bits own 3 0))
    let reach := (s.link p.val).up = true ∧ (p.val = 0 → s.endpoint = false)
    (may = true → exec (.hifRprCfgDataAccess who p true v rep) s =
      .next { s with out := s.out ++ [.pcieCfg p.val (s.rd .hifRpCfgAddr p.val) true v.toNat] }) ∧
    (may = false → ∃ t, exec (.hifRprCfgDataAccess who p true v rep) s = .next t ∧ t.out = s.out ∧ t.host = s.host) ∧
    (∃ t, exec (.hifRprCfgDataAccess who p false v rep) s = .next t ∧ t.host = s.host ∧
      (reach → t.resp = ⟨stDONE, leBytes 4 ((rep.map BitVec.toNat).getD 0xFFFFFFFF)⟩ ∧
        t.out = s.out ++ [.pcieCfg p.val (s.rd .hifRpCfgAddr p.val) false 0]) ∧
      (¬ reach → t.resp = ⟨stDONE, leBytes 4 0xFFFFFFFF⟩ ∧ t.out = s.out))) ∧
  (∀ (i : Fin 32) (s : State), swf (fun _ => {}) s.host.insts = true →
    (s.hostBacked i.val = false → exec (.flr i) s = .next s) ∧
    (s.hostBacked i.val = true → ∃ t, exec (.flr i) s = .next t ∧ (t.inst i.val).stopped = true ∧
      ((s.inst i.val).state = 1 → (t.inst i.val).state = 2 ∧ (t.inst i.val).detEnd = s.now + detachNs) ∧
      ((s.inst i.val).state ≠ 1 → (t.inst i.val).state = (s.inst i.val).state) ∧
      t.log.raised = s.log.raised ++ [⟨s.now, srcId .hif 0, 0x12, 0, stDONE, s.instPlot i.val, 0x8000 + i.val, 0, 0⟩]) ∧
    (∃ t, exec .vfEnableClear s = .next t ∧ t.host.vfs = 0 ∧ ∀ j, 1 ≤ j → j < 32 → j ≤ s.host.vfs → s.hostBacked j = true →
      (s.inst j).state = 1 → (t.inst j).stopped = true ∧ (t.inst j).state = 2) ∧
    (∀ n : Fin 32, (s.endpoint = false → exec (.busMasterEnableSet i n) s = .next s) ∧
      (s.endpoint = true → ∃ t, exec (.busMasterEnableSet i n) s = .next t ∧
        t.host.vfs = (if s.host.vfs = 0 then n.val else s.host.vfs) ∧
        (i.val ≤ t.host.vfs → t.inst i.val = { s.inst i.val with stopped := false })))) ∧
  (∀ (p : Fin 3) (sp : Fin 6) (wd : Fin 3) (s : State), swf (fun _ => {}) s.host.links = true → swf (fun _ => none) s.host.reads = true →
    (∃ t, exec (.pcieLinkUp p sp wd) s = .next t ∧ (t.link p.val).up = true ∧ 1 ≤ (t.link p.val).speed ∧
      (t.link p.val).speed ≤ (if p.val = 0 then 5 else 4) ∧ (t.link p.val).width ≤ (if p.val = 0 then 4 else 2) ∧
      ∀ q, q ≠ p.val → t.link q = s.link q) ∧
    (∃ t, exec (.pcieLinkDown p) s = .next t ∧ t.link p.val = {} ∧ (∀ q, q ≠ p.val → t.link q = s.link q) ∧
      (∀ e ∈ t.host.reads, ∀ r, e.2 = some r → r.port ≠ p.val) ∧ (∀ r ∈ t.host.waits, r.port ≠ p.val) ∧
      t.dram = s.dram ∧
      ((s.link p.val).up = true → ∃ x ∈ t.log.raised, x.cls = 0x15 ∧ x.severity = 1 ∧ x.source = srcId .hif p.val ∧
        x.detail = (s.link p.val).speed)))

/-- O58. Opening, closing, attaching and beating an instance; freeze, save, restore, thaw and discard. Derived: Cites
R481, R491, R493, R494, R495, R496, R497, R498, R513, spec/15_host_interface_and_instances.md. -/
def Obligations.InstancesOpenFreezeAndMigrate : Prop :=
  let mig (w i n : Nat) : List Byte := leBytes 1 w ++ leBytes 1 i ++ zeros 2 ++ leBytes 4 n
  (∀ (m : Mbx) (s : State),
    let k := mbxKey m
    let b := s.reqBody m
    let feat := fld b 8 8
    s.asks m 1 → allZero b 4 4 = true → bodyEnds b 16 = true → s.mbxPlot k < 16 → s.plotRunning (s.mbxPlot k) = true →
    s.mbxOpen k = false → (16 ≤ k → (s.inst (k - 16)).closing = none) → fld b 0 2 = s.rd .kprIfVersion 0 / 65536 →
    feat &&& featDev = feat → bit feat 0 = true →
    ∃ (t : State) (body : List Byte), exec (.openMbx m) s = .next (t.finishMbx k stDONE body) ∧
      (t.mbx k).isOpen = true ∧ (t.mbx k).feat = feat ∧ (t.mbx k).window = [] ∧ t.dram = s.dram ∧
      (k < 16 → t.host = s.host) ∧ (16 ≤ k → (t.inst (k - 16)).state = 1 ∧ (t.inst (k - 16)).hbAt = s.now ∧
        (t.inst (k - 16)).host = s.fnEnabled (k - 16) ∧ body.drop 8 = leBytes 8 (t.inst (k - 16)).token)) ∧
  (∀ (m : Mbx) (i : Fin 32) (s : State), m = .inst i → swf (fun _ => {}) s.host.insts = true →
    swf (fun _ => none) s.tensor.ctxs = true → (s.inst i.val).closing = none →
    let k := 16 + i.val
    (∀ j q, j ≠ i.val → (s.inst j).freezing = some q → q.1 ≠ k) →
    let b := s.reqBody m
    (s.asks m 2 → bodyEnds b 0 = true →
      (s.instFlight i.val = false → ∃ t, exec (.closeMbx m) s = .next t ∧ (t.inst i.val).state = 0 ∧ (t.inst i.val).token = 0 ∧
        (t.mbx k).isOpen = false ∧ (t.mbx k).busy = false ∧ (t.mbx k).status = stDONE ∧
        ∀ c x, t.ctx? c = some x → x.via ≠ k) ∧
      (s.instFlight i.val = true → ∃ t, exec (.closeMbx m) s = .next t ∧ (t.inst i.val).closing.isSome = true ∧
        (t.inst i.val).state = (s.inst i.val).state ∧ (t.mbx k).serving = true)) ∧
    (s.asks m 3 → bodyEnds b 9 = true → fld b 8 1 = 0 → (s.inst i.val).freezing = none → ((s.inst i.val).state = 1 ∨
        (s.inst i.val).state = 2 ∧ s.now ≤ (s.inst i.val).detEnd) → fld b 0 8 = (s.inst i.val).token →
      ∃ t, exec (.attach m) s = .next t ∧ t.inst i.val = { s.inst i.val with state := 1, hbAt := s.now } ∧
        (t.mbx k).status = stDONE ∧ (t.mbx k).window.length = 1)) ∧
  (∀ (i : Fin 32) (s : State), swf (fun _ => {}) s.host.insts = true →
    let x := s.inst i.val
    (∀ who, s.pageWriter who i.val = none → exec (.beat who i 0) s = .next s ∧ exec (.beat who i 1) s =
      .next (if x.state = 1 then s.setInst i.val { x with hbAt := s.now } else s)) ∧
    (∀ who v, s.pageWriter who i.val ≠ none → ∃ t, exec (.beat who i v) s = .next t ∧ t.host = s.host) ∧
    (¬ (x.state = 1 ∧ x.hbAt + 1000000 * s.rd .hifHbTimeout 0 ≤ s.now) → exec (.heartbeatLapse i) s = .next s) ∧
    (x.state = 1 → x.hbAt + 1000000 * s.rd .hifHbTimeout 0 ≤ s.now → ∃ t, exec (.heartbeatLapse i) s = .next t ∧
      t.inst i.val = { x with state := 2, detEnd := s.now + detachNs } ∧ ∃ r ∈ t.log.raised, r.cls = fcTIMEOUT ∧ r.severity = 1 ∧
        r.ctx = 0x8000 + i.val ∧ r.plot = s.instPlot i.val) ∧
    (¬ (x.state = 2 ∧ x.detEnd ≤ s.now ∧ x.closing = none) → exec (.detachExpiry i) s = .next s) ∧
    (x.state = 2 → x.detEnd ≤ s.now → x.closing = none → s.instFlight i.val = false → ∃ t, exec (.detachExpiry i) s = .next t ∧
      (t.inst i.val).state = 0 ∧ (t.mbx (16 + i.val)).isOpen = false) ∧
    (∀ k stop, x.freezing = some (k, stop) → x.closing = none → (s.instFlight i.val = true ∨ (s.mbx (16 + i.val)).busy = true) →
      (s.now < stop → exec (.freezeTimeout i) s = .next s) ∧
      (stop ≤ s.now → ∃ t, exec (.freezeTimeout i) s = .next t ∧ t.inst i.val = { x with freezing := none } ∧
        (t.mbx k).status = stBUSY ∧ (t.mbx k).busy = false))) ∧
  (∀ (p : Fin 16) (s : State), swf (fun _ => {}) s.host.insts = true →
    let m := Mbx.plot p
    let b := s.reqBody m
    let i := fld b 0 1
    let x := s.inst i
    let a := fld b 8 8
    s.migOk p.val i = true →
    (s.asks m 0x40 → allZero b 1 3 = true → bodyEnds b 8 = true → 1 ≤ fld b 4 4 → fld b 4 4 ≤ 60000 →
      (x.state = 1 ∨ x.state = 2) → x.closing = none → x.freezing = none →
      (∀ j q, j ≠ i → (s.inst j).freezing = some q → q.1 ≠ p.val) →
      (s.instFlight i = false → (s.mbx (16 + i)).busy = false → ∃ t, exec (.freeze m) s = .next t ∧ (t.inst i).state = 3 ∧
        (t.inst i).prior = x.state ∧ (t.inst i).freezing = none ∧ (t.mbx p.val).status = stDONE ∧ (t.mbx p.val).busy = false) ∧
      (s.instFlight i = true → ∃ t, exec (.freeze m) s = .next t ∧ (t.inst i).state = x.state ∧
        (t.inst i).freezing = some (p.val, s.now + 1000000 * fld b 4 4) ∧ (t.mbx p.val).serving = true)) ∧
    (s.asks m 0x41 → allZero b 1 3 = true → bodyEnds b 16 = true → a % 64 = 0 → x.state = 3 →
      (∀ c ∈ s.ctxsVia (16 + i), s.enclaveOf c = none) →
      let body := s.imageBody i
      let n := body.length + 48
      (fld b 4 4 < n → exec (.save m) s = .next (s.finishMbx p.val stREFUSED_FIT (mig stREFUSED_FIT i n))) ∧
      (n ≤ fld b 4 4 → s.accessFree (s.mbxStamp p.val) a n true → ∃ t : State, exec (.save m) s =
        .next (t.finishMbx p.val stDONE (mig stDONE i n)) ∧ t.dram = (s.dramPut a (body ++ sha384 body)).dram ∧ t.host = s.host ∧
          t.tensor = s.tensor)) ∧
    (s.asks m 0x43 → bodyEnds b 1 = true → x.state = 3 → exec (.thaw m) s = .next (((s.setInst i
      { x with state := x.prior, hbAt := s.now, detEnd := s.now + 1000000 * x.leftMs }).touch).finishMbx p.val stDONE (mig stDONE i 0))) ∧
    (s.asks m 0x44 → bodyEnds b 1 = true → x.state = 3 → ∃ t : State, exec (.discard m) s =
      .next (t.finishMbx p.val stDONE (mig stDONE i 0)) ∧ (t.inst i).state = 0 ∧ (t.mbx (16 + i)).isOpen = false)) ∧
  (∀ (m : Mbx) (s s1 : State) (r : List Byte), swf (fun _ => {}) s.host.insts = true →
    let k := mbxKey m
    let b := s.reqBody m
    let len := fld b 4 4
    let x := readInstImg r
    s.asks m 0x42 → allZero b 0 4 = true → bodyEnds b 16 = true → fld b 8 8 % 64 = 0 →
    s.memRead (s.mbxStamp k) (fld b 8 8) len = (s1, some r) →
    let good := 0x980 + 48 ≤ len ∧ sha384 (r.take (len - 48)) = r.drop (len - 48) ∧ x.formatOk r = true ∧ fld r 4 2 = 1 ∧
      s1.imgPlanOk k x = true
    ∃ (t : State) (w : Nat), exec (.restore m) s = .next (t.finishMbx k w (mig w x.inst 0)) ∧
      (¬ good → w ≠ stDONE ∧ t = s1) ∧ (∀ u e, good → s1.restoreAll k x = (u, .error e) → w = e ∧ t = s1) ∧
      (∀ u, good → s1.restoreAll k x = (u, .ok ()) → w = stDONE ∧ (t.inst x.inst).state = 3 ∧ (t.inst x.inst).token = x.token ∧
        (t.inst x.inst).prior = x.prior ∧ (t.inst x.inst).leftMs = x.left ∧ (t.mbx (16 + x.inst)).isOpen = true))

/-- O59. The update session from UPD_BEGIN to UPD_COMMIT, and the retry of a deferred activation. Derived: Cites R525,
R526, R527, R528, R529, R530, R533, R534, spec/16_keeper_firmware.md. -/
def Obligations.UpdatesAreReceivedStagedAndActivated : Prop :=
  let mine (s : State) (m : Mbx) (b : List Byte) : Prop :=
    s.kpr.upd.state ≠ 0 ∧ s.kpr.upd.owner = mbxKey m ∧ fld b 0 4 = s.kpr.upd.session
  let twoCopies (s : State) : Prop := s.kpr.bcb.length = 2 ∧ s.control.kinds.length = 3
  (∀ (m : Mbx) (s : State),
    let k := mbxKey m
    let b := s.reqBody m
    let a := fld b 0 8
    let h := s.dramGet a 352
    let signed := s.sigOk (fld h 0x10 8) (updUsage (fld h 6 1)).1 (sha384 (h.take 0x100)) (beNat (sub h 0x100 48))
      (beNat (sub h 0x130 48))
    let key := if bit (fld h 7 1) 0 then some [] else s.unwrapKey h "SZ9 update"
    let number := (s.kpr.upd.session + 1) % 2 ^ 32
    s.asks m 0x50 → bodyEnds b 8 = true → a % 64 = 0 → s.kpr.upd.state = 0 →
    s.accessFree (s.mbxStamp k) a 352 false → updHeaderOk h s.lifecycle = true → s.gls.halted = false →
    ∃ (t : State) (w : Nat) (body : List Byte), exec (.updBegin m) s = .next (t.finishMbx k w body) ∧ t.dram = s.dram ∧
      t.flash = s.flash ∧ t.plan = s.plan ∧
      (∀ x, signed = true → key = some x → w = stDONE ∧ body = leBytes 4 number ++ leBytes 4 (fld h 0xC 4) ∧
        t.kpr = { s.kpr with upd := {
          state := 1, session := number, target := fld h 6 1, owner := k, header := h, key := x, imageLen := fld h 8 4,
          lastStatus := stDONE } }) ∧
      (signed = false ∨ key = none → w = stINTEGRITY ∧
        t.kpr = { s.kpr with upd := { s.kpr.upd with lastStatus := stINTEGRITY } })) ∧
  (∀ (m : Mbx) (s : State),
    let k := mbxKey m
    let b := s.reqBody m
    let off := fld b 4 4
    let a := fld b 8 8
    let n := fld b 0x10 4
    let u := s.kpr.upd
    let d := s.dramGet a (32 + n)
    let got := if u.received.contains (off / 65536) then u.received
      else insBy (fun x y => decide (x < y)) (off / 65536) u.received
    s.asks m 0x51 → mine s m b → u.state = 1 → bodyEnds b 0x14 = true → a % 64 = 0 → off % 65536 = 0 → off < u.imageLen →
    n = blockLen u.imageLen (off / 65536) → s.accessFree (s.mbxStamp k) a (32 + n) false →
    allZero d 12 4 = true → s.gls.halted = false →
    ∃ (t : State) (w : Nat) (body : List Byte), exec (.updBlock m) s = .next (t.finishMbx k w body) ∧ t.flash = s.flash ∧
      t.plan = s.plan ∧
      (u.open? off d = none → w = stINTEGRITY ∧ t.dram = s.dram ∧
        t.kpr = { s.kpr with upd := { u with lastStatus := stINTEGRITY } }) ∧
      (∀ pt, u.open? off d = some pt → w = stDONE ∧ body = zeros 4 ++ leBytes 4 got.length ∧
        t.kpr = { s.kpr with upd := { u with received := got, lastStatus := stDONE } } ∧
        ∃ iv, iv.length = 12 ∧
          let sealed_ := gcmEncrypt s.kstore iv (stagedAad u.target off) pt
          t.dram = ((s.reservedPut (stagingBase + 32 * (off / 65536)) (iv ++ zeros 4 ++ sealed_.2)).reservedPut
            (stagingBase + 0x10000 + off) sealed_.1).dram)) ∧
  (∀ (m : Mbx) (s : State),
    let k := mbxKey m
    let b := s.reqBody m
    let u := s.kpr.upd
    let img := s.stagedImage (fun a n => s.dramGet (stagingBase + a) n) u
    let rules (i : List Byte) := if u.target ≤ 3 then [] else s.planFails i (u.target - 4)
    s.asks m 0x52 → mine s m b → u.state = 1 → bodyEnds b 4 = true → s.gls.halted = false →
    u.received.length = ceilDiv u.imageLen 65536 →
    ∃ (t : State) (w : Nat) (body : List Byte), exec (.updStage m) s = .next (t.finishMbx k w body) ∧ t.dram = s.dram ∧
      t.plan = s.plan ∧ t.gls = s.gls ∧
      (∀ i, img = some i → (s.updChecks u i).2 = none → rules i = [] → w = stDONE ∧
        t.kpr.upd = { u with state := 2, key := [], lastStatus := stDONE } ∧
        (twoCopies s → t.control.staged = some t.kpr.upd) ∧ t.flash = ((s.flashErase flashStaging 0x4000000).flashPut
          flashStaging (s.dramGet stagingBase (0x10000 + u.imageLen))).flash) ∧
      ((img = none → w = stINTEGRITY) ∧ (∀ i, img = some i →
        (∀ x, (s.updChecks u i).2 = some x → w = x) ∧
        (∀ f r, (s.updChecks u i).2 = none → rules i = f :: r → w = f.status ∧ body = zeros 4 ++ leBytes 1 f.check))) ∧
      ((img = none ∨ ∃ i, img = some i ∧ ((s.updChecks u i).2.isSome = true ∨ rules i ≠ [])) → t.flash = s.flash ∧
        t.kpr = { s.kpr with upd := { u with lastStatus := w } })) ∧
  (∀ (m : Mbx) (s : State),
    let k := mbxKey m
    let b := s.reqBody m
    let u := s.kpr.upd
    let img := s.stagedImage (fun a n => s.flashGet (flashStaging + a) n) u
    let ended (t : State) (w : Nat) : Prop := t.kpr.upd = { session := u.session, lastStatus := w } ∧ t.dram = s.dram
    let copied (t : State) (base size : Nat) (i : List Byte) : Prop :=
      t.flash = ((s.writeSlot base size i).flashErase flashStaging 0x4000000).flash
    mine s m b → bodyEnds b 4 = true →
    (s.asks m 0x54 → u.state ≠ 3 → ∃ t : State, exec (.updAbort m) s = .next (t.finishMbx k stDONE []) ∧ ended t stDONE ∧
      t.flash = (s.flashErase flashStaging 0x4000000).flash ∧ (twoCopies s → t.control.staged = none)) ∧
    (s.asks m 0x53 → u.state = 2 →
      (s.pwr.state ≠ 0 → ∃ t : State, exec (.updActivate m) s = .next (t.finishMbx k stDEFERRED []) ∧ t.dram = s.dram ∧
        t.flash = s.flash ∧ t.kpr.upd = { u with state := 4, lastStatus := stDEFERRED }) ∧
      (s.pwr.state = 0 → s.gls.halted = false →
        (img = none → ∃ t : State, exec (.updActivate m) s = .next (t.finishMbx k stINTEGRITY []) ∧ ended t stINTEGRITY ∧
          t.flash = (s.flashErase flashStaging 0x4000000).flash) ∧
        (∀ i, img = some i →
          (u.target = 1 ∨ u.target = 3 → ∃ t : State, exec (.updActivate m) s = .next (t.finishMbx k stDONE []) ∧ ended t stDONE ∧
            (let slot := fwSlot u.target (1 - (s.control.kind u.target).active)
             copied t slot.1 slot.2 i) ∧ (twoCopies s → t.control.kind u.target =
              { s.control.kind u.target with trial := true, tried := false })) ∧
          (u.target = 4 ∨ u.target = 5 → ∃ t : State, exec (.updActivate m) s = .next (t.finishMbx k stDONE []) ∧ ended t stDONE ∧
            copied t (planSlot (u.target - 4)) 4194304 i) ∧
          (u.target = 2 → ∃ t : State, exec (.updActivate m) s = .next t ∧
            ((∃ j, j ≠ k ∧ (s.mbx j).serving = true) → t.kpr.draining = true ∧ t.flash = s.flash ∧ t.dram = s.dram ∧
              t.kpr.upd = { u with state := 3, pendingReply := some k } ∧ (t.mbx k).serving = true) ∧
            ((∀ e ∈ s.kpr.mbx, e.2.serving = false) → (s.updChecks u i).2 = none → t.kpr.state = 2 ∧ t.flash = s.flash ∧
              t.kpr.draining = false ∧ t.kpr.half = s.kpr.half ∧ t.kpr.next = some ⟨1 - (s.control.kind 2).active, fld i 0xC 4,
                fld i 0x10 2, fld i 0x12 2, sha384 i, i, false⟩ ∧ t.kpr.logOpen = false ∧
              t.kpr.upd = { u with state := 3, pendingReply := some k, readyAt := some s.now } ∧
              t.dram = (s.reservedPut (keeperHalf (1 - s.kpr.half)) i).dram)))))) ∧
  (∀ (m : Mbx) (s : State) (v : Nat),
    let k := mbxKey m
    let b := s.reqBody m
    let n := fld b 0 1
    let low := max (s.gls.otp.mins.getD (n - 1) 0) (min v 256)
    s.asks m 0x55 → bodyEnds b 1 = true → 1 ≤ n → n ≤ 4 → s.gls.halted = false →
    (if n = 4 then s.plan.map (·.version) else (s.fwOf n).map (·.svn)) = some v →
    let onTrial := if n = 4 then s.spl.state = 3 else (s.control.kind n).trial = true
    (onTrial → exec (.updCommit m) s = .next (s.finishMbx k stREFUSED_PLAN [])) ∧
    (¬ onTrial → exec (.updCommit m) s = .next (({ s with gls := { s.gls with otp := { s.gls.otp with
      mins := setAt s.gls.otp.mins (n - 1) low } } }).finishMbx k stDONE (zeros 4 ++ leBytes 2 low)))) ∧
  (∀ (s : State),
    let u := s.kpr.upd
    let due := u.state = 4 ∧ s.pwr.state = 0 ∧ s.pwr.normal + 1000000000 ≤ s.now ∧ s.keeperServes = true
    (¬ due → exec .activationRetry s = .next s) ∧
    (due → s.gls.halted = false → ∀ i, s.stagedImage (fun a n => s.flashGet (flashStaging + a) n) u = some i →
      u.target = 4 ∨ u.target = 5 → ∃ t : State, exec .activationRetry s = .next t ∧ t.dram = s.dram ∧ t.out = s.out ∧
        t.kpr.upd = { session := u.session, lastStatus := stDONE } ∧ t.kpr.mbx = s.kpr.mbx ∧
        t.flash = ((s.writeSlot (planSlot (u.target - 4)) 4194304 i).flashErase flashStaging 0x4000000).flash ∧
        t.log.raised = s.log.raised ++ [⟨s.now, srcId .kpr 0, 0x11, 0, stDONE, 0xFF, 0xFFFF, 0,
          u.target % 8 + 256 * (u.session % 256)⟩]))

/-- O60. The Keeper handover ends, its watchdog restarts it, and it reads its log and journal. Derived: Cites R518,
R522, R524, R531, R532, spec/16_keeper_firmware.md. -/
def Obligations.TheKeeperHandsOverAndIsWatched : Prop :=
  (∀ (who : Who) (s : State), isKeeper who = true →
    (∀ f, s.kpr.state = 2 → s.kpr.next = some f →
      ∃ t : State, exec (.kprHandoverReady who 1) s = .next t ∧ t.kpr.state = s.kpr.upState ∧ t.kpr.half = 1 - s.kpr.half ∧
        t.kpr.next = none ∧ t.fwOf 2 = some f ∧ t.kpr.logOpen = true ∧ t.kpr.wdogAt = s.now ∧ t.dram = s.dram ∧
        t.kpr.upd = { session := s.kpr.upd.session, lastStatus := stDONE } ∧
        (∀ k, s.kpr.upd.pendingReply = some k → (t.mbx k).busy = false ∧ (t.mbx k).ready = true ∧ (t.mbx k).status = stDONE) ∧
        (s.kpr.upd.pendingReply = none → ∃ r ∈ t.log.raised, r.source = srcId .kpr 0 ∧ r.cls = 0x11 ∧ r.status = stDONE) ∧
        (let slot := fwSlot 2 f.slot
         t.flash = ((s.writeSlot slot.1 slot.2 f.image).flashErase flashStaging 0x4000000).flash) ∧
        (s.kpr.bcb.length = 2 → s.control.kinds.length = 3 → t.control.kind 2 = { active := f.slot })) ∧
    (s.kpr.state ≠ 2 ∨ s.kpr.next = none → exec (.kprHandoverReady who 1) s = .next s) ∧
    (s.kpr.state ≠ 4 → exec (.kprWdogKick who 1) s = .next { s with kpr := { s.kpr with wdogAt := s.now } }) ∧
    (s.kpr.state = 4 → ∃ t : State, exec (.kprWdogKick who 1) s = .next t ∧ t.dram = s.dram ∧
      t.kpr = { s.kpr with state := s.kpr.upState, logOpen := true, wdogAt := s.now })) ∧
  (∀ (who : Who) (v : BitVec 32) (s : State), isKeeper who = false →
    (∃ t : State, exec (.kprWdogKick who v) s = .next t ∧ t.kpr = s.kpr) ∧
    (∃ t : State, exec (.kprHandoverReady who v) s = .next t ∧ t.kpr = s.kpr)) ∧
  (∀ (s : State),
    let late := s.kpr.state = 2 ∧ ∃ t0, s.kpr.upd.readyAt = some t0 ∧ t0 + 500000000 ≤ s.now
    (¬ late → exec .handoverFail s = .next s) ∧
    (late → ∃ t : State, exec .handoverFail s = .next t ∧ t.kpr.state = s.kpr.upState ∧ t.kpr.half = s.kpr.half ∧
      t.kpr.fw = s.kpr.fw ∧ t.kpr.next = none ∧ t.kpr.logOpen = true ∧ t.dram = s.dram ∧
      t.kpr.upd = { session := s.kpr.upd.session, lastStatus := stHW_ERROR } ∧
      (∀ k, s.kpr.upd.pendingReply = some k → (t.mbx k).busy = false ∧ (t.mbx k).status = stHW_ERROR) ∧
      t.flash = (s.flashErase flashStaging 0x4000000).flash ∧
      ∃ r ∈ t.log.raised, r.source = srcId .kpr 0 ∧ r.cls = 0x12 ∧ r.severity = 1 ∧ r.status = stHW_ERROR)) ∧
  (∀ (s : State),
    let due := s.kpr.state ≠ 0 ∧ s.kpr.state ≠ 4 ∧ s.kpr.wdogAt + 100000000 ≤ s.now
    (¬ due → exec .keeperRestart s = .next s) ∧
    (due → swf (fun _ => ({} : MbxSt)) s.kpr.mbx = true →
      ∃ t : State, exec .keeperRestart s = .next t ∧ t.kpr.state = 4 ∧ t.kpr.logOpen = false ∧ t.dram = s.dram ∧ t.plan = s.plan ∧
        t.tensor = s.tensor ∧ (∃ r ∈ t.log.raised, r.source = srcId .kpr 0 ∧ r.cls = 0x13 ∧ r.severity = 2) ∧
        (∀ k, (s.mbx k).serving = true → (t.mbx k).busy = false ∧ (t.mbx k).serving = false ∧ (t.mbx k).status = stHW_ERROR) ∧
        (∀ k, (s.mbx k).serving = false → t.mbx k = s.mbx k))) ∧
  (∀ (m : Mbx) (s : State),
    let k := mbxKey m
    let b := s.reqBody m
    let from_ := fld b 0 8
    let at_ := fld b 0x10 8
    let start := max from_ (s.kpr.logWr - 2097152)
    let pick := s.logPick (s.mbxPlot k) (s.kpr.logWr - start) start (fld b 8 4)
    s.asks m 0x60 → allZero b 0xC 4 = true → bodyEnds b 0x18 = true → 1 ≤ fld b 8 4 → fld b 8 4 ≤ 65536 → at_ % 32 = 0 →
    s.accessFree (s.mbxStamp k) at_ pick.1.length true →
    ∃ t : State, exec (.logRead m) s = .next (t.finishMbx k stDONE (leBytes 8 pick.2 ++ leBytes 4 (pick.1.length / 32) ++
        leBytes 4 (min (start - from_) 0xFFFFFFFF))) ∧ t.dram = (s.dramPut at_ pick.1).dram ∧ t.kpr = s.kpr ∧
      pick.1.length = 32 * (pick.1.length / 32) ∧ pick.1.length / 32 ≤ fld b 8 4 ∧
      ∀ j, j < pick.1.length / 32 → fld pick.1 (32 * j + 13) 1 = s.mbxPlot k ∨ fld pick.1 (32 * j + 13) 1 = 0xFF) ∧
  (∀ (m : Mbx) (s : State),
    let k := mbxKey m
    let b := s.reqBody m
    let d := s.journalOf (fld b 0 1)
    s.asks m 0x61 → allZero b 1 7 = true → bodyEnds b 0x10 = true → fld b 0 1 ≤ 7 → fld b 8 8 % 64 = 0 →
    s.accessFree (s.mbxStamp k) (fld b 8 8) d.length true →
    ∃ t : State, exec (.journalRead m) s = .next (t.finishMbx k stDONE (zeros 4 ++ leBytes 4 d.length)) ∧
      t.dram = (s.dramPut (fld b 8 8) d).dram ∧ t.kpr = s.kpr)
end

