-- ==== Sys2Proof/Laws/Sparse.lean ====
section
/-! SUPPORT. Sparse maps: reading after a write, and the canonical form. -/

namespace Sys2Proof.Machine

variable {β : Type}

/-- Every key of a map lies above `k`. -/
def above (k : Nat) (m : List (Nat × β)) : Prop := ∀ e ∈ m, k < e.1

theorem sget_of_above (d : Nat → β) {k : Nat} : ∀ {m : List (Nat × β)}, above k m → sget d m k = d k
  | [], _ => rfl
  | (k', v') :: r, h => by
    have h0 : k < k' := h (k', v') (by simp)
    simp only [sget]
    rw [if_neg (by omega)]
    exact sget_of_above d (fun e he => h e (by simp [he]))

theorem sget_sins_self (d : Nat → β) (k : Nat) (v : β) : ∀ m : List (Nat × β), sget d (sins m k v) k = v
  | [] => by simp [sins, sget]
  | (k', v') :: r => by
    simp only [sins]
    split
    · simp [sget]
    · split
      · simp [sget]
      · simp only [sget]
        rw [if_neg ‹_›]
        exact sget_sins_self d k v r

theorem sget_sins_other (d : Nat → β) {k j : Nat} (v : β) (h : j ≠ k) :
    ∀ m : List (Nat × β), sget d (sins m k v) j = sget d m j
  | [] => by simp [sins, sget, h]
  | (k', v') :: r => by
    simp only [sins]
    split
    · subst_vars; simp [sget, h]
    · split
      · simp [sget, h]
      · simp only [sget]
        rw [sget_sins_other d v h r]

theorem sget_sdel_other (d : Nat → β) {k j : Nat} (h : j ≠ k) :
    ∀ m : List (Nat × β), sget d (sdel m k) j = sget d m j
  | [] => rfl
  | (k', v') :: r => by
    simp only [sdel]
    split
    · subst_vars; simp [sget, h]
    · split
      · rfl
      · simp only [sget]
        rw [sget_sdel_other d h r]

/-- A canonical map, unfolded at its head: the head is no default, the rest lies above it and is canonical. -/
theorem swf_cons [DecidableEq β] (d : Nat → β) (k : Nat) (v : β) :
    ∀ r : List (Nat × β), swf d ((k, v) :: r) = true ↔ v ≠ d k ∧ above k r ∧ swf d r = true
  | [] => by simp [swf, above]
  | (k', v') :: r => by
    have ih := swf_cons d k' v' r
    simp only [swf, Bool.and_eq_true, decide_eq_true_eq]
    constructor
    · rintro ⟨⟨h1, h2⟩, h3⟩
      refine ⟨h1, ?_, h3⟩
      intro e he
      rcases List.mem_cons.mp he with rfl | he
      · exact h2
      · exact Nat.lt_trans h2 ((ih.mp h3).2.1 e he)
    · rintro ⟨h1, h2, h3⟩
      exact ⟨⟨h1, h2 (k', v') (by simp)⟩, h3⟩

theorem above_sins {j k : Nat} (v : β) (h : j < k) :
    ∀ {m : List (Nat × β)}, above j m → above j (sins m k v)
  | [], _ => by intro e he; simp [sins] at he; subst he; exact h
  | (k', v') :: r, ha => by
    have hr : above j r := fun e he => ha e (by simp [he])
    simp only [sins]
    split
    · intro e he
      rcases List.mem_cons.mp he with rfl | he
      · exact h
      · exact hr e he
    · split
      · intro e he
        rcases List.mem_cons.mp he with rfl | he
        · exact h
        · exact ha e he
      · intro e he
        rcases List.mem_cons.mp he with rfl | he
        · exact ha (k', v') (by simp)
        · exact above_sins v h hr e he

theorem swf_sins [DecidableEq β] (d : Nat → β) {k : Nat} {v : β} (hv : v ≠ d k) :
    ∀ {m : List (Nat × β)}, swf d m = true → swf d (sins m k v) = true
  | [], _ => by simp [sins, swf, hv]
  | (k', v') :: r, h => by
    obtain ⟨h1, h2, h3⟩ := (swf_cons d k' v' r).mp h
    simp only [sins]
    split
    · subst_vars; exact (swf_cons d _ v r).mpr ⟨hv, h2, h3⟩
    · split
      · refine (swf_cons d k v _).mpr ⟨hv, ?_, h⟩
        intro e he
        rcases List.mem_cons.mp he with rfl | he
        · assumption
        · exact Nat.lt_trans ‹_› (h2 e he)
      · refine (swf_cons d k' v' _).mpr ⟨h1, above_sins v (by omega) h2, swf_sins d hv h3⟩

theorem above_sdel {j k : Nat} : ∀ {m : List (Nat × β)}, above j m → above j (sdel m k)
  | [], h => h
  | (k', v') :: r, ha => by
    have hr : above j r := fun e he => ha e (by simp [he])
    simp only [sdel]
    split
    · exact hr
    · split
      · exact ha
      · intro e he
        rcases List.mem_cons.mp he with rfl | he
        · exact ha (k', v') (by simp)
        · exact above_sdel hr e he

theorem swf_sdel [DecidableEq β] (d : Nat → β) {k : Nat} :
    ∀ {m : List (Nat × β)}, swf d m = true → swf d (sdel m k) = true
  | [], h => h
  | (k', v') :: r, h => by
    obtain ⟨h1, h2, h3⟩ := (swf_cons d k' v' r).mp h
    simp only [sdel]
    split
    · exact h3
    · split
      · exact h
      · exact (swf_cons d k' v' _).mpr ⟨h1, above_sdel h2, swf_sdel d h3⟩

theorem sget_sdel_self [DecidableEq β] (d : Nat → β) {k : Nat} :
    ∀ {m : List (Nat × β)}, swf d m = true → sget d (sdel m k) k = d k
  | [], _ => rfl
  | (k', v') :: r, h => by
    obtain ⟨h1, h2, h3⟩ := (swf_cons d k' v' r).mp h
    simp only [sdel]
    split
    · subst_vars; exact sget_of_above d h2
    · split
      · refine sget_of_above d (fun e he => ?_)
        rcases List.mem_cons.mp he with rfl | he
        · assumption
        · exact Nat.lt_trans ‹_› (h2 e he)
      · simp only [sget]
        rw [if_neg ‹_›]
        exact sget_sdel_self d h3

/-- A write keeps the canonical form. -/
theorem swf_sset [DecidableEq β] (d : Nat → β) {m : List (Nat × β)} (k : Nat) (v : β) (h : swf d m = true) :
    swf d (sset d m k v) = true := by
  simp only [sset]
  split
  · exact swf_sdel d h
  · exact swf_sins d ‹_› h

/-- A read after a write of the same key. -/
theorem sget_sset_self [DecidableEq β] (d : Nat → β) {m : List (Nat × β)} (k : Nat) (v : β) (h : swf d m = true) :
    sget d (sset d m k v) k = v := by
  simp only [sset]
  split
  · subst_vars; exact sget_sdel_self d h
  · exact sget_sins_self d k v m

/-- A read of another key. -/
theorem sget_sset_other [DecidableEq β] (d : Nat → β) {m : List (Nat × β)} {k j : Nat} (v : β) (h : j ≠ k) :
    sget d (sset d m k v) j = sget d m j := by
  simp only [sset]
  split
  · exact sget_sdel_other d h m
  · exact sget_sins_other d v h m

theorem above_filter {j : Nat} (p : Nat × β → Bool) {m : List (Nat × β)} (h : above j m) : above j (m.filter p) :=
  fun e he => h e (List.mem_filter.mp he).1

/-- Dropping entries keeps the canonical form. -/
theorem swf_filter [DecidableEq β] (d : Nat → β) (p : Nat × β → Bool) :
    ∀ {m : List (Nat × β)}, swf d m = true → swf d (m.filter p) = true
  | [], h => h
  | (k', v') :: r, h => by
    obtain ⟨h1, h2, h3⟩ := (swf_cons d k' v' r).mp h
    simp only [List.filter]
    split
    · exact (swf_cons d k' v' _).mpr ⟨h1, above_filter p h2, swf_filter d p h3⟩
    · exact swf_filter d p h3

theorem swf_sclear [DecidableEq β] (d : Nat → β) {m : List (Nat × β)} (lo n : Nat) (h : swf d m = true) :
    swf d (sclear m lo n) = true := swf_filter d _ h

theorem swf_writeBytes (d : Nat → Byte) : ∀ (l : List Byte) (m : List Host.Cell) (a : Nat),
    swf d m = true → swf d (writeBytes d m a l) = true
  | [], _, _, h => h
  | b :: r, _, a, h => swf_writeBytes d r _ _ (swf_sset _ a b h)

theorem swf_writeMasked (d : Nat → Byte) : ∀ (l : List (Bool × Byte)) (m : List Host.Cell) (a : Nat),
    swf d m = true → swf d (writeMasked d m a l) = true
  | [], _, _, h => h
  | (e, b) :: r, _, a, h => by
    simp only [writeMasked]
    refine swf_writeMasked d r _ _ ?_
    split
    · exact swf_sset _ a b h
    · exact h

end Sys2Proof.Machine
end

