-- ==== Sys2Proof/Laws/State.lean ====
section
/-! SUPPORT. One lemma per field of State and named update: the update leaves the field as it was. -/

namespace Sys2Proof.Machine

variable (s : State)

@[simp] theorem State.wr_pending (id : RegId) (ix v : Nat) : (s.wr id ix v).pending = s.pending := rfl
@[simp] theorem State.wr_dt (id : RegId) (ix v : Nat) : (s.wr id ix v).dt = s.dt := rfl
@[simp] theorem State.wr_free (id : RegId) (ix v : Nat) : (s.wr id ix v).free = s.free := rfl
@[simp] theorem State.wr_resp (id : RegId) (ix v : Nat) : (s.wr id ix v).resp = s.resp := rfl
@[simp] theorem State.wr_out (id : RegId) (ix v : Nat) : (s.wr id ix v).out = s.out := rfl
@[simp] theorem State.wr_plan (id : RegId) (ix v : Nat) : (s.wr id ix v).plan = s.plan := rfl
@[simp] theorem State.wr_spl (id : RegId) (ix v : Nat) : (s.wr id ix v).spl = s.spl := rfl
@[simp] theorem State.wr_dram (id : RegId) (ix v : Nat) : (s.wr id ix v).dram = s.dram := rfl
@[simp] theorem State.wr_pads (id : RegId) (ix v : Nat) : (s.wr id ix v).pads = s.pads := rfl
@[simp] theorem State.wr_flash (id : RegId) (ix v : Nat) : (s.wr id ix v).flash = s.flash := rfl
@[simp] theorem State.wr_log (id : RegId) (ix v : Nat) : (s.wr id ix v).log = s.log := rfl
@[simp] theorem State.wr_safe (id : RegId) (ix v : Nat) : (s.wr id ix v).safe = s.safe := rfl
@[simp] theorem State.wr_mem (id : RegId) (ix v : Nat) : (s.wr id ix v).mem = s.mem := rfl
@[simp] theorem State.wr_tensor (id : RegId) (ix v : Nat) : (s.wr id ix v).tensor = s.tensor := rfl
@[simp] theorem State.wr_pwr (id : RegId) (ix v : Nat) : (s.wr id ix v).pwr = s.pwr := rfl
@[simp] theorem State.wr_kpr (id : RegId) (ix v : Nat) : (s.wr id ix v).kpr = s.kpr := rfl
@[simp] theorem State.wr_gth (id : RegId) (ix v : Nat) : (s.wr id ix v).gth = s.gth := rfl
@[simp] theorem State.wr_gls (id : RegId) (ix v : Nat) : (s.wr id ix v).gls = s.gls := rfl
@[simp] theorem State.wr_host (id : RegId) (ix v : Nat) : (s.wr id ix v).host = s.host := rfl
@[simp] theorem State.wr_elx (id : RegId) (ix v : Nat) : (s.wr id ix v).elx = s.elx := rfl
@[simp] theorem State.wr_tim (id : RegId) (ix v : Nat) : (s.wr id ix v).tim = s.tim := rfl
@[simp] theorem State.wr_net (id : RegId) (ix v : Nat) : (s.wr id ix v).net = s.net := rfl
@[simp] theorem State.wr_sns (id : RegId) (ix v : Nat) : (s.wr id ix v).sns = s.sns := rfl
@[simp] theorem State.wr_org (id : RegId) (ix v : Nat) : (s.wr id ix v).org = s.org := rfl
@[simp] theorem State.wr_dsp (id : RegId) (ix v : Nat) : (s.wr id ix v).dsp = s.dsp := rfl
@[simp] theorem State.wr_pins (id : RegId) (ix v : Nat) : (s.wr id ix v).pins = s.pins := rfl
@[simp] theorem State.wr_padLost (id : RegId) (ix v : Nat) : (s.wr id ix v).padLost = s.padLost := rfl
@[simp] theorem State.wr_pinCtl (id : RegId) (ix v : Nat) : (s.wr id ix v).pinCtl = s.pinCtl := rfl
@[simp] theorem State.wr_sysDma (id : RegId) (ix v : Nat) : (s.wr id ix v).sysDma = s.sysDma := rfl

@[simp] theorem State.answer_pending (status : Nat) (data : List Byte) : (s.answer status data).pending = s.pending := rfl
@[simp] theorem State.answer_dt (status : Nat) (data : List Byte) : (s.answer status data).dt = s.dt := rfl
@[simp] theorem State.answer_free (status : Nat) (data : List Byte) : (s.answer status data).free = s.free := rfl
@[simp] theorem State.answer_regs (status : Nat) (data : List Byte) : (s.answer status data).regs = s.regs := rfl
@[simp] theorem State.answer_out (status : Nat) (data : List Byte) : (s.answer status data).out = s.out := rfl
@[simp] theorem State.answer_plan (status : Nat) (data : List Byte) : (s.answer status data).plan = s.plan := rfl
@[simp] theorem State.answer_spl (status : Nat) (data : List Byte) : (s.answer status data).spl = s.spl := rfl
@[simp] theorem State.answer_dram (status : Nat) (data : List Byte) : (s.answer status data).dram = s.dram := rfl
@[simp] theorem State.answer_pads (status : Nat) (data : List Byte) : (s.answer status data).pads = s.pads := rfl
@[simp] theorem State.answer_flash (status : Nat) (data : List Byte) : (s.answer status data).flash = s.flash := rfl
@[simp] theorem State.answer_log (status : Nat) (data : List Byte) : (s.answer status data).log = s.log := rfl
@[simp] theorem State.answer_safe (status : Nat) (data : List Byte) : (s.answer status data).safe = s.safe := rfl
@[simp] theorem State.answer_mem (status : Nat) (data : List Byte) : (s.answer status data).mem = s.mem := rfl
@[simp] theorem State.answer_tensor (status : Nat) (data : List Byte) : (s.answer status data).tensor = s.tensor := rfl
@[simp] theorem State.answer_pwr (status : Nat) (data : List Byte) : (s.answer status data).pwr = s.pwr := rfl
@[simp] theorem State.answer_kpr (status : Nat) (data : List Byte) : (s.answer status data).kpr = s.kpr := rfl
@[simp] theorem State.answer_gth (status : Nat) (data : List Byte) : (s.answer status data).gth = s.gth := rfl
@[simp] theorem State.answer_gls (status : Nat) (data : List Byte) : (s.answer status data).gls = s.gls := rfl
@[simp] theorem State.answer_host (status : Nat) (data : List Byte) : (s.answer status data).host = s.host := rfl
@[simp] theorem State.answer_elx (status : Nat) (data : List Byte) : (s.answer status data).elx = s.elx := rfl
@[simp] theorem State.answer_tim (status : Nat) (data : List Byte) : (s.answer status data).tim = s.tim := rfl
@[simp] theorem State.answer_net (status : Nat) (data : List Byte) : (s.answer status data).net = s.net := rfl
@[simp] theorem State.answer_sns (status : Nat) (data : List Byte) : (s.answer status data).sns = s.sns := rfl
@[simp] theorem State.answer_org (status : Nat) (data : List Byte) : (s.answer status data).org = s.org := rfl
@[simp] theorem State.answer_dsp (status : Nat) (data : List Byte) : (s.answer status data).dsp = s.dsp := rfl
@[simp] theorem State.answer_pins (status : Nat) (data : List Byte) : (s.answer status data).pins = s.pins := rfl
@[simp] theorem State.answer_padLost (status : Nat) (data : List Byte) : (s.answer status data).padLost = s.padLost := rfl
@[simp] theorem State.answer_pinCtl (status : Nat) (data : List Byte) : (s.answer status data).pinCtl = s.pinCtl := rfl
@[simp] theorem State.answer_sysDma (status : Nat) (data : List Byte) : (s.answer status data).sysDma = s.sysDma := rfl

@[simp] theorem State.send_pending (o : Out) : (s.send o).pending = s.pending := rfl
@[simp] theorem State.send_dt (o : Out) : (s.send o).dt = s.dt := rfl
@[simp] theorem State.send_free (o : Out) : (s.send o).free = s.free := rfl
@[simp] theorem State.send_regs (o : Out) : (s.send o).regs = s.regs := rfl
@[simp] theorem State.send_resp (o : Out) : (s.send o).resp = s.resp := rfl
@[simp] theorem State.send_plan (o : Out) : (s.send o).plan = s.plan := rfl
@[simp] theorem State.send_spl (o : Out) : (s.send o).spl = s.spl := rfl
@[simp] theorem State.send_dram (o : Out) : (s.send o).dram = s.dram := rfl
@[simp] theorem State.send_pads (o : Out) : (s.send o).pads = s.pads := rfl
@[simp] theorem State.send_flash (o : Out) : (s.send o).flash = s.flash := rfl
@[simp] theorem State.send_log (o : Out) : (s.send o).log = s.log := rfl
@[simp] theorem State.send_safe (o : Out) : (s.send o).safe = s.safe := rfl
@[simp] theorem State.send_mem (o : Out) : (s.send o).mem = s.mem := rfl
@[simp] theorem State.send_tensor (o : Out) : (s.send o).tensor = s.tensor := rfl
@[simp] theorem State.send_pwr (o : Out) : (s.send o).pwr = s.pwr := rfl
@[simp] theorem State.send_kpr (o : Out) : (s.send o).kpr = s.kpr := rfl
@[simp] theorem State.send_gth (o : Out) : (s.send o).gth = s.gth := rfl
@[simp] theorem State.send_gls (o : Out) : (s.send o).gls = s.gls := rfl
@[simp] theorem State.send_host (o : Out) : (s.send o).host = s.host := rfl
@[simp] theorem State.send_elx (o : Out) : (s.send o).elx = s.elx := rfl
@[simp] theorem State.send_tim (o : Out) : (s.send o).tim = s.tim := rfl
@[simp] theorem State.send_net (o : Out) : (s.send o).net = s.net := rfl
@[simp] theorem State.send_sns (o : Out) : (s.send o).sns = s.sns := rfl
@[simp] theorem State.send_org (o : Out) : (s.send o).org = s.org := rfl
@[simp] theorem State.send_dsp (o : Out) : (s.send o).dsp = s.dsp := rfl
@[simp] theorem State.send_pins (o : Out) : (s.send o).pins = s.pins := rfl
@[simp] theorem State.send_padLost (o : Out) : (s.send o).padLost = s.padLost := rfl
@[simp] theorem State.send_pinCtl (o : Out) : (s.send o).pinCtl = s.pinCtl := rfl
@[simp] theorem State.send_sysDma (o : Out) : (s.send o).sysDma = s.sysDma := rfl

@[simp] theorem State.setBed_pending (n : Nat) (b : BedSt) : (s.setBed n b).pending = s.pending := rfl
@[simp] theorem State.setBed_dt (n : Nat) (b : BedSt) : (s.setBed n b).dt = s.dt := rfl
@[simp] theorem State.setBed_free (n : Nat) (b : BedSt) : (s.setBed n b).free = s.free := rfl
@[simp] theorem State.setBed_regs (n : Nat) (b : BedSt) : (s.setBed n b).regs = s.regs := rfl
@[simp] theorem State.setBed_resp (n : Nat) (b : BedSt) : (s.setBed n b).resp = s.resp := rfl
@[simp] theorem State.setBed_out (n : Nat) (b : BedSt) : (s.setBed n b).out = s.out := rfl
@[simp] theorem State.setBed_plan (n : Nat) (b : BedSt) : (s.setBed n b).plan = s.plan := rfl
@[simp] theorem State.setBed_spl (n : Nat) (b : BedSt) : (s.setBed n b).spl = s.spl := rfl
@[simp] theorem State.setBed_dram (n : Nat) (b : BedSt) : (s.setBed n b).dram = s.dram := rfl
@[simp] theorem State.setBed_pads (n : Nat) (b : BedSt) : (s.setBed n b).pads = s.pads := rfl
@[simp] theorem State.setBed_flash (n : Nat) (b : BedSt) : (s.setBed n b).flash = s.flash := rfl
@[simp] theorem State.setBed_log (n : Nat) (b : BedSt) : (s.setBed n b).log = s.log := rfl
@[simp] theorem State.setBed_safe (n : Nat) (b : BedSt) : (s.setBed n b).safe = s.safe := rfl
@[simp] theorem State.setBed_mem (n : Nat) (b : BedSt) : (s.setBed n b).mem = s.mem := rfl
@[simp] theorem State.setBed_pwr (n : Nat) (b : BedSt) : (s.setBed n b).pwr = s.pwr := rfl
@[simp] theorem State.setBed_kpr (n : Nat) (b : BedSt) : (s.setBed n b).kpr = s.kpr := rfl
@[simp] theorem State.setBed_gth (n : Nat) (b : BedSt) : (s.setBed n b).gth = s.gth := rfl
@[simp] theorem State.setBed_gls (n : Nat) (b : BedSt) : (s.setBed n b).gls = s.gls := rfl
@[simp] theorem State.setBed_host (n : Nat) (b : BedSt) : (s.setBed n b).host = s.host := rfl
@[simp] theorem State.setBed_elx (n : Nat) (b : BedSt) : (s.setBed n b).elx = s.elx := rfl
@[simp] theorem State.setBed_tim (n : Nat) (b : BedSt) : (s.setBed n b).tim = s.tim := rfl
@[simp] theorem State.setBed_net (n : Nat) (b : BedSt) : (s.setBed n b).net = s.net := rfl
@[simp] theorem State.setBed_sns (n : Nat) (b : BedSt) : (s.setBed n b).sns = s.sns := rfl
@[simp] theorem State.setBed_org (n : Nat) (b : BedSt) : (s.setBed n b).org = s.org := rfl
@[simp] theorem State.setBed_dsp (n : Nat) (b : BedSt) : (s.setBed n b).dsp = s.dsp := rfl
@[simp] theorem State.setBed_pins (n : Nat) (b : BedSt) : (s.setBed n b).pins = s.pins := rfl
@[simp] theorem State.setBed_padLost (n : Nat) (b : BedSt) : (s.setBed n b).padLost = s.padLost := rfl
@[simp] theorem State.setBed_pinCtl (n : Nat) (b : BedSt) : (s.setBed n b).pinCtl = s.pinCtl := rfl
@[simp] theorem State.setBed_sysDma (n : Nat) (b : BedSt) : (s.setBed n b).sysDma = s.sysDma := rfl

@[simp] theorem State.setQueue_pending (q : Nat) (x : QueueSt) : (s.setQueue q x).pending = s.pending := rfl
@[simp] theorem State.setQueue_dt (q : Nat) (x : QueueSt) : (s.setQueue q x).dt = s.dt := rfl
@[simp] theorem State.setQueue_free (q : Nat) (x : QueueSt) : (s.setQueue q x).free = s.free := rfl
@[simp] theorem State.setQueue_regs (q : Nat) (x : QueueSt) : (s.setQueue q x).regs = s.regs := rfl
@[simp] theorem State.setQueue_resp (q : Nat) (x : QueueSt) : (s.setQueue q x).resp = s.resp := rfl
@[simp] theorem State.setQueue_out (q : Nat) (x : QueueSt) : (s.setQueue q x).out = s.out := rfl
@[simp] theorem State.setQueue_plan (q : Nat) (x : QueueSt) : (s.setQueue q x).plan = s.plan := rfl
@[simp] theorem State.setQueue_spl (q : Nat) (x : QueueSt) : (s.setQueue q x).spl = s.spl := rfl
@[simp] theorem State.setQueue_dram (q : Nat) (x : QueueSt) : (s.setQueue q x).dram = s.dram := rfl
@[simp] theorem State.setQueue_pads (q : Nat) (x : QueueSt) : (s.setQueue q x).pads = s.pads := rfl
@[simp] theorem State.setQueue_flash (q : Nat) (x : QueueSt) : (s.setQueue q x).flash = s.flash := rfl
@[simp] theorem State.setQueue_log (q : Nat) (x : QueueSt) : (s.setQueue q x).log = s.log := rfl
@[simp] theorem State.setQueue_safe (q : Nat) (x : QueueSt) : (s.setQueue q x).safe = s.safe := rfl
@[simp] theorem State.setQueue_mem (q : Nat) (x : QueueSt) : (s.setQueue q x).mem = s.mem := rfl
@[simp] theorem State.setQueue_pwr (q : Nat) (x : QueueSt) : (s.setQueue q x).pwr = s.pwr := rfl
@[simp] theorem State.setQueue_kpr (q : Nat) (x : QueueSt) : (s.setQueue q x).kpr = s.kpr := rfl
@[simp] theorem State.setQueue_gth (q : Nat) (x : QueueSt) : (s.setQueue q x).gth = s.gth := rfl
@[simp] theorem State.setQueue_gls (q : Nat) (x : QueueSt) : (s.setQueue q x).gls = s.gls := rfl
@[simp] theorem State.setQueue_host (q : Nat) (x : QueueSt) : (s.setQueue q x).host = s.host := rfl
@[simp] theorem State.setQueue_elx (q : Nat) (x : QueueSt) : (s.setQueue q x).elx = s.elx := rfl
@[simp] theorem State.setQueue_tim (q : Nat) (x : QueueSt) : (s.setQueue q x).tim = s.tim := rfl
@[simp] theorem State.setQueue_net (q : Nat) (x : QueueSt) : (s.setQueue q x).net = s.net := rfl
@[simp] theorem State.setQueue_sns (q : Nat) (x : QueueSt) : (s.setQueue q x).sns = s.sns := rfl
@[simp] theorem State.setQueue_org (q : Nat) (x : QueueSt) : (s.setQueue q x).org = s.org := rfl
@[simp] theorem State.setQueue_dsp (q : Nat) (x : QueueSt) : (s.setQueue q x).dsp = s.dsp := rfl
@[simp] theorem State.setQueue_pins (q : Nat) (x : QueueSt) : (s.setQueue q x).pins = s.pins := rfl
@[simp] theorem State.setQueue_padLost (q : Nat) (x : QueueSt) : (s.setQueue q x).padLost = s.padLost := rfl
@[simp] theorem State.setQueue_pinCtl (q : Nat) (x : QueueSt) : (s.setQueue q x).pinCtl = s.pinCtl := rfl
@[simp] theorem State.setQueue_sysDma (q : Nat) (x : QueueSt) : (s.setQueue q x).sysDma = s.sysDma := rfl

@[simp] theorem State.setSpace_pending (k : Nat) (x : Option Space) : (s.setSpace k x).pending = s.pending := rfl
@[simp] theorem State.setSpace_dt (k : Nat) (x : Option Space) : (s.setSpace k x).dt = s.dt := rfl
@[simp] theorem State.setSpace_free (k : Nat) (x : Option Space) : (s.setSpace k x).free = s.free := rfl
@[simp] theorem State.setSpace_regs (k : Nat) (x : Option Space) : (s.setSpace k x).regs = s.regs := rfl
@[simp] theorem State.setSpace_resp (k : Nat) (x : Option Space) : (s.setSpace k x).resp = s.resp := rfl
@[simp] theorem State.setSpace_out (k : Nat) (x : Option Space) : (s.setSpace k x).out = s.out := rfl
@[simp] theorem State.setSpace_plan (k : Nat) (x : Option Space) : (s.setSpace k x).plan = s.plan := rfl
@[simp] theorem State.setSpace_spl (k : Nat) (x : Option Space) : (s.setSpace k x).spl = s.spl := rfl
@[simp] theorem State.setSpace_dram (k : Nat) (x : Option Space) : (s.setSpace k x).dram = s.dram := rfl
@[simp] theorem State.setSpace_pads (k : Nat) (x : Option Space) : (s.setSpace k x).pads = s.pads := rfl
@[simp] theorem State.setSpace_flash (k : Nat) (x : Option Space) : (s.setSpace k x).flash = s.flash := rfl
@[simp] theorem State.setSpace_log (k : Nat) (x : Option Space) : (s.setSpace k x).log = s.log := rfl
@[simp] theorem State.setSpace_safe (k : Nat) (x : Option Space) : (s.setSpace k x).safe = s.safe := rfl
@[simp] theorem State.setSpace_mem (k : Nat) (x : Option Space) : (s.setSpace k x).mem = s.mem := rfl
@[simp] theorem State.setSpace_pwr (k : Nat) (x : Option Space) : (s.setSpace k x).pwr = s.pwr := rfl
@[simp] theorem State.setSpace_kpr (k : Nat) (x : Option Space) : (s.setSpace k x).kpr = s.kpr := rfl
@[simp] theorem State.setSpace_gth (k : Nat) (x : Option Space) : (s.setSpace k x).gth = s.gth := rfl
@[simp] theorem State.setSpace_gls (k : Nat) (x : Option Space) : (s.setSpace k x).gls = s.gls := rfl
@[simp] theorem State.setSpace_host (k : Nat) (x : Option Space) : (s.setSpace k x).host = s.host := rfl
@[simp] theorem State.setSpace_elx (k : Nat) (x : Option Space) : (s.setSpace k x).elx = s.elx := rfl
@[simp] theorem State.setSpace_tim (k : Nat) (x : Option Space) : (s.setSpace k x).tim = s.tim := rfl
@[simp] theorem State.setSpace_net (k : Nat) (x : Option Space) : (s.setSpace k x).net = s.net := rfl
@[simp] theorem State.setSpace_sns (k : Nat) (x : Option Space) : (s.setSpace k x).sns = s.sns := rfl
@[simp] theorem State.setSpace_org (k : Nat) (x : Option Space) : (s.setSpace k x).org = s.org := rfl
@[simp] theorem State.setSpace_dsp (k : Nat) (x : Option Space) : (s.setSpace k x).dsp = s.dsp := rfl
@[simp] theorem State.setSpace_pins (k : Nat) (x : Option Space) : (s.setSpace k x).pins = s.pins := rfl
@[simp] theorem State.setSpace_padLost (k : Nat) (x : Option Space) : (s.setSpace k x).padLost = s.padLost := rfl
@[simp] theorem State.setSpace_pinCtl (k : Nat) (x : Option Space) : (s.setSpace k x).pinCtl = s.pinCtl := rfl
@[simp] theorem State.setSpace_sysDma (k : Nat) (x : Option Space) : (s.setSpace k x).sysDma = s.sysDma := rfl

@[simp] theorem State.setSem_pending (n v : Nat) : (s.setSem n v).pending = s.pending := rfl
@[simp] theorem State.setSem_dt (n v : Nat) : (s.setSem n v).dt = s.dt := rfl
@[simp] theorem State.setSem_free (n v : Nat) : (s.setSem n v).free = s.free := rfl
@[simp] theorem State.setSem_regs (n v : Nat) : (s.setSem n v).regs = s.regs := rfl
@[simp] theorem State.setSem_resp (n v : Nat) : (s.setSem n v).resp = s.resp := rfl
@[simp] theorem State.setSem_out (n v : Nat) : (s.setSem n v).out = s.out := rfl
@[simp] theorem State.setSem_plan (n v : Nat) : (s.setSem n v).plan = s.plan := rfl
@[simp] theorem State.setSem_spl (n v : Nat) : (s.setSem n v).spl = s.spl := rfl
@[simp] theorem State.setSem_dram (n v : Nat) : (s.setSem n v).dram = s.dram := rfl
@[simp] theorem State.setSem_pads (n v : Nat) : (s.setSem n v).pads = s.pads := rfl
@[simp] theorem State.setSem_flash (n v : Nat) : (s.setSem n v).flash = s.flash := rfl
@[simp] theorem State.setSem_log (n v : Nat) : (s.setSem n v).log = s.log := rfl
@[simp] theorem State.setSem_safe (n v : Nat) : (s.setSem n v).safe = s.safe := rfl
@[simp] theorem State.setSem_mem (n v : Nat) : (s.setSem n v).mem = s.mem := rfl
@[simp] theorem State.setSem_pwr (n v : Nat) : (s.setSem n v).pwr = s.pwr := rfl
@[simp] theorem State.setSem_kpr (n v : Nat) : (s.setSem n v).kpr = s.kpr := rfl
@[simp] theorem State.setSem_gth (n v : Nat) : (s.setSem n v).gth = s.gth := rfl
@[simp] theorem State.setSem_gls (n v : Nat) : (s.setSem n v).gls = s.gls := rfl
@[simp] theorem State.setSem_host (n v : Nat) : (s.setSem n v).host = s.host := rfl
@[simp] theorem State.setSem_elx (n v : Nat) : (s.setSem n v).elx = s.elx := rfl
@[simp] theorem State.setSem_tim (n v : Nat) : (s.setSem n v).tim = s.tim := rfl
@[simp] theorem State.setSem_net (n v : Nat) : (s.setSem n v).net = s.net := rfl
@[simp] theorem State.setSem_sns (n v : Nat) : (s.setSem n v).sns = s.sns := rfl
@[simp] theorem State.setSem_org (n v : Nat) : (s.setSem n v).org = s.org := rfl
@[simp] theorem State.setSem_dsp (n v : Nat) : (s.setSem n v).dsp = s.dsp := rfl
@[simp] theorem State.setSem_pins (n v : Nat) : (s.setSem n v).pins = s.pins := rfl
@[simp] theorem State.setSem_padLost (n v : Nat) : (s.setSem n v).padLost = s.padLost := rfl
@[simp] theorem State.setSem_pinCtl (n v : Nat) : (s.setSem n v).pinCtl = s.pinCtl := rfl
@[simp] theorem State.setSem_sysDma (n v : Nat) : (s.setSem n v).sysDma = s.sysDma := rfl

@[simp] theorem State.setMbx_pending (k : Nat) (m : MbxSt) : (s.setMbx k m).pending = s.pending := rfl
@[simp] theorem State.setMbx_dt (k : Nat) (m : MbxSt) : (s.setMbx k m).dt = s.dt := rfl
@[simp] theorem State.setMbx_free (k : Nat) (m : MbxSt) : (s.setMbx k m).free = s.free := rfl
@[simp] theorem State.setMbx_regs (k : Nat) (m : MbxSt) : (s.setMbx k m).regs = s.regs := rfl
@[simp] theorem State.setMbx_resp (k : Nat) (m : MbxSt) : (s.setMbx k m).resp = s.resp := rfl
@[simp] theorem State.setMbx_out (k : Nat) (m : MbxSt) : (s.setMbx k m).out = s.out := rfl
@[simp] theorem State.setMbx_plan (k : Nat) (m : MbxSt) : (s.setMbx k m).plan = s.plan := rfl
@[simp] theorem State.setMbx_spl (k : Nat) (m : MbxSt) : (s.setMbx k m).spl = s.spl := rfl
@[simp] theorem State.setMbx_dram (k : Nat) (m : MbxSt) : (s.setMbx k m).dram = s.dram := rfl
@[simp] theorem State.setMbx_pads (k : Nat) (m : MbxSt) : (s.setMbx k m).pads = s.pads := rfl
@[simp] theorem State.setMbx_flash (k : Nat) (m : MbxSt) : (s.setMbx k m).flash = s.flash := rfl
@[simp] theorem State.setMbx_log (k : Nat) (m : MbxSt) : (s.setMbx k m).log = s.log := rfl
@[simp] theorem State.setMbx_safe (k : Nat) (m : MbxSt) : (s.setMbx k m).safe = s.safe := rfl
@[simp] theorem State.setMbx_mem (k : Nat) (m : MbxSt) : (s.setMbx k m).mem = s.mem := rfl
@[simp] theorem State.setMbx_tensor (k : Nat) (m : MbxSt) : (s.setMbx k m).tensor = s.tensor := rfl
@[simp] theorem State.setMbx_pwr (k : Nat) (m : MbxSt) : (s.setMbx k m).pwr = s.pwr := rfl
@[simp] theorem State.setMbx_gth (k : Nat) (m : MbxSt) : (s.setMbx k m).gth = s.gth := rfl
@[simp] theorem State.setMbx_gls (k : Nat) (m : MbxSt) : (s.setMbx k m).gls = s.gls := rfl
@[simp] theorem State.setMbx_host (k : Nat) (m : MbxSt) : (s.setMbx k m).host = s.host := rfl
@[simp] theorem State.setMbx_elx (k : Nat) (m : MbxSt) : (s.setMbx k m).elx = s.elx := rfl
@[simp] theorem State.setMbx_tim (k : Nat) (m : MbxSt) : (s.setMbx k m).tim = s.tim := rfl
@[simp] theorem State.setMbx_net (k : Nat) (m : MbxSt) : (s.setMbx k m).net = s.net := rfl
@[simp] theorem State.setMbx_sns (k : Nat) (m : MbxSt) : (s.setMbx k m).sns = s.sns := rfl
@[simp] theorem State.setMbx_org (k : Nat) (m : MbxSt) : (s.setMbx k m).org = s.org := rfl
@[simp] theorem State.setMbx_dsp (k : Nat) (m : MbxSt) : (s.setMbx k m).dsp = s.dsp := rfl
@[simp] theorem State.setMbx_pins (k : Nat) (m : MbxSt) : (s.setMbx k m).pins = s.pins := rfl
@[simp] theorem State.setMbx_padLost (k : Nat) (m : MbxSt) : (s.setMbx k m).padLost = s.padLost := rfl
@[simp] theorem State.setMbx_pinCtl (k : Nat) (m : MbxSt) : (s.setMbx k m).pinCtl = s.pinCtl := rfl
@[simp] theorem State.setMbx_sysDma (k : Nat) (m : MbxSt) : (s.setMbx k m).sysDma = s.sysDma := rfl

@[simp] theorem State.setInst_pending (i : Nat) (x : InstSt) : (s.setInst i x).pending = s.pending := rfl
@[simp] theorem State.setInst_dt (i : Nat) (x : InstSt) : (s.setInst i x).dt = s.dt := rfl
@[simp] theorem State.setInst_free (i : Nat) (x : InstSt) : (s.setInst i x).free = s.free := rfl
@[simp] theorem State.setInst_regs (i : Nat) (x : InstSt) : (s.setInst i x).regs = s.regs := rfl
@[simp] theorem State.setInst_resp (i : Nat) (x : InstSt) : (s.setInst i x).resp = s.resp := rfl
@[simp] theorem State.setInst_out (i : Nat) (x : InstSt) : (s.setInst i x).out = s.out := rfl
@[simp] theorem State.setInst_plan (i : Nat) (x : InstSt) : (s.setInst i x).plan = s.plan := rfl
@[simp] theorem State.setInst_spl (i : Nat) (x : InstSt) : (s.setInst i x).spl = s.spl := rfl
@[simp] theorem State.setInst_dram (i : Nat) (x : InstSt) : (s.setInst i x).dram = s.dram := rfl
@[simp] theorem State.setInst_pads (i : Nat) (x : InstSt) : (s.setInst i x).pads = s.pads := rfl
@[simp] theorem State.setInst_flash (i : Nat) (x : InstSt) : (s.setInst i x).flash = s.flash := rfl
@[simp] theorem State.setInst_log (i : Nat) (x : InstSt) : (s.setInst i x).log = s.log := rfl
@[simp] theorem State.setInst_safe (i : Nat) (x : InstSt) : (s.setInst i x).safe = s.safe := rfl
@[simp] theorem State.setInst_mem (i : Nat) (x : InstSt) : (s.setInst i x).mem = s.mem := rfl
@[simp] theorem State.setInst_tensor (i : Nat) (x : InstSt) : (s.setInst i x).tensor = s.tensor := rfl
@[simp] theorem State.setInst_pwr (i : Nat) (x : InstSt) : (s.setInst i x).pwr = s.pwr := rfl
@[simp] theorem State.setInst_kpr (i : Nat) (x : InstSt) : (s.setInst i x).kpr = s.kpr := rfl
@[simp] theorem State.setInst_gth (i : Nat) (x : InstSt) : (s.setInst i x).gth = s.gth := rfl
@[simp] theorem State.setInst_gls (i : Nat) (x : InstSt) : (s.setInst i x).gls = s.gls := rfl
@[simp] theorem State.setInst_elx (i : Nat) (x : InstSt) : (s.setInst i x).elx = s.elx := rfl
@[simp] theorem State.setInst_tim (i : Nat) (x : InstSt) : (s.setInst i x).tim = s.tim := rfl
@[simp] theorem State.setInst_net (i : Nat) (x : InstSt) : (s.setInst i x).net = s.net := rfl
@[simp] theorem State.setInst_sns (i : Nat) (x : InstSt) : (s.setInst i x).sns = s.sns := rfl
@[simp] theorem State.setInst_org (i : Nat) (x : InstSt) : (s.setInst i x).org = s.org := rfl
@[simp] theorem State.setInst_dsp (i : Nat) (x : InstSt) : (s.setInst i x).dsp = s.dsp := rfl
@[simp] theorem State.setInst_pins (i : Nat) (x : InstSt) : (s.setInst i x).pins = s.pins := rfl
@[simp] theorem State.setInst_padLost (i : Nat) (x : InstSt) : (s.setInst i x).padLost = s.padLost := rfl
@[simp] theorem State.setInst_pinCtl (i : Nat) (x : InstSt) : (s.setInst i x).pinCtl = s.pinCtl := rfl
@[simp] theorem State.setInst_sysDma (i : Nat) (x : InstSt) : (s.setInst i x).sysDma = s.sysDma := rfl

@[simp] theorem State.padPut_pending (bed off : Nat) (data : List Byte) : (s.padPut bed off data).pending = s.pending := rfl
@[simp] theorem State.padPut_dt (bed off : Nat) (data : List Byte) : (s.padPut bed off data).dt = s.dt := rfl
@[simp] theorem State.padPut_free (bed off : Nat) (data : List Byte) : (s.padPut bed off data).free = s.free := rfl
@[simp] theorem State.padPut_regs (bed off : Nat) (data : List Byte) : (s.padPut bed off data).regs = s.regs := rfl
@[simp] theorem State.padPut_resp (bed off : Nat) (data : List Byte) : (s.padPut bed off data).resp = s.resp := rfl
@[simp] theorem State.padPut_out (bed off : Nat) (data : List Byte) : (s.padPut bed off data).out = s.out := rfl
@[simp] theorem State.padPut_plan (bed off : Nat) (data : List Byte) : (s.padPut bed off data).plan = s.plan := rfl
@[simp] theorem State.padPut_spl (bed off : Nat) (data : List Byte) : (s.padPut bed off data).spl = s.spl := rfl
@[simp] theorem State.padPut_dram (bed off : Nat) (data : List Byte) : (s.padPut bed off data).dram = s.dram := rfl
@[simp] theorem State.padPut_flash (bed off : Nat) (data : List Byte) : (s.padPut bed off data).flash = s.flash := rfl
@[simp] theorem State.padPut_log (bed off : Nat) (data : List Byte) : (s.padPut bed off data).log = s.log := rfl
@[simp] theorem State.padPut_safe (bed off : Nat) (data : List Byte) : (s.padPut bed off data).safe = s.safe := rfl
@[simp] theorem State.padPut_mem (bed off : Nat) (data : List Byte) : (s.padPut bed off data).mem = s.mem := rfl
@[simp] theorem State.padPut_tensor (bed off : Nat) (data : List Byte) : (s.padPut bed off data).tensor = s.tensor := rfl
@[simp] theorem State.padPut_pwr (bed off : Nat) (data : List Byte) : (s.padPut bed off data).pwr = s.pwr := rfl
@[simp] theorem State.padPut_kpr (bed off : Nat) (data : List Byte) : (s.padPut bed off data).kpr = s.kpr := rfl
@[simp] theorem State.padPut_gth (bed off : Nat) (data : List Byte) : (s.padPut bed off data).gth = s.gth := rfl
@[simp] theorem State.padPut_gls (bed off : Nat) (data : List Byte) : (s.padPut bed off data).gls = s.gls := rfl
@[simp] theorem State.padPut_host (bed off : Nat) (data : List Byte) : (s.padPut bed off data).host = s.host := rfl
@[simp] theorem State.padPut_elx (bed off : Nat) (data : List Byte) : (s.padPut bed off data).elx = s.elx := rfl
@[simp] theorem State.padPut_tim (bed off : Nat) (data : List Byte) : (s.padPut bed off data).tim = s.tim := rfl
@[simp] theorem State.padPut_net (bed off : Nat) (data : List Byte) : (s.padPut bed off data).net = s.net := rfl
@[simp] theorem State.padPut_sns (bed off : Nat) (data : List Byte) : (s.padPut bed off data).sns = s.sns := rfl
@[simp] theorem State.padPut_org (bed off : Nat) (data : List Byte) : (s.padPut bed off data).org = s.org := rfl
@[simp] theorem State.padPut_dsp (bed off : Nat) (data : List Byte) : (s.padPut bed off data).dsp = s.dsp := rfl
@[simp] theorem State.padPut_pins (bed off : Nat) (data : List Byte) : (s.padPut bed off data).pins = s.pins := rfl
@[simp] theorem State.padPut_padLost (bed off : Nat) (data : List Byte) : (s.padPut bed off data).padLost = s.padLost := rfl
@[simp] theorem State.padPut_pinCtl (bed off : Nat) (data : List Byte) : (s.padPut bed off data).pinCtl = s.pinCtl := rfl
@[simp] theorem State.padPut_sysDma (bed off : Nat) (data : List Byte) : (s.padPut bed off data).sysDma = s.sysDma := rfl

@[simp] theorem State.flashPut_pending (a : Nat) (data : List Byte) : (s.flashPut a data).pending = s.pending := rfl
@[simp] theorem State.flashPut_dt (a : Nat) (data : List Byte) : (s.flashPut a data).dt = s.dt := rfl
@[simp] theorem State.flashPut_free (a : Nat) (data : List Byte) : (s.flashPut a data).free = s.free := rfl
@[simp] theorem State.flashPut_regs (a : Nat) (data : List Byte) : (s.flashPut a data).regs = s.regs := rfl
@[simp] theorem State.flashPut_resp (a : Nat) (data : List Byte) : (s.flashPut a data).resp = s.resp := rfl
@[simp] theorem State.flashPut_out (a : Nat) (data : List Byte) : (s.flashPut a data).out = s.out := rfl
@[simp] theorem State.flashPut_plan (a : Nat) (data : List Byte) : (s.flashPut a data).plan = s.plan := rfl
@[simp] theorem State.flashPut_spl (a : Nat) (data : List Byte) : (s.flashPut a data).spl = s.spl := rfl
@[simp] theorem State.flashPut_dram (a : Nat) (data : List Byte) : (s.flashPut a data).dram = s.dram := rfl
@[simp] theorem State.flashPut_pads (a : Nat) (data : List Byte) : (s.flashPut a data).pads = s.pads := rfl
@[simp] theorem State.flashPut_log (a : Nat) (data : List Byte) : (s.flashPut a data).log = s.log := rfl
@[simp] theorem State.flashPut_safe (a : Nat) (data : List Byte) : (s.flashPut a data).safe = s.safe := rfl
@[simp] theorem State.flashPut_mem (a : Nat) (data : List Byte) : (s.flashPut a data).mem = s.mem := rfl
@[simp] theorem State.flashPut_tensor (a : Nat) (data : List Byte) : (s.flashPut a data).tensor = s.tensor := rfl
@[simp] theorem State.flashPut_pwr (a : Nat) (data : List Byte) : (s.flashPut a data).pwr = s.pwr := rfl
@[simp] theorem State.flashPut_kpr (a : Nat) (data : List Byte) : (s.flashPut a data).kpr = s.kpr := rfl
@[simp] theorem State.flashPut_gth (a : Nat) (data : List Byte) : (s.flashPut a data).gth = s.gth := rfl
@[simp] theorem State.flashPut_gls (a : Nat) (data : List Byte) : (s.flashPut a data).gls = s.gls := rfl
@[simp] theorem State.flashPut_host (a : Nat) (data : List Byte) : (s.flashPut a data).host = s.host := rfl
@[simp] theorem State.flashPut_elx (a : Nat) (data : List Byte) : (s.flashPut a data).elx = s.elx := rfl
@[simp] theorem State.flashPut_tim (a : Nat) (data : List Byte) : (s.flashPut a data).tim = s.tim := rfl
@[simp] theorem State.flashPut_net (a : Nat) (data : List Byte) : (s.flashPut a data).net = s.net := rfl
@[simp] theorem State.flashPut_sns (a : Nat) (data : List Byte) : (s.flashPut a data).sns = s.sns := rfl
@[simp] theorem State.flashPut_org (a : Nat) (data : List Byte) : (s.flashPut a data).org = s.org := rfl
@[simp] theorem State.flashPut_dsp (a : Nat) (data : List Byte) : (s.flashPut a data).dsp = s.dsp := rfl
@[simp] theorem State.flashPut_pins (a : Nat) (data : List Byte) : (s.flashPut a data).pins = s.pins := rfl
@[simp] theorem State.flashPut_padLost (a : Nat) (data : List Byte) : (s.flashPut a data).padLost = s.padLost := rfl
@[simp] theorem State.flashPut_pinCtl (a : Nat) (data : List Byte) : (s.flashPut a data).pinCtl = s.pinCtl := rfl
@[simp] theorem State.flashPut_sysDma (a : Nat) (data : List Byte) : (s.flashPut a data).sysDma = s.sysDma := rfl

@[simp] theorem State.flashErase_pending (a n : Nat) : (s.flashErase a n).pending = s.pending := rfl
@[simp] theorem State.flashErase_dt (a n : Nat) : (s.flashErase a n).dt = s.dt := rfl
@[simp] theorem State.flashErase_free (a n : Nat) : (s.flashErase a n).free = s.free := rfl
@[simp] theorem State.flashErase_regs (a n : Nat) : (s.flashErase a n).regs = s.regs := rfl
@[simp] theorem State.flashErase_resp (a n : Nat) : (s.flashErase a n).resp = s.resp := rfl
@[simp] theorem State.flashErase_out (a n : Nat) : (s.flashErase a n).out = s.out := rfl
@[simp] theorem State.flashErase_plan (a n : Nat) : (s.flashErase a n).plan = s.plan := rfl
@[simp] theorem State.flashErase_spl (a n : Nat) : (s.flashErase a n).spl = s.spl := rfl
@[simp] theorem State.flashErase_dram (a n : Nat) : (s.flashErase a n).dram = s.dram := rfl
@[simp] theorem State.flashErase_pads (a n : Nat) : (s.flashErase a n).pads = s.pads := rfl
@[simp] theorem State.flashErase_log (a n : Nat) : (s.flashErase a n).log = s.log := rfl
@[simp] theorem State.flashErase_safe (a n : Nat) : (s.flashErase a n).safe = s.safe := rfl
@[simp] theorem State.flashErase_mem (a n : Nat) : (s.flashErase a n).mem = s.mem := rfl
@[simp] theorem State.flashErase_tensor (a n : Nat) : (s.flashErase a n).tensor = s.tensor := rfl
@[simp] theorem State.flashErase_pwr (a n : Nat) : (s.flashErase a n).pwr = s.pwr := rfl
@[simp] theorem State.flashErase_kpr (a n : Nat) : (s.flashErase a n).kpr = s.kpr := rfl
@[simp] theorem State.flashErase_gth (a n : Nat) : (s.flashErase a n).gth = s.gth := rfl
@[simp] theorem State.flashErase_gls (a n : Nat) : (s.flashErase a n).gls = s.gls := rfl
@[simp] theorem State.flashErase_host (a n : Nat) : (s.flashErase a n).host = s.host := rfl
@[simp] theorem State.flashErase_elx (a n : Nat) : (s.flashErase a n).elx = s.elx := rfl
@[simp] theorem State.flashErase_tim (a n : Nat) : (s.flashErase a n).tim = s.tim := rfl
@[simp] theorem State.flashErase_net (a n : Nat) : (s.flashErase a n).net = s.net := rfl
@[simp] theorem State.flashErase_sns (a n : Nat) : (s.flashErase a n).sns = s.sns := rfl
@[simp] theorem State.flashErase_org (a n : Nat) : (s.flashErase a n).org = s.org := rfl
@[simp] theorem State.flashErase_dsp (a n : Nat) : (s.flashErase a n).dsp = s.dsp := rfl
@[simp] theorem State.flashErase_pins (a n : Nat) : (s.flashErase a n).pins = s.pins := rfl
@[simp] theorem State.flashErase_padLost (a n : Nat) : (s.flashErase a n).padLost = s.padLost := rfl
@[simp] theorem State.flashErase_pinCtl (a n : Nat) : (s.flashErase a n).pinCtl = s.pinCtl := rfl
@[simp] theorem State.flashErase_sysDma (a n : Nat) : (s.flashErase a n).sysDma = s.sysDma := rfl

@[simp] theorem State.setPort_pending (q : Nat) (p : PortSt) : (s.setPort q p).pending = s.pending := rfl
@[simp] theorem State.setPort_dt (q : Nat) (p : PortSt) : (s.setPort q p).dt = s.dt := rfl
@[simp] theorem State.setPort_free (q : Nat) (p : PortSt) : (s.setPort q p).free = s.free := rfl
@[simp] theorem State.setPort_regs (q : Nat) (p : PortSt) : (s.setPort q p).regs = s.regs := rfl
@[simp] theorem State.setPort_resp (q : Nat) (p : PortSt) : (s.setPort q p).resp = s.resp := rfl
@[simp] theorem State.setPort_out (q : Nat) (p : PortSt) : (s.setPort q p).out = s.out := rfl
@[simp] theorem State.setPort_plan (q : Nat) (p : PortSt) : (s.setPort q p).plan = s.plan := rfl
@[simp] theorem State.setPort_spl (q : Nat) (p : PortSt) : (s.setPort q p).spl = s.spl := rfl
@[simp] theorem State.setPort_dram (q : Nat) (p : PortSt) : (s.setPort q p).dram = s.dram := rfl
@[simp] theorem State.setPort_pads (q : Nat) (p : PortSt) : (s.setPort q p).pads = s.pads := rfl
@[simp] theorem State.setPort_flash (q : Nat) (p : PortSt) : (s.setPort q p).flash = s.flash := rfl
@[simp] theorem State.setPort_log (q : Nat) (p : PortSt) : (s.setPort q p).log = s.log := rfl
@[simp] theorem State.setPort_safe (q : Nat) (p : PortSt) : (s.setPort q p).safe = s.safe := rfl
@[simp] theorem State.setPort_tensor (q : Nat) (p : PortSt) : (s.setPort q p).tensor = s.tensor := rfl
@[simp] theorem State.setPort_pwr (q : Nat) (p : PortSt) : (s.setPort q p).pwr = s.pwr := rfl
@[simp] theorem State.setPort_kpr (q : Nat) (p : PortSt) : (s.setPort q p).kpr = s.kpr := rfl
@[simp] theorem State.setPort_gth (q : Nat) (p : PortSt) : (s.setPort q p).gth = s.gth := rfl
@[simp] theorem State.setPort_gls (q : Nat) (p : PortSt) : (s.setPort q p).gls = s.gls := rfl
@[simp] theorem State.setPort_host (q : Nat) (p : PortSt) : (s.setPort q p).host = s.host := rfl
@[simp] theorem State.setPort_elx (q : Nat) (p : PortSt) : (s.setPort q p).elx = s.elx := rfl
@[simp] theorem State.setPort_tim (q : Nat) (p : PortSt) : (s.setPort q p).tim = s.tim := rfl
@[simp] theorem State.setPort_net (q : Nat) (p : PortSt) : (s.setPort q p).net = s.net := rfl
@[simp] theorem State.setPort_sns (q : Nat) (p : PortSt) : (s.setPort q p).sns = s.sns := rfl
@[simp] theorem State.setPort_org (q : Nat) (p : PortSt) : (s.setPort q p).org = s.org := rfl
@[simp] theorem State.setPort_dsp (q : Nat) (p : PortSt) : (s.setPort q p).dsp = s.dsp := rfl
@[simp] theorem State.setPort_pins (q : Nat) (p : PortSt) : (s.setPort q p).pins = s.pins := rfl
@[simp] theorem State.setPort_padLost (q : Nat) (p : PortSt) : (s.setPort q p).padLost = s.padLost := rfl
@[simp] theorem State.setPort_pinCtl (q : Nat) (p : PortSt) : (s.setPort q p).pinCtl = s.pinCtl := rfl
@[simp] theorem State.setPort_sysDma (q : Nat) (p : PortSt) : (s.setPort q p).sysDma = s.sysDma := rfl

@[simp] theorem State.setMcc_pending (c : Nat) (m : MccSt) : (s.setMcc c m).pending = s.pending := rfl
@[simp] theorem State.setMcc_dt (c : Nat) (m : MccSt) : (s.setMcc c m).dt = s.dt := rfl
@[simp] theorem State.setMcc_free (c : Nat) (m : MccSt) : (s.setMcc c m).free = s.free := rfl
@[simp] theorem State.setMcc_regs (c : Nat) (m : MccSt) : (s.setMcc c m).regs = s.regs := rfl
@[simp] theorem State.setMcc_resp (c : Nat) (m : MccSt) : (s.setMcc c m).resp = s.resp := rfl
@[simp] theorem State.setMcc_out (c : Nat) (m : MccSt) : (s.setMcc c m).out = s.out := rfl
@[simp] theorem State.setMcc_plan (c : Nat) (m : MccSt) : (s.setMcc c m).plan = s.plan := rfl
@[simp] theorem State.setMcc_spl (c : Nat) (m : MccSt) : (s.setMcc c m).spl = s.spl := rfl
@[simp] theorem State.setMcc_dram (c : Nat) (m : MccSt) : (s.setMcc c m).dram = s.dram := rfl
@[simp] theorem State.setMcc_pads (c : Nat) (m : MccSt) : (s.setMcc c m).pads = s.pads := rfl
@[simp] theorem State.setMcc_flash (c : Nat) (m : MccSt) : (s.setMcc c m).flash = s.flash := rfl
@[simp] theorem State.setMcc_log (c : Nat) (m : MccSt) : (s.setMcc c m).log = s.log := rfl
@[simp] theorem State.setMcc_safe (c : Nat) (m : MccSt) : (s.setMcc c m).safe = s.safe := rfl
@[simp] theorem State.setMcc_tensor (c : Nat) (m : MccSt) : (s.setMcc c m).tensor = s.tensor := rfl
@[simp] theorem State.setMcc_pwr (c : Nat) (m : MccSt) : (s.setMcc c m).pwr = s.pwr := rfl
@[simp] theorem State.setMcc_kpr (c : Nat) (m : MccSt) : (s.setMcc c m).kpr = s.kpr := rfl
@[simp] theorem State.setMcc_gth (c : Nat) (m : MccSt) : (s.setMcc c m).gth = s.gth := rfl
@[simp] theorem State.setMcc_gls (c : Nat) (m : MccSt) : (s.setMcc c m).gls = s.gls := rfl
@[simp] theorem State.setMcc_host (c : Nat) (m : MccSt) : (s.setMcc c m).host = s.host := rfl
@[simp] theorem State.setMcc_elx (c : Nat) (m : MccSt) : (s.setMcc c m).elx = s.elx := rfl
@[simp] theorem State.setMcc_tim (c : Nat) (m : MccSt) : (s.setMcc c m).tim = s.tim := rfl
@[simp] theorem State.setMcc_net (c : Nat) (m : MccSt) : (s.setMcc c m).net = s.net := rfl
@[simp] theorem State.setMcc_sns (c : Nat) (m : MccSt) : (s.setMcc c m).sns = s.sns := rfl
@[simp] theorem State.setMcc_org (c : Nat) (m : MccSt) : (s.setMcc c m).org = s.org := rfl
@[simp] theorem State.setMcc_dsp (c : Nat) (m : MccSt) : (s.setMcc c m).dsp = s.dsp := rfl
@[simp] theorem State.setMcc_pins (c : Nat) (m : MccSt) : (s.setMcc c m).pins = s.pins := rfl
@[simp] theorem State.setMcc_padLost (c : Nat) (m : MccSt) : (s.setMcc c m).padLost = s.padLost := rfl
@[simp] theorem State.setMcc_pinCtl (c : Nat) (m : MccSt) : (s.setMcc c m).pinCtl = s.pinCtl := rfl
@[simp] theorem State.setMcc_sysDma (c : Nat) (m : MccSt) : (s.setMcc c m).sysDma = s.sysDma := rfl

@[simp] theorem State.setCache_pending (l : List CacheLine) : (s.setCache l).pending = s.pending := rfl
@[simp] theorem State.setCache_dt (l : List CacheLine) : (s.setCache l).dt = s.dt := rfl
@[simp] theorem State.setCache_free (l : List CacheLine) : (s.setCache l).free = s.free := rfl
@[simp] theorem State.setCache_regs (l : List CacheLine) : (s.setCache l).regs = s.regs := rfl
@[simp] theorem State.setCache_resp (l : List CacheLine) : (s.setCache l).resp = s.resp := rfl
@[simp] theorem State.setCache_out (l : List CacheLine) : (s.setCache l).out = s.out := rfl
@[simp] theorem State.setCache_plan (l : List CacheLine) : (s.setCache l).plan = s.plan := rfl
@[simp] theorem State.setCache_spl (l : List CacheLine) : (s.setCache l).spl = s.spl := rfl
@[simp] theorem State.setCache_dram (l : List CacheLine) : (s.setCache l).dram = s.dram := rfl
@[simp] theorem State.setCache_pads (l : List CacheLine) : (s.setCache l).pads = s.pads := rfl
@[simp] theorem State.setCache_flash (l : List CacheLine) : (s.setCache l).flash = s.flash := rfl
@[simp] theorem State.setCache_log (l : List CacheLine) : (s.setCache l).log = s.log := rfl
@[simp] theorem State.setCache_safe (l : List CacheLine) : (s.setCache l).safe = s.safe := rfl
@[simp] theorem State.setCache_tensor (l : List CacheLine) : (s.setCache l).tensor = s.tensor := rfl
@[simp] theorem State.setCache_pwr (l : List CacheLine) : (s.setCache l).pwr = s.pwr := rfl
@[simp] theorem State.setCache_kpr (l : List CacheLine) : (s.setCache l).kpr = s.kpr := rfl
@[simp] theorem State.setCache_gth (l : List CacheLine) : (s.setCache l).gth = s.gth := rfl
@[simp] theorem State.setCache_gls (l : List CacheLine) : (s.setCache l).gls = s.gls := rfl
@[simp] theorem State.setCache_host (l : List CacheLine) : (s.setCache l).host = s.host := rfl
@[simp] theorem State.setCache_elx (l : List CacheLine) : (s.setCache l).elx = s.elx := rfl
@[simp] theorem State.setCache_tim (l : List CacheLine) : (s.setCache l).tim = s.tim := rfl
@[simp] theorem State.setCache_net (l : List CacheLine) : (s.setCache l).net = s.net := rfl
@[simp] theorem State.setCache_sns (l : List CacheLine) : (s.setCache l).sns = s.sns := rfl
@[simp] theorem State.setCache_org (l : List CacheLine) : (s.setCache l).org = s.org := rfl
@[simp] theorem State.setCache_dsp (l : List CacheLine) : (s.setCache l).dsp = s.dsp := rfl
@[simp] theorem State.setCache_pins (l : List CacheLine) : (s.setCache l).pins = s.pins := rfl
@[simp] theorem State.setCache_padLost (l : List CacheLine) : (s.setCache l).padLost = s.padLost := rfl
@[simp] theorem State.setCache_pinCtl (l : List CacheLine) : (s.setCache l).pinCtl = s.pinCtl := rfl
@[simp] theorem State.setCache_sysDma (l : List CacheLine) : (s.setCache l).sysDma = s.sysDma := rfl

@[simp] theorem State.enqueueFront_dt (c : Instr) : (s.enqueueFront c).dt = s.dt := rfl
@[simp] theorem State.enqueueFront_free (c : Instr) : (s.enqueueFront c).free = s.free := rfl
@[simp] theorem State.enqueueFront_regs (c : Instr) : (s.enqueueFront c).regs = s.regs := rfl
@[simp] theorem State.enqueueFront_resp (c : Instr) : (s.enqueueFront c).resp = s.resp := rfl
@[simp] theorem State.enqueueFront_out (c : Instr) : (s.enqueueFront c).out = s.out := rfl
@[simp] theorem State.enqueueFront_plan (c : Instr) : (s.enqueueFront c).plan = s.plan := rfl
@[simp] theorem State.enqueueFront_spl (c : Instr) : (s.enqueueFront c).spl = s.spl := rfl
@[simp] theorem State.enqueueFront_dram (c : Instr) : (s.enqueueFront c).dram = s.dram := rfl
@[simp] theorem State.enqueueFront_pads (c : Instr) : (s.enqueueFront c).pads = s.pads := rfl
@[simp] theorem State.enqueueFront_flash (c : Instr) : (s.enqueueFront c).flash = s.flash := rfl
@[simp] theorem State.enqueueFront_log (c : Instr) : (s.enqueueFront c).log = s.log := rfl
@[simp] theorem State.enqueueFront_safe (c : Instr) : (s.enqueueFront c).safe = s.safe := rfl
@[simp] theorem State.enqueueFront_mem (c : Instr) : (s.enqueueFront c).mem = s.mem := rfl
@[simp] theorem State.enqueueFront_tensor (c : Instr) : (s.enqueueFront c).tensor = s.tensor := rfl
@[simp] theorem State.enqueueFront_pwr (c : Instr) : (s.enqueueFront c).pwr = s.pwr := rfl
@[simp] theorem State.enqueueFront_kpr (c : Instr) : (s.enqueueFront c).kpr = s.kpr := rfl
@[simp] theorem State.enqueueFront_gth (c : Instr) : (s.enqueueFront c).gth = s.gth := rfl
@[simp] theorem State.enqueueFront_gls (c : Instr) : (s.enqueueFront c).gls = s.gls := rfl
@[simp] theorem State.enqueueFront_host (c : Instr) : (s.enqueueFront c).host = s.host := rfl
@[simp] theorem State.enqueueFront_elx (c : Instr) : (s.enqueueFront c).elx = s.elx := rfl
@[simp] theorem State.enqueueFront_tim (c : Instr) : (s.enqueueFront c).tim = s.tim := rfl
@[simp] theorem State.enqueueFront_net (c : Instr) : (s.enqueueFront c).net = s.net := rfl
@[simp] theorem State.enqueueFront_sns (c : Instr) : (s.enqueueFront c).sns = s.sns := rfl
@[simp] theorem State.enqueueFront_org (c : Instr) : (s.enqueueFront c).org = s.org := rfl
@[simp] theorem State.enqueueFront_dsp (c : Instr) : (s.enqueueFront c).dsp = s.dsp := rfl
@[simp] theorem State.enqueueFront_pins (c : Instr) : (s.enqueueFront c).pins = s.pins := rfl
@[simp] theorem State.enqueueFront_padLost (c : Instr) : (s.enqueueFront c).padLost = s.padLost := rfl
@[simp] theorem State.enqueueFront_pinCtl (c : Instr) : (s.enqueueFront c).pinCtl = s.pinCtl := rfl
@[simp] theorem State.enqueueFront_sysDma (c : Instr) : (s.enqueueFront c).sysDma = s.sysDma := rfl

/-- A free value changes only its counter. -/
theorem State.fresh_eq : s.fresh = (Config.freeValue s.free, { s with free := s.free + 1 }) := rfl

end Sys2Proof.Machine
end

