-- ==== Sys2Proof/Laws/Ops.lean ====
section
/-! SUPPORT. What the shared operations leave alone, and what a record, a register write and a DRAM write do. -/

namespace Sys2Proof.Machine

variable (s : State)

@[simp] theorem State.enterSafe_pending (a b : Nat) : (s.enterSafe a b).pending = s.pending := by unfold State.enterSafe; (repeat' split) <;> rfl
@[simp] theorem State.enterSafe_dt (a b : Nat) : (s.enterSafe a b).dt = s.dt := by unfold State.enterSafe; (repeat' split) <;> rfl
@[simp] theorem State.enterSafe_free (a b : Nat) : (s.enterSafe a b).free = s.free := by unfold State.enterSafe; (repeat' split) <;> rfl
@[simp] theorem State.enterSafe_regs (a b : Nat) : (s.enterSafe a b).regs = s.regs := by unfold State.enterSafe; (repeat' split) <;> rfl
@[simp] theorem State.enterSafe_resp (a b : Nat) : (s.enterSafe a b).resp = s.resp := by unfold State.enterSafe; (repeat' split) <;> rfl
@[simp] theorem State.enterSafe_out (a b : Nat) : (s.enterSafe a b).out = s.out := by unfold State.enterSafe; (repeat' split) <;> rfl
@[simp] theorem State.enterSafe_plan (a b : Nat) : (s.enterSafe a b).plan = s.plan := by unfold State.enterSafe; (repeat' split) <;> rfl
@[simp] theorem State.enterSafe_spl (a b : Nat) : (s.enterSafe a b).spl = s.spl := by unfold State.enterSafe; (repeat' split) <;> rfl
@[simp] theorem State.enterSafe_dram (a b : Nat) : (s.enterSafe a b).dram = s.dram := by unfold State.enterSafe; (repeat' split) <;> rfl
@[simp] theorem State.enterSafe_pads (a b : Nat) : (s.enterSafe a b).pads = s.pads := by unfold State.enterSafe; (repeat' split) <;> rfl
@[simp] theorem State.enterSafe_flash (a b : Nat) : (s.enterSafe a b).flash = s.flash := by unfold State.enterSafe; (repeat' split) <;> rfl
@[simp] theorem State.enterSafe_log (a b : Nat) : (s.enterSafe a b).log = s.log := by unfold State.enterSafe; (repeat' split) <;> rfl
@[simp] theorem State.enterSafe_mem (a b : Nat) : (s.enterSafe a b).mem = s.mem := by unfold State.enterSafe; (repeat' split) <;> rfl
@[simp] theorem State.enterSafe_tensor (a b : Nat) : (s.enterSafe a b).tensor = s.tensor := by unfold State.enterSafe; (repeat' split) <;> rfl
@[simp] theorem State.enterSafe_pwr (a b : Nat) : (s.enterSafe a b).pwr = s.pwr := by unfold State.enterSafe; (repeat' split) <;> rfl
@[simp] theorem State.enterSafe_kpr (a b : Nat) : (s.enterSafe a b).kpr = s.kpr := by unfold State.enterSafe; (repeat' split) <;> rfl
@[simp] theorem State.enterSafe_gth (a b : Nat) : (s.enterSafe a b).gth = s.gth := by unfold State.enterSafe; (repeat' split) <;> rfl
@[simp] theorem State.enterSafe_gls (a b : Nat) : (s.enterSafe a b).gls = s.gls := by unfold State.enterSafe; (repeat' split) <;> rfl
@[simp] theorem State.enterSafe_host (a b : Nat) : (s.enterSafe a b).host = s.host := by unfold State.enterSafe; (repeat' split) <;> rfl
@[simp] theorem State.enterSafe_elx (a b : Nat) : (s.enterSafe a b).elx = s.elx := by unfold State.enterSafe; (repeat' split) <;> rfl
@[simp] theorem State.enterSafe_tim (a b : Nat) : (s.enterSafe a b).tim = s.tim := by unfold State.enterSafe; (repeat' split) <;> rfl
@[simp] theorem State.enterSafe_net (a b : Nat) : (s.enterSafe a b).net = s.net := by unfold State.enterSafe; (repeat' split) <;> rfl
@[simp] theorem State.enterSafe_sns (a b : Nat) : (s.enterSafe a b).sns = s.sns := by unfold State.enterSafe; (repeat' split) <;> rfl
@[simp] theorem State.enterSafe_org (a b : Nat) : (s.enterSafe a b).org = s.org := by unfold State.enterSafe; (repeat' split) <;> rfl
@[simp] theorem State.enterSafe_dsp (a b : Nat) : (s.enterSafe a b).dsp = s.dsp := by unfold State.enterSafe; (repeat' split) <;> rfl
@[simp] theorem State.enterSafe_pins (a b : Nat) : (s.enterSafe a b).pins = s.pins := by unfold State.enterSafe; (repeat' split) <;> rfl
@[simp] theorem State.enterSafe_padLost (a b : Nat) : (s.enterSafe a b).padLost = s.padLost := by unfold State.enterSafe; (repeat' split) <;> rfl
@[simp] theorem State.enterSafe_pinCtl (a b : Nat) : (s.enterSafe a b).pinCtl = s.pinCtl := by unfold State.enterSafe; (repeat' split) <;> rfl
@[simp] theorem State.enterSafe_sysDma (a b : Nat) : (s.enterSafe a b).sysDma = s.sysDma := by unfold State.enterSafe; (repeat' split) <;> rfl

@[simp] theorem State.requestStop_pending (p : Nat) : (s.requestStop p).pending = s.pending := by unfold State.requestStop; split <;> rfl
@[simp] theorem State.requestStop_dt (p : Nat) : (s.requestStop p).dt = s.dt := by unfold State.requestStop; split <;> rfl
@[simp] theorem State.requestStop_free (p : Nat) : (s.requestStop p).free = s.free := by unfold State.requestStop; split <;> rfl
@[simp] theorem State.requestStop_regs (p : Nat) : (s.requestStop p).regs = s.regs := by unfold State.requestStop; split <;> rfl
@[simp] theorem State.requestStop_resp (p : Nat) : (s.requestStop p).resp = s.resp := by unfold State.requestStop; split <;> rfl
@[simp] theorem State.requestStop_out (p : Nat) : (s.requestStop p).out = s.out := by unfold State.requestStop; split <;> rfl
@[simp] theorem State.requestStop_plan (p : Nat) : (s.requestStop p).plan = s.plan := by unfold State.requestStop; split <;> rfl
@[simp] theorem State.requestStop_spl (p : Nat) : (s.requestStop p).spl = s.spl := by unfold State.requestStop; split <;> rfl
@[simp] theorem State.requestStop_dram (p : Nat) : (s.requestStop p).dram = s.dram := by unfold State.requestStop; split <;> rfl
@[simp] theorem State.requestStop_pads (p : Nat) : (s.requestStop p).pads = s.pads := by unfold State.requestStop; split <;> rfl
@[simp] theorem State.requestStop_flash (p : Nat) : (s.requestStop p).flash = s.flash := by unfold State.requestStop; split <;> rfl
@[simp] theorem State.requestStop_log (p : Nat) : (s.requestStop p).log = s.log := by unfold State.requestStop; split <;> rfl
@[simp] theorem State.requestStop_safe (p : Nat) : (s.requestStop p).safe = s.safe := by unfold State.requestStop; split <;> rfl
@[simp] theorem State.requestStop_mem (p : Nat) : (s.requestStop p).mem = s.mem := by unfold State.requestStop; split <;> rfl
@[simp] theorem State.requestStop_pwr (p : Nat) : (s.requestStop p).pwr = s.pwr := by unfold State.requestStop; split <;> rfl
@[simp] theorem State.requestStop_kpr (p : Nat) : (s.requestStop p).kpr = s.kpr := by unfold State.requestStop; split <;> rfl
@[simp] theorem State.requestStop_gth (p : Nat) : (s.requestStop p).gth = s.gth := by unfold State.requestStop; split <;> rfl
@[simp] theorem State.requestStop_gls (p : Nat) : (s.requestStop p).gls = s.gls := by unfold State.requestStop; split <;> rfl
@[simp] theorem State.requestStop_host (p : Nat) : (s.requestStop p).host = s.host := by unfold State.requestStop; split <;> rfl
@[simp] theorem State.requestStop_elx (p : Nat) : (s.requestStop p).elx = s.elx := by unfold State.requestStop; split <;> rfl
@[simp] theorem State.requestStop_tim (p : Nat) : (s.requestStop p).tim = s.tim := by unfold State.requestStop; split <;> rfl
@[simp] theorem State.requestStop_net (p : Nat) : (s.requestStop p).net = s.net := by unfold State.requestStop; split <;> rfl
@[simp] theorem State.requestStop_sns (p : Nat) : (s.requestStop p).sns = s.sns := by unfold State.requestStop; split <;> rfl
@[simp] theorem State.requestStop_org (p : Nat) : (s.requestStop p).org = s.org := by unfold State.requestStop; split <;> rfl
@[simp] theorem State.requestStop_dsp (p : Nat) : (s.requestStop p).dsp = s.dsp := by unfold State.requestStop; split <;> rfl
@[simp] theorem State.requestStop_pins (p : Nat) : (s.requestStop p).pins = s.pins := by unfold State.requestStop; split <;> rfl
@[simp] theorem State.requestStop_padLost (p : Nat) : (s.requestStop p).padLost = s.padLost := by unfold State.requestStop; split <;> rfl
@[simp] theorem State.requestStop_pinCtl (p : Nat) : (s.requestStop p).pinCtl = s.pinCtl := by unfold State.requestStop; split <;> rfl
@[simp] theorem State.requestStop_sysDma (p : Nat) : (s.requestStop p).sysDma = s.sysDma := by unfold State.requestStop; split <;> rfl

@[simp] theorem State.raise_pending (r : FaultRec) : (s.raise r).pending = s.pending := by unfold State.raise; simp only []; (repeat' split) <;> simp
@[simp] theorem State.raise_dt (r : FaultRec) : (s.raise r).dt = s.dt := by unfold State.raise; simp only []; (repeat' split) <;> simp
@[simp] theorem State.raise_free (r : FaultRec) : (s.raise r).free = s.free := by unfold State.raise; simp only []; (repeat' split) <;> simp
@[simp] theorem State.raise_regs (r : FaultRec) : (s.raise r).regs = s.regs := by unfold State.raise; simp only []; (repeat' split) <;> simp
@[simp] theorem State.raise_resp (r : FaultRec) : (s.raise r).resp = s.resp := by unfold State.raise; simp only []; (repeat' split) <;> simp
@[simp] theorem State.raise_out (r : FaultRec) : (s.raise r).out = s.out := by unfold State.raise; simp only []; (repeat' split) <;> simp
@[simp] theorem State.raise_plan (r : FaultRec) : (s.raise r).plan = s.plan := by unfold State.raise; simp only []; (repeat' split) <;> simp
@[simp] theorem State.raise_spl (r : FaultRec) : (s.raise r).spl = s.spl := by unfold State.raise; simp only []; (repeat' split) <;> simp
@[simp] theorem State.raise_dram (r : FaultRec) : (s.raise r).dram = s.dram := by unfold State.raise; simp only []; (repeat' split) <;> simp
@[simp] theorem State.raise_pads (r : FaultRec) : (s.raise r).pads = s.pads := by unfold State.raise; simp only []; (repeat' split) <;> simp
@[simp] theorem State.raise_flash (r : FaultRec) : (s.raise r).flash = s.flash := by unfold State.raise; simp only []; (repeat' split) <;> simp
@[simp] theorem State.raise_mem (r : FaultRec) : (s.raise r).mem = s.mem := by unfold State.raise; simp only []; (repeat' split) <;> simp
@[simp] theorem State.raise_pwr (r : FaultRec) : (s.raise r).pwr = s.pwr := by unfold State.raise; simp only []; (repeat' split) <;> simp
@[simp] theorem State.raise_kpr (r : FaultRec) : (s.raise r).kpr = s.kpr := by unfold State.raise; simp only []; (repeat' split) <;> simp
@[simp] theorem State.raise_gth (r : FaultRec) : (s.raise r).gth = s.gth := by unfold State.raise; simp only []; (repeat' split) <;> simp
@[simp] theorem State.raise_gls (r : FaultRec) : (s.raise r).gls = s.gls := by unfold State.raise; simp only []; (repeat' split) <;> simp
@[simp] theorem State.raise_host (r : FaultRec) : (s.raise r).host = s.host := by unfold State.raise; simp only []; (repeat' split) <;> simp
@[simp] theorem State.raise_elx (r : FaultRec) : (s.raise r).elx = s.elx := by unfold State.raise; simp only []; (repeat' split) <;> simp
@[simp] theorem State.raise_tim (r : FaultRec) : (s.raise r).tim = s.tim := by unfold State.raise; simp only []; (repeat' split) <;> simp
@[simp] theorem State.raise_net (r : FaultRec) : (s.raise r).net = s.net := by unfold State.raise; simp only []; (repeat' split) <;> simp
@[simp] theorem State.raise_sns (r : FaultRec) : (s.raise r).sns = s.sns := by unfold State.raise; simp only []; (repeat' split) <;> simp
@[simp] theorem State.raise_org (r : FaultRec) : (s.raise r).org = s.org := by unfold State.raise; simp only []; (repeat' split) <;> simp
@[simp] theorem State.raise_dsp (r : FaultRec) : (s.raise r).dsp = s.dsp := by unfold State.raise; simp only []; (repeat' split) <;> simp
@[simp] theorem State.raise_pins (r : FaultRec) : (s.raise r).pins = s.pins := by unfold State.raise; simp only []; (repeat' split) <;> simp
@[simp] theorem State.raise_padLost (r : FaultRec) : (s.raise r).padLost = s.padLost := by unfold State.raise; simp only []; (repeat' split) <;> simp
@[simp] theorem State.raise_pinCtl (r : FaultRec) : (s.raise r).pinCtl = s.pinCtl := by unfold State.raise; simp only []; (repeat' split) <;> simp
@[simp] theorem State.raise_sysDma (r : FaultRec) : (s.raise r).sysDma = s.sysDma := by unfold State.raise; simp only []; (repeat' split) <;> simp

@[simp] theorem State.bump_pending (id : RegId) (ix n : Nat) : (s.bump id ix n).pending = s.pending := by simp [State.bump]
@[simp] theorem State.bump_dt (id : RegId) (ix n : Nat) : (s.bump id ix n).dt = s.dt := by simp [State.bump]
@[simp] theorem State.bump_free (id : RegId) (ix n : Nat) : (s.bump id ix n).free = s.free := by simp [State.bump]
@[simp] theorem State.bump_resp (id : RegId) (ix n : Nat) : (s.bump id ix n).resp = s.resp := by simp [State.bump]
@[simp] theorem State.bump_out (id : RegId) (ix n : Nat) : (s.bump id ix n).out = s.out := by simp [State.bump]
@[simp] theorem State.bump_plan (id : RegId) (ix n : Nat) : (s.bump id ix n).plan = s.plan := by simp [State.bump]
@[simp] theorem State.bump_spl (id : RegId) (ix n : Nat) : (s.bump id ix n).spl = s.spl := by simp [State.bump]
@[simp] theorem State.bump_dram (id : RegId) (ix n : Nat) : (s.bump id ix n).dram = s.dram := by simp [State.bump]
@[simp] theorem State.bump_pads (id : RegId) (ix n : Nat) : (s.bump id ix n).pads = s.pads := by simp [State.bump]
@[simp] theorem State.bump_flash (id : RegId) (ix n : Nat) : (s.bump id ix n).flash = s.flash := by simp [State.bump]
@[simp] theorem State.bump_log (id : RegId) (ix n : Nat) : (s.bump id ix n).log = s.log := by simp [State.bump]
@[simp] theorem State.bump_safe (id : RegId) (ix n : Nat) : (s.bump id ix n).safe = s.safe := by simp [State.bump]
@[simp] theorem State.bump_mem (id : RegId) (ix n : Nat) : (s.bump id ix n).mem = s.mem := by simp [State.bump]
@[simp] theorem State.bump_tensor (id : RegId) (ix n : Nat) : (s.bump id ix n).tensor = s.tensor := by simp [State.bump]
@[simp] theorem State.bump_pwr (id : RegId) (ix n : Nat) : (s.bump id ix n).pwr = s.pwr := by simp [State.bump]
@[simp] theorem State.bump_kpr (id : RegId) (ix n : Nat) : (s.bump id ix n).kpr = s.kpr := by simp [State.bump]
@[simp] theorem State.bump_gth (id : RegId) (ix n : Nat) : (s.bump id ix n).gth = s.gth := by simp [State.bump]
@[simp] theorem State.bump_gls (id : RegId) (ix n : Nat) : (s.bump id ix n).gls = s.gls := by simp [State.bump]
@[simp] theorem State.bump_host (id : RegId) (ix n : Nat) : (s.bump id ix n).host = s.host := by simp [State.bump]
@[simp] theorem State.bump_elx (id : RegId) (ix n : Nat) : (s.bump id ix n).elx = s.elx := by simp [State.bump]
@[simp] theorem State.bump_tim (id : RegId) (ix n : Nat) : (s.bump id ix n).tim = s.tim := by simp [State.bump]
@[simp] theorem State.bump_net (id : RegId) (ix n : Nat) : (s.bump id ix n).net = s.net := by simp [State.bump]
@[simp] theorem State.bump_sns (id : RegId) (ix n : Nat) : (s.bump id ix n).sns = s.sns := by simp [State.bump]
@[simp] theorem State.bump_org (id : RegId) (ix n : Nat) : (s.bump id ix n).org = s.org := by simp [State.bump]
@[simp] theorem State.bump_dsp (id : RegId) (ix n : Nat) : (s.bump id ix n).dsp = s.dsp := by simp [State.bump]
@[simp] theorem State.bump_pins (id : RegId) (ix n : Nat) : (s.bump id ix n).pins = s.pins := by simp [State.bump]
@[simp] theorem State.bump_padLost (id : RegId) (ix n : Nat) : (s.bump id ix n).padLost = s.padLost := by simp [State.bump]
@[simp] theorem State.bump_pinCtl (id : RegId) (ix n : Nat) : (s.bump id ix n).pinCtl = s.pinCtl := by simp [State.bump]
@[simp] theorem State.bump_sysDma (id : RegId) (ix n : Nat) : (s.bump id ix n).sysDma = s.sysDma := by simp [State.bump]

@[simp] theorem State.count_pending (id : RegId) (ix n : Nat) : (s.count id ix n).pending = s.pending := by simp [State.count]
@[simp] theorem State.count_dt (id : RegId) (ix n : Nat) : (s.count id ix n).dt = s.dt := by simp [State.count]
@[simp] theorem State.count_free (id : RegId) (ix n : Nat) : (s.count id ix n).free = s.free := by simp [State.count]
@[simp] theorem State.count_resp (id : RegId) (ix n : Nat) : (s.count id ix n).resp = s.resp := by simp [State.count]
@[simp] theorem State.count_out (id : RegId) (ix n : Nat) : (s.count id ix n).out = s.out := by simp [State.count]
@[simp] theorem State.count_plan (id : RegId) (ix n : Nat) : (s.count id ix n).plan = s.plan := by simp [State.count]
@[simp] theorem State.count_spl (id : RegId) (ix n : Nat) : (s.count id ix n).spl = s.spl := by simp [State.count]
@[simp] theorem State.count_dram (id : RegId) (ix n : Nat) : (s.count id ix n).dram = s.dram := by simp [State.count]
@[simp] theorem State.count_pads (id : RegId) (ix n : Nat) : (s.count id ix n).pads = s.pads := by simp [State.count]
@[simp] theorem State.count_flash (id : RegId) (ix n : Nat) : (s.count id ix n).flash = s.flash := by simp [State.count]
@[simp] theorem State.count_log (id : RegId) (ix n : Nat) : (s.count id ix n).log = s.log := by simp [State.count]
@[simp] theorem State.count_safe (id : RegId) (ix n : Nat) : (s.count id ix n).safe = s.safe := by simp [State.count]
@[simp] theorem State.count_mem (id : RegId) (ix n : Nat) : (s.count id ix n).mem = s.mem := by simp [State.count]
@[simp] theorem State.count_tensor (id : RegId) (ix n : Nat) : (s.count id ix n).tensor = s.tensor := by simp [State.count]
@[simp] theorem State.count_pwr (id : RegId) (ix n : Nat) : (s.count id ix n).pwr = s.pwr := by simp [State.count]
@[simp] theorem State.count_kpr (id : RegId) (ix n : Nat) : (s.count id ix n).kpr = s.kpr := by simp [State.count]
@[simp] theorem State.count_gth (id : RegId) (ix n : Nat) : (s.count id ix n).gth = s.gth := by simp [State.count]
@[simp] theorem State.count_gls (id : RegId) (ix n : Nat) : (s.count id ix n).gls = s.gls := by simp [State.count]
@[simp] theorem State.count_host (id : RegId) (ix n : Nat) : (s.count id ix n).host = s.host := by simp [State.count]
@[simp] theorem State.count_elx (id : RegId) (ix n : Nat) : (s.count id ix n).elx = s.elx := by simp [State.count]
@[simp] theorem State.count_tim (id : RegId) (ix n : Nat) : (s.count id ix n).tim = s.tim := by simp [State.count]
@[simp] theorem State.count_net (id : RegId) (ix n : Nat) : (s.count id ix n).net = s.net := by simp [State.count]
@[simp] theorem State.count_sns (id : RegId) (ix n : Nat) : (s.count id ix n).sns = s.sns := by simp [State.count]
@[simp] theorem State.count_org (id : RegId) (ix n : Nat) : (s.count id ix n).org = s.org := by simp [State.count]
@[simp] theorem State.count_dsp (id : RegId) (ix n : Nat) : (s.count id ix n).dsp = s.dsp := by simp [State.count]
@[simp] theorem State.count_pins (id : RegId) (ix n : Nat) : (s.count id ix n).pins = s.pins := by simp [State.count]
@[simp] theorem State.count_padLost (id : RegId) (ix n : Nat) : (s.count id ix n).padLost = s.padLost := by simp [State.count]
@[simp] theorem State.count_pinCtl (id : RegId) (ix n : Nat) : (s.count id ix n).pinCtl = s.pinCtl := by simp [State.count]
@[simp] theorem State.count_sysDma (id : RegId) (ix n : Nat) : (s.count id ix n).sysDma = s.sysDma := by simp [State.count]

@[simp] theorem State.setBitOf_pending (id : RegId) (ix b : Nat) : (s.setBitOf id ix b).pending = s.pending := by simp [State.setBitOf]
@[simp] theorem State.setBitOf_dt (id : RegId) (ix b : Nat) : (s.setBitOf id ix b).dt = s.dt := by simp [State.setBitOf]
@[simp] theorem State.setBitOf_free (id : RegId) (ix b : Nat) : (s.setBitOf id ix b).free = s.free := by simp [State.setBitOf]
@[simp] theorem State.setBitOf_resp (id : RegId) (ix b : Nat) : (s.setBitOf id ix b).resp = s.resp := by simp [State.setBitOf]
@[simp] theorem State.setBitOf_out (id : RegId) (ix b : Nat) : (s.setBitOf id ix b).out = s.out := by simp [State.setBitOf]
@[simp] theorem State.setBitOf_plan (id : RegId) (ix b : Nat) : (s.setBitOf id ix b).plan = s.plan := by simp [State.setBitOf]
@[simp] theorem State.setBitOf_spl (id : RegId) (ix b : Nat) : (s.setBitOf id ix b).spl = s.spl := by simp [State.setBitOf]
@[simp] theorem State.setBitOf_dram (id : RegId) (ix b : Nat) : (s.setBitOf id ix b).dram = s.dram := by simp [State.setBitOf]
@[simp] theorem State.setBitOf_pads (id : RegId) (ix b : Nat) : (s.setBitOf id ix b).pads = s.pads := by simp [State.setBitOf]
@[simp] theorem State.setBitOf_flash (id : RegId) (ix b : Nat) : (s.setBitOf id ix b).flash = s.flash := by simp [State.setBitOf]
@[simp] theorem State.setBitOf_log (id : RegId) (ix b : Nat) : (s.setBitOf id ix b).log = s.log := by simp [State.setBitOf]
@[simp] theorem State.setBitOf_safe (id : RegId) (ix b : Nat) : (s.setBitOf id ix b).safe = s.safe := by simp [State.setBitOf]
@[simp] theorem State.setBitOf_mem (id : RegId) (ix b : Nat) : (s.setBitOf id ix b).mem = s.mem := by simp [State.setBitOf]
@[simp] theorem State.setBitOf_tensor (id : RegId) (ix b : Nat) : (s.setBitOf id ix b).tensor = s.tensor := by simp [State.setBitOf]
@[simp] theorem State.setBitOf_pwr (id : RegId) (ix b : Nat) : (s.setBitOf id ix b).pwr = s.pwr := by simp [State.setBitOf]
@[simp] theorem State.setBitOf_kpr (id : RegId) (ix b : Nat) : (s.setBitOf id ix b).kpr = s.kpr := by simp [State.setBitOf]
@[simp] theorem State.setBitOf_gth (id : RegId) (ix b : Nat) : (s.setBitOf id ix b).gth = s.gth := by simp [State.setBitOf]
@[simp] theorem State.setBitOf_gls (id : RegId) (ix b : Nat) : (s.setBitOf id ix b).gls = s.gls := by simp [State.setBitOf]
@[simp] theorem State.setBitOf_host (id : RegId) (ix b : Nat) : (s.setBitOf id ix b).host = s.host := by simp [State.setBitOf]
@[simp] theorem State.setBitOf_elx (id : RegId) (ix b : Nat) : (s.setBitOf id ix b).elx = s.elx := by simp [State.setBitOf]
@[simp] theorem State.setBitOf_tim (id : RegId) (ix b : Nat) : (s.setBitOf id ix b).tim = s.tim := by simp [State.setBitOf]
@[simp] theorem State.setBitOf_net (id : RegId) (ix b : Nat) : (s.setBitOf id ix b).net = s.net := by simp [State.setBitOf]
@[simp] theorem State.setBitOf_sns (id : RegId) (ix b : Nat) : (s.setBitOf id ix b).sns = s.sns := by simp [State.setBitOf]
@[simp] theorem State.setBitOf_org (id : RegId) (ix b : Nat) : (s.setBitOf id ix b).org = s.org := by simp [State.setBitOf]
@[simp] theorem State.setBitOf_dsp (id : RegId) (ix b : Nat) : (s.setBitOf id ix b).dsp = s.dsp := by simp [State.setBitOf]
@[simp] theorem State.setBitOf_pins (id : RegId) (ix b : Nat) : (s.setBitOf id ix b).pins = s.pins := by simp [State.setBitOf]
@[simp] theorem State.setBitOf_padLost (id : RegId) (ix b : Nat) : (s.setBitOf id ix b).padLost = s.padLost := by simp [State.setBitOf]
@[simp] theorem State.setBitOf_pinCtl (id : RegId) (ix b : Nat) : (s.setBitOf id ix b).pinCtl = s.pinCtl := by simp [State.setBitOf]
@[simp] theorem State.setBitOf_sysDma (id : RegId) (ix b : Nat) : (s.setBitOf id ix b).sysDma = s.sysDma := by simp [State.setBitOf]

@[simp] theorem State.setErr_pending (b : Block) (i e : Nat) : (s.setErr b i e).pending = s.pending := by unfold State.setErr; split <;> simp
@[simp] theorem State.setErr_dt (b : Block) (i e : Nat) : (s.setErr b i e).dt = s.dt := by unfold State.setErr; split <;> simp
@[simp] theorem State.setErr_free (b : Block) (i e : Nat) : (s.setErr b i e).free = s.free := by unfold State.setErr; split <;> simp
@[simp] theorem State.setErr_resp (b : Block) (i e : Nat) : (s.setErr b i e).resp = s.resp := by unfold State.setErr; split <;> simp
@[simp] theorem State.setErr_out (b : Block) (i e : Nat) : (s.setErr b i e).out = s.out := by unfold State.setErr; split <;> simp
@[simp] theorem State.setErr_plan (b : Block) (i e : Nat) : (s.setErr b i e).plan = s.plan := by unfold State.setErr; split <;> simp
@[simp] theorem State.setErr_spl (b : Block) (i e : Nat) : (s.setErr b i e).spl = s.spl := by unfold State.setErr; split <;> simp
@[simp] theorem State.setErr_dram (b : Block) (i e : Nat) : (s.setErr b i e).dram = s.dram := by unfold State.setErr; split <;> simp
@[simp] theorem State.setErr_pads (b : Block) (i e : Nat) : (s.setErr b i e).pads = s.pads := by unfold State.setErr; split <;> simp
@[simp] theorem State.setErr_flash (b : Block) (i e : Nat) : (s.setErr b i e).flash = s.flash := by unfold State.setErr; split <;> simp
@[simp] theorem State.setErr_log (b : Block) (i e : Nat) : (s.setErr b i e).log = s.log := by unfold State.setErr; split <;> simp
@[simp] theorem State.setErr_safe (b : Block) (i e : Nat) : (s.setErr b i e).safe = s.safe := by unfold State.setErr; split <;> simp
@[simp] theorem State.setErr_mem (b : Block) (i e : Nat) : (s.setErr b i e).mem = s.mem := by unfold State.setErr; split <;> simp
@[simp] theorem State.setErr_tensor (b : Block) (i e : Nat) : (s.setErr b i e).tensor = s.tensor := by unfold State.setErr; split <;> simp
@[simp] theorem State.setErr_pwr (b : Block) (i e : Nat) : (s.setErr b i e).pwr = s.pwr := by unfold State.setErr; split <;> simp
@[simp] theorem State.setErr_kpr (b : Block) (i e : Nat) : (s.setErr b i e).kpr = s.kpr := by unfold State.setErr; split <;> simp
@[simp] theorem State.setErr_gth (b : Block) (i e : Nat) : (s.setErr b i e).gth = s.gth := by unfold State.setErr; split <;> simp
@[simp] theorem State.setErr_gls (b : Block) (i e : Nat) : (s.setErr b i e).gls = s.gls := by unfold State.setErr; split <;> simp
@[simp] theorem State.setErr_host (b : Block) (i e : Nat) : (s.setErr b i e).host = s.host := by unfold State.setErr; split <;> simp
@[simp] theorem State.setErr_elx (b : Block) (i e : Nat) : (s.setErr b i e).elx = s.elx := by unfold State.setErr; split <;> simp
@[simp] theorem State.setErr_tim (b : Block) (i e : Nat) : (s.setErr b i e).tim = s.tim := by unfold State.setErr; split <;> simp
@[simp] theorem State.setErr_net (b : Block) (i e : Nat) : (s.setErr b i e).net = s.net := by unfold State.setErr; split <;> simp
@[simp] theorem State.setErr_sns (b : Block) (i e : Nat) : (s.setErr b i e).sns = s.sns := by unfold State.setErr; split <;> simp
@[simp] theorem State.setErr_org (b : Block) (i e : Nat) : (s.setErr b i e).org = s.org := by unfold State.setErr; split <;> simp
@[simp] theorem State.setErr_dsp (b : Block) (i e : Nat) : (s.setErr b i e).dsp = s.dsp := by unfold State.setErr; split <;> simp
@[simp] theorem State.setErr_pins (b : Block) (i e : Nat) : (s.setErr b i e).pins = s.pins := by unfold State.setErr; split <;> simp
@[simp] theorem State.setErr_padLost (b : Block) (i e : Nat) : (s.setErr b i e).padLost = s.padLost := by unfold State.setErr; split <;> simp
@[simp] theorem State.setErr_pinCtl (b : Block) (i e : Nat) : (s.setErr b i e).pinCtl = s.pinCtl := by unfold State.setErr; split <;> simp
@[simp] theorem State.setErr_sysDma (b : Block) (i e : Nat) : (s.setErr b i e).sysDma = s.sysDma := by unfold State.setErr; split <;> simp

@[simp] theorem State.sizeRefused_pending (st : Stamp) (b : Block) (i a : Nat) : (s.sizeRefused st b i a).pending = s.pending := by simp [State.sizeRefused]
@[simp] theorem State.sizeRefused_dt (st : Stamp) (b : Block) (i a : Nat) : (s.sizeRefused st b i a).dt = s.dt := by simp [State.sizeRefused]
@[simp] theorem State.sizeRefused_free (st : Stamp) (b : Block) (i a : Nat) : (s.sizeRefused st b i a).free = s.free := by simp [State.sizeRefused]
@[simp] theorem State.sizeRefused_resp (st : Stamp) (b : Block) (i a : Nat) : (s.sizeRefused st b i a).resp = s.resp := by simp [State.sizeRefused]
@[simp] theorem State.sizeRefused_out (st : Stamp) (b : Block) (i a : Nat) : (s.sizeRefused st b i a).out = s.out := by simp [State.sizeRefused]
@[simp] theorem State.sizeRefused_plan (st : Stamp) (b : Block) (i a : Nat) : (s.sizeRefused st b i a).plan = s.plan := by simp [State.sizeRefused]
@[simp] theorem State.sizeRefused_spl (st : Stamp) (b : Block) (i a : Nat) : (s.sizeRefused st b i a).spl = s.spl := by simp [State.sizeRefused]
@[simp] theorem State.sizeRefused_dram (st : Stamp) (b : Block) (i a : Nat) : (s.sizeRefused st b i a).dram = s.dram := by simp [State.sizeRefused]
@[simp] theorem State.sizeRefused_pads (st : Stamp) (b : Block) (i a : Nat) : (s.sizeRefused st b i a).pads = s.pads := by simp [State.sizeRefused]
@[simp] theorem State.sizeRefused_flash (st : Stamp) (b : Block) (i a : Nat) : (s.sizeRefused st b i a).flash = s.flash := by simp [State.sizeRefused]
@[simp] theorem State.sizeRefused_mem (st : Stamp) (b : Block) (i a : Nat) : (s.sizeRefused st b i a).mem = s.mem := by simp [State.sizeRefused]
@[simp] theorem State.sizeRefused_pwr (st : Stamp) (b : Block) (i a : Nat) : (s.sizeRefused st b i a).pwr = s.pwr := by simp [State.sizeRefused]
@[simp] theorem State.sizeRefused_kpr (st : Stamp) (b : Block) (i a : Nat) : (s.sizeRefused st b i a).kpr = s.kpr := by simp [State.sizeRefused]
@[simp] theorem State.sizeRefused_gth (st : Stamp) (b : Block) (i a : Nat) : (s.sizeRefused st b i a).gth = s.gth := by simp [State.sizeRefused]
@[simp] theorem State.sizeRefused_gls (st : Stamp) (b : Block) (i a : Nat) : (s.sizeRefused st b i a).gls = s.gls := by simp [State.sizeRefused]
@[simp] theorem State.sizeRefused_host (st : Stamp) (b : Block) (i a : Nat) : (s.sizeRefused st b i a).host = s.host := by simp [State.sizeRefused]
@[simp] theorem State.sizeRefused_elx (st : Stamp) (b : Block) (i a : Nat) : (s.sizeRefused st b i a).elx = s.elx := by simp [State.sizeRefused]
@[simp] theorem State.sizeRefused_tim (st : Stamp) (b : Block) (i a : Nat) : (s.sizeRefused st b i a).tim = s.tim := by simp [State.sizeRefused]
@[simp] theorem State.sizeRefused_net (st : Stamp) (b : Block) (i a : Nat) : (s.sizeRefused st b i a).net = s.net := by simp [State.sizeRefused]
@[simp] theorem State.sizeRefused_sns (st : Stamp) (b : Block) (i a : Nat) : (s.sizeRefused st b i a).sns = s.sns := by simp [State.sizeRefused]
@[simp] theorem State.sizeRefused_org (st : Stamp) (b : Block) (i a : Nat) : (s.sizeRefused st b i a).org = s.org := by simp [State.sizeRefused]
@[simp] theorem State.sizeRefused_dsp (st : Stamp) (b : Block) (i a : Nat) : (s.sizeRefused st b i a).dsp = s.dsp := by simp [State.sizeRefused]
@[simp] theorem State.sizeRefused_pins (st : Stamp) (b : Block) (i a : Nat) : (s.sizeRefused st b i a).pins = s.pins := by simp [State.sizeRefused]
@[simp] theorem State.sizeRefused_padLost (st : Stamp) (b : Block) (i a : Nat) : (s.sizeRefused st b i a).padLost = s.padLost := by simp [State.sizeRefused]
@[simp] theorem State.sizeRefused_pinCtl (st : Stamp) (b : Block) (i a : Nat) : (s.sizeRefused st b i a).pinCtl = s.pinCtl := by simp [State.sizeRefused]
@[simp] theorem State.sizeRefused_sysDma (st : Stamp) (b : Block) (i a : Nat) : (s.sizeRefused st b i a).sysDma = s.sysDma := by simp [State.sizeRefused]

@[simp] theorem State.reservedRefused_pending (st : Stamp) (b : Block) (i a : Nat) : (s.reservedRefused st b i a).pending = s.pending := by simp [State.reservedRefused]
@[simp] theorem State.reservedRefused_dt (st : Stamp) (b : Block) (i a : Nat) : (s.reservedRefused st b i a).dt = s.dt := by simp [State.reservedRefused]
@[simp] theorem State.reservedRefused_free (st : Stamp) (b : Block) (i a : Nat) : (s.reservedRefused st b i a).free = s.free := by simp [State.reservedRefused]
@[simp] theorem State.reservedRefused_resp (st : Stamp) (b : Block) (i a : Nat) : (s.reservedRefused st b i a).resp = s.resp := by simp [State.reservedRefused]
@[simp] theorem State.reservedRefused_out (st : Stamp) (b : Block) (i a : Nat) : (s.reservedRefused st b i a).out = s.out := by simp [State.reservedRefused]
@[simp] theorem State.reservedRefused_plan (st : Stamp) (b : Block) (i a : Nat) : (s.reservedRefused st b i a).plan = s.plan := by simp [State.reservedRefused]
@[simp] theorem State.reservedRefused_spl (st : Stamp) (b : Block) (i a : Nat) : (s.reservedRefused st b i a).spl = s.spl := by simp [State.reservedRefused]
@[simp] theorem State.reservedRefused_dram (st : Stamp) (b : Block) (i a : Nat) : (s.reservedRefused st b i a).dram = s.dram := by simp [State.reservedRefused]
@[simp] theorem State.reservedRefused_pads (st : Stamp) (b : Block) (i a : Nat) : (s.reservedRefused st b i a).pads = s.pads := by simp [State.reservedRefused]
@[simp] theorem State.reservedRefused_flash (st : Stamp) (b : Block) (i a : Nat) : (s.reservedRefused st b i a).flash = s.flash := by simp [State.reservedRefused]
@[simp] theorem State.reservedRefused_mem (st : Stamp) (b : Block) (i a : Nat) : (s.reservedRefused st b i a).mem = s.mem := by simp [State.reservedRefused]
@[simp] theorem State.reservedRefused_pwr (st : Stamp) (b : Block) (i a : Nat) : (s.reservedRefused st b i a).pwr = s.pwr := by simp [State.reservedRefused]
@[simp] theorem State.reservedRefused_kpr (st : Stamp) (b : Block) (i a : Nat) : (s.reservedRefused st b i a).kpr = s.kpr := by simp [State.reservedRefused]
@[simp] theorem State.reservedRefused_gth (st : Stamp) (b : Block) (i a : Nat) : (s.reservedRefused st b i a).gth = s.gth := by simp [State.reservedRefused]
@[simp] theorem State.reservedRefused_gls (st : Stamp) (b : Block) (i a : Nat) : (s.reservedRefused st b i a).gls = s.gls := by simp [State.reservedRefused]
@[simp] theorem State.reservedRefused_host (st : Stamp) (b : Block) (i a : Nat) : (s.reservedRefused st b i a).host = s.host := by simp [State.reservedRefused]
@[simp] theorem State.reservedRefused_elx (st : Stamp) (b : Block) (i a : Nat) : (s.reservedRefused st b i a).elx = s.elx := by simp [State.reservedRefused]
@[simp] theorem State.reservedRefused_tim (st : Stamp) (b : Block) (i a : Nat) : (s.reservedRefused st b i a).tim = s.tim := by simp [State.reservedRefused]
@[simp] theorem State.reservedRefused_net (st : Stamp) (b : Block) (i a : Nat) : (s.reservedRefused st b i a).net = s.net := by simp [State.reservedRefused]
@[simp] theorem State.reservedRefused_sns (st : Stamp) (b : Block) (i a : Nat) : (s.reservedRefused st b i a).sns = s.sns := by simp [State.reservedRefused]
@[simp] theorem State.reservedRefused_org (st : Stamp) (b : Block) (i a : Nat) : (s.reservedRefused st b i a).org = s.org := by simp [State.reservedRefused]
@[simp] theorem State.reservedRefused_dsp (st : Stamp) (b : Block) (i a : Nat) : (s.reservedRefused st b i a).dsp = s.dsp := by simp [State.reservedRefused]
@[simp] theorem State.reservedRefused_pins (st : Stamp) (b : Block) (i a : Nat) : (s.reservedRefused st b i a).pins = s.pins := by simp [State.reservedRefused]
@[simp] theorem State.reservedRefused_padLost (st : Stamp) (b : Block) (i a : Nat) : (s.reservedRefused st b i a).padLost = s.padLost := by simp [State.reservedRefused]
@[simp] theorem State.reservedRefused_pinCtl (st : Stamp) (b : Block) (i a : Nat) : (s.reservedRefused st b i a).pinCtl = s.pinCtl := by simp [State.reservedRefused]
@[simp] theorem State.reservedRefused_sysDma (st : Stamp) (b : Block) (i a : Nat) : (s.reservedRefused st b i a).sysDma = s.sysDma := by simp [State.reservedRefused]

@[simp] theorem State.lockRefused_pending (st : Stamp) (b : Block) (a : Nat) : (s.lockRefused st b a).pending = s.pending := by simp [State.lockRefused]
@[simp] theorem State.lockRefused_dt (st : Stamp) (b : Block) (a : Nat) : (s.lockRefused st b a).dt = s.dt := by simp [State.lockRefused]
@[simp] theorem State.lockRefused_free (st : Stamp) (b : Block) (a : Nat) : (s.lockRefused st b a).free = s.free := by simp [State.lockRefused]
@[simp] theorem State.lockRefused_regs (st : Stamp) (b : Block) (a : Nat) : (s.lockRefused st b a).regs = s.regs := by simp [State.lockRefused]
@[simp] theorem State.lockRefused_resp (st : Stamp) (b : Block) (a : Nat) : (s.lockRefused st b a).resp = s.resp := by simp [State.lockRefused]
@[simp] theorem State.lockRefused_out (st : Stamp) (b : Block) (a : Nat) : (s.lockRefused st b a).out = s.out := by simp [State.lockRefused]
@[simp] theorem State.lockRefused_plan (st : Stamp) (b : Block) (a : Nat) : (s.lockRefused st b a).plan = s.plan := by simp [State.lockRefused]
@[simp] theorem State.lockRefused_spl (st : Stamp) (b : Block) (a : Nat) : (s.lockRefused st b a).spl = s.spl := by simp [State.lockRefused]
@[simp] theorem State.lockRefused_dram (st : Stamp) (b : Block) (a : Nat) : (s.lockRefused st b a).dram = s.dram := by simp [State.lockRefused]
@[simp] theorem State.lockRefused_pads (st : Stamp) (b : Block) (a : Nat) : (s.lockRefused st b a).pads = s.pads := by simp [State.lockRefused]
@[simp] theorem State.lockRefused_flash (st : Stamp) (b : Block) (a : Nat) : (s.lockRefused st b a).flash = s.flash := by simp [State.lockRefused]
@[simp] theorem State.lockRefused_mem (st : Stamp) (b : Block) (a : Nat) : (s.lockRefused st b a).mem = s.mem := by simp [State.lockRefused]
@[simp] theorem State.lockRefused_pwr (st : Stamp) (b : Block) (a : Nat) : (s.lockRefused st b a).pwr = s.pwr := by simp [State.lockRefused]
@[simp] theorem State.lockRefused_kpr (st : Stamp) (b : Block) (a : Nat) : (s.lockRefused st b a).kpr = s.kpr := by simp [State.lockRefused]
@[simp] theorem State.lockRefused_gth (st : Stamp) (b : Block) (a : Nat) : (s.lockRefused st b a).gth = s.gth := by simp [State.lockRefused]
@[simp] theorem State.lockRefused_gls (st : Stamp) (b : Block) (a : Nat) : (s.lockRefused st b a).gls = s.gls := by simp [State.lockRefused]
@[simp] theorem State.lockRefused_host (st : Stamp) (b : Block) (a : Nat) : (s.lockRefused st b a).host = s.host := by simp [State.lockRefused]
@[simp] theorem State.lockRefused_elx (st : Stamp) (b : Block) (a : Nat) : (s.lockRefused st b a).elx = s.elx := by simp [State.lockRefused]
@[simp] theorem State.lockRefused_tim (st : Stamp) (b : Block) (a : Nat) : (s.lockRefused st b a).tim = s.tim := by simp [State.lockRefused]
@[simp] theorem State.lockRefused_net (st : Stamp) (b : Block) (a : Nat) : (s.lockRefused st b a).net = s.net := by simp [State.lockRefused]
@[simp] theorem State.lockRefused_sns (st : Stamp) (b : Block) (a : Nat) : (s.lockRefused st b a).sns = s.sns := by simp [State.lockRefused]
@[simp] theorem State.lockRefused_org (st : Stamp) (b : Block) (a : Nat) : (s.lockRefused st b a).org = s.org := by simp [State.lockRefused]
@[simp] theorem State.lockRefused_dsp (st : Stamp) (b : Block) (a : Nat) : (s.lockRefused st b a).dsp = s.dsp := by simp [State.lockRefused]
@[simp] theorem State.lockRefused_pins (st : Stamp) (b : Block) (a : Nat) : (s.lockRefused st b a).pins = s.pins := by simp [State.lockRefused]
@[simp] theorem State.lockRefused_padLost (st : Stamp) (b : Block) (a : Nat) : (s.lockRefused st b a).padLost = s.padLost := by simp [State.lockRefused]
@[simp] theorem State.lockRefused_pinCtl (st : Stamp) (b : Block) (a : Nat) : (s.lockRefused st b a).pinCtl = s.pinCtl := by simp [State.lockRefused]
@[simp] theorem State.lockRefused_sysDma (st : Stamp) (b : Block) (a : Nat) : (s.lockRefused st b a).sysDma = s.sysDma := by simp [State.lockRefused]

@[simp] theorem State.writerRefused_pending (st : Stamp) (b : Block) (a : Nat) (w : WRefusal) : (s.writerRefused st b a w).pending = s.pending := by unfold State.writerRefused; simp only []; cases w.errBit <;> simp
@[simp] theorem State.writerRefused_dt (st : Stamp) (b : Block) (a : Nat) (w : WRefusal) : (s.writerRefused st b a w).dt = s.dt := by unfold State.writerRefused; simp only []; cases w.errBit <;> simp
@[simp] theorem State.writerRefused_free (st : Stamp) (b : Block) (a : Nat) (w : WRefusal) : (s.writerRefused st b a w).free = s.free := by unfold State.writerRefused; simp only []; cases w.errBit <;> simp
@[simp] theorem State.writerRefused_resp (st : Stamp) (b : Block) (a : Nat) (w : WRefusal) : (s.writerRefused st b a w).resp = s.resp := by unfold State.writerRefused; simp only []; cases w.errBit <;> simp
@[simp] theorem State.writerRefused_out (st : Stamp) (b : Block) (a : Nat) (w : WRefusal) : (s.writerRefused st b a w).out = s.out := by unfold State.writerRefused; simp only []; cases w.errBit <;> simp
@[simp] theorem State.writerRefused_plan (st : Stamp) (b : Block) (a : Nat) (w : WRefusal) : (s.writerRefused st b a w).plan = s.plan := by unfold State.writerRefused; simp only []; cases w.errBit <;> simp
@[simp] theorem State.writerRefused_spl (st : Stamp) (b : Block) (a : Nat) (w : WRefusal) : (s.writerRefused st b a w).spl = s.spl := by unfold State.writerRefused; simp only []; cases w.errBit <;> simp
@[simp] theorem State.writerRefused_dram (st : Stamp) (b : Block) (a : Nat) (w : WRefusal) : (s.writerRefused st b a w).dram = s.dram := by unfold State.writerRefused; simp only []; cases w.errBit <;> simp
@[simp] theorem State.writerRefused_pads (st : Stamp) (b : Block) (a : Nat) (w : WRefusal) : (s.writerRefused st b a w).pads = s.pads := by unfold State.writerRefused; simp only []; cases w.errBit <;> simp
@[simp] theorem State.writerRefused_flash (st : Stamp) (b : Block) (a : Nat) (w : WRefusal) : (s.writerRefused st b a w).flash = s.flash := by unfold State.writerRefused; simp only []; cases w.errBit <;> simp
@[simp] theorem State.writerRefused_mem (st : Stamp) (b : Block) (a : Nat) (w : WRefusal) : (s.writerRefused st b a w).mem = s.mem := by unfold State.writerRefused; simp only []; cases w.errBit <;> simp
@[simp] theorem State.writerRefused_pwr (st : Stamp) (b : Block) (a : Nat) (w : WRefusal) : (s.writerRefused st b a w).pwr = s.pwr := by unfold State.writerRefused; simp only []; cases w.errBit <;> simp
@[simp] theorem State.writerRefused_kpr (st : Stamp) (b : Block) (a : Nat) (w : WRefusal) : (s.writerRefused st b a w).kpr = s.kpr := by unfold State.writerRefused; simp only []; cases w.errBit <;> simp
@[simp] theorem State.writerRefused_gth (st : Stamp) (b : Block) (a : Nat) (w : WRefusal) : (s.writerRefused st b a w).gth = s.gth := by unfold State.writerRefused; simp only []; cases w.errBit <;> simp
@[simp] theorem State.writerRefused_gls (st : Stamp) (b : Block) (a : Nat) (w : WRefusal) : (s.writerRefused st b a w).gls = s.gls := by unfold State.writerRefused; simp only []; cases w.errBit <;> simp
@[simp] theorem State.writerRefused_host (st : Stamp) (b : Block) (a : Nat) (w : WRefusal) : (s.writerRefused st b a w).host = s.host := by unfold State.writerRefused; simp only []; cases w.errBit <;> simp
@[simp] theorem State.writerRefused_elx (st : Stamp) (b : Block) (a : Nat) (w : WRefusal) : (s.writerRefused st b a w).elx = s.elx := by unfold State.writerRefused; simp only []; cases w.errBit <;> simp
@[simp] theorem State.writerRefused_tim (st : Stamp) (b : Block) (a : Nat) (w : WRefusal) : (s.writerRefused st b a w).tim = s.tim := by unfold State.writerRefused; simp only []; cases w.errBit <;> simp
@[simp] theorem State.writerRefused_net (st : Stamp) (b : Block) (a : Nat) (w : WRefusal) : (s.writerRefused st b a w).net = s.net := by unfold State.writerRefused; simp only []; cases w.errBit <;> simp
@[simp] theorem State.writerRefused_sns (st : Stamp) (b : Block) (a : Nat) (w : WRefusal) : (s.writerRefused st b a w).sns = s.sns := by unfold State.writerRefused; simp only []; cases w.errBit <;> simp
@[simp] theorem State.writerRefused_org (st : Stamp) (b : Block) (a : Nat) (w : WRefusal) : (s.writerRefused st b a w).org = s.org := by unfold State.writerRefused; simp only []; cases w.errBit <;> simp
@[simp] theorem State.writerRefused_dsp (st : Stamp) (b : Block) (a : Nat) (w : WRefusal) : (s.writerRefused st b a w).dsp = s.dsp := by unfold State.writerRefused; simp only []; cases w.errBit <;> simp
@[simp] theorem State.writerRefused_pins (st : Stamp) (b : Block) (a : Nat) (w : WRefusal) : (s.writerRefused st b a w).pins = s.pins := by unfold State.writerRefused; simp only []; cases w.errBit <;> simp
@[simp] theorem State.writerRefused_padLost (st : Stamp) (b : Block) (a : Nat) (w : WRefusal) : (s.writerRefused st b a w).padLost = s.padLost := by unfold State.writerRefused; simp only []; cases w.errBit <;> simp
@[simp] theorem State.writerRefused_pinCtl (st : Stamp) (b : Block) (a : Nat) (w : WRefusal) : (s.writerRefused st b a w).pinCtl = s.pinCtl := by unfold State.writerRefused; simp only []; cases w.errBit <;> simp
@[simp] theorem State.writerRefused_sysDma (st : Stamp) (b : Block) (a : Nat) (w : WRefusal) : (s.writerRefused st b a w).sysDma = s.sysDma := by unfold State.writerRefused; simp only []; cases w.errBit <;> simp

/-! ### Fault records (R16, R19) -/

@[simp] theorem State.enterSafe_safe_safe (a b : Nat) : (s.enterSafe a b).safe.safe = true := by
  unfold State.enterSafe; repeat' split
  all_goals simp_all

/-- Logging a record puts it at the end of those on their way, and moves nothing else of the log. -/
@[simp] theorem State.raise_log (r : FaultRec) :
    (s.raise r).log = { s.log with raised := s.log.raised ++ [r] } := by
  unfold State.raise; simp only []; (repeat' split) <;> simp

/-- A record of severity 4 puts the device in safe state. -/
theorem State.raise_safe_four (r : FaultRec) (h : r.severity = 4) : (s.raise r).safe.safe = true := by
  unfold State.raise; simp [h]

/-- A record of another severity leaves the safe-state controller as it was. -/
theorem State.raise_safe_other (r : FaultRec) (h : r.severity ≠ 4) : (s.raise r).safe = s.safe := by
  unfold State.raise; simp only [beq_iff_eq, h, if_false]; split <;> simp

/-- Safe state, once entered, is not left by a record. -/
theorem State.raise_safe_mono (r : FaultRec) (h : s.safe.safe = true) : (s.raise r).safe.safe = true := by
  by_cases h4 : r.severity = 4
  · exact s.raise_safe_four r h4
  · rw [s.raise_safe_other r h4, h]

/-- A record of severity 3 alone asks for the stop of a Plot. -/
theorem State.raise_tensor (r : FaultRec) (h : r.severity ≠ 3) : (s.raise r).tensor = s.tensor := by
  unfold State.raise; simp only [beq_iff_eq, h, if_false]; split <;> simp

/-! ### Registers -/

/-- A state in canonical form has a canonical register map. -/
theorem State.wf_regs {s : State} (h : s.wf = true) : swf regDefault s.regs = true := by
  simp only [State.wf, Bool.and_eq_true] at h; exact h.1.2

/-- A state in canonical form has canonical DRAM. -/
theorem State.wf_dram {s : State} (h : s.wf = true) : swf (fun _ => (0 : Byte)) s.dram = true := by
  simp only [State.wf, Bool.and_eq_true] at h; exact h.1.1.1.1

/-- A register holds what was last written to it, cut to 64 bits. -/
theorem State.rd_wr_self {s : State} (h : swf regDefault s.regs = true) (id : RegId) (ix v : Nat) :
    (s.wr id ix v).rd id ix = v % 2 ^ 64 := by
  simp only [State.wr, State.rd, sget_sset_self regDefault _ _ h, BitVec.toNat_ofNat]

/-- A write of a register leaves every register with another key as it was. -/
theorem State.rd_wr_other {s : State} {id id' : RegId} {ix ix' : Nat} (v : Nat) (h : id'.key ix' ≠ id.key ix) :
    (s.wr id ix v).rd id' ix' = s.rd id' ix' := by
  simp only [State.wr, State.rd, sget_sset_other regDefault _ h]

/-- Registers of different names, and instances below 2^20 of one name, have different keys. -/
theorem RegId.key_ne {id id' : RegId} {ix ix' : Nat} (h : id.ctorIdx ≠ id'.ctorIdx) : id.key ix ≠ id'.key ix' := by
  unfold RegId.key; omega

/-- Registers are read from the register map alone. -/
theorem State.rd_congr {s t : State} (h : t.regs = s.regs) (id : RegId) (ix : Nat) : t.rd id ix = s.rd id ix := by
  simp only [State.rd, h]

/-- Device time is read from the clock alone. -/
theorem State.now_congr {s t : State} (h : t.dt = s.dt) : t.now = s.now := by simp only [State.now, h]

/-! ### DRAM -/

/-- Below the owner table and from the Keeper's range on, a DRAM byte is the one listed. -/
theorem State.dramByte_plain {a : Nat} (h : a < reservedBase ∨ keeperBase ≤ a) :
    s.dramByte a = sget (fun _ => 0) s.dram a := by
  unfold State.dramByte; rw [if_neg (by omega)]

/-- Below the owner table and from the Keeper's range on, a DRAM write is a write of the list. -/
theorem State.setDramByte_plain {a : Nat} (b : Byte) (h : a < reservedBase ∨ keeperBase ≤ a) :
    s.setDramByte a b = { s with dram := sset (fun _ => 0) s.dram a b } := by
  unfold State.setDramByte; rw [if_neg (by omega)]


/-- A DRAM write outside the owner table changes the list alone, and keeps its canonical form. -/
theorem State.dramPut_plain : ∀ (l : List Byte) (s : State) (a : Nat), (a + l.length ≤ reservedBase ∨ keeperBase ≤ a) →
    s.dramPut a l = { s with dram := writeBytes zeroAt s.dram a l }
  | [], _, _, _ => rfl
  | b :: r, s, a, h => by
    simp only [List.length_cons] at h
    rw [State.dramPut, s.setDramByte_plain b (by omega), dramPut_plain r _ (a + 1) (by omega)]
    rfl

/-- A byte outside the bytes written keeps its value. -/
theorem sget_writeBytes_outside (d : Nat → Byte) : ∀ (l : List Byte) (m : List Host.Cell) (a k : Nat),
    (k < a ∨ a + l.length ≤ k) → sget d (writeBytes d m a l) k = sget d m k
  | [], _, _, _, _ => rfl
  | b :: r, m, a, k, h => by
    simp only [List.length_cons] at h
    rw [writeBytes, sget_writeBytes_outside d r _ _ _ (by omega), sget_sset_other _ _ (by omega)]

/-- A byte written reads back. -/
theorem sget_writeBytes_inside (d : Nat → Byte) : ∀ (l : List Byte) (m : List Host.Cell) (a i : Nat),
    swf d m = true → i < l.length → sget d (writeBytes d m a l) (a + i) = l.getD i 0
  | b :: r, m, a, 0, h, _ => by
    rw [writeBytes, sget_writeBytes_outside d r _ _ _ (by omega), Nat.add_zero, sget_sset_self _ _ _ h]; rfl
  | b :: r, m, a, i + 1, h, hi => by
    rw [writeBytes, show a + (i + 1) = (a + 1) + i by omega,
      sget_writeBytes_inside d r _ _ _ (swf_sset _ _ _ h) (by simpa using hi)]
    rfl

/-- A DRAM write outside the owner table leaves every byte outside it as it was. -/
theorem State.dramPut_outside (l : List Byte) (s : State) (a k : Nat)
    (h : a + l.length ≤ reservedBase ∨ keeperBase ≤ a) (hk : k < a ∨ a + l.length ≤ k) :
    (s.dramPut a l).dramByte k = s.dramByte k := by
  rw [State.dramPut_plain l s a h]
  by_cases hr : k < reservedBase ∨ keeperBase ≤ k
  · rw [State.dramByte_plain _ hr, State.dramByte_plain _ hr]
    exact sget_writeBytes_outside _ l _ _ _ hk
  · unfold State.dramByte State.entry State.entryDefault; simp only []
    rw [if_pos (by omega), if_pos (by omega)]

/-- A DRAM write outside the owner table reads back. -/
theorem State.dramPut_inside (l : List Byte) (s : State) (a i : Nat) (hw : s.wf = true)
    (h : a + l.length ≤ reservedBase ∨ keeperBase ≤ a) (hi : i < l.length) :
    (s.dramPut a l).dramByte (a + i) = l.getD i 0 := by
  rw [State.dramPut_plain l s a h, State.dramByte_plain _ (by omega)]
  exact sget_writeBytes_inside _ l _ _ _ (State.wf_dram hw) hi

end Sys2Proof.Machine
end

