-- ==== Sys2Proof/Laws/Bytes.lean ====
section
/-! SUPPORT. Byte lists: their lengths, fields of records, memory read back after a write, SHA-384 digests, and AES-256-GCM
decryption of what was encrypted. -/

namespace Sys2Proof.Machine

/-! ### Lengths and fields -/

@[simp] theorem leBytes_length : ∀ n x : Nat, (leBytes n x).length = n
  | 0, _ => rfl
  | n + 1, x => by rw [leBytes, List.length_cons, leBytes_length n]

@[simp] theorem beBytes_length (n x : Nat) : (beBytes n x).length = n := by rw [beBytes, List.length_reverse, leBytes_length]

@[simp] theorem zeros_length (n : Nat) : (zeros n).length = n := List.length_replicate

@[simp] theorem readBytes_length (d : Nat → Byte) (m : List Host.Cell) (a n : Nat) : (readBytes d m a n).length = n := by
  rw [readBytes, List.length_map, List.length_range]

@[simp] theorem State.dramGet_length (s : State) (a n : Nat) : (s.dramGet a n).length = n := by
  rw [State.dramGet, List.length_map, List.length_range]

theorem sub_append {a d : List Byte} {i n : Nat} (h : i + n ≤ a.length) : sub (a ++ d) i n = sub a i n := by
  simp only [sub, List.drop_append_of_le_length (by omega : i ≤ a.length)]
  rw [List.take_append_of_le_length (by rw [List.length_drop]; omega)]

theorem fld_append {a d : List Byte} {i n : Nat} (h : i + n ≤ a.length) : fld (a ++ d) i n = fld a i n :=
  congrArg leNat (sub_append h)

/-- Outside the owner table, DRAM reads as its list. -/
theorem State.dramGet_plain (s : State) (a n : Nat) (h : a + n ≤ reservedBase ∨ keeperBase ≤ a) :
    s.dramGet a n = readBytes zeroAt s.dram a n := by
  unfold State.dramGet readBytes
  refine List.map_congr_left fun i hi => State.dramByte_plain _ ?_
  have := List.mem_range.1 hi
  omega

/-- Bytes read from `a` on: `n` below the bytes written, then these. -/
theorem readBytes_writeBytes (d : Nat → Byte) (m : List Host.Cell) (l : List Byte) (a n : Nat) (h : swf d m = true) :
    readBytes d (writeBytes d m (a + n) l) a (n + l.length) = readBytes d m a n ++ l := by
  refine List.ext_getElem (by rw [readBytes_length, List.length_append, readBytes_length]) ?_
  intro i hi hj
  by_cases hb : i < n
  · rw [List.getElem_append_left (by rw [readBytes_length]; omega)]
    simp only [readBytes, List.getElem_map, List.getElem_range]
    exact sget_writeBytes_outside _ _ _ _ _ (by omega)
  · rw [readBytes_length] at hi
    rw [List.getElem_append_right (by rw [readBytes_length]; omega)]
    simp only [readBytes, List.getElem_map, List.getElem_range]
    rw [show a + i = a + n + (i - n) by omega, sget_writeBytes_inside _ _ _ _ _ h (by omega), List.getD_eq_getElem?_getD]
    simp only [List.length_map, List.length_range]
    rw [List.getElem?_eq_getElem (by omega), Option.getD_some]

/-- The bytes written read back. -/
theorem readBytes_self (d : Nat → Byte) (m : List Host.Cell) (l : List Byte) (a : Nat) (h : swf d m = true) :
    readBytes d (writeBytes d m a l) a l.length = l := by
  have e := readBytes_writeBytes d m l a 0 h
  rwa [Nat.add_zero, Nat.zero_add, show readBytes d m a 0 = [] from rfl, List.nil_append] at e

/-- Bytes outside those written read as before. -/
theorem readBytes_outside (d : Nat → Byte) (m : List Host.Cell) (l : List Byte) (a b n : Nat) (h : b + n ≤ a ∨ a + l.length ≤ b) :
    readBytes d (writeBytes d m a l) b n = readBytes d m b n := by
  unfold readBytes
  refine List.map_congr_left fun i hi => sget_writeBytes_outside _ _ _ _ _ ?_
  have := List.mem_range.1 hi
  omega

/-! ### SHA-384 -/

theorem shaRound_length (v : List (BitVec 64)) (k : BitVec 64 × BitVec 64) (h : v.length = 8) : (shaRound v k).length = 8 := by
  unfold shaRound
  split <;> simp_all

theorem shaRounds_length (l : List (BitVec 64 × BitVec 64)) : ∀ v : List (BitVec 64), v.length = 8 →
    (l.foldl shaRound v).length = 8 := by
  induction l with
  | nil => intro v h; exact h
  | cons k l ih => intro v h; exact ih _ (shaRound_length v k h)

theorem shaBlocks_length : ∀ (n : Nat) (m : List Byte) (v : List (BitVec 64)), v.length = 8 → (shaBlocks n m v).length = 8
  | 0, _, _, h => h
  | n + 1, m, v, h => by
    rw [shaBlocks]
    refine shaBlocks_length n _ _ ?_
    rw [List.length_map, List.length_zip, h, shaRounds_length _ v h, Nat.min_self]

/-- A digest has 48 bytes. -/
@[simp] theorem sha384_length (m : List Byte) : (sha384 m).length = 48 := by
  simp [sha384, List.length_flatMap, List.map_const', shaBlocks_length _ _ sha384H rfl]

/-! ### AES-256-GCM -/

theorem aesExpand_shape : ∀ (n : Nat) (w : List (List Byte)), 8 ≤ w.length → (∀ x ∈ w, x.length = 4) →
    (aesExpand n w).length = w.length + n ∧ ∀ x ∈ aesExpand n w, x.length = 4
  | 0, w, _, h => ⟨rfl, h⟩
  | n + 1, w, hl, h => by
    have g : ∀ i, i < w.length → (w.getD i []).length = 4 := fun i hi => by
      rw [List.getD_eq_getElem?_getD, List.getElem?_eq_getElem hi, Option.getD_some]
      exact h _ (List.getElem_mem hi)
    have hp := g (w.length - 1) (by omega)
    rw [aesExpand]
    refine (aesExpand_shape n _ ?_ ?_).imp (fun e => ?_) id
    · rw [List.length_append]; omega
    · intro x hx
      rcases List.mem_append.1 hx with hx | hx
      · exact h x hx
      · rw [List.mem_singleton.1 hx, List.length_zipWith, g _ (by omega)]
        have ht : ∀ t : List Byte, t.length = 4 → min 4 t.length = 4 := fun t e => by rw [e, Nat.min_self]
        refine ht _ ?_
        split
        · split
          · rfl
          · rw [List.length_map, hp]
        · split
          · rw [List.length_map, hp]
          · exact hp
    · rw [e, List.length_append, List.length_singleton]; omega

/-- The last of the round keys made of 60 words of 4 bytes has 16 bytes. -/
theorem roundKey_length (w : List (List Byte)) (hl : w.length = 60) (h : ∀ x ∈ w, x.length = 4) (r : Nat) (hr : r < 15) :
    ((List.range 4).flatMap (fun i => w.getD (4 * r + i) [])).length = 16 := by
  have g : ∀ i, i < 60 → (w.getD i []).length = 4 := fun i hi => by
    rw [List.getD_eq_getElem?_getD, List.getElem?_eq_getElem (by omega), Option.getD_some]
    exact h _ (List.getElem_mem _)
  have e : (List.range 4).map (fun i => (w.getD (4 * r + i) []).length) = List.replicate 4 4 := by
    refine List.map_eq_replicate_iff.2 ?_
    intro i hi
    exact g _ (by have := List.mem_range.1 hi; omega)
  rw [List.length_flatMap, e]
  rfl


/-- A block under round keys, the last of which has 16 bytes. -/
theorem aesBlock_length_of (keys : List (List Byte)) (m : List Byte) (h : 0 < keys.length) (hl : (keys.getD 14 []).length = 16) :
    (aesBlock keys m).length = 16 := by
  cases keys with
  | nil => cases h
  | cons k r =>
    rw [List.getD_cons_succ] at hl
    simp only [aesBlock, xorB, List.length_zipWith, hl, shiftRows, List.length_map, List.length_range, Nat.min_self]

/-- A block under the round keys of a 32-byte key. -/
theorem aesBlock_length (key m : List Byte) (h : key.length = 32) : (aesBlock (aesKeys key) m).length = 16 := by
  have hw := aesExpand_shape 52 ((List.range 8).map (fun i => sub key (4 * i) 4)) (by simp) (by
    intro x hx
    obtain ⟨i, hi, rfl⟩ := List.mem_map.1 hx
    have := List.mem_range.1 hi
    simp only [sub, List.length_take, List.length_drop]
    omega)
  rw [List.length_map, List.length_range] at hw
  refine aesBlock_length_of _ _ (by simp [aesKeys]) ?_
  unfold aesKeys
  generalize aesExpand 52 ((List.range 8).map (fun i => sub key (4 * i) 4)) = w at hw ⊢
  rw [List.getD_eq_getElem?_getD, List.getElem?_eq_getElem (by rw [List.length_map, List.length_range]; decide), Option.getD_some,
    List.getElem_map, List.getElem_range]
  exact roundKey_length w hw.1 hw.2 14 (by decide)

theorem xorB_cancel : ∀ a k : List Byte, a.length ≤ k.length → xorB (xorB a k) k = a
  | [], _, _ => rfl
  | a :: l, k :: r, h => by
    have := xorB_cancel l r (by simpa using h)
    simp only [xorB, List.zipWith_cons_cons] at this ⊢
    rw [this, BitVec.xor_assoc, BitVec.xor_self, BitVec.xor_zero]

theorem gcmCtr_nil (keys : List (List Byte)) (iv : List Byte) : ∀ n c : Nat, gcmCtr keys iv n c [] = []
  | 0, _ => rfl
  | n + 1, c => by rw [gcmCtr, List.drop_nil, gcmCtr_nil keys iv n]; rfl

theorem gcmCtr_length (keys : List (List Byte)) (iv : List Byte) (hk : ∀ m, (aesBlock keys m).length = 16) :
    ∀ (n c : Nat) (d : List Byte), d.length ≤ 16 * n → (gcmCtr keys iv n c d).length = d.length
  | 0, _, d, h => by rw [gcmCtr, List.length_nil]; omega
  | n + 1, c, d, h => by
    rw [gcmCtr, List.length_append, gcmCtr_length keys iv hk n _ _ (by rw [List.length_drop]; omega), xorB,
      List.length_zipWith, hk, List.length_take, List.length_drop]
    omega

/-- The key stream applied twice. -/
theorem gcmCtr_twice (keys : List (List Byte)) (iv : List Byte) (hk : ∀ m, (aesBlock keys m).length = 16) :
    ∀ (n c : Nat) (d : List Byte), d.length ≤ 16 * n → gcmCtr keys iv n c (gcmCtr keys iv n c d) = d
  | 0, _, d, h => by rw [gcmCtr, List.length_eq_zero_iff.1 (by omega : d.length = 0)]
  | n + 1, c, d, h => by
    have ha : (xorB (d.take 16) (aesBlock keys (iv ++ beBytes 4 c))).length = min 16 d.length := by
      rw [xorB, List.length_zipWith, hk, List.length_take]; omega
    have hx := xorB_cancel (d.take 16) (aesBlock keys (iv ++ beBytes 4 c)) (by rw [hk, List.length_take]; omega)
    have hr := gcmCtr_twice keys iv hk n (c + 1) (d.drop 16) (by rw [List.length_drop]; omega)
    conv => lhs; arg 5; rw [gcmCtr]
    rw [gcmCtr]
    by_cases h16 : 16 ≤ d.length
    · rw [List.take_left' (by omega), List.drop_left' (by omega), hx, hr, List.take_append_drop]
    · rw [List.drop_eq_nil_of_le (by omega : d.length ≤ 16), gcmCtr_nil, List.append_nil,
        List.take_of_length_le (by omega), List.drop_eq_nil_of_le (by omega), gcmCtr_nil, List.append_nil, hx,
        List.take_of_length_le (by omega)]

/-- Decryption with the tag of the ciphertext. -/
theorem gcmDecrypt_tag (key iv aad ct : List Byte) : gcmDecrypt key iv aad ct (gcmTag key iv aad ct) =
    some (gcmCtr (aesKeys key) iv (ceilDiv ct.length 16) 2 ct) := by rw [gcmDecrypt, if_pos rfl]

theorem gcmEncrypt_eq (key iv aad pt : List Byte) : gcmEncrypt key iv aad pt =
    (gcmCtr (aesKeys key) iv (ceilDiv pt.length 16) 2 pt, gcmTag key iv aad (gcmCtr (aesKeys key) iv (ceilDiv pt.length 16) 2 pt)) := by
  rw [gcmEncrypt]

theorem gcmEncrypt_length (key iv aad pt : List Byte) (h : key.length = 32) : (gcmEncrypt key iv aad pt).1.length = pt.length := by
  rw [gcmEncrypt_eq]
  exact gcmCtr_length _ _ (fun m => aesBlock_length key m h) _ _ _ (by unfold ceilDiv; omega)

/-- What was encrypted decrypts to itself. -/
theorem gcmDecrypt_gcmEncrypt (key iv aad pt : List Byte) (h : key.length = 32) :
    gcmDecrypt key iv aad (gcmEncrypt key iv aad pt).1 (gcmEncrypt key iv aad pt).2 = some pt := by
  have hl := gcmEncrypt_length key iv aad pt h
  have hc : pt.length ≤ 16 * ceilDiv pt.length 16 := by unfold ceilDiv; omega
  rw [gcmEncrypt_eq] at hl ⊢
  rw [gcmDecrypt_tag, hl, gcmCtr_twice _ _ (fun m => aesBlock_length key m h) _ _ _ hc]

/-- A tag has 16 bytes. -/
theorem gcmTag_length (key iv aad ct : List Byte) (h : key.length = 32) : (gcmTag key iv aad ct).length = 16 := by
  unfold gcmTag xorB
  rw [List.length_zipWith, beBytes_length, aesBlock_length key _ h, Nat.min_self]

end Sys2Proof.Machine
end

