-- ==== Sys2Proof/Laws/Memory.lean ====
section
/-! SUPPORT. What an engine's access of DRAM can do while no request waits in the memory system: it changes the memory
system's own state and its counters, and nothing else but the bytes that it writes. -/

namespace Sys2Proof.Machine
open Sys2Proof

theorem mem_sins {β : Type} {k : Nat} {v : β} {e : Nat × β} :
    ∀ {m : List (Nat × β)}, e ∈ sins m k v → e = (k, v) ∨ e ∈ m
  | [], h => by simpa [sins] using h
  | (k', v') :: r, h => by
    have ih := @mem_sins β k v e r
    unfold sins at h
    (repeat' split at h) <;> simp only [List.mem_cons] at h ⊢ <;> grind

theorem mem_sdel {β : Type} {k : Nat} {e : Nat × β} : ∀ {m : List (Nat × β)}, e ∈ sdel m k → e ∈ m
  | [], h => by simp [sdel] at h
  | (k', v') :: r, h => by
    have ih := @mem_sdel β k e r
    unfold sdel at h
    (repeat' split at h) <;> simp only [List.mem_cons] at h ⊢ <;> grind

/-- What stands in a map after a write stood there or was written. -/
theorem mem_sset {β : Type} [DecidableEq β] {d : Nat → β} {m : List (Nat × β)} {k : Nat} {v : β} {e : Nat × β}
    (h : e ∈ sset d m k v) : e = (k, v) ∨ e ∈ m := by
  unfold sset at h
  split at h
  · exact .inr (mem_sdel h)
  · exact mem_sins h

/-- A key reads its default or what the map lists. -/
theorem sget_listed {β : Type} (d : Nat → β) (k : Nat) :
    ∀ m : List (Nat × β), sget d m k = d k ∨ (k, sget d m k) ∈ m
  | [] => .inl rfl
  | (k', v') :: r => by
    unfold sget
    split
    · rename_i h; subst h; exact .inr (.head _)
    · exact (sget_listed d k r).imp_right (.tail _)

theorem sumL_zero {l : List Nat} : sumL l = 0 ↔ ∀ x ∈ l, x = 0 := by
  rw [sumL, ← List.sum_eq_foldl]
  induction l with
  | nil => simp
  | cons x l ih => simp [ih]

/-- No request waits: every hold queue and every slot is empty. -/
theorem State.waitingReqs_zero {s : State} : s.waitingReqs = 0 ↔
    (∀ p ∈ s.mem.ports, ∀ q ∈ p.2.hold, q.2 = []) ∧ ∀ m ∈ s.mem.mcc, m.2.held = [] := by
  simp only [State.waitingReqs, Nat.add_eq_zero_iff, sumL_zero, List.mem_map, forall_exists_index, and_imp,
    forall_apply_eq_imp_iff₂, List.length_eq_zero_iff]

theorem State.setPort_waiting {s : State} {q : Nat} {p : PortSt} (h : s.waitingReqs = 0)
    (hp : ∀ e ∈ p.hold, e.2 = []) : (s.setPort q p).waitingReqs = 0 := by
  rw [State.waitingReqs_zero] at h ⊢
  refine ⟨fun e he => ?_, h.2⟩
  rcases mem_sset (d := fun _ => ({} : PortSt)) he with rfl | he
  · exact hp
  · exact h.1 e he

theorem State.port_waiting {s : State} (q : Nat) (h : s.waitingReqs = 0) : ∀ e ∈ (s.port q).hold, e.2 = [] := by
  rcases sget_listed (fun _ => ({} : PortSt)) q s.mem.ports with hd | hm
  · simp [State.port, hd]
  · exact (State.waitingReqs_zero.mp h).1 _ hm

theorem State.setMcc_waiting {s : State} {c : Nat} {m : MccSt} (h : s.waitingReqs = 0) (hm : m.held = []) :
    (s.setMcc c m).waitingReqs = 0 := by
  rw [State.waitingReqs_zero] at h ⊢
  refine ⟨h.1, fun e he => ?_⟩
  rcases mem_sset (d := fun _ => ({} : MccSt)) he with rfl | he
  · exact hm
  · exact h.2 e he

theorem State.mccOf_waiting {s : State} (c : Nat) (h : s.waitingReqs = 0) : (s.mccOf c).held = [] := by
  rcases sget_listed (fun _ => ({} : MccSt)) c s.mem.mcc with hd | hm
  · simp [State.mccOf, hd, MccSt.held]
  · exact (State.waitingReqs_zero.mp h).2 _ hm

/-- Two states differ at most in the memory system and in the registers, and no request waits in the second. -/
def State.quietFrom (s t : State) : Prop := ∃ m rs, t = { s with mem := m, regs := rs } ∧ t.waitingReqs = 0

theorem State.quietFrom_trans {s t u : State} (h : s.quietFrom t) (h' : t.quietFrom u) : s.quietFrom u := by
  obtain ⟨m, rs, rfl, -⟩ := h
  obtain ⟨m', rs', rfl, hw⟩ := h'
  exact ⟨m', rs', rfl, hw⟩

theorem State.count_quiet {s : State} (id : RegId) (ix n : Nat) (h : s.waitingReqs = 0) : s.quietFrom (s.count id ix n) :=
  ⟨s.mem, (s.count id ix n).regs, rfl, h⟩

theorem State.takeTokens_quiet {s : State} (c : Nat) (r : DramReq) (t : Tier) (h : s.waitingReqs = 0) :
    s.quietFrom (s.takeTokens c r t) := by
  unfold State.takeTokens
  split
  · exact ⟨_, _, rfl, h⟩
  · exact ⟨s.mem, s.regs, rfl, h⟩

/-- One request of an engine, while none waits: pointers, tokens and the grant counter. -/
theorem State.passReq_quiet {s : State} (r : DramReq) (h : s.waitingReqs = 0) : s.quietFrom (s.passReq r) := by
  have h1 : ∀ n, (s.setPort r.stamp.port { s.port r.stamp.port with rr := n }).waitingReqs = 0 :=
    fun n => State.setPort_waiting h (State.port_waiting _ h)
  have hp : ∀ n, s.quietFrom (s.setPort r.stamp.port { s.port r.stamp.port with rr := n }) :=
    fun n => ⟨_, s.regs, rfl, h1 n⟩
  have h0 : s.letPass r (3 * s.waitingReqs) = s := by rw [h]; rfl
  unfold State.passReq; rw [h0]; dsimp only
  split
  · exact State.quietFrom_trans (hp _) (State.takeTokens_quiet _ _ _ (h1 _))
  · exact State.quietFrom_trans (hp _) ⟨_, s.regs, rfl, State.setMcc_waiting (h1 _) (State.mccOf_waiting _ (h1 _))⟩
  · exact hp _

theorem State.foldl_passReq_quiet : ∀ (l : List DramReq) {s : State}, s.waitingReqs = 0 →
    s.quietFrom (l.foldl State.passReq s)
  | [], s, h => ⟨s.mem, s.regs, rfl, h⟩
  | r :: l, s, h => by
    have h1 := State.passReq_quiet r h
    exact State.quietFrom_trans h1 (State.foldl_passReq_quiet l (by obtain ⟨_, _, _, hw⟩ := h1; exact hw))

theorem State.countAccess_quiet (st : Stamp) (write : Bool) : ∀ (l : List (Nat × Nat)) {s : State}, s.waitingReqs = 0 →
    s.quietFrom (s.countAccess st write l)
  | [], s, h => ⟨s.mem, s.regs, rfl, h⟩
  | (a, n) :: r, s, h => by
    unfold State.countAccess; dsimp only
    split
    · split
      · exact State.quietFrom_trans (State.count_quiet _ _ _ h) (State.countAccess_quiet st write r h)
      · exact State.quietFrom_trans (State.count_quiet _ _ _ h) (State.countAccess_quiet st write r h)
    · exact State.countAccess_quiet st write r h

/-- An access that the owner check lets pass, while no request waits, changes the memory system and its counters alone. -/
theorem State.pass_quiet {s : State} (st : Stamp) (a n : Nat) (write : Bool) (h : s.waitingReqs = 0) :
    s.quietFrom (s.pass st a n write) := by
  have h1 : s.quietFrom (s.countIssued st a n) := by
    unfold State.countIssued
    split
    · exact State.count_quiet _ _ _ h
    · exact ⟨s.mem, s.regs, rfl, h⟩
  have h2 := State.quietFrom_trans h1 (State.foldl_passReq_quiet (engineReqs st a n s.now write) h1.choose_spec.choose_spec.2)
  exact State.quietFrom_trans h2 (State.countAccess_quiet st write (pagePieces a n) h2.choose_spec.choose_spec.2)

/-- A read that the owner check lets pass gives the bytes of DRAM. -/
theorem State.memRead_open {s : State} {st : Stamp} {a n : Nat} (ha : a + n ≤ dramSize)
    (ho : s.firstRefused st a n false = none) (h : s.waitingReqs = 0) :
    ∃ t, s.memRead st a n = (t, some (t.dramGet a n)) ∧ s.quietFrom t := by
  refine ⟨s.pass st a n false, ?_, State.pass_quiet st a n false h⟩
  unfold State.memRead; rw [if_neg (by omega), ho]

/-- A write that the owner check lets pass stores its bytes. -/
theorem State.memWrite_open {s : State} {st : Stamp} {a : Nat} {l : List Byte} (ha : a + l.length ≤ dramSize)
    (ho : s.firstRefused st a l.length true = none) (h : s.waitingReqs = 0) :
    ∃ t, s.memWrite st a l = (t.dramPut a l, true) ∧ s.quietFrom t := by
  refine ⟨s.pass st a l.length true, ?_, State.pass_quiet st a l.length true h⟩
  unfold State.memWrite; rw [if_neg (by omega), ho]

end Sys2Proof.Machine
end

