-- ==== Sys2Proof/WellFormed.lean ====
section
/-! DEFINITION. Well-formed commands: what the numbers and lists among a command's operands must satisfy. A `Fin` or a
bit vector carries its own bound. A meaning is total: it also answers on an ill-formed command. -/

namespace Sys2Proof

/-- A write carries as many bytes as it writes, a read none. -/
def carries (size : Nat) (write : Bool) (data : List Byte) : Bool := data.length == (if write then size else 0)

/-- An instruction word is that of an Orangery instruction (R310). -/
def ogxWordOk (op : OgxOp) (word : BitVec 32) : Bool :=
  match decodeOgx word with
  | some (o, _, _) => o == op
  | none => false

/-- A sender that reaches more than DRAM. A shader core does not (R309): its other accesses are refused at the core, which the
rows REGISTER_WRITE, READ_CLEAR and COUNTER_READ show. -/
def offCore (who : Who) : Bool :=
  match who with
  | .orangery _ => false
  | _ => true

/-- The operands of a command are ones that a sender can send. -/
def Instr.wf (i : Instr) : Bool :=
  match i with
  | .powerOnReset => true
  | .powerFail => true
  | .resetNFall => true
  | .resetNRise _ _ => true
  | .rootPllLock _ _ => true
  | .railInRegulation _ _ _ => true
  | .registerWrite _ _ size value _ => decide (1 ≤ size ∧ size ≤ 8 ∧ value.toNat < 2 ^ (8 * size))
  | .readClear _ _ size _ => decide (1 ≤ size ∧ size ≤ 8)
  | .counterRead _ _ size => decide (1 ≤ size ∧ size ≤ 8)
  | .dramRequest _ _ len kind data => carries len kind.1 data && !(kind.1 && kind.2 == .maintain)
  | .holdQueueGrant _ => true
  | .mccServe _ _ _ => true
  | .scrub _ _ _ => true
  | .setSub who _ _ => offCore who
  | .setRo who _ => offCore who
  | .clearRo who _ => offCore who
  | .query who _ => offCore who
  | .retire who _ => offCore who
  | .ownCmdComplete _ => true
  | .commandFetch _ => true
  | .hifQqTailWrite who _ _ => offCore who
  | .hifQqCfgWrite who _ _ => offCore who
  | .dispatch => true
  | .nop _ _ => true
  | .run _ _ => true
  | .copy _ _ _ => true
  | .bind _ _ => true
  | .unbind _ _ => true
  | .admitSeq _ _ => true
  | .leave _ _ => true
  | .free _ _ => true
  | .operationComplete _ _ => true
  | .commandComplete _ _ => true
  | .commandDeadlineMiss _ _ => true
  | .queuedDeadlineMiss _ => true
  | .matmul _ _ _ _ => true
  | .conv2d _ _ _ _ _ _ _ => true
  | .eltwise _ _ _ _ _ => true
  | .norm _ _ _ _ => true
  | .softmax _ _ => true
  | .reduce _ _ _ => true
  | .quantise _ _ => true
  | .gather _ _ => true
  | .copyOperator _ _ => true
  | .attend _ => true
  | .exchange _ _ _ => true
  | .topk _ _ k _ => decide (1 ≤ k)
  | .operatorComplete _ => true
  | .partialMerge _ _ => true
  | .groveAdmissionReport _ _ _ _ digest _ _ _ => digest.length == 48
  | .groveAdmissionResult _ _ _ _ _ _ => true
  | .dmaDescriptor _ _ raw _ => raw.length == 32
  | .dmaDescriptorDone _ _ => true
  | .dmaStall _ _ _ _ => true
  | .inboundScratchpadAccess who _ size wr data _ => offCore who && carries size wr data.1 && data.2.length == (if wr then size else 0)
  | .bedPwrWrite who _ _ => offCore who
  | .bedPwrTransitionDone _ => true
  | .bedSlotWrite who _ _ _ => offCore who
  | .shareClearDone _ => true
  | .seqTrap _ _ _ => true
  | .load _ => true
  | .unload _ => true
  | .ctxCreate _ => true
  | .ctxDestroy _ => true
  | .ctxBind _ => true
  | .ctxUnbind _ => true
  | .ctxStats _ => true
  | .residencyTick => true
  | .plotStop _ => true
  | .plotRestart _ => true
  | .signal who _ _ => offCore who
  | .add who _ _ => offCore who
  | .semValueRead who _ => offCore who
  | .semWatchCfgWrite who _ _ => offCore who
  | .semWatchThreshWrite who _ _ => offCore who
  | .portTrain _ _ => true
  | .portRetrain _ => true
  | .flitReceive _ flit => flit.length == 256
  | .linkHello _ _ _ => true
  | .write _ => true
  | .read _ => true
  | .readData _ => true
  | .ack _ => true
  | .semSignal _ => true
  | .semAdd _ => true
  | .semRead _ => true
  | .remoteWindowAccess who _ size wr data => offCore who && carries size wr data
  | .join _ digest _ _ _ _ _ => digest.length == 48
  | .admitted => true
  | .leftOut _ => true
  | .formationWindowEnd => true
  | .formed _ _ => true
  | .noMaster => true
  | .time _ _ _ => true
  | .heartbeatSend => true
  | .heartbeat _ _ => true
  | .heartbeatReply _ _ _ _ => true
  | .heartbeatMissed _ => true
  | .expel _ _ => true
  | .frameStart _ _ _ _ => true
  | .longPacket _ _ _ data _ _ => decide (data.length ≤ 65535)
  | .frameEnd _ _ _ => true
  | .ispLine _ => true
  | .framePublish _ => true
  | .frameDeadline _ => true
  | .goldenWindowEnd _ => true
  | .frameMissing _ => true
  | .snsCfgWrite who _ _ => offCore who
  | .passFetch _ => true
  | .orgQpCfgWrite who _ _ => offCore who
  | .render _ _ _ => true
  | .tilePhase _ => true
  | .compute _ => true
  | .computeGroupEnd _ _ => true
  | .passComplete _ => true
  | .passDeadlineMiss _ _ => true
  | .shaderTrap _ _ _ => true
  | .ogxTex _ word _ _ _ => ogxWordOk .tex word
  | .ogxTexl _ word _ _ uv lods => ogxWordOk .texl word && uv.length == lods.length
  | .ogxRes _ word _ _ _ => ogxWordOk .res word
  | .ogxInterp _ word _ _ _ => ogxWordOk .interp word
  | .ogxOut _ insn _ => ogxWordOk .out insn.1
  | .commit who _ _ _ => offCore who
  | .latch _ => true
  | .dspLinkDown _ _ => true
  | .hpdRise _ => true
  | .ethFrameReceive _ frame _ => decide (18 ≤ frame.length)
  | .transmitStart _ => true
  | .transmitEnd _ => true
  | .gateEntryChange _ => true
  | .ethLinkUp _ _ => true
  | .ethLinkDown _ => true
  | .flwWrite who _ => offCore who
  | .flwDelete who _ => offCore who
  | .flwQuery who _ => offCore who
  | .flwCommit _ => true
  | .txDescriptor _ _ => true
  | .rxDeliver _ => true
  | .ringCfgWrite who _ _ => offCore who
  | .canArbitration _ => true
  | .canTxDone _ _ _ _ _ => true
  | .canFrameReceive _ _ _ _ => true
  | .errorPassive _ _ _ => true
  | .busOff _ _ => true
  | .busOffRecovery _ => true
  | .linFrame who _ _ => offCore who
  | .noResponse _ => true
  | .cvuContinue who _ _ => offCore who
  | .cvuCompute who _ _ => offCore who
  | .append who _ _ => offCore who
  | .checkStrip who _ _ => offCore who
  | .cvuOpDone _ => true
  | .syncReceive _ _ _ _ _ => true
  | .syncSend _ => true
  | .pdelayInitiate _ => true
  | .pdelayReq _ => true
  | .pdelayResp _ _ => true
  | .syncReceiptTimeout _ => true
  | .holdoverExpired _ => true
  | .timDkStep who _ _ => offCore who
  | .capture who _ _ => offCore who
  | .taskRelease _ => true
  | .gthTaskDone who _ => offCore who
  | .taskDeadlineMiss _ => true
  | .goldenTestDeadline _ => true
  | .gthWdogKick who _ => offCore who
  | .gthWatchdogTimeout => true
  | .clockMonitor _ => true
  | .supplyMonitor _ => true
  | .lockstepMismatch _ _ => true
  | .sliceStart _ _ => true
  | .sliceEnd _ _ _ => true
  | .selftestOverdue _ _ => true
  | .safeRequest who _ _ => offCore who
  | .debugToken _ _ _ _ => true
  | .attest _ => true
  | .random _ => true
  | .encCreate _ => true
  | .encImport _ => true
  | .encSeal _ => true
  | .encDestroy _ => true
  | .lcAdvance _ => true
  | .revoke _ _ _ _ _ => true
  | .tamper _ => true
  | .wipeDone => true
  | .rngHealth _ => true
  | .glsCtrPolicyWrite who _ => offCore who
  | .msiWrite who _ _ => offCore who
  | .inboundWrite _ _ _ _ data _ => decide (data.length ≤ 4096)
  | .inboundRead _ _ _ _ _ => true
  | .outboundAccess who _ size wr data => offCore who && carries size wr data
  | .outboundCompletion _ _ err data => err.val == 0 || data.isEmpty
  | .completionTimeout _ _ => true
  | .hifRprCfgDataAccess who _ _ _ _ => offCore who
  | .flr _ => true
  | .vfEnableClear => true
  | .pcieLinkDown _ => true
  | .openMbx _ => true
  | .closeMbx _ => true
  | .attach _ => true
  | .beat who _ _ => offCore who
  | .heartbeatLapse _ => true
  | .detachExpiry _ => true
  | .freeze _ => true
  | .freezeTimeout _ => true
  | .save _ => true
  | .restore _ => true
  | .thaw _ => true
  | .discard _ => true
  | .updBegin _ => true
  | .updBlock _ => true
  | .updStage _ => true
  | .updActivate _ => true
  | .kprHandoverReady who _ => offCore who
  | .handoverFail => true
  | .activationRetry => true
  | .updAbort _ => true
  | .updCommit _ => true
  | .logRead _ => true
  | .journalRead _ => true
  | .kprWdogKick who _ => offCore who
  | .keeperRestart => true
  | .logCollect _ => true
  | .logWrite => true
  | .limiterTick _ temps => temps.length == 28
  | .droop _ => true
  | .droopRelease => true
  | .railFault _ => true
  | .pllUnlock => true
  | .linFrameEnd _ data _ _ _ => decide (data.length ≤ 8)
  | .pcieLinkUp _ _ _ => true
  | .busMasterEnableSet _ _ => true
  | .pinInterrupt _ _ => true
  | .halfFormWindow => true

end Sys2Proof
end

