-- ==== Sys2Proof/Tests/Slice0.lean ====
section
/-! SUPPORT. Tests: an ill-formed command for each check of `Instr.wf`, and for each statement with hypotheses states that meet
them. Small states are built from one running device. -/

set_option Elab.async false

namespace Sys2Proof.Machine

/-! ### Ill-formed commands: each check of `Instr.wf` refuses one -/

theorem test_wf_writeSize : Instr.wf (.registerWrite .keeper (.addr 0) 0 0 0) = false := by decide
theorem test_wf_writeSizeBig : Instr.wf (.registerWrite .keeper (.addr 0) 9 0 0) = false := by decide
theorem test_wf_writeValue : Instr.wf (.registerWrite .keeper (.addr 0) 4 0x100000000 0) = false := by decide
theorem test_wf_writeFits : Instr.wf (.registerWrite .keeper (.addr 0) 4 0xFFFFFFFF 0) = true := by decide
theorem test_wf_readClear : Instr.wf (.readClear .keeper (.addr 0) 0 0) = false := by decide
theorem test_wf_readClearBig : Instr.wf (.readClear .keeper (.addr 0) 9 0) = false := by decide
theorem test_wf_counterRead : Instr.wf (.counterRead .keeper (.addr 0) 0) = false := by decide
theorem test_wf_counterReadBig : Instr.wf (.counterRead .keeper (.addr 0) 9) = false := by decide
theorem test_wf_dramRequest : Instr.wf (.dramRequest .keeper 0 64 (true, .bypass) []) = false := by decide
theorem test_wf_dramRequestRead : Instr.wf (.dramRequest .keeper 0 64 (false, .bypass) [0]) = false := by decide
theorem test_wf_dramMaintain : Instr.wf (.dramRequest (.core 0) 0 1 (true, .maintain) [0]) = false := by decide
theorem test_wf_offCore : ([.setSub (.orangery 0) 0 0, .setRo (.orangery 0) 0, .clearRo (.orangery 0) 0, .query (.orangery 0) 0,
    .retire (.orangery 0) 0, .hifQqTailWrite (.orangery 0) 0 0, .hifQqCfgWrite (.orangery 0) 0 0, .bedPwrWrite (.orangery 0) 0 0,
    .bedSlotWrite (.orangery 0) 0 0 0, .signal (.orangery 0) 0 0, .add (.orangery 0) 0 0, .semValueRead (.orangery 0) 0,
    .semWatchCfgWrite (.orangery 0) 0 0, .semWatchThreshWrite (.orangery 0) 0 0, .snsCfgWrite (.orangery 0) 0 0,
    .orgQpCfgWrite (.orangery 0) 0 0, .commit (.orangery 0) 0 0 0, .flwWrite (.orangery 0) 0, .flwDelete (.orangery 0) 0,
    .flwQuery (.orangery 0) 0, .ringCfgWrite (.orangery 0) (.gwy 0 false) 0, .linFrame (.orangery 0) 0 0] : List Instr).all
      (fun i => !i.wf) = true := by decide
theorem test_wf_offCore2 : ([.cvuContinue (.orangery 0) 0 false, .cvuCompute (.orangery 0) 0 false, .append (.orangery 0) 0 false,
    .checkStrip (.orangery 0) 0 false, .timDkStep (.orangery 0) 0 0, .capture (.orangery 0) 0 0, .gthTaskDone (.orangery 0) 0,
    .gthWdogKick (.orangery 0) 0, .safeRequest (.orangery 0) 0 0, .glsCtrPolicyWrite (.orangery 0) 0, .msiWrite (.orangery 0) 0 0,
    .outboundAccess (.orangery 0) 0 0 false [], .hifRprCfgDataAccess (.orangery 0) 0 false 0 none, .beat (.orangery 0) 0 0,
    .kprHandoverReady (.orangery 0) 0, .kprWdogKick (.orangery 0) 0, .remoteWindowAccess (.orangery 0) 0 0 false [],
    .inboundScratchpadAccess (.orangery 0) 0 0 false ([], []) .clean] : List Instr).all (fun i => !i.wf) = true := by decide
theorem test_wf_inboundData : Instr.wf (.inboundScratchpadAccess .keeper 0 1 true ([], [true]) .clean) = false := by decide
theorem test_wf_inboundEnables : Instr.wf (.inboundScratchpadAccess .keeper 0 1 true ([0], []) .clean) = false := by decide
theorem test_wf_topk : Instr.wf (.topk 0 [] 0 false) = false := by decide
theorem test_wf_admissionReport : Instr.wf (.groveAdmissionReport 0 0 0 0 [] [] [] []) = false := by decide
theorem test_wf_descriptor : Instr.wf (.dmaDescriptor 0 0 [] (none, .clean)) = false := by decide
theorem test_wf_flit : Instr.wf (.flitReceive 0 []) = false := by decide
theorem test_wf_remoteWindow : Instr.wf (.remoteWindowAccess .keeper 0 4 true []) = false := by decide
theorem test_wf_join : Instr.wf (.join 0 [] 0 0 0 0 0) = false := by decide
theorem test_wf_longPacket (l : List Byte) (h : 65536 ≤ l.length) : Instr.wf (.longPacket 0 0 0 l true 0) = false := by
  show decide (l.length ≤ 65535) = false
  exact decide_eq_false (by omega)
theorem test_wf_ogx : Instr.wf (.ogxTex 0 0 0 0 []) = false ∧ Instr.wf (.ogxTexl 0 0x5B 0 0 [] []) = false ∧
    Instr.wf (.ogxRes 0 0x0200205B 0 0 []) = false ∧ Instr.wf (.ogxInterp 0 0x505B 0 0 []) = false ∧
    Instr.wf (.ogxOut 0 (0x40DB, 0) []) = false ∧ Instr.wf (.ogxTex 0 0x0020005B 0 0 []) = true := by decide
theorem test_wf_texl : Instr.wf (.ogxTexl 0 0x105B 0 0 [] [0]) = false ∧ Instr.wf (.ogxTexl 0 0x105B 0 0 [] []) = true := by decide
theorem test_wf_ethFrame : Instr.wf (.ethFrameReceive 0 [] none) = false := by decide
theorem test_wf_inboundWrite (l : List (Option Byte)) (h : 4097 ≤ l.length) :
    Instr.wf (.inboundWrite 0 0 0 0 l false) = false := by
  show decide (l.length ≤ 4096) = false
  exact decide_eq_false (by omega)
theorem test_wf_outboundAccess : Instr.wf (.outboundAccess .keeper 0 4 false [0]) = false := by decide
theorem test_wf_outboundCompletion : Instr.wf (.outboundCompletion 0 0 1 [0]) = false := by decide
theorem test_wf_limiterTick : Instr.wf (.limiterTick 0 []) = false := by decide
theorem test_wf_linFrameEnd : Instr.wf (.linFrameEnd 0 (List.replicate 9 0) 0 true false) = false := by decide
theorem test_wf_railInRegulation : Instr.wf .dispatch = true := by decide

/-! ### Small states -/

/-- The Site Plan of the tests: Plot 0 runs, Plot 1 is secure, Plot 2 has next to nothing. -/
def tPlan : Plan where
  planId := 7
  version := 3
  isAlternate := false
  altBound := false
  altDigest := []
  powerLimit := 40
  plotCount := 3
  groveSize := 1
  plots := [⟨0, 2, true, true, false, 3, 4, []⟩, ⟨1, 1, false, false, true, 2, 2, []⟩, ⟨2, 0, false, false, false, 1, 1, []⟩]
  assigns := [⟨0x01, 0, 0, 4, false⟩, ⟨0x01, 1, 4, 4, false⟩, ⟨0x03, 0, 0, 8, false⟩, ⟨0x04, 0, 0, 2, false⟩,
    ⟨0x05, 0, 0, 4, false⟩, ⟨0x06, 0, 0, 256, false⟩, ⟨0x07, 0, 0, 2, false⟩, ⟨0x08, 0, 0, 2, false⟩,
    ⟨0x0E, 0, 0, 1, false⟩, ⟨0x0F, 0, 0, 2, false⟩]
  regions := [⟨0, 0x1000000, 1, 0, false⟩, ⟨0x1000000, 0x100000, 2, 1, true⟩]
  guars := [⟨0, 3, 1000, 1⟩]
  shares := [⟨0, 0, 0, 16⟩, ⟨0, 1, 0, 16⟩]
  classes := []
  streams := []
  pipes := []
  gates := []
  digest := List.replicate 48 0

/-- A device that runs under the plan of the tests, at 1 s. -/
def tS : State := { State.reset with
  dt := 1000000000 * 2 ^ 32
  plan := some tPlan
  spl := { state := 2 }
  pwr := { por := true, running := true, pll := true, strapped := true, rails := 0x7FF, railsDone := true }
  kpr := { state := 1, logOpen := true, reached := true }
  gth := { started := some 0, kicked := true, imageOk := true } }

/-- The body of a request, filled to 48 bytes. -/
def tBody (b : List Byte) : List Byte := (b ++ zeros 48).take 48

/-- The running device with a request of opcode `op` waiting in the mailbox of Plot 0. -/
def tAsk (s : State) (op : Nat) (b : List Byte) : State :=
  s.setMbx 0 { isOpen := true, feat := 0x7FF, busy := true, req := leBytes 4 1 ++ leBytes 2 op ++ zeros 10 ++ tBody b }

/-- A meaning answers a next state, and a test holds of it. -/
def tNext (o : Host.Outcome State Fault Refusal) (p : State → Bool) : Bool :=
  match o with
  | .next t => p t
  | _ => false

/-! ### General statements -/

theorem test_w_step : State.reset.wf = true ∧ (step (State.reset.enqueueFront .dispatch) = .next State.reset) :=
  ⟨by decide +kernel, by rfl⟩

/-- Safe state under the plan of the tests. -/
def tSafe : State := { tS with safe := ⟨true, 0x13, 0x10, 5⟩ }

theorem test_w_safe : tSafe.safe.safe = true ∧ tSafe.plan = some tPlan ∧
    tNext (step (tSafe.enqueueFront (.gthWdogKick .gatehouse 1))) (fun t => t.safe.safe && t.plan.isSome) = true := by
  decide +kernel

theorem test_w_safe_reset : tNext (step (tSafe.enqueueFront .resetNFall)) (fun t => !t.safe.safe && t.plan.isNone) = true := by
  decide +kernel

theorem test_w_reset : ({ tS with pwr := { por := true } } : State).pwr.por = true ∧
    ({ tS with pwr := { por := true } } : State).pwr.running = false := by decide

/-- A device before its boot. -/
def tBoot : State := { State.reset with pwr := { por := true, running := true, enabled := 1, rails := 3 } }

theorem test_w_boot_pll : tBoot.pwr.running = true ∧ tBoot.pwr.pll = false ∧ tBoot.kpr.stopped = false ∧
    tBoot.kpr.bcb.length = 2 ∧ tBoot.kpr.logOpen = false := by decide

theorem test_w_boot_rails (k : Fin 9) : let s : State := { tBoot with pwr := { tBoot.pwr with enabled := k.val + 1 } }
    s.kpr.stopped = false ∧ s.pwr.railsDone = false ∧ s.pwr.enabled = k.val + 1 ∧ s.now ≤ s.pwr.enabledAt + 200000 := by
  revert k; decide

theorem test_w_boot_late : let s : State := { tBoot with dt := 200001 * 2 ^ 32 }
    s.pwr.enabled = 1 ∧ s.pwr.enabledAt + 200000 < s.now := by decide

theorem test_w_tick_lower : let s : State := tS.wr .pctLimitMw 0 1000
    s.pwr.emPower = false ∧ s.rd .pctLimitMw 0 < (2000 : BitVec 32).toNat ∧
      tNext (exec (.limiterTick 2000 (List.replicate 28 0)) s) (fun t => !t.pwr.emPower && t.pwr.lim == [16, 15, 16]) = true := by
  decide +kernel

theorem test_w_tick_raise : let s : State := { tS.wr .pctLimitMw 0 1000 with
      pwr := { tS.pwr with lim := [15, 14, 16], below := some 0 } }
    s.pwr.emPower = false ∧ 100 * (979 : BitVec 32).toNat < 98 * s.rd .pctLimitMw 0 ∧
      tNext (exec (.limiterTick 979 (List.replicate 28 0)) s) (fun t => !t.pwr.emPower && t.pwr.lim == [15, 15, 16]) = true := by
  decide +kernel

theorem test_w_tick_keep : let s : State := { tS.wr .pctLimitMw 0 1000 with pwr := { tS.pwr with lim := [15, 14, 16] } }
    (980 : BitVec 32).toNat ≤ s.rd .pctLimitMw 0 ∧ ¬ 100 * (980 : BitVec 32).toNat < 98 * s.rd .pctLimitMw 0 ∧
      tNext (exec (.limiterTick 980 (List.replicate 28 0)) s) (fun t => !t.pwr.emPower && t.pwr.lim == [15, 14, 16]) = true := by
  decide +kernel

theorem test_w_levels : (∀ g ∈ [1, 2, 3], g = 1 ∨ g = 2 ∨ g = 3) ∧ (1 ≤ 1 ∧ 16 ≤ 16) ∧
    lowerLevels [1, 2, 3] [1, 16, 8] = [1, 15, 8] ∧ raiseLevels [1, 2, 3] [1, 8, 16] = [1, 9, 16] := by decide

theorem test_w_droop : tS.pwr.droop = none ∧ tS.pwr.railsDone = true := by decide

theorem test_w_droop_release : let s : State := { tS with pwr := { tS.pwr with droop := some (999900000, 3) } }
    s.pwr.droop = some (999900000, 3) ∧ 10000 < s.now - 999900000 - 1000 ∧
    (let s' : State := { tS with pwr := { tS.pwr with droop := some (999999000, 3) } }
     s'.now - 999999000 - 1000 ≤ 10000) := by decide +kernel

/-- A record raised at 999,995 µs, on its way. -/
def tRec : FaultRec := { time := 999995000, source := 0x1400, cls := 0x10, severity := 0, status := 0 }

theorem test_w_collect : let s : State := { tS with log := { raised := [tRec] } }
    s.log.raised[0]? = some tRec ∧ s.log.held.length < 4096 ∧ s.now ≤ tRec.time + 10000 := by decide +kernel

theorem test_w_collect_full : let s : State := { tS with log := { raised := [tRec], held := List.replicate 4096 tRec } }
    s.log.raised[0]? = some tRec ∧ 4096 ≤ s.log.held.length ∧ tRec.severity = 0 :=
  ⟨rfl, Nat.le_of_eq (List.length_replicate (n := 4096) (a := tRec)).symm, rfl⟩

theorem test_w_logWrite : let r : FaultRec := { tRec with time := 999990000 }
    let s : State := { tS with log := { held := [r] } }
    s.wf = true ∧ s.log.held = [r] ∧ r.time + 10000 ≤ s.now ∧
      tNext (exec .logWrite s) (fun t => t.kpr.logWr == 1 && t.dramGet logRing 4 == [0xF0, 0xA2, 0x9A, 0x3B]) = true := by decide +kernel

/-! ### Memory -/

/-- A read of 64 bytes by core 0. -/
def tReq : DramReq := ⟨tS.stampOf (.core 0), 0, 64, false, [], 0, false⟩

theorem test_w_dram : tS.stampOf (.core 0) = ⟨144, 0, 3, false, 0xFFFF⟩ ∧
    (0x2000 : BitVec 48).toNat % 256 = 0 ∧ (0x2000 : BitVec 48).toNat + 256 ≤ dramSize ∧ (tS.pageOf 0x2000).isSome = true ∧
    (zeros 256).length = 256 ∧ tS.pageOf 0x1FC0000000 = some (0, 130048) ∧ (tS.pageOf 0x1FFFFFFFC0).isSome = true ∧
    tS.pageOf 0x1100000 = none := by decide +kernel

/-- The plan of the tests with a kind 0x02 assignment: Plot 0 holds four ways of the system cache. -/
def tCacheS : State := { tS with plan := some { tPlan with assigns := tPlan.assigns ++ [⟨0x02, 0, 0, 4, false⟩] } }

/-- Line 128 of core 0, in way 0. -/
def tLine : CacheLine := ⟨0, 0, 128, 0, false, zeros 64⟩

theorem test_w_cache : usesCache (.core 0) = true ∧ (tCacheS.cacheWays (tCacheS.stampOf (.core 0))).isEmpty = false ∧
    ({ tCacheS with mem := { tCacheS.mem with cache := [tLine] } } : State).cacheHits (tCacheS.stampOf (.core 0)) (linesOf 0x2000 64) = true ∧
    tLine.data = tCacheS.dramGet 0x2000 64 := by decide +kernel

theorem test_w_cache_maintain : tNext (exec (.dramRequest (.core 0) 0x2000 64 (false, .maintain) [])
    { tCacheS with mem := { tCacheS.mem with cache := [tLine] } }) (fun t => t.mem.cache == []) = true := by decide +kernel

theorem test_w_owner : tS.ownerCheck (tS.stampOf (.core 0)) 0x2000 true = none ∧
    tS.ownerCheck (tS.stampOf (.core 4)) 0x2000 true = some 0x02 ∧ tPlan.region 0x1100000 = none ∧
    (tPlan.region 0xFFFFFF).map (·.plot) = some 0 ∧ reservedOk (tS.stampOf .keeper) keeperBase = true ∧
    reservedOk (tS.stampOf .keeper) gthBase = false ∧ State.reset.plan = none := by decide +kernel

/-- Core cluster 0 holds one request. -/
def tPort : State := tS.setPort 144 { hold := [(3, [tReq])], rr := 3 }

theorem test_w_grant : tPort.inFlight 144 < portLimit 144 ∧ (tPort.port 144).rr < 129 ∧
    sget (fun _ => []) (tPort.port 144).hold (tPort.port 144).rr = [tReq] ∧ tPort.channelOf tReq.addr = 0 ∧
    tPort.tierFor (tPort.channelOf tReq.addr) tReq = some .guaranteed := by decide +kernel

theorem test_w_grant_full : let s := tS.setMcc 0 { slots := List.replicate 300 ⟨tReq, .shared, 0⟩ }
    144 ≤ (144 : Fin 161).val ∧ portLimit (144 : Fin 161).val ≤ s.inFlight (144 : Fin 161).val := by decide +kernel

/-- A shared read and a device write of 128 bytes wait in channel 0. -/
def tMcc : MccSt := { slots := [⟨{ tReq with len := 128 }, .shared, 0⟩,
  ⟨⟨⟨158, 0xFF, 7, false, 0xFFFF⟩, gthBase, 128, true, zeros 128, 0, false⟩, .device, 5⟩] }

theorem test_w_choose : ∃ x, tMcc.choose (fun _ => true) = some (1, x) ∧ x.tier = .device ∧ x.req.len ≠ 64 ∧
    tS.ownerCheck x.req.stamp x.req.addr x.req.write = none := ⟨_, rfl, by decide +kernel⟩

theorem test_w_choose_read : ∃ x, tMcc.choose (fun y => !y.req.write) = some (0, x) ∧ x.tier ≠ .guaranteed ∧ x.req.write = false :=
  ⟨_, rfl, by decide +kernel⟩

theorem test_w_serve : let s := tS.setMcc 0 { slots := [⟨{ tReq with len := 128 }, .shared, 0⟩] }
    (s.mccOf 0).choose (fun _ => true) = some (0, ⟨{ tReq with len := 128 }, .shared, 0⟩) ∧
    s.ownerCheck tReq.stamp tReq.addr tReq.write = none ∧
    s.ownerCheck tReq.stamp 0x1000000 true = some 0x02 := by decide +kernel

theorem test_w_serve_half : let x : SlotReq := ⟨{ tReq with len := 256 }, .shared, 0⟩
    ({ slots := [x] } : MccSt).choose (fun _ => true) = some (0, x) ∧ x.req.len = 256 ∧
    ((tS.setMcc 0 { half := some x }).mccOf 0).half = some x ∧ tS.ownerCheck x.req.stamp x.req.addr false = none := by decide +kernel

theorem test_w_scrub : bits ((tS.wr .mccEccCfg 0 0).rd .mccEccCfg 0) 3 0 = 0 := by
  decide +kernel

/-- OWN slots 0 and 16 name one page of Plot 0. -/
def tOwn : State := (tS.wr .ownCmdCount 0 1).wr .ownCmdCount 16 1

theorem test_w_own : tOwn.isCoreOf (.core 0) 0 = true ∧ (tOwn.ownSlot 0).busy = false ∧ isKeeper .keeper = true ∧
    (tOwn.ownSlot 16).busy = false ∧ tOwn.rd .ownCmdCount 0 = 1 ∧ bits 0x41F 11 10 ≠ 3 ∧ bits 0x81F 9 5 = 0 ∧
    tOwn.ownPageOk 0 1 (tOwn.rd .ownCmdAddr 0) = true ∧
    tOwn.ownTouchesSecure (tOwn.ownPages (tOwn.rd .ownCmdAddr 0) 1) = false ∧
    tOwn.ownPageOk 16 5 (tOwn.rd .ownCmdAddr 16) = true := by decide +kernel

theorem test_w_own_refused : (tOwn.wr .ownCmdAddr 0 0x1000000).ownPageOk 0 1 0x1000000 = false ∧
    (tOwn.wr .ownCmdAddr 0 0x1000000).rd .ownCmdAddr 0 = 0x1000000 := by decide +kernel

theorem test_w_own_complete : let s := tS.setOwnSlot 3 { busy := true, pendStatus := stDONE, pendResult := some 4 }
    (s.ownSlot 3).busy = true ∧ tNext (exec (.ownCmdComplete 3) s) (fun t => (t.ownSlot 3).result == 4) = true := by
  decide +kernel

/-! ### Queues and commands -/

/-- A NOP of context 0. -/
def tCmd : Cmd where
  seq := 1
  tag := 1
  opcode := 0
  flags := 0
  ctx := 0
  waitSem := 0xFFFF
  signalSem := 0xFFFF
  raw0E := 0
  waitValue := 0
  signalValue := 0
  deadline := 0
  args := zeros 24

/-- Context 0 of Plot 0, bound and resident on Bed 0; queue 0 is enabled with 16 entries. -/
def tQ : State :=
  { ((tS.wr .hifQCfg 0 0x201).wr .bedSlot 0 0x10000) with
    tensor := {
      ctxs := [(0, some { plot := 0, via := 0, binds := [(0, 0)] })]
      beds := [(0, { pwr := .on })] } }

theorem test_w_fetch : let s := tQ.wr .hifQTail 0 1
    s.wf = true ∧ s.fetchable 0 = true ∧ (s.queue 0).head = none ∧ (s.queue 0).waiting = [] ∧
    s.rd .hifQHead 0 ≠ s.rd .hifQTail 0 ∧ bits (s.rd .hifQCfg 0) 10 7 = 4 ∧ s.rd .hifQBase 0 = 0 ∧
    s.accessFree (s.queueStamp 0) 0 64 false ∧ (s.queue 0).window.find? (fun w => w.1 == 0) = none ∧
    s.flight? 0 0 = none ∧ tNext (exec (.commandFetch 0) s) (fun t => (t.queue 0).head.isSome && t.rd .hifQHead 0 == 1) = true := by
  decide +kernel

theorem test_w_tail : tQ.queueWriter (.core 0) 0 true = true ∧ tQ.queueWriter (.core 4) 0 true = false ∧
    ((16 : BitVec 32).toNat + 2 ^ 32 - tQ.rd .hifQHead 0) % 2 ^ 32 ≤ 2 ^ bits (tQ.rd .hifQCfg 0) 10 7 := by decide +kernel

theorem test_w_cfg : tS.wf = true ∧ tS.queueWriter (.core 0) 1 false = true ∧ tS.queueCfgOk 1 0x601 = true ∧
    bit 0x601 0 = true ∧ bit (tS.rd .hifQCfg 1) 0 = false ∧ tS.queueWriter (.core 4) 1 false = false := by decide +kernel

/-- Queue 0 has a head, the NOP. -/
def tHead : State := tQ.setQueue 0 { head := some { cmd := tCmd, headTime := 0, lastSeen := 0 } }

theorem test_w_dispatch : tHead.chosenQueue = some 0 ∧ tHead.safe.safe = false ∧ tHead.touch.chosenQueue = some 0 ∧
    ((tHead.touch.queue 0).head.map (·.cmd)) = some tCmd ∧ tHead.touch.dispatchRefusal 0 tCmd = none := by decide +kernel

theorem test_w_dispatch_refused : let c : Cmd := { tCmd with ctx := 5 }
    let s := tQ.setQueue 0 { head := some { cmd := c, headTime := 0, lastSeen := 0 } }
    s.touch.chosenQueue = some 0 ∧ s.touch.dispatchRefusal 0 c = some stREFUSED_PLAN := by decide +kernel

/-- The command `c` of queue 0 is in flight on Pavilion 0. -/
def tFly (s : State) (c : Cmd) : State :=
  { s with tensor := { s.tensor with flights := [{ queue := 0, cmd := c, ops := [{ pav := 0, slot := 0, order := 1 }], headTime := 0, semNs := 0, resNs := 0 }] } }

/-- The flight of `tFly`. -/
def tFlight (c : Cmd) : Flight :=
  { queue := 0, cmd := c, ops := [{ pav := 0, slot := 0, order := 1 }], headTime := 0, semNs := 0, resNs := 0 }

/-- The command of `tFly` may run, where its context, its space and the power state let it. -/
theorem tFly_mayRun (s : State) (c : Cmd) (h : (tFly s c).safe.safe = false) (ht : (tFly s c).inTurn (tFlight c) = true)
    (hs : (tFly s c).stepOpening c = false) (hg : (tFly s c).slicing 1 0 = false) (hc : (tFly s c).clockOff 0 = false) :
    (tFly s c).mayRun 0 c.seq c.opcode (tFlight c) := by
  refine ⟨?_, rfl, rfl, h, ht, hs, ?_⟩
  · simp [State.flight?, tFly, tFlight]
  · intro o ho
    simp only [tFlight, List.mem_singleton] at ho
    subst ho
    exact ⟨rfl, hg, hc⟩

theorem test_w_nop : (tFly tQ tCmd).mayRun 0 1 0x00 (tFlight tCmd) :=
  tFly_mayRun tQ tCmd (by decide +kernel) (by decide +kernel) (by decide +kernel) (by decide +kernel) (by decide +kernel)

/-- A descriptor of a small space: 64 wide, one layer and head, sequences 0 to 3, four blocks, all below 1 MiB. -/
def tDesc : List Byte :=
  leBytes 4 0x564B5A53 ++ leBytes 2 1 ++ leBytes 2 1 ++ leBytes 2 1 ++ leBytes 2 64 ++ leBytes 2 1 ++ leBytes 1 1 ++ leBytes 1 1 ++
  leBytes 2 4 ++ leBytes 2 1 ++ leBytes 2 1 ++ leBytes 1 0 ++ leBytes 1 0 ++ leBytes 8 0x10000 ++ leBytes 8 0x20000 ++ leBytes 4 4 ++
  leBytes 2 1 ++ zeros 2 ++ leBytes 8 0x12000 ++ leBytes 8 0x14000 ++ zeros 56

/-- BIND to Pavilion 0, by the descriptor at 0x8000. -/
def tBind : Cmd := { tCmd with opcode := 0x10, args := leBytes 8 0x8000 ++ zeros 16 }

/-- The check answers a space, or a status. -/
def isOk {ε α : Type} : Except ε α → Bool
  | .ok _ => true
  | .error _ => false

theorem test_w_bind : let s := tFly (tQ.dramPut 0x8000 tDesc) tBind
    let s0 := s.startFlight 0 1
    isOk (s0.bindCheck (s0.trlStamp (fld tBind.args 9 1) 0 tBind.ctx) tBind).2 = true := by decide +kernel

theorem test_w_bind_run : (tFly (tQ.dramPut 0x8000 tDesc) tBind).mayRun 0 1 0x10 (tFlight tBind) :=
  tFly_mayRun _ tBind (by decide +kernel) (by decide +kernel) (by decide +kernel) (by decide +kernel) (by decide +kernel)

theorem test_w_bind_refused : let s := tFly tQ tBind
    let s0 := s.startFlight 0 1
    isOk (s0.bindCheck (s0.trlStamp (fld tBind.args 9 1) 0 tBind.ctx) tBind).2 = false := by decide +kernel

/-- A space of the descriptor, in slot 0 of Pavilion 0; sequence 1 is ACTIVE. -/
def tSpace : Space := { readSpace tDesc 0x8000 0 0 0 with seqs := [(1, { state := 2, lane := 0 })] }

/-- The device holds that space. -/
def tTrl : State := tQ.setSpace 0 (some tSpace)

/-- A Trellis command for sequences 0 and 1. -/
def tSeqs (op : Nat) : Cmd := { tCmd with opcode := op, args := zeros 4 ++ leBytes 2 2 ++ zeros 18 }

theorem test_w_space (op : Nat) (h : op ∈ [0x11, 0x12, 0x13]) : ((tFly tTrl (tSeqs op)).cmdSpace (tSeqs op)) = some (0, tSpace) ∧
    (tFly tTrl (tSeqs op)).mayRun 0 1 op (tFlight (tSeqs op)) ∧ (tFly tTrl (tSeqs op)).spaceQueued 0 = false ∧
    tSpace.open_ = none ∧ 0 ∈ (tSeqs op).seqRange ∧ (tSpace.seq 0).state = 0 ∧ 1 ∈ (tSeqs op).seqRange ∧
    (tSpace.seq 1).state = 2 := by
  have hs : (tFly tTrl (tSeqs op)).stepOpening (tSeqs op) = false := by
    simp only [List.mem_cons, List.not_mem_nil, or_false] at h
    rcases h with rfl | rfl | rfl <;> decide +kernel
  exact ⟨rfl, tFly_mayRun tTrl (tSeqs op) rfl rfl hs rfl rfl, rfl, rfl, by show 0 ∈ (tSeqs 0).seqRange; decide +kernel,
    by decide +kernel, by show 1 ∈ (tSeqs 0).seqRange; decide +kernel, by decide +kernel⟩

/-- FREE of the block list at 0x9000, one block; the space has a step open. -/
def tFree : Cmd := { tCmd with opcode := 0x14, args := zeros 4 ++ leBytes 4 1 ++ leBytes 8 0x9000 ++ zeros 8 }

theorem test_w_unbind_busy : let s := tFly (tQ.setSpace 0 (some { tSpace with open_ := some (0, 9) })) (tSeqs 0x11)
    (s.cmdSpace (tSeqs 0x11)).map (·.2.open_) = some (some (0, 9)) := by decide +kernel

theorem test_w_free : let x : Space := { tSpace with open_ := some (0, 9) }
    let s := tFly (tQ.setSpace 0 (some x)) tFree
    let s0 := s.startFlight 0 1
    let st := s0.trlStamp 0 0 0
    let r := s0.memRead st (fld tFree.args 8 8) (4 * fld tFree.args 4 4)
    s.cmdSpace tFree = some (0, x) ∧ s.safe.safe = false ∧ r.2 = some (zeros 4) ∧ (r.1.ringUsed st x).2 = 0 ∧
    0 < x.poolBlocks ∧ x.quar.length + 0 + 1 ≤ x.poolBlocks := by decide +kernel

/-- A program of context 0 without operators but one on virtual Bed 0. -/
def tProg : Prog where
  gen := 0
  ctx := 0
  imageLen := 4096
  vbeds := 1
  devices := 1
  argCount := 0
  semCount := 0
  semFirst := 0
  ops := [⟨0x0004, 0, 0, 1, 0, 1, 1, 0, 0, 0, 0xFF, 0xFF, 0, 0⟩]
  tensors := []
  segs := []
  code := []
  binds := []
  lo := 0
  map := [0]
  digest := zeros 48

/-- RUN of that program with the argument block at 0x9000. -/
def tRun : Cmd := { tCmd with opcode := 0x01, args := leBytes 4 0 ++ leBytes 2 0 ++ leBytes 2 0 ++ leBytes 8 0x9000 ++ zeros 8 }

/-- The device holds the program. -/
def tProgS : State := { tQ with tensor := { tQ.tensor with progs := [(0, some tProg)] } }

theorem test_w_run : let s := tFly tProgS tRun
    s.flight? 0 1 = some (tFlight tRun) ∧ (tFlight tRun).checked = false ∧ (tFlight tRun).finished = false ∧
    (tFlight tRun).argsBad = false ∧ s.inTurn (tFlight tRun) = true ∧ s.safe.safe = false ∧ s.cmdProg tRun = some tProg ∧
    isOk (s.argCheck (s.flightStamp (tFlight tRun)) tProg 0x9000).2 = true ∧ (∀ o ∈ tProg.ops, o.kind ≠ 0x000A) := by
  decide +kernel

theorem test_w_run_refused : let s := tFly (tProgS.dramPut 0x9000 [0, 2]) tRun
    s.cmdProg tRun = some tProg ∧ isOk (s.argCheck (s.flightStamp (tFlight tRun)) tProg 0x9000).2 = false := by
  decide +kernel

/-- COPY of 64 bytes from DRAM to Bed 0. -/
def tCopy : Cmd := { tCmd with opcode := 0x02, args := zeros 12 ++ leBytes 4 64 ++ zeros 8 }

theorem test_w_copy : let s := tFly tQ tCopy
    let s0 := (s.startFlight 0 1).updFlight 0 1 (fun f => { f with
      ops := f.ops.map (fun o => { o with parts := o.parts.map (fun b => { b with started := true }) }) })
    let d : Desc := ⟨0, 0, 0xFF, 0, 1, 64, 0, 0, 0, 0⟩
    let r := s0.runDesc 0 3 d (s0.bedStamp 0 (tFlight tCopy)) none
    s.flight? 0 1 = some (tFlight tCopy) ∧ (tFlight tCopy).finished = false ∧ s.still 0 = false ∧
    s.copyReady (tFlight tCopy) = true ∧ ((r.1.bed 0).ch 3).pend = 0 ∧
    r.1.flight? 0 1 = s0.flight? 0 1 ∧ r.2 = stDONE := by decide +kernel

/-- An operation that can complete with a status. -/
def tReady (w : Nat) : State := { tQ with tensor := { tQ.tensor with flights := [{
  tFlight tCmd with ops := [{ pav := 0, slot := 0, order := 1, ready := some w }, { pav := 1, slot := 0, order := 1 }] }] } }

theorem test_w_operation (w : Nat) : let s := tReady w
    let mine := fun (x : Oper) => x.pav == 0 && x.slot == 0 && x.status.isNone
    ∃ f o, s.tensor.flights.find? (fun g => g.ops.any mine) = some f ∧ f.ops.find? mine = some o ∧ s.operDone f o = some w ∧
      s.flight? f.queue f.cmd.seq = some f := ⟨_, _, rfl, rfl, rfl, rfl⟩

theorem test_w_complete : let f : Flight := { tFlight tCmd with ops := [{ pav := 0, slot := 0, order := 1, status := some 0 }] }
    let s : State := { tQ with tensor := { tQ.tensor with flights := [f] } }
    s.safe.safe = false ∧ s.flight? 0 1 = some f ∧ f.finished = true ∧ s.readyBefore f = [] ∧
    tNext (exec (.commandComplete 0 1) s) (fun t => (t.queue 0).window.head? == some (1, 0)) = true := by decide +kernel

/-- A NOP whose deadline has passed. -/
def tLate : Cmd := { tCmd with flags := 4, deadline := 5 }

theorem test_w_late : let s := tFly tQ tLate
    s.flight? 0 1 = some (tFlight tLate) ∧ (tFlight tLate).missed = false ∧ s.passed tLate = true ∧ 2 ≤ s.missSeverity 0 := by
  decide +kernel

/-- The plan of the tests with a class record of severity 1 for queue 0. -/
def tSoft (s : State) : State := { s with plan := some { tPlan with classes := [⟨0x05, 0, 0, 3, 1, 0, 0⟩] } }

theorem test_w_late_soft : let s := tSoft (tFly tQ tLate)
    s.flight? 0 1 = some (tFlight tLate) ∧ s.passed tLate = true ∧ s.missSeverity 0 = 1 ∧
    tNext (exec (.commandDeadlineMiss 0 1) s) (fun t => (t.flight? 0 1).map (·.late) == some true) = true := by decide +kernel

theorem test_w_late_head : let s := tQ.setQueue 0 { head := some { cmd := tLate, headTime := 0, lastSeen := 0 } }
    ((s.queue 0).head.map (·.cmd)) = some tLate ∧ s.passed tLate = true ∧ 2 ≤ s.missSeverity 0 ∧ (tSoft s).missSeverity 0 = 1 ∧
    tNext (exec (.queuedDeadlineMiss 0) s) (fun t => (t.queue 0).window.head? == some (1, stDEADLINE_MISSED)) = true := by
  decide +kernel

theorem test_w_sem : tS.wf = true ∧ tS.semAllowed (tS.stampOf (.core 0)) 255 = true ∧
    tS.semAllowed (tS.stampOf (.core 0)) 256 = false ∧ (3 : BitVec 32).toNat ≠ 0 := by decide +kernel

theorem test_w_watch : tS.wf = true ∧ tS.isCoreOf (.core 0) 0 = true ∧ tS.ownerOf 0x06 255 = 0 ∧
    bit (tS.rd .semWatchCfg 15) 16 = false ∧ tS.semVal 255 < (tS.wr .semWatchThresh 15 4).rd .semWatchThresh 15 ∧
    tS.rd .semWatchThresh 15 ≤ tS.semVal 255 ∧ bit ((tS.wr .semWatchCfg 15 0x10000).rd .semWatchCfg 15) 16 = true := by
  decide +kernel

theorem test_w_watch_pending : let s := tS.wr .semWatchCfg 15 0x20000
    bit (s.rd .semWatchCfg 15) 16 = false ∧ bit (s.rd .semWatchCfg 15) 17 = true ∧
    tNext (exec (.semWatchCfgWrite (.core 0) 15 (BitVec.ofNat 32 (255 + 65536))) (s.wr .semWatchThresh 15 4))
      (fun t => t.out == [.irq 0 (srcId .sem 15)] && t.tensor.armed.contains 15) = true := by decide +kernel

theorem test_w_disarm : ({ tS with tensor := { tS.tensor with armed := [15] } } : State).tensor.armed.contains 15 = true ∧
    tNext (exec (.semWatchCfgWrite .keeper 15 255) { tS with tensor := { tS.tensor with armed := [15] } })
      (fun t => !t.tensor.armed.contains 15) = true := by decide +kernel

/-! ### Operators and Beds -/

/-- The program of the tests with its operator of kind `k`. -/
def tKind (k : Nat) : Prog := { tProg with ops := [⟨k, 0, 0, 1, 0, 0, 0, 0, 0, 65536, 0xFF, 0xFF, 16, 0⟩], code := zeros 64 }

/-- A RUN of it, checked, that Bed 0 may go on with. -/
def tGo : Flight := { tFlight tRun with
  ops := [{ pav := 0, slot := 0, order := 1, parts := [{ bed := 0, next := 0 }], started := true }]
  startTime := some 5, checked := true }

/-- The device with that RUN in flight. -/
def tOp (k : Nat) : State := { tQ with tensor := { tQ.tensor with progs := [(0, some (tKind k))], flights := [tGo] } }

theorem test_w_chosen (k : Nat) : ∃ c, (tOp k).chosenOp 0 = some c ∧ c.op.kind = k := ⟨_, rfl, rfl⟩

/-- The operator of `tOpT` has one input and two outputs of four BF16 elements in its share. -/
def tKindT (k : Nat) : Prog := { tProg with
  ops := [⟨k, 0, 0, 1, 0, 1, 2, 0, 0, 65536, 0xFF, 0xFF, 16, 0⟩]
  tensors := [⟨0x0001, 1, 2, 0, [4, 1, 1, 1], 0, 0, 0, 0⟩, ⟨0x0001, 1, 2, 0, [4, 1, 1, 1], 64, 0, 0, 0⟩,
    ⟨0x0001, 1, 2, 0, [4, 1, 1, 1], 128, 0, 0, 0⟩]
  code := zeros 64 }

/-- The device with that RUN in flight. -/
def tOpT (k : Nat) : State := { tQ with tensor := { tQ.tensor with progs := [(0, some (tKindT k))], flights := [tGo] } }

/-- The share of context 0 on Bed 0 holds 1 MiB from its slot's base on. -/
theorem tShare (k : Nat) : ((tOpT k).residentShare 0 0).2 = 1048576 := by
  have h : (tOpT k).residentShare 0 0 = tQ.residentShare 0 0 := by
    have hr : (tOpT k).regs = tQ.regs := rfl
    have hp : (tOpT k).plan = tQ.plan := rfl
    simp only [State.residentShare, State.residentSlot, State.slotCtx, State.share, State.rd, hr, hp]
    rfl
  rw [h]
  decide +kernel

/-- It holds every range of a tensor of the tests. -/
theorem tShare_open (k : Nat) (c : Cand) (t : TensorRec) (hc : c.prog.ctx = 0) (hn : c.part.bed = 0) (hb : t.bind = 2)
    (ho : t.offset + fmtDataBytes t.format t.count ≤ 256) (hs : t.scaleOffset + fmtScaleBytes t.format t.count ≤ 256) :
    (tOpT k).writesOpen c t := by
  intro off n _ h
  simp only [State.pieceOpen, State.bindAddr, hb, hc, hn, tShare]
  omega

/-- Tensor `i` of `tKindT`. -/
def tTensor (i : Nat) : TensorRec := ⟨0x0001, 1, 2, 0, [4, 1, 1, 1], 64 * i, 0, 0, 0⟩

theorem test_w_ready (k : Nat) : ∃ c, (tOpT k).chosenOp 0 = some c ∧ c.op.kind = k ∧ (tOpT k).readsOpen c ∧
    (tOpT k).writesOpen c (c.output 0) ∧ (tOpT k).writesOpen c (c.output 1) ∧ (∀ i, i < 4 → (c.output 0).takes i ∧ (c.output 1).takes i) ∧
    (c.input 0).dim 0 = 4 ∧ fmtScaleBytes (c.input 0).format 4 = 0 := by
  refine ⟨_, rfl, rfl, ⟨rfl, ?_⟩, tShare_open k _ (tTensor 1) rfl rfl rfl (by decide) (by decide),
    tShare_open k _ (tTensor 2) rfl rfl rfl (by decide) (by decide), ?_, rfl, show fmtScaleBytes 0x0001 4 = 0 by decide⟩
  · intro t ht p hp
    have h1 : t = tTensor 0 := List.mem_singleton.1 ht
    subst h1
    have h2 : ∀ p ∈ pagePieces (tTensor 0).offset (fmtDataBytes (tTensor 0).format (tTensor 0).count) ++
        pagePieces (tTensor 0).scaleOffset (fmtScaleBytes (tTensor 0).format (tTensor 0).count), p.1 + p.2 ≤ 256 := by
      decide +kernel
    have h3 := h2 p hp
    show p.1 + p.2 ≤ ((tOpT k).residentShare 0 0).2
    rw [tShare]
    omega
  · intro i hi
    have h0 : fmtBlock 0x0001 ≠ 1 := by decide
    have h1 : elemBits (fmtElem 0x0001) ≠ 0 := by decide
    have h3 : fmtBlock 0x0001 ≠ 3 := by decide
    exact ⟨⟨h1, h3, hi, fun h => absurd h h0⟩, h1, h3, hi, fun h => absurd h h0⟩

theorem test_w_exchange (snd : Bool) : (tOpT 0x0B).waitingReqs = 0 ∧ (tOpT 0x0B).windowOpen (tQ.bedStamp 0 tGo) 0x2000 8 snd ∧
    (tOpT 0x0B).windowOpen (tQ.bedStamp 0 tGo) 0x2000 0 snd := by
  refine ⟨rfl, .inr ?_, .inl rfl⟩
  show 0x2000 + 8 ≤ dramSize ∧ tQ.firstRefused (tQ.bedStamp 0 tGo) 0x2000 8 snd = none
  revert snd
  decide +kernel

/-- Device 1 is a member with a live port, and takes a request of DRAM through its window. -/
theorem test_w_exchange_window : let s := { tOpT 0x0B with
      plan := some { tPlan with groveSize := 2 }
      elx := { state := 2, members := 3, ports := [(0, { state := 3, trained := true, peer := 1 })] } }
    s.windowOpen ⟨0, 0, 0, false, 0⟩ (remoteBase + 0x4000000000) 64 true := by
  refine .inr ?_
  show (_ → _) ∧ ∀ p ∈ remotePieces 3 (remoteBase + 0x4000000000) 64, _
  refine ⟨by decide, ?_⟩
  intro p hp
  have h : remotePieces 3 (remoteBase + 0x4000000000) 64 = [(remoteBase + 0x4000000000, 64)] := by decide +kernel
  rw [h, List.mem_singleton] at hp
  subst hp
  exact ⟨1, 0, by decide +kernel, by decide +kernel⟩

theorem test_w_put : tQ.wf = true ∧ 2 ≤ (⟨0x0001, 1, 2, 0, [4], 0, 0, 0, 0⟩ : TensorRec).bind ∧ 8 ≤ elemBits (fmtElem 0x0001) ∧
    elemBits (fmtElem 0x0001) % 8 = 0 ∧ ([(0, 0x3F800000), (3, 0x40000000)].map (·.1) : List Nat).Nodup ∧
    0 + elemBits (fmtElem 0x0001) / 8 * 3 + elemBits (fmtElem 0x0001) / 8 ≤ (tQ.residentShare 0 0).2 := by decide +kernel

theorem test_w_attend : let s := (tOp 0x0A).setSpace 0 (some tSpace)
    (s.chosenOp 0).map (·.op.kind) = some 0x0A ∧ s.spaceOf 0 (fld ((tKind 0x0A).attendParams ⟨0x0A, 0, 0, 1, 0, 0, 0, 0, 0, 65536, 0xFF, 0xFF, 16, 0⟩) 0 1) =
      some (0, tSpace) ∧ s.space? 0 = some tSpace ∧ tSpace.open_ = none ∧ tSpace.grove = false ∧ s.slicing 1 0 = false := by
  decide +kernel

theorem test_w_attend_open : let x : Space := { tSpace with open_ := some (0, 1), agreed := true }
    let s := (tOp 0x0A).setSpace 0 (some x)
    s.space? 0 = some x ∧ x.open_ = some (tGo.queue, tGo.cmd.seq) ∧ x.agreed = true ∧ (x.grove && x.aborted) = false ∧
    (s.spaceOf 0 0).map (·.1) = some 0 := by decide +kernel

/-- A partial of head 0 on its way to Trellis 0, and its merge, which has seen one of `need`. -/
def tMerge (need : Nat) : State :=
  let k : AttKey := ⟨0, 1, 0, 0, 0, 0⟩
  let s := (tOp 0x0A).setSpace 0 (some tSpace)
  { s with tensor := { s.tensor with
      parts := [⟨0, false, k, ⟨0, 0, [], false⟩⟩]
      merges := [⟨0, false, k, need, 1, ⟨0, 0, [], false⟩⟩] } }

theorem test_w_merge (need : Nat) : let s := tMerge need
    s.still 0 = false ∧ (∃ m x, (s.tensor.parts.filter (fun y => y.trellis == 0))[0]? = some m ∧
      s.tensor.merges.find? (fun y => y.trellis == 0 && y.final == m.final && y.key == m.key) = some x ∧ x.need = need ∧
      x.seen = 1 ∧ m.final = false ∧ (s.leadCtx m.key).isSome = true) :=
  ⟨rfl, _, _, rfl, rfl, rfl, rfl, rfl, by rfl⟩

/-- The operator runs on Bed 0. -/
def tRunning : State := (tOp 0x04).setBed 0 { pwr := .on, running := some ⟨0, 1, 0, 4⟩ }

theorem test_w_opEnd : (tRunning.bed 0).running = some ⟨0, 1, 0, 4⟩ ∧ tRunning.still 0 = false ∧ tRunning.attendIdle ⟨0, 1, 0, 4⟩ = true ∧
    (∀ d ∈ (tRunning.bed 0).dma, d.2.pend = 0 ∧ d.2.cur = none) ∧ tRunning.flight? 0 1 = some tGo ∧
    (tRunning.cmdProg tRun).map (fun p => p.ops.map (·.signalPsem)) = some [0xFF] := by decide +kernel

/-- Devices 0 and 1 are members; the space spans them, and its step is open. -/
def tGrove : State :=
  let s := tS.setSpace 0 (some { tSpace with grove := true, open_ := some (0, 1) })
  { s with elx := { state := 2, members := 3 } }

theorem test_w_report : (tGrove.space? 0).map (fun x => (x.grove, x.agreed, x.reports, x.open_)) =
      some (true, false, [], some (0, 1)) ∧ tGrove.self = 0 ∧ tGrove.isMember 1 = true ∧ 0 ∈ bitList 8 tGrove.elx.members := by
  decide +kernel

/-- A row of 128 bytes between DRAM and the share of context 0 on Bed 0. -/
def tRow (dir : Nat) : Desc := ⟨0x2000, 0, 0xFF, dir, 1, 128, 0, 0, 0, 0⟩

/-- The stamp of that channel. -/
def tBedSt : Stamp := ⟨0, 0, 3, false, 0⟩

theorem test_w_dma : tQ.descRefusal 0 (tRow 0) tBedSt = (tQ, none) ∧ tQ.descRefusal 0 (tRow 1) tBedSt = (tQ, none) ∧
    (tRow 0).target 0 = 0 ∧ remoteWindow 0x2000 = none ∧ tQ.accessFree tBedSt 0x2000 128 false ∧
    tQ.accessFree tBedSt 0x2000 128 true ∧
    tNext (.next (tQ.runDesc 0 0 (tRow 0) tBedSt none).1) (fun t => t.dram == []) = true := by decide +kernel

theorem test_w_desc : (tRunning.runningFlight 0) = some tGo ∧ tRunning.still 0 = false ∧ ((tRunning.bed 0).ch 3).cur = none := by decide +kernel

theorem test_w_descDone (w : Nat) : let s := tRunning.setBed 0 { (tRunning.bed 0) with
      dma := [(1, { cur := some (tRow 0, tBedSt), curStatus := w })] }
    ((s.bed 0).ch 1).cur = some (tRow 0, tBedSt) ∧ ((s.bed 0).ch 1).pend = 0 ∧ ((s.bed 0).ch 1).curStatus = w ∧
    ((s.bed 0).ch 1).copy = none ∧ s.still 0 = false ∧ s.runningFlight 0 = some tGo := ⟨rfl, rfl, rfl, rfl, rfl, rfl⟩

theorem test_w_stall_limit : (tS.wr .bedDmaStallLimit 0 9).rd .bedDmaStallLimit 0 = (9 : BitVec 32).toNat ∧
    (tS.wr .bedDmaStallLimit 0 0).rd .bedDmaStallLimit 0 = 0 := by decide +kernel

theorem test_w_inbound : padBase ≤ (0x10000000000 : BitVec 48).toNat ∧
    (0x1000FFFFFFF : BitVec 48).toNat < padBase + 128 * 2097152 ∧ (tQ.bed 0).pwr = .on ∧
    tQ.inboundReason (.core 0) 0 0 8 true (List.range 8) = none ∧ tQ.inboundReason (.core 0) 0 0 8 false (List.range 8) = none ∧
    tQ.inboundReason (.core 4) 0 0 8 true (List.range 8) = some 3 ∧ (tQ.bed 1).pwr = .off := by decide +kernel

theorem test_w_bedPwr : tQ.bedPwrRefusal .keeper (tQ.stampOf .keeper) 1 2 = none ∧ (tQ.bed 1).goal = none ∧
    (tQ.plan.map (fun p => p.usedPavilions.contains 0)).getD false = true ∧ isKeeper (.core 0) = false := by decide +kernel

theorem test_w_bedPwr_done : let s := tQ.setBed 1 { pwr := .waking, left := .off, goal := some .on }
    (s.bed 1).goal = some .on ∧ (s.bed 1).want = none ∧ s.tensor.moves.find? (fun m => m.1 == 1) = none ∧ (s.bed 1).left = .off := by
  decide +kernel

theorem test_w_bedSlot : tQ.wf = true ∧ (1023 : Nat) < 1024 ∧ tQ.bedSlotRefusal .keeper (tQ.stampOf .keeper) 0 1 0x10000 ≠ none ∧
    (let s := tQ.wr .bedSlot 0 0
     s.wf = true ∧ s.bedSlotRefusal .keeper (s.stampOf .keeper) 0 1 0x10000 = none ∧ bit (s.rd .bedSlot 1) 16 = false) := by
  decide +kernel

theorem test_w_clear : let s := tQ.setBed 0 { pwr := .on, clearing := some 0 }
    (s.bed 0).clearing = some 0 ∧ s.waitingReqs = 0 ∧ s.tensor.moves.find? (fun m => m.1 == 0) = none := by decide +kernel

/-! ### Registers -/

theorem test_w_write : (blockAt 0x20003000008).isSome = true ∧
    (regAt 0x20003000008).map (fun x => (x.1.block, x.1.width, x.2)) = some (.qos, 32, 0) ∧
    (regAt 0x20000100028).map (fun x => (x.1.block, x.1.width, x.2)) = some (.spl, 64, 0) ∧
    (regAt 0x20001F90008).map (fun x => (x.1.block, x.1.width, x.2)) = some (.trl, 32, 15) ∧
    (regAt 0x20002000100).map (fun x => (x.1.locked, x.1.width)) = some (true, 64) := by decide +kernel

theorem test_w_merge_bits : (3 : Nat) &&& (0xFFFFFFFFFFFFFFFF ^^^ 0x3) = 0 ∧ (4 : Nat) &&& (0xFFFFFFFFFFFFFFFF ^^^ 0x3) ≠ 0 ∧
    listedAddr 0x020010000000 = false ∧ listedAddr 0x02000FFFFFFF = true := by decide

theorem test_w_wrongSize : (blockAt 0x20003000008).isSome = true ∧ wrongSize 0x20003000008 8 = some (.qos, 0) ∧
    wrongSize 0x2000300000A 4 = some (.qos, 0) ∧ wrongSize 0x20003000018 2 = some (.qos, 0) := by decide +kernel

theorem test_w_unlisted : unlistedAt 0x20003000018 = some (.qos, 0) ∧ (0x20003000018 : Nat) % 8 = 0 := by decide +kernel

theorem test_w_read : (regAt 0x20002000010).map (fun x => (x.1.id, x.1.width, x.1.rc, x.2)) = some (.mccCeCount, 32, 0xFFFFFFFF, 0) ∧
    tS.ctrGroup .mccCeCount 0 = none ∧ tS.wf = true := by decide +kernel

theorem test_w_pin_write (x : Fin 16) (hx : x = 0 ∨ x = 2) : tS.unitMine (.core 0) 0x08 1 = true ∧ tS.unitMine (.core 0) 0x07 1 = true ∧
    tS.unitMine (.core x) 0x08 100 = false := by
  rcases hx with rfl | rfl <;> decide +kernel

theorem test_w_pin_write_secure : let s := { tS with plan := some { tPlan with assigns := [⟨0x08, 0, 5, 1, true⟩, ⟨0x07, 0, 5, 1, true⟩] } }
    (s.stampOf (.core 0)).secure = false ∧ s.secureAttr 0x08 5 = true ∧ s.secureAttr 0x07 5 = true := by decide +kernel

theorem test_w_core_access : tS.corePass 3 = none ∧ tNext (exec (.readClear (.orangery 3) (.addr 0x20002000010) 4 0) tS)
    (fun t => t.resp == ⟨stOWNER_FAULT, []⟩ && t.log.raised.length == 1) = true := by decide +kernel

theorem test_w_read_blocked : (regAt 0x20003000100).map (fun x => (x.1.id, x.1.width, x.2)) = some (.qosHeld, 64, 0) ∧
    tS.ctrGroup .qosHeld 0 = some (1, 0xFFFFFFFFFFFFFFFF, some 0) ∧ bit ((tS.wr .glsCtrPolicy 0 0).rd .glsCtrPolicy 0) 1 = false ∧
    (tS.stampOf (.host 0)).secure = false ∧ isKeeper (.host 0) = false ∧ tS.isCoreOf (.host 0) 0 = false ∧
    tS.isCoreOf (.core 0) 0 = true := by decide +kernel

/-! ### Requests to the Keeper -/

/-- The conditions of `State.asks`, as a test. -/
def asksB (s : State) (m : Mbx) (op : Nat) : Bool :=
  (s.mbx (mbxKey m)).busy && !(s.mbx (mbxKey m)).serving && s.keeperServes && s.mbxTurn (mbxKey m) && s.reqOp m == op &&
    (s.mbx (mbxKey m)).window.all (fun r => decide (r.seq ≠ s.reqSeq m)) &&
    (s.mbxGate (mbxKey m) (s.mbx (mbxKey m)).req).isNone

theorem asks_of_asksB {s : State} {m : Mbx} {op : Nat} (h : asksB s m op = true) : s.asks m op := by
  simp only [asksB, Bool.and_eq_true, Bool.not_eq_true', beq_iff_eq, List.all_eq_true, decide_eq_true_eq,
    Option.isNone_iff_eq_none] at h
  obtain ⟨⟨⟨⟨⟨⟨h1, h2⟩, h3⟩, ht⟩, h4⟩, h5⟩, h6⟩ := h
  exact ⟨⟨h1, h2, h3, ht⟩, h4, .inr (.inr h5), h6⟩

theorem test_w_mailbox : let s := tAsk tS 0x31 []
    (s.mbx 0).busy = true ∧ (s.mbx 0).serving = false ∧ s.keeperServes = true ∧ s.mbxTurn 0 = true ∧ s.reqOp (.plot 0) = 0x31 ∧ s.reqSeq (.plot 0) = 1 ∧
    (0x31, Instr.random (.plot 0)) ∈ mbxCommands (.plot 0) ∧ s.mbxGate 0 (s.mbx 0).req = none ∧
    (tAsk tS 0x31 []).mbxGate 0 ((tAsk tS 0x99 []).mbx 0).req = some stREFUSED_FORMAT := by decide +kernel

theorem test_w_mailbox_dup : let r : Reply := ⟨1, 0x31, 0, []⟩
    let s := tS.setMbx 0 { (tAsk tS 0x31 []).mbx 0 with window := [r] }
    (s.mbx 0).window.find? (fun r => r.seq == s.reqSeq (.plot 0)) = some r := by decide +kernel

theorem test_w_reply : bit (fld ((tAsk tS 0x31 []).mbx 0).req 6 1) 0 = false ∧ tS.hostBacked 0 = true ∧
    (tS.inst 0).stopped = false ∧ bit (fld [0, 0, 0, 0, 0, 0, 1] 6 1) 0 = true := by decide +kernel

theorem test_w_ctxCreate : asksB (tAsk tQ 0x20 []) (.plot 0) 0x20 = true ∧
    (List.range 1024).find? (fun c => ((tAsk tQ 0x20 []).ctx? c).isNone) = some 1 ∧
    ((tQ.plotRec 0).map (·.quota)).getD 0 = 4 ∧ bodyEnds ((tAsk tQ 0x20 []).reqBody (.plot 0)) 0 = true := by decide +kernel

/-- A request of opcode `op` about context 0, Bed 0 and slot 1. -/
def tCtxAsk (op : Nat) : State :=
  tAsk { tQ with tensor := { tQ.tensor with ctxs := [(0, some { plot := 0, via := 0 })] } } op [0, 0, 0, 1]

theorem test_w_ctxBind : asksB (tCtxAsk 0x22) (.plot 0) 0x22 = true ∧ bodyEnds ((tCtxAsk 0x22).reqBody (.plot 0)) 4 = true ∧
    (tCtxAsk 0x22).ownerOf 0x03 0 = 0 ∧ 0 < ((tCtxAsk 0x22).share 0 1).1 ∧ ((tCtxAsk 0x22).share 0 1).2.2 = 0 ∧
    (tCtxAsk 0x22).homed 0 1 < 8 ∧ ((tCtxAsk 0x22).ctx? 0).map (fun x => (x.plot, x.home 0)) = some (0, none) := by
  decide +kernel

theorem test_w_ctxUnbind : let s := tAsk (tQ.wr .bedSlot 0 0) 0x23 []
    asksB s (.plot 0) 0x23 = true ∧ bodyEnds (s.reqBody (.plot 0)) 3 = true ∧ s.enclaveOf 0 = none ∧
    (s.ctx? 0).map (fun x => (x.plot, x.home 0, s.bindingBusy 0 0 x)) = some (0, some 0, false) := by decide +kernel

theorem test_w_ctxDestroy : asksB (tCtxAsk 0x21) (.plot 0) 0x21 = true ∧ asksB (tAsk tQ 0x21 []) (.plot 0) 0x21 = true ∧
    (tAsk tQ 0x21 []).ctxHasProg 0 = false ∧ (tAsk tQ 0x21 []).ctxHasSpace 0 = false ∧ (tAsk tQ 0x21 []).ctxHasCommand 0 = false ∧
    (tAsk tQ 0x21 []).enclaveOf 0 = none ∧ swf (fun _ => none) (tAsk tQ 0x21 []).tensor.ctxs = true ∧
    bodyEnds ((tAsk tQ 0x21 []).reqBody (.plot 0)) 2 = true := by decide +kernel

theorem test_w_ctxStats : let s := tAsk tQ 0x24 (zeros 8 ++ leBytes 8 0x4000)
    asksB s (.plot 0) 0x24 = true ∧ fld (s.reqBody (.plot 0)) 8 8 = 0x4000 ∧ allZero (s.reqBody (.plot 0)) 2 6 = true ∧
    bodyEnds (s.reqBody (.plot 0)) 16 = true ∧
    s.accessFree { s.mbxStamp 0 with ctx := 0 } 0x4000 64 true := by decide +kernel

/-- A COPY to Bed 0 waits for the residency of context 0. -/
def tWait : State :=
  (tQ.wr .bedSlot 0 0).setQueue 0 { head := some { cmd := tCopy, headTime := 0, lastSeen := 0, phase := 1, waitingSince := some 0 } }

theorem test_w_tick : tWait.wf = true ∧ tWait.kpr.draining = false ∧ tWait.kpr.state ≠ 2 ∧
    (tWait.touch.waiters.map (fun w => (w.beds, w.ctx))) = [([0], 0)] ∧ tWait.touch.tensor.moves = [] ∧
    (tWait.touch.ctx? 0).isSome = true ∧ (tWait.touch.bed 0).pwr = .on ∧ (tWait.touch.bed 0).clearing = none ∧
    (tWait.touch.slotFor 0 0 []) = some (0, none) := by decide +kernel

/-- A program image of one operator without code, and its digest. -/
def tImgBody : List Byte :=
  leBytes 4 0x47505A53 ++ leBytes 2 1 ++ leBytes 2 0 ++ leBytes 4 192 ++ leBytes 2 1 ++ leBytes 1 1 ++ zeros 1 ++
  leBytes 2 1 ++ leBytes 2 1 ++ leBytes 2 0 ++ leBytes 2 1 ++ leBytes 2 0 ++ zeros 2 ++
  leBytes 4 0x40 ++ leBytes 4 0x60 ++ leBytes 4 0x40 ++ leBytes 4 0x40 ++ leBytes 4 0 ++ zeros 16 ++
  (leBytes 2 7 ++ leBytes 2 0 ++ leBytes 2 0 ++ leBytes 2 1 ++ leBytes 2 0 ++ leBytes 1 1 ++ leBytes 1 0 ++ zeros 12 ++ leBytes 1 0xFF ++
    leBytes 1 0xFF ++ zeros 6) ++
  (leBytes 2 1 ++ leBytes 1 1 ++ leBytes 1 0 ++ zeros 4 ++ leBytes 4 4 ++ leBytes 4 1 ++ leBytes 4 1 ++ leBytes 4 1 ++ zeros 24)

/-- The image with its digest. -/
def tImg : List Byte := tImgBody ++
  leBytes 48 7569678742715465830835831884247501298847475473569263785623983490405179789574353779869669527046063667391323711044823

theorem test_w_load_image : sha384 (tImg.take (tImg.length - 48)) = sub tImg (tImg.length - 48) 48 ∧ tImg.length = 192 ∧
    structFail tImg 192 = none ∧ fld tImg 4 2 = 1 ∧ fld tImg 6 2 = 0 := by decide +kernel

/-- LOAD of the image at 256 KiB for context 0. -/
def tLoad : State := tAsk (tQ.dramPut 0x40000 tImg) 0x10
  (leBytes 2 0 ++ leBytes 2 0xFFFF ++ leBytes 4 192 ++ leBytes 8 0x40000 ++ leBytes 8 0 ++ leBytes 8 0x42000)

theorem test_w_unload : let s := tAsk tProgS 0x11 []
    asksB s (.plot 0) 0x11 = true ∧ allZero (s.reqBody (.plot 0)) 2 2 = true ∧ bodyEnds (s.reqBody (.plot 0)) 8 = true ∧
    (s.ctx? 0).map (·.plot) = some (s.mbxPlot 0) ∧ s.prog? 0 = some tProg ∧ s.progBusy 0 = false ∧
    swf (fun _ => none) s.tensor.progs = true ∧ swf (fun _ => 0) s.tensor.gens = true := by decide +kernel

theorem test_w_plotStop : let s : State := { tQ with tensor := { tQ.tensor with stopReq := [1] } }
    swf (fun _ => none) s.tensor.ctxs = true ∧ s.tensor.stopReq.contains 1 = true ∧ s.tensor.stopReq.contains 0 = false ∧
    tNext (exec (.plotStop 1) s) (fun t => t.tensor.stopped.contains 1) = true := by decide +kernel

theorem test_w_plotRestart : let s := tAsk { tQ with tensor := { tQ.tensor with stopped := [1] } } 0x70 [1]
    asksB s (.plot 0) 0x70 = true ∧ bodyEnds (s.reqBody (.plot 0)) 1 = true ∧ fld (s.reqBody (.plot 0)) 0 1 = 1 ∧
    (s.plotRec 0).map (fun r => (r.mustRun, r.crit)) = some (true, 2) ∧ (s.plotRec 1).map (·.crit) = some 1 ∧
    s.tensor.stopped.contains 1 = true ∧ s.kpr.deadPlots.contains 1 = false ∧
    tNext (exec (.plotRestart (.plot 0)) s) (fun t => t.tensor.stopped == []) = true := by decide +kernel
theorem test_w_load : let st : Stamp := { tLoad.mbxStamp 0 with ctx := 0 }
    let l := mkLoadIn st.plot 0 0xFFFF tImg []
    let r := tLoad.memRead st 0x40000 192
    asksB tLoad (.plot 0) 0x10 = true ∧ loadBodyOk (tLoad.reqBody (.plot 0)) = true ∧ r.2 = some tImg ∧ tLoad.enclaveOf 0 = none ∧
    (r.1.readBinds st tImg 0).2 = some [] ∧ (r.1.readBinds st tImg 0).1.loadChecks l = ([], [(0, 0)]) ∧
    (r.1.memWrite st 0x42000 (zeros 1024)).2 = true ∧ (l.mine tLoad.self) = [0] := by decide +kernel

theorem test_w_load_pin : let l := mkLoadIn 0 0 0xFFFF tImg []
    let s4 := tLoad.pickStore
    let p := s4.2.mkProg l tImg [(0, 0)] 0 0
    p.map = [0] ∧ (p.map.foldl (fun (x : State × Bool) n => if x.2 then x.1.pinCopy p n else x) (s4.2, true)).2 = true := by
  decide +kernel


/-! ### Groves -/

/-- The device with its Eliravy port 1 in a state. -/
def tElx (st : Nat) : State := tS.setElxPort 1 { state := st, failRun := 16 }

theorem test_w_train : ((tElx 1).elxPort 1).state = 1 ∧ ((tElx 0).elxPort 1).state ≠ 1 ∧ trainState false 15 = 2 ∧
    ((tElx 2).elxPort 1).live = true ∧ 16 ≤ ((tElx 2).elxPort 1).failRun ∧ ((tElx 1).elxPort 1).live = false ∧
    swf (fun _ => {}) (tElx 2).elx.ports = true ∧ (7 : Fin 8).val ≠ (tElx 2).portPeer 1 := by decide +kernel

theorem test_w_hello : (0 : Fin 8).val = (tElx 2).portPeer 1 := by decide +kernel

theorem crc64Byte_zero : crc64Byte 0 0 = 0 := by decide +kernel

theorem crc64_zeros (n : Nat) : crc64 0 (List.replicate n 0) = 0 := by
  unfold crc64
  induction n with
  | zero => rfl
  | succ n ih => rw [List.replicate_succ, List.foldl_cons, crc64Byte_zero, ih]

theorem test_w_flit : ((tElx 2).elxPort 1).live = true ∧ (zeros 256).length = 256 ∧ ([] : List Byte).length ≠ 256 ∧
    crc64 0 ((zeros 256).take 248) = fld (zeros 256) 248 8 ∧
    crc64 0 ((zeros 248 ++ leBytes 8 255).take 248) ≠ fld (zeros 248 ++ leBytes 8 255) 248 8 ∧
    bits (fld (zeros 256) 0 8) 11 0 = ((tElx 2).elxPort 1).rxNext ∧
    bits (fld (zeros 256) 0 8) 11 0 ≠ (((tElx 2).setElxPort 1 { state := 2, rxNext := 4095 }).elxPort 1).rxNext := by
  have h : crc64 0 (zeros 248) = 0 := by unfold zeros; exact crc64_zeros 248
  have e : (zeros 256).take 248 = zeros 248 := by decide +kernel
  have f : (zeros 248 ++ leBytes 8 255).take 248 = zeros 248 := by decide +kernel
  exact ⟨by decide +kernel, List.length_replicate, by decide, (congrArg (crc64 0) e).trans (h.trans (by decide +kernel)),
    fun g => absurd (h.symm.trans ((congrArg (crc64 0) f).symm.trans g)) (by decide +kernel), by decide +kernel, by decide +kernel⟩

/-- A message of kind `k` from device 1, about address or semaphore 0, waits at port 1 of member 0. -/
def tMsg (k : Nat) : ElxMsg where
  kind := k
  src := 1
  dest := 0
  hop := 0
  plot := 0
  cls := 3
  dataLen := 8
  ctx := 0xFFFF
  srcPort := 0
  status := 0
  addr := 0
  tag := 5
  data := zeros 8

/-- Member 0 of a Grove of two devices, with that message. -/
def tIn (m : ElxMsg) : State :=
  ({ tS with elx := { state := 2, members := 3 }, plan := some { tPlan with groveSize := 2 } } : State).setElxPort 1 { state := 2, inbox := [m] }

theorem test_w_message : ∀ k ∈ [1, 2, 3, 4, 5, 6, 7], ((tIn (tMsg k)).elxPort 1).inbox = [tMsg k] ∧ (tMsg k).dest = (tIn (tMsg k)).self ∧
    (tIn (tMsg k)).isMember (tMsg k).src = true ∧ (tIn (tMsg k)).wf = true ∧
    (tIn (tMsg k)).accessFree ((tMsg k).stamp 1) 0 8 true ∧ (tIn (tMsg k)).accessFree ((tMsg k).stamp 1) 0 8 false ∧
    (tIn (tMsg k)).semAllowed ((tMsg k).stamp 1) 0 = true := by
  decide +kernel

theorem test_w_message_refused : let m : ElxMsg := { tMsg 1 with plot := 1 }
    m.addr + m.data.length ≤ dramSize ∧ (tIn m).firstRefused (m.stamp 1) 0 8 true ≠ none ∧ (tIn { tMsg 1 with dest := 3 }).self ≠ 3 ∧
    (tIn { tMsg 1 with src := 4 }).isMember 4 = false ∧
    (tIn { tMsg 1 with dest := 3 }).elx.state ≠ 3 := by decide +kernel

/-- The access of TAG 5 at device 1. -/
def tOut (u : RemoteUse) : RemoteOp := ⟨tBedSt, { tMsg 2 with dest := 1 }, [], some 1, u⟩

theorem test_w_message_answer (u : RemoteUse) (k : Nat) : let s : State :=
      { tIn (tMsg k) with elx := { (tIn (tMsg k)).elx with ops := [tOut u] } }
    s.elx.ops.find? (fun o => o.msg.tag == (tMsg k).tag && o.msg.dest == (tMsg k).src && o.port.isSome) = some (tOut u) ∧
    (tOut u).use = u ∧ (tMsg k).status = stDONE := ⟨rfl, rfl, rfl⟩

theorem test_w_window : remoteWindow 0x80000000000 = some (0, 0) ∧ remoteWindow 0x84000000000 = some (1, 0) ∧
    windowSizeOk tBedSt 0x84000000000 64 = true ∧ windowSizeOk tBedSt 0x84000000000 48 = false := by decide +kernel

theorem test_w_window_send : let s := tIn (tMsg 1)
    let st := s.stampOf (.dma 0)
    windowSizeOk st 0x84000000000 64 = true ∧ (1 : Nat) ≠ s.self ∧ s.windowReason st 1 0 64 true = none ∧
    windowKind 0 64 = some 0 ∧ s.windowReason st 5 0 64 true ≠ none ∧ s.self = 0 ∧ s.accessFree st 0 64 false := by
  decide +kernel

/-- Member 0 in the formation window of a Grove of two. -/
def tForm : State := { tIn (tMsg 1) with elx := { (tIn (tMsg 1)).elx with state := 1, admitted := 2 } }

theorem test_w_join : tForm.self = 0 ∧ (1 : Fin 8).val < tForm.groveSize ∧ tForm.elx.state = 1 ∧
    (tForm.joinCauses 1 ((tForm.plan.map (fun (p : Plan) => p.digest)).getD []) tForm.keeperVersion featDev 0).isEmpty = true ∧
    tForm.joinCauses 1 [] tForm.keeperVersion featDev 0 = [1] ∧ elxDelta 0 0 tForm.now tForm.now = 0 := by
  decide +kernel

theorem test_w_windowEnd : let s := { tForm with dt := tForm.dt + 2 ^ 90 }
    s.self = 0 ∧ s.elx.state = 1 ∧ s.spl.acceptTime + s.formWindow ≤ s.now := by decide +kernel

/-- Device 1 of the same Grove while it forms, at a time of `t` s. -/
def tJoin (joined adm : Bool) (t : Nat) : State := { tForm with
  dt := t * 1000000000 * 2 ^ 32
  pwr := { tForm.pwr with groveId := 1 }
  elx := { tForm.elx with joined := joined, isAdmitted := adm } }

theorem test_w_forming : (tJoin false false 100).forming = true ∧
    2 * (tJoin false false 100).spl.acceptTime + (tJoin false false 100).formWindow ≤ 2 * (tJoin false false 100).now ∧
    (tJoin false false 100).elx.joined = false ∧ (tJoin false false 100).elx.timeSent + 1000000 ≤ (tJoin false false 100).now ∧
    (tJoin true true 100).forming = true ∧ (tJoin true true 100).elx.joined = true ∧ (tJoin true true 100).elx.isAdmitted = true ∧
    bit (3 : BitVec 8).toNat (tJoin true true 100).self = true ∧
    (tJoin true true 100).spl.acceptTime + (tJoin true true 100).formWindow + 100000000 ≤ (tJoin true true 100).now := by
  decide +kernel

/-- Device `g` as a member of the Grove of two at 2 s, with a heartbeat period of 1 ms and `n` heartbeats missed. -/
def tBeat (g n : Nat) : State := { tForm with
  dt := 2000000000 * 2 ^ 32
  pwr := { tForm.pwr with groveId := g }
  elx := { tForm.elx with
    state := 2, hbPeriod := 10, tol := 1000, hbAt := 1000000000, peers := [(1, { sent := [1000000000], missed := n, delta := 3 })] } }

theorem test_w_heartbeatSend : (tBeat 0 0).elx.state = 2 ∧ (tBeat 0 0).self = 0 ∧
    (tBeat 0 0).elx.hbAt + hbNs (tBeat 0 0).elx.hbPeriod ≤ (tBeat 0 0).now ∧
    ((bitList 8 (tBeat 0 0).elx.members).filter (· ≠ 0)) = [1] := by decide +kernel

theorem test_w_heartbeatReply : (1 : Fin 8).val < (tBeat 0 0).groveSize ∧ (tBeat 0 0).alsoMissed 1 = [] ∧ bit (tBeat 0 0).elx.members (1 : Fin 8).val = true ∧
    (elxDelta 0 0 2000000000 (tBeat 0 0).now).natAbs ≤ (tBeat 0 0).elx.tol ∧
    (elxDelta 0 2000 2000000000 (tBeat 0 0).now).natAbs = (tBeat 0 0).elx.tol ∧
    (tBeat 0 0).elx.tol < (elxDelta 0 2002 2000000000 (tBeat 0 0).now).natAbs := by decide +kernel

theorem test_w_heartbeatMissed : (tBeat 0 1).expired 1 ≠ [] ∧ ((tBeat 0 1).peerSt 1).missed < 2 ∧
    (tBeat 0 2).expired 1 ≠ [] ∧ 2 ≤ ((tBeat 0 2).peerSt 1).missed := by decide +kernel

theorem test_w_member : (tBeat 1 0).elx.state = 2 ∧ (tBeat 1 0).self ≠ 0 ∧
    (tBeat 1 0).elx.hbAt + 3 * hbNs (tBeat 1 0).elx.hbPeriod ≤ (tBeat 1 0).now ∧
    bit (2 : BitVec 8).toNat (tBeat 1 0).self = true ∧ bit (1 : BitVec 8).toNat (tBeat 1 0).self = false := by decide +kernel

/-! ### Sensor ingest -/

/-- Stream 0 of Plot 0: RAW8 of 4 by 1 pixels on port 0, a frame every 1000 ns. -/
def tStream : StreamRec := ⟨0, 0, 0, 0, 0x2A, 0, 4, 1, 8, 0, 1000, 0, 0, 1⟩

/-- The running device with that stream, of miss severity `sev`, enabled on a ring of 2 slots at address 0. -/
def tSns (sev : Nat) : State :=
  (({ tS with plan := some { tPlan with streams := [tStream], classes := [⟨0x10, 0, 0, 3, sev, 0, 5000⟩, ⟨0x12, 0, 0, 3, 2, 0, 5000⟩] } } : State).wr
    .snsSCfg 0 1).wr .snsSRingCfg 0 0x10002

/-- A frame of the stream that began at 0.9 s. -/
def tFrame (ended : Bool) : SnsFrame :=
  { count := 0, golden := false, noImage := false, fs := 900000000 * 2 ^ 32, fnum := 1, flags := 0, cfg := 1, black := 0, gain := 0,
    lines := [⟨zeros 4, 0, false, false⟩], got := 1, ended := ended }

theorem test_w_frameStart : (tSns 2).portStreams 0 ≠ [] ∧ (tSns 2).vcStreams 0 0 = [tStream] ∧ (tSns 2).streamOn 0 = true ∧
    ((tSns 2).snsStream 0).onAt ≠ some (tSns 2).dt ∧
    tooEarly ((tSns 2).snsStream 0) 1000 (tSns 2).dt = false ∧ tStream.goldenEvery = 0 ∧ (tSns 2).freeSlots 0 = 2 ∧
    ((tSns 2).wr .snsSWr 0 2).freeSlots 0 = 0 := by decide +kernel

theorem test_w_line : let s := (tSns 2).setStream 0 { frames := [tFrame false] }
    tStream.dataType = (0x2A : Fin 64).val ∧ dataTypeOk 0x2A = true ∧ (s.snsStream 0).open? = some (tFrame false) ∧
    (tFrame false).golden = false ∧ (tFrame false).noImage = false ∧ bits (s.rd .snsSCfg 0) 3 1 = 0 ∧
    s.lineBuffer 0 + 4 ≤ 65536 ∧
    65536 < s.lineBuffer 0 + 65537 := by decide +kernel

theorem test_w_ispLine : let f : SnsFrame := { tFrame false with lines := [⟨zeros 4, 7, true, false⟩] }
    ((tSns 2).setStream 0 { frames := [f] }).ispNext 0 = some (0, 7) ∧ (tSns 2).ispNext 0 = none ∧
    (tSns 2).slicing 4 0 = false := by decide +kernel

theorem test_w_snsCfg : let s := (tSns 2).wr .snsSCfg 0 0
    s.wf = true ∧ s.streamRec 0 = some tStream ∧ s.isCoreOf (.core 4) 0 = false ∧ s.isCoreOf (.core 0) 0 = true ∧
    tStream.cfgOk 1 = true ∧ tStream.cfgOk 0 = true ∧
    (RegId.row .snsSCfg).map (fun d => ((1 : Nat) &&& (0xFFFFFFFFFFFFFFFF ^^^ d.mask))) = some 0 ∧
    bit (s.rd .snsSCfg 0) 0 = false ∧ bit 1 0 = true ∧ s.plotRunning 0 = true ∧
    tStream.payload 1 + 64 ≤ 65536 * bits (s.rd .snsSRingCfg 0) 24 16 ∧
    bit ((tSns 2).rd .snsSCfg 0) 0 = true ∧ bits 0 5 1 = bits ((tSns 2).rd .snsSCfg 0) 5 1 ∧
    ((tSns 2).snsStream 0).lastFs ≠ some (tSns 2).dt ∧
    (((tSns 2).setStream 0 { lastFs := some (tSns 2).dt }).snsStream 0).lastFs = some (tSns 2).dt := by decide +kernel

theorem test_w_publish : let s := ((tSns 2).setStream 0 { frames := [tFrame true] }).wr .snsSSem 0 0x10000
    let st := s.stampOf (.sensor 0)
    s.wf = true ∧ swf (fun _ => {}) s.sns.streams = true ∧ s.streamRec 0 = some tStream ∧ st.plot = 0 ∧
    (s.snsStream 0).frames = [tFrame true] ∧ (tFrame true).ended = true ∧ (tFrame true).lines.any (·.waiting) = false ∧
    (s.framePayload tStream (tFrame true)).2 = zeros 4 ∧ s.accessFree st 64 4 true ∧
    s.accessFree st 0 64 true ∧ bit (s.rd .snsSSem 0) 16 = true ∧ s.semAllowed st 0 = true := by decide +kernel

theorem test_w_publish_refused : let s := ((tSns 2).setStream 0 { frames := [tFrame true] }).wr .snsSRingBase 0 0x1000000
    0x1000000 + 64 + 4 ≤ dramSize ∧ s.firstRefused (s.stampOf (.sensor 0)) (0x1000000 + 64) 4 true ≠ none := by decide +kernel

theorem test_w_deadline : ∀ sev ∈ [1, 2], let s := (tSns sev).setStream 0 { frames := [tFrame false] }
    (5000 : Nat) ≠ 0 ∧
    (s.streamClass false 0).map (fun c => (c.deadline, c.sev)) = some (5000, sev) ∧
    (s.snsStream 0).frames.filter (fun f => !f.golden && !f.missed && decide (f.fs + 4294967296 * 5000 < s.dt)) = [tFrame false] := by
  decide +kernel

theorem test_w_goldenEnd : let s : State := { tSns 2 with gth := { tS.gth with golden := [⟨0, 3, 900000000, false⟩] } }
    (s.streamClass true 0).map (·.deadline) = some 5000 ∧
    s.gth.golden.filter (fun g => g.stream == 0 && !g.published && decide (g.fs + 5000 < s.now)) = [⟨0, 3, 900000000, false⟩] := by
  decide +kernel

theorem test_w_missing : let s (t : Nat) := (tSns 2).setStream 0 { lastFs := some t }
    let p := 4294967296 * tStream.period
    ∀ m ∈ [false, true], ((s 5).snsStream 0).lastFs = some 5 ∧ 3 * p ≤ 2 * ((s 5).dt - 5) ∧
      2 * ((s 5).dt - (s 5).dt) < 3 * p ∧ ((s 5).setStream 0 { (s 5).snsStream 0 with missing := m }).streamOn 0 = true ∧
      ({ (s 5).snsStream 0 with missing := m } : SnsStream).missing = m ∧ (s 5).streamRec 0 = some tStream := by decide +kernel

/-! ### The Orangery and the display pipes -/

/-- Pipe 0 of the tests: 4 by 2 pixels, at most 4 bytes a pixel and 2 planes. -/
def tPipe : PipeRec := ⟨0, 4, 2, 24, 4, 2, 8, 4, 60000, 1, 0, 0⟩

/-- The running device with that pipe, and ring 0 enabled with 16 records at 0x4000. -/
def tOrg : State :=
  ((({ tS with plan := some { tPlan with pipes := [tPipe] } } : State).wr .orgQCfg 0 0x41).wr .orgQBase 0 0x4000).wr .orgQCplBase 0 0x5000

/-- A pass record: KIND, FLAGS, SEQ `q`, deadline 5, descriptor at 0x6000 and EST_NS `est`. -/
def tPassRaw (kind flags q est : Nat) : List Byte :=
  leBytes 4 q ++ leBytes 2 1 ++ leBytes 1 kind ++ leBytes 1 flags ++ zeros 2 ++ leBytes 2 0xFFFF ++ leBytes 2 0xFFFF ++ zeros 2 ++
    zeros 16 ++ leBytes 8 5 ++ leBytes 8 0x6000 ++ leBytes 4 est ++ zeros 12

/-- A compute descriptor of two groups. -/
def tCDesc : List Byte := leBytes 4 0x50435A53 ++ leBytes 4 2 ++ leBytes 2 64 ++ zeros 54

/-- A render descriptor: one R32 target of 4 by 1 pixels at 0x10000, one draw at 0x7000, one texture at 0x8000, bins of 64 KiB. -/
def tRDesc : List Byte :=
  leBytes 4 0x50525A53 ++ leBytes 2 4 ++ leBytes 2 1 ++ leBytes 1 1 ++ zeros 5 ++ leBytes 2 1 ++ leBytes 8 0x10000 ++ zeros 24 ++
    leBytes 4 8 ++ leBytes 4 1 ++ zeros 24 ++ leBytes 8 0x7000 ++ leBytes 8 0x8000 ++ leBytes 8 0x20000 ++ leBytes 4 65536 ++ zeros 20

/-- A pass of ring 0 in a state. -/
def tPass (kind st : Nat) : OrgPass :=
  { pos := 0, era := 0, raw := tPassRaw kind 0 9 0, target := 0, state := st,
    desc := if 2 ≤ st then (if kind = 2 then tCDesc else tRDesc) else [], cores := if 2 ≤ st then [0, 1] else [] }

/-- Ring 0 holds a pass. -/
def tRing (f : OrgPass) : State := tOrg.setOrgRing 0 { passes := [f] }

/-- A compute pass whose groups run on cores 0 and 1 of group count 2, `n` of them begun. -/
def tBusy (n : Nat) : OrgPass := { tPass 2 2 with busy := [0, 1], nextGroup := n }

theorem test_w_fetchRecord : let s := ((tRing (tPass 2 2)).dramPut 0x4000 (tPassRaw 2 0 7 0)).wr .orgQTail 0 1
    s.wf = true ∧ s.still 20 = false ∧ s.plotRunning 0 = true ∧ s.shaders 0 = [0, 1] ∧ bit (s.rd .orgQCfg 0) 0 = true ∧
    s.rd .orgQHead 0 ≠ s.rd .orgQTail 0 ∧ (s.orgRing 0).passes = [tPass 2 2] ∧ (tPass 2 2).state = 2 ∧
    s.accessFree (s.orgStamp 0) 0x4000 64 false ∧ (s.orgRing 0).window = [] ∧ fld (s.dramGet 0x4000 64) 0 4 = 7 ∧
    (tPass 2 2).seq = 9 ∧ s.shaders 1 = [] := by decide +kernel

theorem test_w_start : (∀ k ∈ [1, 2], let s := (tRing (tPass k 0)).dramPut 0x6000 (if k = 2 then tCDesc else tRDesc)
      let d := s.dramGet 0x6000 (if (tPass k 0).compute then 64 else 128)
      s.rd .orgQHead 0 = s.rd .orgQTail 0 ∧ (s.orgRing 0).next = some (tPass k 0) ∧ (tPass k 0).bad = none ∧
      s.passRefusal 0 (tPass k 0) = none ∧ s.passWait 0 (tPass k 0) = true ∧ s.still 20 = false ∧ (tPass k 0).desc = [] ∧
      s.coresFree 0 [0, 1] = true ∧ ({ s with org := (tRing (tBusy 1)).org } : State).coresFree 0 [0, 1] = false ∧
      fld (tPass k 0).raw 0x28 8 = 0x6000 ∧ s.accessFree (s.orgStamp 0) 0x6000 d.length false ∧
      (if (tPass k 0).compute then computeDescOk d else renderDescOk d) = true ∧
      (bitList 16 (coresMask (tPass k 0).compute d)).all (s.shaders 0).contains = true) ∧
    (tRing (tPass 3 0)).passRefusal 0 (tPass 3 0) = some stREFUSED_FORMAT := by decide +kernel

theorem test_w_orgCfg : (tOrg.wr .orgQCfg 0 0).wf = true ∧ tOrg.isCoreOf (.core 0) 0 = true ∧
    (RegId.row .orgQCfg).map (fun d => ((0x41 : Nat) &&& (0xFFFFFFFFFFFFFFFF ^^^ d.mask))) = some 0 ∧ bits 0x41 7 4 = 4 ∧
    bits 0xC1 7 4 = 12 ∧ bit 0x41 0 = true ∧ bit ((tOrg.wr .orgQCfg 0 0).rd .orgQCfg 0) 0 = false := by decide +kernel

theorem test_w_compute : (tRing (tPass 2 2)).still 20 = false ∧ swf (fun _ => {}) (tRing (tPass 2 2)).org.cores = true ∧ (tPass 2 2).nextGroup ≤ fld (tPass 2 2).desc 4 4 ∧
    (tRing (tPass 2 2)).computePass 0 = some (tPass 2 2) ∧ (tPass 2 2).dispatch.busy = [0, 1] := by
  decide +kernel

theorem test_w_passComplete : let f : OrgPass := { tPass 2 2 with done := 2 }
    ((tRing f).orgRing 0).passes.find? (fun f => f.finished.isSome) = some f ∧ f.finished = some stDONE ∧
    ((tRing f).orgRing 0).dups = [] ∧ f.frame = false := by decide +kernel

/-- A FRAME pass of pipe 0 behind it, due at once. -/
def tFrameNext : OrgPass := { tPass 1 0 with pos := 1, raw := tPassRaw 1 1 10 100000000 }

theorem test_w_groupEnd : (∀ n ∈ [1, 2], let s := tRing (tBusy n)
      s.corePass 0 = some (0, tBusy n) ∧ (tBusy n).busy.contains 0 = true ∧ (tBusy n).state = 2 ∧
      s.still 20 = false ∧ (s.coreStores 0 0 [(0x9000, [1])]).2 = true ∧
      sumL (((s.orgCore 0).dcache ++ [(0x9000, [1])]).map (fun e : Nat × List Byte => e.2.length)) ≤ 65536 ∧ s.preempts 0 (tBusy n) = false) ∧
    (tOrg.setOrgRing 0 { passes := [tBusy 1, tFrameNext] }).preempts 0 (tBusy 1) = true := by decide +kernel

theorem test_w_passMiss : let f : OrgPass := { tPass 2 2 with raw := tPassRaw 2 4 9 0 }
    ((tRing f).orgRing 0).passes.find? (fun f => f.seq == 9 && !f.missed) = some f ∧ bit (fld f.raw 7 1) 2 = true ∧
    fld f.raw 0x20 8 ≤ (tRing f).now ∧ ({ tRing f with dt := 0 } : State).now < fld f.raw 0x20 8 := by decide +kernel

theorem test_w_trap : (tRing (tPass 2 2)).corePass 1 = some (0, tPass 2 2) ∧ (tRing (tPass 2 2)).corePass 2 = none := by
  decide +kernel

/-- The vertices of a triangle that covers the whole target: (-1, -1), (3, -1), (-1, 3). -/
def tVerts : List (List Nat) := [[0xBF800000, 0xBF800000, 0, 0x3F800000, 0x3F800000], [0x40400000, 0xBF800000, 0, 0x3F800000, 0x3F800000],
  [0xBF800000, 0x40400000, 0, 0x3F800000, 0x3F800000]]

/-- Its draw record. -/
def tDraw : List Byte := zeros 16 ++ leBytes 4 3 ++ zeros 12

/-- The triangle. -/
def tTri : OrgTri := ⟨tDraw, tVerts⟩

theorem test_w_render : let s := (tRing (tPass 1 2)).dramPut 0x7000 tDraw
    let sh := tVerts.zipIdx.map (fun v => (0, v.2, v.1.map (BitVec.ofNat 32)))
    let r := s.assemble 0 0 (tPass 1 2) sh (fld (tPass 1 2).desc 0x34 4) 0
    s.renderPass 0 (fun f => f.tris.isNone) = some (tPass 1 2) ∧ r.2 = some [tTri] ∧ fld (tPass 1 2).desc 0x68 4 = 65536 ∧
    r.1.accessFree (s.orgStamp 0) 0x20000 8192 true ∧ s.still 20 = false := by decide +kernel

/-- A render pass in its tile phase: its tiles in the buffers, and the next tile of core 0. -/
def tTile (l : List (Nat × OrgTile)) (k : Nat) : OrgPass :=
  { tPass 1 2 with cores := [0], tris := some [tTri], tile := l, nextTile := [(0, k)] }

theorem test_w_tileLoad : let f := tTile [] 0
    let s := tRing f
    s.renderPass (s.ownerOf 0x0F 0) (fun f => f.tris.isSome && f.cores.contains 0) = some f ∧
    f.tile.find? (fun e => e.1 == 0) = none ∧ f.nextTile.find? (fun e => e.1 == 0) = some (0, 0) ∧ 0 < f.tiles.2 ∧
    s.still 20 = false ∧ (s.loadTargets 0 0 f 0 0 f.targets).2.isSome = true := by decide +kernel

/-- The one tile of the target, black. -/
def tOpenTile : OrgTile := ⟨0, [zeros 1024 |>.map BitVec.toNat], []⟩

theorem test_w_tileStore : let f := tTile [(0, tOpenTile)] 1
    let s := tRing f
    f.tile.find? (fun e => e.1 == 0) = some (0, tOpenTile) ∧ (s.coreWrites 0 0 (f.tileWrites tOpenTile)).2 = true ∧
    s.corePass 0 = some (0, f) := by decide +kernel

/-- A texture descriptor: one texel of RGBA8 at 0x30000. -/
def tTex : List Byte := leBytes 8 0x30000 ++ leBytes 2 1 ++ leBytes 2 1 ++ leBytes 1 3 ++ leBytes 1 1 ++ zeros 18

theorem test_w_ogx_words : decodeOgx 0x0080005B = some (.tex, 0, 8) ∧ decodeOgx 0x0080105B = some (.texl, 0, 8) ∧
    decodeOgx 0x008020DB = some (.res, 1, 8) ∧ decodeOgx 0x008030DB = some (.interp, 1, 8) ∧
    decodeOgx 0x0080405B = some (.out, 0, 8) ∧ decodeOgx 0x0080505B = none ∧ decodeOgx 0x008040DB = none ∧
    decodeOgx 0x01F0005B = none := by decide

theorem test_w_texture : let f := tTile [] 1
    let s1 := (tRing f).dramPut 0x8000 tTex
    let s := s1.ogxLoad 0 8 (uvCols [(0, 0)])
    let d := s.texOf 0 0 f 0
    s1.still 20 = false ∧ s1.corePass 0 = some (0, f) ∧ s1.waitingReqs = 0 ∧
    swf (fun _ => {}) s1.org.cores = true ∧ swf (fun _ => 0) (s1.orgCore 0).v = true ∧ d.2 = some (readTex tTex) ∧
    (readTex tTex).isSome = true ∧ (s.texOf 0 0 f 1).2 = some none ∧
    (d.1.sampleAll 0 0 (readTex tTex) 1 [(0, 0)] (some [0]) 1 0).2.isSome = true ∧
    (d.1.sampleAll 0 0 (readTex tTex) 0 [(0, 0)] none 1 0).2.isSome = true ∧
    (d.1.residentMask 0 0 (readTex tTex) 0 [(0, 0)] 1 0).2.isSome = true := by decide +kernel

theorem test_w_texture_open : let s := tRing (tTile [] 1)
    (s.sampleAll 0 0 none 1 [(0, 0)] none 1 0).2.isSome = true ∧ (s.residentMask 0 0 none 1 [(0, 0)] 1 0).2.isSome = true :=
  ⟨rfl, rfl⟩

theorem test_w_interp : let f := tTile [] 1
    ([(0, 2, 0)] : List (Nat × Nat × Nat))[0]? = some (0, 2, 0) ∧ bit (1 : BitVec 64).toNat 0 = true ∧
    (f.tris.getD [])[0]? = some tTri ∧ triAttr 4 1 0 tVerts 2 0 = 0x3F800000 := by decide +kernel

theorem test_w_output : let f := tTile [(0, tOpenTile)] 1
    let lo : OrgTri := ⟨tDraw, tVerts.map (fun v => v.take 2 ++ [0, 0x3F800000])⟩
    triCovers 4 1 lo.verts 3 0 = true ∧ triCovers 4 1 [tVerts.headD [], tVerts.headD [], tVerts.headD []] 3 0 = false ∧
    0 < fld f.desc 8 1 ∧ 3 < f.dims.1 ∧ 0 < f.dims.2 ∧ 0 / 32 * f.tiles.1 + 3 / 32 = tOpenTile.tile ∧ fld f.desc 9 1 = 0 ∧
    bit (fld tTri.draw 0x15 1) 5 = false ∧ tOpenTile.tested = [] ∧
    ({ tOpenTile with tested := [((1, 3, 0), true)] } : OrgTile).inOrder 0 3 0 = false := by decide +kernel

/-- The staged settings of plane 0 of pipe 0: RGBA8, the whole picture, stride 64. -/
def tPlane (cfg : Nat) : State :=
  ((tOrg.wr .dspLCfg 0 cfg).wr .dspLSize 0 0x20004).wr .dspLStride 0 64

theorem test_w_commit : tPipe.refusal ((tPlane 0x301).pipe 0) 0 ((tPlane 0x301).staged 0 0) = none ∧
    (tPlane 0x301).pipeRec 0 = some tPipe ∧ (tPlane 0x301).isCoreOf (.core 0) ((tPlane 0x301).ownerOf 0x0E 0) = true ∧
    (tPlane 0x301).isCoreOf (.core 4) ((tPlane 0x301).ownerOf 0x0E 0) = false ∧
    tPipe.refusal ((tPlane 0x701).pipe 0) 0 ((tPlane 0x701).staged 0 0) = some 1 ∧
    tPipe.refusal (((tPlane 0x301).wr .dspLStride 0 65).pipe 0) 0 (((tPlane 0x301).wr .dspLStride 0 65).staged 0 0) = some 4 := by
  decide +kernel

theorem test_w_latch : ∀ b ∈ [false, true], let s := tOrg.setPipe 0 { planes := [(0, { cfg := 0x303, size := 0x20004, stride := 64 })], link := b }
    s.wf = true ∧ swf (fun _ => {}) s.dsp.pipes = true ∧ swf (fun _ => {}) (s.pipe 0).planes = true ∧ s.pipeRec 0 = some tPipe ∧
    (s.pipe 0).missed = [0] ∧ (s.pipe 0).link = b ∧ s.pipeRec 1 = none ∧ s.waitingReqs = 0 ∧ (tOrg.pipe 0).missed = [] := by decide +kernel

/-! ### The gateway -/

/-- The running device with ports 0 to 3, internal ports 0 and 1, and CAN, LIN and check-value units 0 and 1 of Plot 0; ports 0, 1
and 14 are on, the external two up, and port 1 takes Plot 0's frames. -/
def tNet : State :=
  let s := ((({ tS with plan := some { tPlan with
      assigns := tPlan.assigns ++ [⟨0x09, 0, 0, 4, false⟩, ⟨0x0A, 0, 0, 2, false⟩, ⟨0x0B, 0, 0, 2, false⟩, ⟨0x0C, 0, 0, 2, false⟩,
        ⟨0x0D, 0, 0, 32, false⟩] } } : State).wr .gwyPCfg 0 9).wr .gwyPCfg 1 9).wr .gwyPCfg 14 9
  ((s.wr .gwyPAccept 1 1).setNetPort 0 { up := true }).setNetPort 1 { up := true }

/-- 60 bytes of an EtherType. -/
def tBytes (t : List Byte) : List Byte := zeros 12 ++ t ++ zeros 46

/-- A received frame: the bytes with their FCS. -/
def tRaw (l : List Byte) : List Byte := l ++ leBytes 4 ((crcFixed 4).value l)

theorem test_w_frame : ∀ l ∈ [tBytes [8, 1], tBytes [0x88, 0xF7], zeros 59],
    (tNet.netPort 0).up = true ∧ tNet.portOn 0 = true ∧ tNet.portOn 2 = false ∧ 4 ≤ (tRaw l).length ∧
    (crcFixed 4).value ((tRaw l).take ((tRaw l).length - 4)) = fld (tRaw l) ((tRaw l).length - 4) 4 := by decide +kernel

theorem test_w_frameKinds : frameOk (tBytes [8, 1]) = true ∧ etherType (tBytes [8, 1]) ≠ 0x88F7 ∧
    frameOk (tBytes [0x88, 0xF7]) = true ∧ etherType (tBytes [0x88, 0xF7]) = 0x88F7 ∧ frameOk (zeros 59) = false ∧
    (crcFixed 4).value (zeros 4) ≠ fld (zeros 8) 4 4 := by decide +kernel

theorem test_w_frameAction : let act (v : Nat) : Nat :=
      ((flowKeys 0 0 (tBytes [8, 1])).findSome? (tNet.wr .flwMiss 0 v).flowAction).getD ((tNet.wr .flwMiss 0 v).rd .flwMiss 0)
    let f : EthFrame := { bytes := tBytes [8, 1], ingress := 0, rx := 0 }
    act 0 = 0 ∧ act 5 = 5 ∧ bit 5 0 = true ∧ bit 5 2 = true ∧ bit 5 35 = false ∧ act 0x800000005 = 0x800000005 ∧
    bit 0x800000005 35 = true ∧ (tNet.police 0 f.len).2 = false ∧ ((tNet.wr .flwPol 0 0x4000000001).police 0 f.len).2 = true ∧
    tNet.egressDrop f 1 0 = none ∧ tNet.egressDrop f 2 0 = some 4 := by decide +kernel

/-- An IPv4 frame has two lookups, by its addresses and then by its MAC addresses (R350). -/
theorem test_w_frameEcc : (flowKeys 0 0 (zeros 12 ++ [8, 0, 0x45] ++ zeros 45)).length = 2 ∧ (flowKeys 0 0 (tBytes [8, 1])).length = 1 ∧
    tNet.flowAction ((flowKeys 0 0 (zeros 12 ++ [8, 0, 0x45] ++ zeros 45)).getD 0 []) = none := by decide +kernel

/-- A gate list of port 1: all classes for 500 ns, then class 0. -/
def tGates : State := { tNet with plan := tNet.plan.map (fun p => { p with gates := [⟨1, 4, 1000, [], [(255, 500), (1, 500)]⟩] }) }

theorem test_w_gate : tGates.gateOf 1 = some ⟨1, 4, 1000, [], [(255, 500), (1, 500)]⟩ ∧ tGates.gateOf 0 = none ∧
    (∀ ph ∈ [0, 4294967296 * 500 - 1, 4294967296 * 500, 4294967296 * 1000 - 1],
      ph < 4294967296 * sumL ([(255, 500), (1, 500)].map (·.2))) ∧
    (gateAt [(255, 500), (1, 500)] (4294967296 * 500 - 1) 0).1 = 0 ∧ (gateAt [(255, 500), (1, 500)] (4294967296 * 500) 0).1 = 1 := by
  decide +kernel

/-- A frame that waits. -/
def tEth : EthFrame := { bytes := tBytes [8, 1], ingress := 0, rx := 7 }

theorem test_w_txStart : let s := tNet.setNetQueue 1 2 [tEth]
    swf (fun _ => []) s.net.queues = true ∧ ((s.selectReady 1).netPort 1).sending = none ∧ ((s.selectReady 1).netPort 1).up = true ∧
    (s.selectReady 1).portOn 1 = true ∧ (s.selectReady 1).nextFrame 1 = some (2, tEth) ∧ (tNet.selectReady 1).nextFrame 1 = none := by
  decide +kernel

theorem test_w_nextFrame : let s := (tNet.setNetQueue 1 2 [tEth]).setNetQueue 1 6 [{ tEth with launch := some 1 }]
    s.nextFrame 1 = some (2, tEth) ∧ s.mayTransmit 1 2 tEth = true ∧ s.mayTransmit 1 6 { tEth with launch := some 1 } = false := by
  decide +kernel

/-- Port 1 is sending a frame whose time-stamp is 9 in the working domain's time `w`. -/
def tSending (f : EthFrame) (w : Nat) : State := tNet.setNetPort 1 { up := true, sending := some (f, 9, w) }

theorem test_w_txEnd : let late : EthFrame := { tEth with desc := some (0, 0), launch := some 0 }
    (∀ f ∈ [tEth, { tEth with sync := some { domain := 0, own := false } }, late], ((tSending f (2 ^ 60)).netPort 1).sending = some (f, 9, 2 ^ 60)) ∧
    tEth.sync = none ∧ tEth.desc = none ∧ late.desc = some (0, 0) ∧ late.launch = some 0 ∧ 4294967296 * (0 + 1000) < 2 ^ 60 ∧
    (tNet.netPort 1).sending = none := by decide +kernel

theorem test_w_link : tNet.portOn 0 = true ∧ (4 : Fin 8).val = tNet.portRate 0 ∧ (3 : Fin 8).val ≠ tNet.portRate 0 ∧
    tNet.portOn 5 = false ∧ (tNet.netPort 0).up = true ∧ (tNet.netPort 5).up = false := by decide +kernel

theorem test_w_session : tNet.isCoreOf (.core 0) 0 = true ∧ tNet.isCoreOf (.core 4) 0 = false ∧ (tNet.flwSlot 0).op = none ∧
    (tNet.flwSlot 16).op = none ∧ ((tNet.setFlwSlot 0 { op := some 1 }).flwSlot 0).op.isSome = true := by decide +kernel

/-- Slot 0 runs an operation on the record at 0x9000, which begins with the word `h`. -/
def tFlw (op h : Nat) : State := ((tNet.dramPut 0x9000 (leBytes 4 h)).wr .flwCmdAddr 0 0x9000).setFlwSlot 0 { op := some op }

theorem test_w_commitSession : ∀ op ∈ [1, 2, 3], let s := tFlw op 1
    swf (fun _ => {}) s.net.flw = true ∧ (s.flwSlot 0).op = some op ∧ s.accessFree (s.flwStamp 0) 0x9000 64 false ∧
    s.accessFree (s.flwStamp 0) (0x9000 + 0x28) 8 true ∧ s.flowCheck 0 op (s.dramGet 0x9000 64) = none ∧
    (tFlw op 0).flowCheck 0 op ((tFlw op 0).dramGet 0x9000 64) = some stREFUSED_FORMAT := by decide +kernel

/-- A posted TX descriptor of internal port 0 at 0xB000: 60 bytes at 0xC000, or zeros. -/
def tTx (ok : Bool) (act : Nat) : State :=
  ((((tNet.wr .gwyRCfg 0 0x41).wr .gwyRBase 0 0xB000).wr .gwyRTail 0 1).wr .flwMiss 14 act).dramPut 0xB000
    (if ok then leBytes 8 0xC000 ++ leBytes 2 60 else [])

theorem test_w_txDescriptor : let s := tTx true 5
    let st := s.ringStamp (s.ringPlot (.gwy 0 0))
    let d := s.dramGet 0xB000 32
    s.wf = true ∧ swf (fun _ => {}) s.net.rings = true ∧ s.ringPosted (.gwy 0 0) = true ∧ s.portOn (14 + 0) = true ∧
    (s.ring (.gwy 0 0)) = {} ∧ s.descAddr (.gwy 0 0) 0 = 0xB000 ∧ s.accessFree st 0xB000 32 false ∧
    s.accessFree st (0xB000 + 0xF) 1 true ∧ s.accessFree st (0xB000 + 0x18) 8 true ∧ s.txRefusal d = none ∧
    (tTx false 5).txRefusal ((tTx false 5).dramGet 0xB000 32) = some stREFUSED_FORMAT ∧ fld d 0 8 = 0xC000 ∧ fld d 8 2 = 60 ∧
    s.accessFree st 0xC000 60 false ∧ fld d 0xE 1 = 0 ∧ s.dramGet 0xC000 60 = zeros 60 ∧ 0xB000 + 32 ≤ reservedBase ∧
    isOk (s.framePath (s.ringPlot (.gwy 0 0)) 0 0 (zeros 60)) = true ∧ frameOk (zeros 60) = true := by
  decide +kernel

theorem test_w_txTook : ∀ act ∈ [1, 5], let s := tTx true act
    let tag := s.frameTag 14 (zeros 60) 0
    let a := ((flowKeys 14 tag.1 (zeros 60)).findSome? s.flowAction).getD (s.rd .flwMiss 14)
    let f : EthFrame := ⟨zeros 60, 14, s.now, none, some (0, 0), none⟩
    bit a 0 = true ∧ bit a 35 = false ∧
    (List.range 22).filter (fun j => decide (j ≠ 14) && bit a (j + 1) && (s.egressDrop f j tag.2).isNone) = (if act = 5 then [1] else []) := by
  decide +kernel

theorem test_w_rxDeliver : let s := (((((tNet.wr .gwyRCfg 1 0x41).wr .gwyRBase 1 0xD000).wr .gwyRTail 1 1).dramPut 0xD000
      (leBytes 8 0xE000 ++ leBytes 2 40)).setNetQueue 14 0 [tEth]).selectReady 14
    let st := s.ringStamp (s.ringPlot (.gwy 0 1))
    let d := s.dramGet 0xD000 32
    s.wf = true ∧ swf (fun _ => []) s.net.queues = true ∧ s.ringPosted (.gwy 0 1) = true ∧ s.portOn 14 = true ∧
    s.nextFrame 14 = some (0, tEth) ∧ tEth.desc = none ∧ s.descAddr (.gwy 0 1) (s.ring (.gwy 0 1)).next = 0xD000 ∧
    s.accessFree st 0xD000 32 false ∧ fld d 0 8 % 8 = 0 ∧ fld d 0xC 1 = 0 ∧ fld d 0xE 1 = 0 ∧
    (tEth.bytes.take (fld d 8 2)).length = 40 ∧ 0xD000 + 32 ≤ reservedBase ∧ 0xE000 + 40 ≤ reservedBase ∧
    (∀ w ∈ [(0xE000, 40), (0xD000 + 8, 2), (0xD000 + 0xD, 1), (0xD000 + 0xF, 1), (0xD000 + 0x18, 8)],
      s.accessFree st w.1 w.2 true) := by decide +kernel

theorem test_w_ringCfg : ∀ e ∈ [Ring.gwy 0 0, Ring.gwy 1 1, Ring.can 0 0, Ring.can 1 2],
    (e.cfg.1.row).map (fun d => ((0x41 : Nat) &&& (0xFFFFFFFFFFFFFFFF ^^^ d.mask), (0xC1 : Nat) &&& (0xFFFFFFFFFFFFFFFF ^^^ d.mask))) =
      some (0, 0) ∧ bit (tNet.ringCfg e) 0 = false ∧ bits 0x41 7 4 = 4 ∧ bits 0xC1 7 4 = 12 ∧ bit 0x41 0 = true ∧
    tNet.isCoreOf (.core 0) (tNet.ownerOf 0x0A 0) = true ∧ tNet.isCoreOf (.core 0) (tNet.ownerOf 0x0B 1) = true ∧ tNet.wf = true := by
  decide +kernel

/-! ### CAN, LIN, check values and time -/

/-- CAN controller 0 on the bus, with a descriptor posted on ring `x` at 0xB000: 16 bytes at 0xC000. -/
def tCan (x : Nat) : State :=
  (((((tNet.wr .canCfg 0 1).wr .canRCfg x 0x41).wr .canRBase x 0xB000).wr .canRTail x 1).setCan 0 { state := 0 }).dramPut 0xB000
    (leBytes 8 0xC000 ++ leBytes 2 16)

theorem test_w_canReady : ∀ x ∈ [0, 1], let s := tCan x
    let c := s.can 0
    let st := s.ringStamp (s.ringPlot (.can 0 x))
    let d := s.dramGet 0xB000 32
    swf (fun _ => {}) s.net.can = true ∧ swf (fun _ => {}) s.net.rings = true ∧ s.unitQuiet 0x0B 0 = false ∧
    bit (s.rd .canCfg 0) 0 = true ∧ bit (s.rd .canCfg 0) 5 = false ∧ c.state < 2 ∧ c.tx = none ∧ s.canWaiting 0 x = true ∧
    s.canWaiting 0 (1 - x) = false ∧ c.taken x = none ∧ (s.ring (.can 0 x)).next = 0 ∧ s.descAddr (.can 0 x) 0 = 0xB000 ∧
    s.accessFree st 0xB000 32 false ∧ canDescOk d = true ∧ fld d 0 8 = 0xC000 ∧ fld d 8 2 = 16 ∧
    s.accessFree st 0xC000 16 false ∧ canBufferOk (bits (s.rd .canCfg 0) 2 1) (s.dramGet 0xC000 16) = true ∧
    fld d 0xE 1 = 0 ∧ isOk (s.framePath (s.ringPlot (.can 0 x)) 0 0 []) = true := by decide +kernel

theorem test_w_canQuiet : let s : State := { tCan 0 with tensor := { tNet.tensor with stopped := [0] } }
    s.unitQuiet 0x0B 0 = true ∧ (s.can 0).offAt = none ∧ (s.can 0).tx = none := by decide +kernel

theorem test_w_canHolds : let s := (tCan 0).setCan 0 { state := 0, high := some (0, zeros 16) }
    s.canWaiting 0 0 = true ∧ ((s.can 0).taken 0).isSome = true ∧ (tNet.wr .canCfg 0 1).canWaiting 0 0 = false ∧
    (tNet.wr .canCfg 0 1).canWaiting 0 1 = false := by decide +kernel

theorem test_w_canDone : ∀ b ∈ [0, 8], let s := ((tCan 0).wr .canCfg 0 (1 + b)).setCan 0 { state := 0, high := some (0, zeros 16), tx := some 0 }
    (s.can 0).tx = some 0 ∧ (s.can 0).taken 0 = some (0, zeros 16) ∧ s.unitQuiet 0x0B 0 = false ∧
    bit (s.rd .canCfg 0) 3 = decide (b = 8) := by decide +kernel

theorem test_w_canReceive : let s := tCan 2
    s.canAccepts 0 (fld (zeros 16) 0 4) = true ∧ (s.wr .canFilter 0 0xA0000000).canAccepts 0 (fld (zeros 16) 0 4) = false ∧
    (tCan 0).ringPosted (.can 0 2) = false ∧ s.ringPosted (.can 0 2) = true ∧
    ((s.setCan 0 ((s.can 0).counters (s.can 0).tec 0)).rxFill (.can 0 2) (zeros 16) 0 5).2 = true ∧
    bit (tNet.rd .canCfg 0) 0 = false ∧
    s.unitQuiet 0x0B 0 = false ∧ bit (s.rd .canCfg 0) 0 = true ∧ (s.can 0).state ≤ 1 ∧
    (let off := s.setCan 0 { state := 3, offAt := some 6 }
     (off.can 0).state = 3 ∧ (off.can 0).offAt = some 6) := by decide +kernel

theorem test_w_canStates : (tCan 0).canLive 0 = true ∧ ((tCan 0).can 0).state = 0 ∧ tNet.canLive 0 = false ∧
    (let s := ((tCan 0).wr .canCfg 0 17).setCan 0 { state := 2 }
     (s.can 0).state = 2 ∧ bit (s.rd .canCfg 0) 0 = true ∧ bit (s.rd .canCfg 0) 4 = true ∧ s.unitQuiet 0x0B 0 = false) := by
  decide +kernel

theorem test_w_lin : ∀ v ∈ [0x80, 0x400], let s := tNet.wr .linCfg 0 0x10000
    s.netMay (.core 0) (s.ownerOf 0x0C 0) = true ∧ s.netMay (.core 4) (s.ownerOf 0x0C 0) = false ∧ (s.linCtl 0).cmd = none ∧
    v < 4096 ∧ 1 ≤ bits v 10 7 ∧ bits v 10 7 ≤ 8 ∧ bit (s.rd .linCfg 0) 16 = true ∧ s.unitQuiet 0x0C 0 = false := by decide +kernel

theorem test_w_linEnd : ∀ v ∈ [0x80, 0xC0], ((tNet.setLin 0 { cmd := some v }).linCtl 0).cmd = some v ∧ bit v 6 = decide (v = 0xC0) ∧
    (tNet.linCtl 0).cmd = none := by decide +kernel

theorem test_w_cvuStart : tNet.netMay (.core 0) (tNet.ownerOf 0x0D 0) = true ∧ tNet.netMay (.core 4) (tNet.ownerOf 0x0D 0) = false ∧
    (tNet.cvu 0).op = none ∧ tNet.unitQuiet 0x0D 0 = false ∧
    ({ tNet with tensor := { tNet.tensor with stopped := [0] } } : State).unitQuiet 0x0D 0 = true ∧
    ((tNet.setCvu 0 { op := some (1, false) }).cvu 0).op.isSome = true := by decide +kernel

/-- Unit 0 (CRC-8) runs an operation on 4 bytes: three zeros and their check value. -/
def tCvu (op : Nat) (len : Nat) : State :=
  (((tNet.wr .cvuLen 0 len).wr .cvuSrc 0 0x9000).dramPut 0x9003 ((crcFixed 0).stored ((crcFixed 0).value (zeros 3)))).setCvu 0 { op := some (op, false) }

theorem test_w_cvu : ∀ op ∈ [1, 2, 3, 4], let s := tCvu op 4
    let c := s.cvuSet 0
    s.wf = true ∧ swf (fun _ => {}) s.net.cvu = true ∧ (s.cvu 0).op = some (op, false) ∧ 1 ≤ op ∧ op ≤ 4 ∧ s.rd .cvuLen 0 = 4 ∧
    c.width = 8 ∧ s.accessFree (s.cvuStamp 0) 0x9000 4 false ∧ s.accessFree (s.cvuStamp 0) 0x9004 1 true ∧
    s.dramGet 0x9000 4 = zeros 3 ++ c.stored (c.final (c.run (c.init % 2 ^ c.width) (zeros 3))) := by decide +kernel

theorem test_w_cvu_refused : (tCvu 4 0).rd .cvuLen 0 < ((tCvu 4 0).cvuSet 0).width / 8 ∧
    0x1000000 + 4 ≤ dramSize ∧ ((tCvu 2 4).wr .cvuSrc 0 0x1000000).firstRefused ((tCvu 2 4).cvuStamp 0) 0x1000000 4 false ≠ none := by decide +kernel

/-- Domain 0 has number 0 and a state; port 0 is its SLAVE port, port 1 a MASTER port. -/
def tDom (st t : Nat) : State :=
  ((tNet.wr .timDCfg 0 1).wr .timDRoles 0 6).putDomain 0 { state := st, time := t, roles := 6, good := 7 }

theorem test_w_syncReceive : ∀ st ∈ [2, 3], ∀ t ∈ [0, 4294967296 * 100, 4294967296 * 1001, 4294967296 * 1000001], let s := tDom st t
    let c : SyncCopy := ⟨0, false, 0, 0, s.rxStamp 0, (s.pdelay 0).delay, 0⟩
    swf (fun _ => {}) s.tim.domains = true ∧ s.domainNumbered 0 = some 0 ∧ s.domainNumbered 1 = none ∧
    s.rd .timDRoles 0 = (s.domain 0).roles ∧ roleOf (s.domain 0).roles 0 = 2 ∧ (s.netPort 0).up = true ∧ 2 ≤ (s.domain 0).state ∧
    s.syncOffset 0 c = (t : Int) ∧ roleOf (s.domain 0).roles 1 = 1 ∧ (s.netPort 1).up = true ∧
    s.egressDrop (syncFrame 0 s.now c) 1 0 = none := by decide +kernel

theorem test_w_syncSend : let s := ((tNet.wr .timDCfg 0 1).wr .timDRoles 0 4).putDomain 0 { state := 1, roles := 4 }
    swf (fun _ => {}) s.tim.domains = true ∧ s.rd .timDRoles 0 = (s.domain 0).roles ∧ (s.domain 0).state = 1 ∧
    (s.domain 0).syncAt + s.syncInterval 0 ≤ s.now ∧ roleOf 4 1 = 1 ∧
    s.egressDrop (syncFrame 1 s.now ⟨0, true, 0, 0, 0, 0, 0⟩) 1 0 = none ∧ (tDom 2 0).now < 1 + (tDom 2 0).syncInterval 0 := by
  decide +kernel

/-- The link-delay state of port 0: an exchange began at a time. -/
def tPd (t0 : Nat) : State := { tNet with tim := { tNet.tim with ports := [(0, { waiting := some t0, last := some t0 })] } }

theorem test_w_pdelay : swf (fun _ => {}) (tPd 1).tim.ports = true ∧ ((tPd 1).pdelay 0).last = some 1 ∧ (tPd 1).now < 1 + 1000000000 ∧
    ((tPd 0).pdelay 0).last = some 0 ∧ 0 + 1000000000 ≤ (tPd 0).now ∧ (tNet.pdelay 0).last = none ∧
    ((tPd 0).pdelay 0).waiting.isSome = true ∧ (tNet.pdelay 0).waiting = none := by decide +kernel

theorem test_w_receiptTimeout : let s := (tDom 2 0).wr .timDCfg 0 0x401
    (s.domain 0).follows = true ∧ (s.domain 0).syncAt + 3 * s.syncInterval 0 ≤ s.now ∧ (tNet.domain 0).follows = false := by
  decide +kernel

theorem test_w_holdover : let s := (tDom 4 0).wr .timDHoldLimit 0 1
    (s.domain 0).state = 4 ∧ (s.domain 0).expired = false ∧ bits (s.rd .timDHoldLimit 0) 15 0 = 1 ∧
    (s.domain 0).holdAt + 1000000000 * 1 ≤ s.now ∧ (tNet.domain 0).state ≤ 1 ∧ 1 < (tDom 2 0 |>.domain 0).state := by decide +kernel

theorem test_w_capture : tNet.wf = true ∧ tNet.isCoreOf (.core 0) 0 = true ∧ tNet.isCoreOf (.core 4) 0 = false ∧
    isKeeper (.core 0) = false := by decide +kernel

theorem test_w_idle : tNet.pending = [] ∧ tNet.pwr.running = true ∧ swf (fun _ => {}) tNet.tim.domains = true := by decide +kernel

/-! ### The Gatehouse -/

/-- A rule of task 0 that reads two FP32 elements at 0x9000: each from 0 to 1. -/
def tRule (kind : Nat) : RuleRec :=
  ⟨kind, 0, 1, 0, 2, 0, 0x9000, 0, 2, 0xFFFF, 0, 0, 0x3F800000, 0, 0, 0, 0, true⟩

/-- The running device with that rule; task 0 has a period and a deadline of 1000 ns. -/
def tGth (kind : Nat) : State := { tS with
  plan := some { tPlan with classes := [⟨0x11, 0xFF, 0, 7, 2, 1000, 1000⟩, ⟨0x12, 0, 5, 3, 2, 0, 1000⟩] }
  gth := { tS.gth with rules := [tRule kind] } }

theorem test_w_taskRelease : ∀ k ∈ [1, 2, 7], let s := tGth k
    s.taskDue 0 = some 1000 ∧ s.taskDue 1 = none ∧ s.wf = true ∧ swf (fun _ => ({} : RuleSt)) s.gth.ruleSt = true ∧
    s.gth.failed = false ∧ s.taskRules 0 = [(0, tRule k)] ∧ (tRule k).triggerSem = 0xFFFF ∧ bit (tRule k).flags 0 = false ∧
    0x9000 + fmtDataBytes 1 2 ≤ dramSize ∧ s.accessFree (s.ruleStamp 0) 0x9000 (fmtDataBytes 1 2) false ∧
    tS.taskRules 0 = [] := by decide +kernel

theorem test_w_judge : (tRule 1).firstBad [0, 0x40000000] [] = some 1 ∧ (tRule 1).firstBad [0, 0x3F800000] [] = none ∧
    (tRule 7).firstBad [0x7F800000] [] = some 0 ∧ ((tRule 2).judge (some [0]) [0x3F800000] []).outcome = 1 ∧
    ((tRule 2).judge none [0x3F800000] []).outcome = 0 ∧ ((tRule 3).judge none [0] [0]).outcome = 0 := by decide +kernel

theorem test_w_taskDone : isGatehouse .gatehouse = true ∧ isGatehouse .keeper = false ∧ (63 : BitVec 32).toNat < 64 ∧
    ((tS.setTask 63 { open_ := [(1000, false)] }).taskSt 63).open_ = [(1000, false)] := by decide +kernel

theorem test_w_taskMiss : swf (fun _ => {}) (tGth 1).gth.tasks = true ∧ ((tGth 1).gthTask 0).map (·.deadline) = some 1000 ∧
    (tGth 1).gthTask 1 = none := by decide +kernel

theorem test_w_goldenTest : ((tGth 1).streamClass true 5).map (·.deadline) = some 1000 ∧ (tGth 1).streamClass true 0 = none ∧
    (({ tS with plan := some { tPlan with classes := [⟨0x12, 0, 5, 3, 2, 0, 0⟩] } } : State).streamClass true 5).map (·.deadline) = some 0 ∧
    ((({ tS with plan := some { tPlan with classes := [⟨0x11, 0xFF, 0, 7, 2, 1000, 0⟩] } } : State).gthTask 0).map (·.deadline)) = some 0 := by
  decide +kernel

theorem test_w_kick : tS.gth.started.isSome = true ∧ tS.gth.failed = false ∧ tS.gth.kicked = true ∧
    ({ tS with gth := { tS.gth with kicked := false } } : State).gth.kicked = false ∧ State.reset.gth.started = none := by decide +kernel

theorem test_w_lapse : tS.gth.wdogAt + 1000 * tS.rd .gthWdogCfg 0 ≤ tS.now ∧ State.reset.now < 1 + 1000 * State.reset.rd .gthWdogCfg 0 := by
  decide +kernel

theorem test_w_lockstep : tS.gth.broken = false ∧ ({ tS with gth := { tS.gth with broken := true } } : State).gth.broken = true ∧
    tS.safe.safe = false ∧ tSafe.safe.safe = true := by decide +kernel

/-- Self-test of Beds is on; the round of Bed 1 began at `t`. -/
def tSlice (t : Nat) : State := (tS.wr .gthStCfg 0 0x80001).setRound 0 1 { since := t }

theorem test_w_slice : let s := tSlice 900000000
    s.safe.safe = false ∧ s.gth.failed = false ∧ s.unitTested 0 0 = true ∧ s.slicing 0 0 = false ∧ s.sliceRunning < 8 ∧
    s.sliceOk 0 0 = true ∧ s.otherFirst 0 0 = false ∧ s.otherFirst 0 1 = true ∧ s.sliceOk 0 1 = true ∧ s.unitTested 0 1 = true ∧
    s.unitTested 0 8 = false := by decide +kernel

theorem test_w_slice_busy : (tRunning.wr .gthStCfg 0 0x80001).sliceOk 0 0 = false ∧
    (tRunning.wr .gthStCfg 0 0x80001).unitTested 0 0 = true := by decide +kernel

theorem test_w_sliceEnd : ∀ n ∈ [14, 15], let s := (tSlice 0).setRound 0 0 { since := 0, next := n, started := some 5 }
    (s.round 0 0).started.isSome = true ∧ ((tSlice 0).round 0 0).started = none ∧
    ((s.plan.map (fun p => p.unitPlots 0 0)).getD []) = [0] := by decide +kernel

theorem test_w_overdue : (tSlice 0).unitTested 0 0 = true ∧ ((tSlice 0).round 0 0).overdue = false ∧
    (tSlice 0).overdueAt 0 0 ≤ (tSlice 0).now ∧ (tSlice (10 ^ 9)).now < (tSlice (10 ^ 9)).overdueAt 0 1 := by decide +kernel

/-! ### The Glasshouse -/

/-- Key slots 2 and 3 hold a key for every usage, in life-cycle state Provisioned. -/
def tKeys (x y : Nat) (s : State) : State := { s with gls := { s.gls with
  rngOk := true
  otp := { s.gls.otp with
    lifecycle := [0xFFFFFFFF, 0, 0]
    keys := [(2, { x := x, y := y, usage := 0xFF, present := true }), (3, { x := x, y := y, usage := 0xFF, present := true })] } } }

/-- The device of the tests in Provisioned, with a queue. -/
def tGls : State := tKeys 0 0 tQ

theorem test_w_gls_halted : let s : State := tAsk { tGls with gls := { tGls.gls with halted := true } } 0x35 []
    asksB s (.plot 0) 0x35 = true ∧ s.gls.halted = true := by decide +kernel

theorem test_w_attest : let s := tAsk tGls 0x30 (leBytes 2 0xFFFF ++ zeros 6 ++ leBytes 8 0x8000 ++ leBytes 8 0x9000)
    let b := s.reqBody (.plot 0)
    asksB s (.plot 0) 0x30 = true ∧ s.gls.halted = false ∧ allZero b 2 6 = true ∧ bodyEnds b 0x18 = true ∧ fld b 0x10 8 = 0x9000 ∧
    s.lifecycle = 1 ∧ fld b 0 2 = 0xFFFF ∧ s.accessFree (s.glsStamp 0 (mbxCtx 0) false) 0x8000 48 false ∧
    s.accessFree (s.glsStamp 0 (mbxCtx 0) false) 0x9000 512 true ∧ s.gls.rngOk = true ∧
    (s.reportBody (s.mbxPlot 0) 0xFFFF (s.dramGet 0x8000 48) (zeros 48)).length = 416 := by decide +kernel

theorem test_w_random : ∀ n ∈ [1, 4096], let s := tAsk tGls 0x31 (leBytes 4 n ++ zeros 4 ++ leBytes 8 0x8000)
    let b := s.reqBody (.plot 0)
    asksB s (.plot 0) 0x31 = true ∧ allZero b 4 4 = true ∧ bodyEnds b 0x10 = true ∧ fld b 0 4 = n ∧ fld b 8 8 = 0x8000 ∧
    s.accessFree (s.glsStamp 0 (mbxCtx 0) false) 0x8000 n true ∧ s.gls.rngOk = true ∧
    ({ s with gls := { s.gls with rngOk := false } } : State).gls.rngOk = false := by decide +kernel

/-- ENC_CREATE with a manifest for context 0 at 0x8000: one range of one page at 1 MiB, one program. -/
def tEncS : State :=
  tAsk ((tGls.dramPut 0x8000 (leBytes 4 0x4E455A53 ++ leBytes 2 1 ++ leBytes 2 0 ++ leBytes 1 1 ++ leBytes 1 1)).dramPut 0x83C0
    (leBytes 8 0x100000 ++ leBytes 4 1)) 0x32 (zeros 8 ++ leBytes 8 0x8000)

theorem test_w_encCreate : let s := tEncS
    let b := s.reqBody (.plot 0)
    asksB s (.plot 0) 0x32 = true ∧ allZero b 0 8 = true ∧ bodyEnds b 0x10 = true ∧ fld b 8 8 = 0x8000 ∧
    s.accessFree (s.glsStamp 0 (mbxCtx 0) false) 0x8000 2080 false ∧ (s.ctx? 0).map (·.plot) = some 0 ∧
    s.plotSecure 0 = false := by decide +kernel

theorem test_w_manifest : manifestOk (tEncS.dramGet 0x8000 2080) = true ∧ fld (tEncS.dramGet 0x8000 2080) 6 2 = 0 ∧
    manifestRanges (tEncS.dramGet 0x8000 2080) = [(0x100000, 1, false)] := by decide +kernel

theorem test_w_encCreate_free : let s := tEncS
    s.enclaveOf 0 = none ∧ s.ctxHasProg 0 = false ∧ s.ctxHasSpace 0 = false ∧ s.ctxHasCommand 0 = false ∧
    s.rangeOwned 0 (0x100000, 1, false) = true ∧ s.gls.enclaves = [] ∧
    (List.range 32).find? (fun e => (sget (fun _ => none) s.gls.enclaves e : Option EncSt).isNone) = some 0 := by decide +kernel

/-- Enclave 0 of context 0 on that page. -/
def tEnc : EncSt := ⟨0, 0, false, zeros 32, [(0x100000, 1, true)], [], zeros 48⟩

/-- A request about it. -/
def tEncAsk (op : Nat) (b : List Byte) : State :=
  tAsk ((tGls.mapEntries (fun x => setField (setField (setField x 6 1 1) 7 1 0) 8 12 0x400) [0x100000]).setEnclave 0 (some tEnc)) op b

theorem test_w_encImport : let s := tEncAsk 0x33 (leBytes 4 0 ++ leBytes 4 64 ++ leBytes 8 0x8000 ++ leBytes 8 (8192 - 64))
    let b := s.reqBody (.plot 0)
    asksB s (.plot 0) 0x33 = true ∧ s.enclaveOfPlot (fld b 0 2) 0 = some (0, tEnc) ∧ allZero b 2 2 = true ∧ bodyEnds b 0x18 = true ∧
    fld b 4 4 = 64 ∧ fld b 0x10 8 = 8192 - 64 ∧ tEnc.isSealed = false ∧ sumL (tEnc.ranges.map (fun r => 8192 * r.2.1)) = 8192 ∧
    s.accessFree (s.glsStamp 0 0 false) 0x8000 96 false ∧
    sealedPieces tEnc.ranges (8192 - 64) 64 = [(0x100000 + 8192 - 64, 64)] ∧
    0x100000 + 8192 ≤ reservedBase ∧ s.firstRefused (s.glsStamp 0 0 true) (0x100000 + 8192 - 64) 64 true = none := by decide +kernel

theorem test_w_encSeal : asksB (tEncAsk 0x34 []) (.plot 0) 0x34 = true ∧ bodyEnds ((tEncAsk 0x34 []).reqBody (.plot 0)) 2 = true ∧
    asksB (tEncAsk 0x35 []) (.plot 0) 0x35 = true ∧ (tEncAsk 0x35 []).ctxHasProg 0 = false ∧
    swf (fun _ => none) (tEncAsk 0x35 []).gls.enclaves = true := by decide +kernel

/-- Slots 2 and 3 accept a digest that is its own signature, if the point of their key says so. -/
theorem sigOk_of (x y e u : Nat) (d : List Byte) (h : beNat d = e) (hk : (tKeys x y tQ).slotMay 2 u = true)
    (hv : ecdsaVerify (x, y) (beBytes 48 e) e e = true) (hb : beNat (beBytes 48 e) = e) : (tKeys x y tQ).sigOk 2 u d e e = true := by
  unfold State.sigOk
  rw [hk, Bool.true_and]
  unfold ecdsaVerify at hv ⊢
  rw [hb] at hv
  rw [h]
  exact hv

/-- The signed part of a life-cycle record for state 2. -/
def tLcHead : List Byte := [2] ++ zeros 23 ++ [4] ++ zeros 47

/-- Its signature: r and s are the digest, under the key at which that verifies. -/
def tLcSig : Nat := 16929830541073253866815774230353676040808319389433702451003972219545420158343434524775649311882473573499864884410196

/-- That key's point. -/
def tLcX : Nat := 15505237043200369610575150542753110868953296499770133253393427176144339530968988695042571695398147381132734137141882

/-- Its other coordinate. -/
def tLcY : Nat := 15710652552246756637860773344296701127235747727806279574132753659828140693021612515401050107446437061983712643855498

/-- LC_ADVANCE by that record, whose random value was returned 60 s ago. -/
def tLc : State :=
  let s := tKeys tLcX tLcY tQ
  tAsk ({ s with gls := { s.gls with nonces := [(0, [4] ++ zeros 47)] }, dt := 60000000000 * 2 ^ 32 }.dramPut 0x8000
    (tLcHead ++ beBytes 48 tLcSig ++ beBytes 48 tLcSig)) 0x36 (zeros 8 ++ leBytes 8 0x8000)

theorem test_w_lcAdvance : let r := tLc.dramGet 0x8000 168
    let b := tLc.reqBody (.plot 0)
    asksB tLc (.plot 0) 0x36 = true ∧ allZero b 0 8 = true ∧ bodyEnds b 0x10 = true ∧ fld b 8 8 = 0x8000 ∧
    tLc.accessFree (tLc.glsStamp 0 (mbxCtx 0) false) 0x8000 168 false ∧ allZero r 1 7 = true ∧ r.take 72 = tLcHead ∧
    sub r 8 16 = tLc.gls.otp.serial ∧ tLc.gls.nonces.any (fun n => n.2 == sub r 24 48 && decide (tLc.now ≤ n.1 + 60000000000)) = true ∧
    fld r 0 1 = tLc.lifecycle + 1 ∧ fld r 0 1 ≤ 3 ∧ beNat (sub r 72 48) = tLcSig ∧ beNat (sub r 120 48) = tLcSig := by decide +kernel

theorem test_w_lcSigned : (tKeys tLcX tLcY tQ).sigOk 2 6 (sha384 tLcHead) tLcSig tLcSig = true ∧ tLc.gls.otp = (tKeys tLcX tLcY tQ).gls.otp :=
  ⟨sigOk_of _ _ _ _ _ (by decide +kernel) (by decide +kernel) (by decide +kernel) (by decide +kernel), by decide +kernel⟩

/-- The key at which the record [5] is signed by its digest. -/
def tRevX : Nat := 18809350722344188448476902313396710105154976176550337299063938727826259858642287572970003924581190546212939596810943

/-- Its other coordinate. -/
def tRevY : Nat := 5280095406171297379975569641412034714080319131696460775124775750567261011378837618422289446961390693143542121907138

theorem test_w_revoke_signed : let e := 13783217705755388871127046987224452512132613539956617826574361744646259619024360773213424439205703652791153331483250
    (tKeys tRevX tRevY tQ).sigOk 2 7 (sha384 [5]) e e = true ∧ e < ecN :=
  ⟨sigOk_of _ _ _ _ _ (by decide +kernel) (by decide +kernel) (by decide +kernel) (by decide +kernel), by decide +kernel⟩

theorem test_w_revoke : let s := tKeys tRevX tRevY tQ
    s.sigOk 2 7 (sha384 [6]) 5 0 = false ∧ s.lifecycle = 1 ∧ s.neededUsages = [3] ∧
    (List.range 16).filter (fun j => j ≠ 2 && (s.keySlot j).present && !(s.keySlot j).revoked) = [3] ∧
    bit (s.keySlot 3).usage 3 = true := by decide +kernel

/-- A debug token for every port, over the challenge of zeros. -/
def tToken : List Byte := zeros 64 ++ leBytes 4 0xFF ++ zeros 4

/-- The key at which the token is signed by its digest. -/
def tTokX : Nat := 18068036042639255333083072542301796709316187696550993863229931275431515710676247995609226492613024581546682171646159

/-- Its other coordinate. -/
def tTokY : Nat := 3001974452440911218654736876279361965767336969173350006248015628372394864231652958217574541813067652223461210010397

theorem test_w_debug_signed : let e := 18129496366741523923826397748677527158784176738480453783641578934906299276273378196035431861510951765520558619243551
    (tKeys tTokX tTokY tQ).sigOk 2 5 (sha384 tToken) e e = true ∧ e < ecN :=
  ⟨sigOk_of _ _ _ _ _ (by decide +kernel) (by decide +kernel) (by decide +kernel) (by decide +kernel), by decide +kernel⟩

theorem test_w_debug : let s := tKeys tTokX tTokY tQ
    let t : State := { s with gls := { s.gls with challenges := [zeros 64] } }
    tToken.length = 72 ∧ allZero tToken 68 4 = true ∧ t.gls.challenges = [tToken.take 64] ∧ t.lifecycle ≠ 0 ∧ t.gls.otp = s.gls.otp ∧
    tQ.lifecycle = 0 ∧ tToken ≠ [] := by decide +kernel

theorem test_w_tamper : bit ((tGls.wr .glsTamperCfg 0 1).rd .glsTamperCfg 0) 0 = true ∧ bit ((tGls.wr .glsTamperCfg 0 0).rd .glsTamperCfg 0) 0 = false ∧
    tGls.lifecycle = 1 ∧ tQ.lifecycle = 0 := by decide +kernel

theorem test_w_wipe : let s : State := { tGls with gls := { tGls.gls with wiping := some (10 ^ 9 - 10240) } }
    s.gls.wiping = some (10 ^ 9 - 10240) ∧ 10 ^ 9 - 10240 + 10240 ≤ s.now ∧ s.now < (10 ^ 9 - 10239) + 10240 ∧ tGls.gls.wiping = none := by
  decide +kernel

theorem test_w_policy : tGls.wf = true ∧ (0x11F : BitVec 32).toNat &&& 0xFFFFFEE0 = 0 ∧ (tGls.stampOf (.core 4)).secure = true ∧
    (tGls.stampOf (.core 0)).secure = false ∧ bit ((tGls.wr .glsCtrPolicy 0 0x100).rd .glsCtrPolicy 0) 8 = true ∧
    bit (tGls.rd .glsCtrPolicy 0) 8 = false := by decide +kernel

theorem test_w_msi : tGls.plotSecure (tGls.ownerOf 0x01 0) = false ∧ tGls.plotSecure (tGls.ownerOf 0x01 4) = true ∧
    (tGls.stampOf (.core 0)).secure = false ∧ (tGls.stampOf (.gateway 1)).plot = tGls.ownerOf 0x01 4 := by decide +kernel

theorem test_w_pin : bit tGls.pins 0 = false ∧ tGls.ownerOf 0x08 0 = 0 ∧ 16 ≤ tGls.ownerOf 0x08 127 := by decide +kernel

/-! ### The host interface -/

/-- Ports 0 and 1 are up, instance 0 is open to the host, and inbound window 0 maps 1 MiB from `x` on for it. -/
def tHif (x : Nat) : State :=
  (((tGls.wr .hifIbCfg 0 0x10001).wr .hifIbBus 0 0x100000).wr .hifIbTarget 0 x).setInst 0 { state := 1, host := true, token := 9 }

/-- The device with links up. -/
def tUp (x : Nat) : State := { tHif x with host := { (tHif x).host with links := [(0, ⟨true, 5, 4⟩), (1, ⟨true, 4, 2⟩)] } }

theorem test_w_inboundWrite : let s := tUp 0x200000
    s.wf = true ∧ (s.link 0).up = true ∧ (tHif 0).link 0 = {} ∧ s.notBacked 0 0 = false ∧ s.notBacked 0 1 = true ∧
    s.mapIn 0 0 2 0x100008 8 = some (.dram 0 0x200008) ∧ s.mapIn 0 0 2 0x100000 0x100001 = none ∧ s.mapIn 0 0 2 0x1FFFF8 8 = some (.dram 0 0x2FFFF8) ∧
    s.mapIn 0 0 0 0 4 = some (.reg 0 0x02000A100000) ∧ s.mapIn 0 0 0 8 8 = some (.reg 0 0x02000A100008) ∧
    s.accessFree (s.inStamp 0) 0x200008 8 true ∧ s.accessFree (s.inStamp 0) 0x200008 8 false ∧
    (blockAt 0x02000A100000).isSome = true ∧ 0x200008 + 8 ≤ reservedBase := by decide +kernel

theorem test_w_inbound_refused : (tUp 0x1000000).mapIn 0 0 2 0x100008 8 = some (.dram 0 0x1000008) ∧
    0x1000008 + 8 ≤ dramSize ∧ (tUp 0x1000000).firstRefused ((tUp 0x1000000).inStamp 0) 0x1000008 8 false ≠ none ∧
    (∃ n, (tUp 0).rd .hifIPostedErr n = 0) := ⟨by decide +kernel, by decide, by decide +kernel, 0, by decide +kernel⟩

/-- A REGISTER window onto an address that no block lists. -/
theorem test_w_inbound_unlisted : let s := (tUp 0x030000000000).wr .hifIbCfg 0 0x10081
    s.mapIn 0 0 2 0x100008 8 = some (.reg 0 0x030000000008) ∧ (blockAt 0x030000000008).isNone = true := by decide +kernel

theorem test_w_inbound_masked : tNext (exec (.inboundWrite 0 0 2 0x100008 [some 1, none, some 3] false) (tUp 0x200000))
    (fun t => t.dramGet 0x200008 3 == [1, 0, 3] && t.rd .hifIPostedErr 0 == 0) = true ∧
    tNext (exec (.inboundWrite 0 0 2 0x300000 [some 1] false) (tUp 0x200000)) (fun t => t.rd .hifIPostedErr 0 == 1) = true := by
  decide +kernel

/-- Outbound window 0 of Plot 0 sends through a port. -/
def tOutb (port : Nat) : State := ((tUp 0).wr .hifObCfg 0 (0x10001 + 4 * port)).wr .hifObPci 0 0x5000

theorem test_w_outbound : ∀ p ∈ [0, 1, 2], let s := tOutb p
    outSizeOk (.core 0) 0x040000000010 4 = true ∧ s.outWindow 0x10 4 = some 0 ∧ s.outWindow 0xFFFFC 4 = some 0 ∧ s.outWindow 0x100000 4 = none ∧
    bits (s.rd .hifObCfg 0) 3 2 = p ∧ (s.stampOf (.core 0)).plot = bits (s.rd .hifObCfg 0) 12 9 ∧
    (s.stampOf (.core 4)).plot ≠ bits (s.rd .hifObCfg 0) 12 9 ∧ (s.link p).up = decide (p ≠ 2) ∧ s.freeTag p = some 0 ∧
    (s.inst 0).stopped = false ∧ s.endpoint = true ∧ outSizeOk (.core 0) 0x040000000012 4 = false := by decide +kernel

theorem test_w_outbound_stopped : let s := (tOutb 0).setInst 0 { state := 1, host := true, stopped := true }
    s.endpoint = true ∧ bits (s.rd .hifObCfg 0) 3 2 = 0 ∧ (s.inst (bits (s.rd .hifObCfg 0) 8 4)).stopped = true := by decide +kernel

/-- A read waits at tag 767 of port 1, since `t`. -/
def tReads (t : Nat) : State := { tOutb 1 with host := { (tOutb 1).host with
  reads := [(1024 + 767, some ⟨767, 1, (tOutb 1).stampOf (.core 0), 0x040000000010, 4, 0, t, 0x5010⟩)] } }

/-- A read waits for a tag of port 1. -/
theorem test_w_waits (q : OutRead) (h : q.port = 1) : let s := { tReads 0 with host := { (tReads 0).host with waits := [q] } }
    s.host.waits.find? (fun q => q.port == (1 : Fin 3).val) = some q ∧ (tReads 0).host.waits = [] := by
  refine ⟨?_, rfl⟩
  show ([q].find? _) = some q
  simp [h]

theorem test_w_completion : ∀ t ∈ [0, 10 ^ 9], let s := tReads t
    swf (fun _ => none) s.host.reads = true ∧ (s.outRead 1 767).map (·.len) = some 4 ∧ s.outRead 1 0 = none ∧
    decide (t + 1000000 * s.rd .hifCplTimeout 0 ≤ s.now) = decide (t = 0) := by decide +kernel

theorem test_w_config : let s := tUp 0
    (s.link 1).up = true ∧ isKeeper .keeper = true ∧ (s.link 0).up = true ∧ s.endpoint = true ∧ (s.link 2).up = false ∧
    (bit (s.rd .hifRpOwner 1) 4 && s.isCoreOf (.core 0) (bits (s.rd .hifRpOwner 1) 3 0)) = false ∧
    (let u := s.wr .hifRpOwner 1 0x10
     (bit (u.rd .hifRpOwner 1) 4 && u.isCoreOf (.core 0) (bits (u.rd .hifRpOwner 1) 3 0)) = true) := by decide +kernel

theorem test_w_flr : let s : State := { tUp 0 with host := { (tUp 0).host with vfs := 1, insts := (tUp 0).host.insts ++ [(1, { state := 1, host := true })] } }
    swf (fun _ => {}) s.host.insts = true ∧ s.hostBacked 0 = true ∧ (s.inst 0).state = 1 ∧ s.hostBacked 1 = true ∧ (s.inst 1).state = 1 ∧
    s.hostBacked 2 = false ∧ s.endpoint = true ∧ ({ s with pwr := { s.pwr with hostMode := true } } : State).endpoint = false ∧
    (s.setInst 0 { state := 3, host := true }).hostBacked 0 = true := by decide +kernel

theorem test_w_links : swf (fun _ => {}) (tReads 0).host.links = true ∧ swf (fun _ => none) (tReads 0).host.reads = true ∧
    tNext (exec (.pcieLinkDown 1) (tReads 0)) (fun t => t.host.reads == [] && (t.link 0).up && !(t.link 1).up) = true := by decide +kernel

/-- A request of opcode `op` waits in the mailbox of instance 0, which is open or not. -/
def tInstAsk (s : State) (o : Bool) (op : Nat) (b : List Byte) : State :=
  s.setMbx 16 { isOpen := o, feat := 0x7FF, busy := true, req := leBytes 4 1 ++ leBytes 2 op ++ zeros 10 ++ tBody b }

theorem test_w_open : let b := leBytes 2 ((tUp 0).rd .kprIfVersion 0 / 65536) ++ zeros 6 ++ leBytes 8 1
    let s := tInstAsk ((tUp 0).setInst 0 {}) false 1 b
    let p := (tUp 0).setMbx 0 { busy := true, req := leBytes 4 1 ++ leBytes 2 1 ++ zeros 10 ++ tBody b }
    ∀ c ∈ [(s, Mbx.inst 0), (p, Mbx.plot 0)], let s := c.1
      let k := mbxKey c.2
      let b := s.reqBody c.2
      asksB s c.2 1 = true ∧ allZero b 4 4 = true ∧ bodyEnds b 16 = true ∧ s.mbxPlot k = 0 ∧ s.plotRunning (s.mbxPlot k) = true ∧
      s.mbxOpen k = false ∧ (s.inst (k - 16)).closing = none ∧ fld b 0 2 = s.rd .kprIfVersion 0 / 65536 ∧
      fld b 8 8 &&& featDev = fld b 8 8 ∧ bit (fld b 8 8) 0 = true := by decide +kernel

theorem test_w_close : let s := tInstAsk (tUp 0) true 2 []
    swf (fun _ => {}) s.host.insts = true ∧ swf (fun _ => none) s.tensor.ctxs = true ∧ (s.inst 0).closing = none ∧
    asksB s (.inst 0) 2 = true ∧ bodyEnds (s.reqBody (.inst 0)) 0 = true ∧ s.instFlight 0 = false ∧
    s.host.insts = [(0, { state := 1, host := true, token := 9 })] := by decide +kernel

theorem test_w_close_others (s : State) (h : s.host.insts = [(0, { state := 1, host := true, token := 9 })]) (j : Nat)
    (q : Nat × Nat) (hj : j ≠ 0) (hq : (s.inst j).freezing = some q) : q.1 ≠ 16 := by
  have e : s.inst j = {} := by unfold State.inst; rw [h]; simp [sget, hj]
  rw [e] at hq
  cases hq

/-- Queue 0 is bound to instance 0, with a command in flight. -/
def tFlying (s : State) : State :=
  let u := s.wr .hifQCfg 0 0x241
  { u with tensor := { u.tensor with flights := [tGo] } }

theorem test_w_instFlight : (tFlying (tInstAsk (tUp 0) true 2 [])).instFlight 0 = true ∧ asksB (tFlying (tInstAsk (tUp 0) true 2 [])) (.inst 0) 2 = true := by
  decide +kernel

theorem test_w_attach : ∀ x ∈ [({ state := 1, token := 9 } : InstSt), { state := 2, token := 9, detEnd := 10 ^ 9 }],
    let s := tInstAsk ((tUp 0).setInst 0 x) true 3 (leBytes 8 9)
    let b := s.reqBody (.inst 0)
    asksB s (.inst 0) 3 = true ∧ bodyEnds b 9 = true ∧ fld b 8 1 = 0 ∧ (s.inst 0).freezing = none ∧ (s.inst 0).closing = none ∧
    ((s.inst 0).state = 1 ∨ (s.inst 0).state = 2 ∧ s.now ≤ (s.inst 0).detEnd) ∧ fld b 0 8 = (s.inst 0).token := by decide +kernel

theorem test_w_beat : (tUp 0).pageWriter .keeper 0 = none ∧ (tUp 0).pageWriter (.host 0) 0 = none ∧ (tUp 0).pageWriter (.core 0) 0 ≠ none ∧
    (tUp 0).pageWriter (.core 0) 1 = none := by decide +kernel

theorem test_w_heartbeat : ∀ t ∈ [0, 10 ^ 9], let s := (tUp 0).setInst 0 { state := 1, hbAt := t }
    (s.inst 0).state = 1 ∧ decide ((s.inst 0).hbAt + 1000000 * s.rd .hifHbTimeout 0 ≤ s.now) = decide (t = 0) := by decide +kernel

theorem test_w_detachExpiry : let s := (tUp 0).setInst 0 { state := 2, detEnd := 10 ^ 9 }
    (s.inst 0).state = 2 ∧ (s.inst 0).detEnd ≤ s.now ∧ (s.inst 0).closing = none ∧ s.instFlight 0 = false ∧
    ¬ ((tUp 0).inst 0).state = 2 := by decide +kernel

theorem test_w_freezeTimeout : ∀ t ∈ [10 ^ 9, 10 ^ 9 + 1], let s := (tFlying (tUp 0)).setInst 0 { state := 1, freezing := some (0, t) }
    (s.inst 0).freezing = some (0, t) ∧ (s.inst 0).closing = none ∧ s.instFlight 0 = true ∧ decide (t ≤ s.now) = decide (t = 10 ^ 9) := by
  decide +kernel

theorem test_w_freeze : ∀ n ∈ [1, 60000], let s := tAsk (tUp 0) 0x40 (zeros 4 ++ leBytes 4 n)
    let b := s.reqBody (.plot 0)
    s.migOk 0 0 = true ∧ asksB s (.plot 0) 0x40 = true ∧ allZero b 1 3 = true ∧ bodyEnds b 8 = true ∧ fld b 4 4 = n ∧
    (s.inst 0).state = 1 ∧ (s.inst 0).closing = none ∧ (s.inst 0).freezing = none ∧ s.instFlight 0 = false ∧ (s.mbx 16).busy = false ∧
    (tFlying s).instFlight 0 = true ∧ asksB (tFlying s) (.plot 0) 0x40 = true ∧
    s.host.insts = [(0, { state := 1, host := true, token := 9 })] := by decide +kernel

/-- Instance 0 is FROZEN, and a request waits. -/
def tFrozen (op : Nat) (b : List Byte) : State :=
  tAsk ((tUp 0).setInst 0 { state := 3, host := true, token := 9, prior := 1 }) op b

theorem test_w_save : ∀ n ∈ [0x980 + 47, 0x980 + 48], let s := tFrozen 0x41 (zeros 4 ++ leBytes 4 n ++ leBytes 8 0x8000)
    let b := s.reqBody (.plot 0)
    asksB s (.plot 0) 0x41 = true ∧ allZero b 1 3 = true ∧ bodyEnds b 16 = true ∧ fld b 8 8 = 0x8000 ∧ fld b 4 4 = n ∧
    (s.inst 0).state = 3 ∧ s.ctxsVia 16 = [] ∧ (s.imageBody 0).length = 0x980 ∧ s.migOk 0 0 = true ∧
    s.accessFree (s.mbxStamp 0) 0x8000 (0x980 + 48) true := by decide +kernel

theorem test_w_thaw : (tFrozen 0x43 []).migOk 0 0 = true ∧ asksB (tFrozen 0x43 []) (.plot 0) 0x43 = true ∧
    asksB (tFrozen 0x44 []) (.plot 0) 0x44 = true ∧ bodyEnds ((tFrozen 0x43 []).reqBody (.plot 0)) 1 = true := by decide +kernel

/-- The head of a state image of instance 0 that holds no record, in memory. -/
def tHdr : List Host.Cell := writeBytes zeroAt [] 0x8000
  (leBytes 4 0x494D5A53 ++ leBytes 2 1 ++ zeros 2 ++ leBytes 4 2480 ++ [1, 1])

/-- The image without its digest. -/
def tImageBody : List Byte := readBytes zeroAt tHdr 0x8000 2432

/-- RESTORE of that image, in a device with `n` contexts. -/
def tRestore (n : Nat) : State :=
  let s := tAsk ((tUp 0).setInst 0 {}) 0x42 (zeros 4 ++ leBytes 4 2480 ++ leBytes 8 0x8000)
  { s with
    dram := writeBytes zeroAt tHdr (0x8000 + 2432) (sha384 tImageBody)
    tensor := { s.tensor with ctxs := (List.range n).map (fun i => (i, some { plot := 0, via := 0 })) } }

theorem tRestore_list (n : Nat) : (tRestore n).dram = writeBytes zeroAt tHdr (0x8000 + 2432) (sha384 tImageBody) := by
  simp only [tRestore]

theorem tRestore_dram (n : Nat) : (tRestore n).dramGet 0x8000 2480 = tImageBody ++ sha384 tImageBody := by
  rw [State.dramGet_plain _ _ _ (.inl (by decide)), tRestore_list]
  have h := readBytes_writeBytes zeroAt tHdr (sha384 tImageBody) 0x8000 2432 (by decide +kernel)
  rw [sha384_length] at h
  exact h

theorem tRestore_read (n : Nat) (h : (tRestore n).firstRefused ((tRestore n).mbxStamp 0) 0x8000 2480 false = none)
    (hd : ((tRestore n).pass ((tRestore n).mbxStamp 0) 0x8000 2480 false).dramGet 0x8000 2480 = (tRestore n).dramGet 0x8000 2480) :
    (tRestore n).memRead ((tRestore n).mbxStamp 0) 0x8000 2480 =
      ((tRestore n).pass ((tRestore n).mbxStamp 0) 0x8000 2480 false, some (tImageBody ++ sha384 tImageBody)) := by
  unfold State.memRead
  rw [if_neg (by decide), h]
  simp only [hd, tRestore_dram]

theorem test_w_restore : ∀ n ∈ [0, 4, 5], let s := tRestore n
    let b := s.reqBody (.plot 0)
    asksB s (.plot 0) 0x42 = true ∧ allZero b 0 4 = true ∧ bodyEnds b 16 = true ∧ fld b 8 8 = 0x8000 ∧ fld b 4 4 = 2480 ∧
    s.accessFree (s.mbxStamp 0) 0x8000 2480 false := by decide +kernel

theorem tImage_read (d : List Byte) : readInstImg (tImageBody ++ d) = readInstImg tImageBody := by
  have hl : tImageBody.length = 2432 := by decide +kernel
  have z : ∀ i ∈ [0xE, 0x10, 0x12, 0x14, 0x16], fld tImageBody i 2 = 0 := by decide +kernel
  have f : ∀ i n, i + n ≤ 2432 → fld (tImageBody ++ d) i n = fld tImageBody i n := fun i n h => fld_append (by omega)
  have g : ∀ i n, i + n ≤ 2432 → sub (tImageBody ++ d) i n = sub tImageBody i n := fun i n h => sub_append (by omega)
  simp (disch := decide) only [readInstImg, f, g, z 0xE (by decide), z 0x10 (by decide),
    z 0x12 (by decide), z 0x14 (by decide), z 0x16 (by decide), records, readImgProgs, List.range_zero, List.map_nil]

theorem test_w_restore_good : let r := tImageBody ++ sha384 tImageBody
    0x980 + 48 ≤ 2480 ∧ sha384 (r.take (2480 - 48)) = r.drop (2480 - 48) ∧ (readInstImg r).formatOk r = true ∧ fld r 4 2 = 1 := by
  have hl : tImageBody.length = 2432 := by decide +kernel
  refine ⟨by decide, ?_, ?_, ?_⟩
  · rw [List.take_left' hl, List.drop_left' hl]
  · rw [tImage_read, InstImg.formatOk, fld_append (by omega), fld_append (by omega), allZero, sub_append (by omega), List.length_append,
      hl, sha384_length]
    decide +kernel
  · rw [fld_append (by omega)]
    decide +kernel

theorem test_w_restore_plan : ∀ n ∈ [4, 5], let s := tRestore n
    let t := s.pass (s.mbxStamp 0) 0x8000 2480 false
    let x := readInstImg tImageBody
    t.imgPlanOk 0 x = true ∧ isOk (t.restoreAll 0 x).2 = decide (n = 4) := by decide +kernel

/-! ### Updates and the Keeper -/

/-- Slot 1 accepts a digest that is its own signature, if the point of its key says so. -/
theorem sigOk_at (s : State) (x y e u : Nat) (d : List Byte) (hx : ((s.keySlot 1).x, (s.keySlot 1).y) = (x, y)) (h : beNat d = e)
    (hk : s.slotMay 1 u = true) (hv : ecdsaVerify (x, y) (beBytes 48 e) e e = true) (hb : beNat (beBytes 48 e) = e) :
    s.sigOk 1 u d e e = true := by
  unfold State.sigOk
  rw [hk, Bool.true_and, hx]
  unfold ecdsaVerify at hv ⊢
  rw [hb] at hv
  rw [h]
  exact hv

/-- The keys of `tKeys` in Manufacture, with one in slot 1. -/
def tMfg (x y : Nat) : State :=
  let s := tKeys x y tQ
  { s with gls := { s.gls with otp := { s.gls.otp with
    lifecycle := [0, 0, 0], keys := (1, { x := x, y := y, usage := 0xFF, present := true }) :: s.gls.otp.keys } } }

/-- The signed part of an update header: PLAIN, an image of 168 bytes for the Glasshouse. -/
def tUpdHead : List Byte :=
  leBytes 4 0x50555A53 ++ leBytes 2 1 ++ [1, 1] ++ leBytes 4 168 ++ leBytes 4 1 ++ leBytes 8 1 ++ zeros 168 ++ leBytes 1 4 ++ zeros 63

/-- Its signature: r and s are the digest. -/
def tUpdSig : Nat := 6342409738071050801071540420979369184814233083281035390673740714217102504806157263599505016697646296666425675073314

/-- UPD_BEGIN with that header, where slot 1 holds a key. -/
def tBegin (x y : Nat) : State :=
  tAsk ((((tMfg x y).dramPut 0x8000 (tUpdHead.take 24)).dramPut 0x80C0 (leBytes 1 4)).dramPut 0x8100
    (beBytes 48 tUpdSig ++ beBytes 48 tUpdSig)) 0x50 (leBytes 8 0x8000)

/-- The key under which it verifies. -/
def tUpdKey : Nat × Nat := (4677381571402604811736458895876449226936895569724855869509917231679513501083235910025631997828411986866250549831280, 7936203341875664133277741134553256273225325338036629840690203103178050668889153191086711061873023728707292628839057)

theorem test_w_updBegin : ∀ q ∈ [tUpdKey, (0, 0)], let s := tBegin q.1 q.2
    let b := s.reqBody (.plot 0)
    let h := s.dramGet 0x8000 352
    asksB s (.plot 0) 0x50 = true ∧ bodyEnds b 8 = true ∧ fld b 0 8 = 0x8000 ∧ s.kpr.upd.state = 0 ∧
    s.accessFree (s.mbxStamp 0) 0x8000 352 false ∧ updHeaderOk h s.lifecycle = true ∧ s.gls.halted = false ∧
    h.take 0x100 = tUpdHead ∧ fld h 0x10 8 = 1 ∧ fld h 6 1 = 1 ∧ beNat (sub h 0x100 48) = tUpdSig ∧ beNat (sub h 0x130 48) = tUpdSig ∧
    bit (fld h 7 1) 0 = true := by decide +kernel

theorem test_w_updBegin_digest : beNat (sha384 tUpdHead) = tUpdSig := by decide +kernel

theorem test_w_updBegin_signed : (tBegin tUpdKey.1 tUpdKey.2).sigOk 1 (updUsage 1).1 (sha384 tUpdHead) tUpdSig tUpdSig = true ∧
    (tBegin 0 0).sigOk 1 (updUsage 1).1 (sha384 tUpdHead) tUpdSig tUpdSig = false :=
  ⟨sigOk_at _ tUpdKey.1 tUpdKey.2 _ _ _ (by decide +kernel) test_w_updBegin_digest (by decide +kernel) (by decide +kernel) (by decide +kernel),
    by decide +kernel⟩

/-- UPD_BLOCK of `n` bytes at `off` of an image of `len` bytes, PLAIN or not. -/
def tBlock (plain : Byte) (len off n : Nat) : State :=
  tAsk { tMfg 0 0 with kpr := { tQ.kpr with upd := {
    state := 1, session := 5, target := 1, header := zeros 7 ++ [plain], key := zeros 32, imageLen := len } } } 0x51
    (leBytes 4 5 ++ leBytes 4 off ++ leBytes 8 0x8000 ++ leBytes 4 n)

theorem test_w_updBlock : ∀ q ∈ [((1 : Byte), 168, 0, 168), (1, 65537, 65536, 1), (0, 65537, 65536, 1)],
    let s := tBlock q.1 q.2.1 q.2.2.1 q.2.2.2
    let b := s.reqBody (.plot 0)
    let u := s.kpr.upd
    let n := fld b 0x10 4
    asksB s (.plot 0) 0x51 = true ∧ u.state = 1 ∧ u.owner = 0 ∧ fld b 0 4 = u.session ∧ bodyEnds b 0x14 = true ∧ fld b 8 8 = 0x8000 ∧
    fld b 4 4 = q.2.2.1 ∧ q.2.2.1 % 65536 = 0 ∧ q.2.2.1 < u.imageLen ∧ n = blockLen u.imageLen (fld b 4 4 / 65536) ∧
    s.accessFree (s.mbxStamp 0) 0x8000 (32 + n) false ∧ allZero (s.dramGet 0x8000 (32 + n)) 12 4 = true ∧ s.gls.halted = false ∧
    ((u.open? q.2.2.1 (s.dramGet 0x8000 (32 + n))).isSome = decide (q.1 = 1)) := by decide +kernel

/-- Images: the digest that signs one of a kind, and the key. -/
def tFwKey : Nat → Nat × Nat × Nat
  | 1 => (11627753784932732171913403210696015656816248378896663188095205902490471203704310233917020187504801290108549760525699, 15296889792885147440372362763892863182213330573740764161355294094532832581013433257721611481743960871792224709841688, 2420674647589383755648023239733898449677358601250459368857655575090284390905538330907030948601751625453231342509432)
  | 2 => (1547091147058733950793139033939366143372386988454506964152827068625536346785572338864861471714751332016162106422559, 17595997875242299573465556507775168265532450678285233291734159139474748858999736706241786545976171948788916272151719, 16268098226508830524809915869491100733235054286135596750244683229429802839693607774688376881799001032591452228264836)
  | _ => (8198199176255896191900291782506398034733643132368036556645951102619599410932591862286993036534641546685595471693696, 13671397255005808206435579292346547045609951970778154163984737473431903540916111225240092313176934633210883449049963, 3537365943574896019235089360335549317754590399635263514560250189645900597409064087356540068917457577490310707445123)

/-- The signed part of an image of a target. -/
def tFwHead (t : Nat) : List Byte :=
  if t ≤ 3 then leBytes 4 0x57465A53 ++ leBytes 2 1 ++ leBytes 2 t ++ leBytes 4 168 ++ leBytes 4 (if t = 1 then 5 else 1) ++ zeros 48
  else leBytes 4 0x50535A53 ++ zeros 4 ++ leBytes 4 248 ++ leBytes 4 1 ++ zeros 12 ++ leBytes 2 1 ++ zeros 114

/-- The image with its signature. -/
def tFw (t : Nat) : List Byte := tFwHead t ++ (leBytes 8 1 ++ beBytes 48 (tFwKey t).1 ++ beBytes 48 (tFwKey t).1)

/-- An update header with the image's digest. -/
def tFwUpd (t : Nat) : List Byte := zeros 6 ++ leBytes 1 t ++ zeros 185 ++ sha384 (tFw t)

/-- A device whose slot 1 holds the image's key. -/
def tFwS (t : Nat) : State := tMfg (tFwKey t).2.1 (tFwKey t).2.2

/-- The staged image under KSTORE, at a place; its tag is changed by `flip`. -/
def tArea (d : Nat → Byte) (base t : Nat) (flip : Byte) : List Host.Cell :=
  let e := gcmEncrypt (tFwS t).kstore (readBytes d [] base 12) (stagedAad t 0) (tFw t)
  writeBytes d (writeBytes d [] (base + 16) (e.2.map (· ^^^ flip))) (base + 0x10000) e.1

/-- A session in state `st` with that image, and a request. -/
def tUpd (t : Nat) (flip : Byte) (st op : Nat) : State :=
  let s := tAsk { tFwS t with kpr := { tQ.kpr with upd := {
    state := st, session := 5, target := t, header := tFwUpd t, imageLen := (tFw t).length, received := [0] } } } op (leBytes 4 5)
  { s with dram := tArea zeroAt stagingBase t flip, flash := tArea oneAt flashStaging t flip }

theorem kstore_of_gls {s t : State} (h : s.gls = t.gls) : s.kstore = t.kstore := by
  unfold State.kstore State.derived State.lifecycle
  rw [h]

theorem kstore_length (s : State) : s.kstore.length = 32 := by
  unfold State.kstore State.derived
  rw [List.length_take, beBytes_length]
  decide

theorem tFw_length : ∀ t ∈ [1, 2, 3, 4, 5], (tFw t).length = (if t ≤ 3 then 168 else 248) := by decide +kernel

theorem flip_ne : ∀ l : List Byte, l.length = 16 → l ≠ l.map (· ^^^ 1)
  | b :: r, _, e => by
    have h : ∀ b : Byte, b ≠ b ^^^ 1 := by decide
    exact h b (List.cons.inj e).1

/-- The image of one block in a staging area. -/
theorem stagedImage_one (s : State) (get : Nat → Nat → List Byte) (u : UpdSt) (n : Nat) (hn : u.imageLen = n) (h1 : 1 ≤ n) (h2 : n ≤ 65536) :
    s.stagedImage get u = gcmDecrypt s.kstore (get 0 12) (stagedAad (fld u.header 6 1) 0) (get 0x10000 n) (get 16 16) := by
  unfold State.stagedImage
  rw [hn, show ceilDiv n 65536 = 1 by unfold ceilDiv; omega, show List.range 1 = [0] from rfl]
  simp only [List.foldl_cons, List.foldl_nil, Option.bind_some, blockLen, Nat.mul_zero, Nat.add_zero, Nat.zero_add, Nat.sub_zero]
  rw [Nat.min_eq_right h2]
  generalize gcmDecrypt _ _ _ _ _ = o
  cases o <;> rfl

theorem tArea_read (d : Nat → Byte) (base t : Nat) (flip : Byte) (hd : swf d [] = true) (n : Nat) (hn : (tFw t).length = n) :
    let e := gcmEncrypt (tFwS t).kstore (readBytes d [] base 12) (stagedAad t 0) (tFw t)
    readBytes d (tArea d base t flip) base 12 = readBytes d [] base 12 ∧
    readBytes d (tArea d base t flip) (base + 0x10000) n = e.1 ∧
    readBytes d (tArea d base t flip) (base + 16) 16 = e.2.map (· ^^^ flip) := by
  have l1 := gcmEncrypt_length (tFwS t).kstore (readBytes d [] base 12) (stagedAad t 0) (tFw t) (kstore_length _)
  have l2 : ((gcmEncrypt (tFwS t).kstore (readBytes d [] base 12) (stagedAad t 0) (tFw t)).2.map (· ^^^ flip)).length = 16 := by
    rw [List.length_map, gcmEncrypt_eq, gcmTag_length _ _ _ _ (kstore_length _)]
  unfold tArea
  generalize gcmEncrypt (tFwS t).kstore (readBytes d [] base 12) (stagedAad t 0) (tFw t) = e at l1 l2
  simp only []
  refine ⟨?_, ?_, ?_⟩
  · rw [readBytes_outside _ _ _ _ _ _ (by omega), readBytes_outside _ _ _ _ _ _ (by omega)]
  · have h := readBytes_self d (writeBytes d [] (base + 16) (e.2.map (· ^^^ flip))) e.1 (base + 0x10000) (swf_writeBytes d _ _ _ hd)
    rwa [l1, hn] at h
  · rw [readBytes_outside _ _ _ _ _ _ (by omega)]
    have h := readBytes_self d [] (e.2.map (· ^^^ flip)) (base + 16) hd
    rwa [l2] at h

/-- The staged image decrypts, or fails its tag. -/
theorem tUpd_decrypt (t : Nat) (d : Nat → Byte) (base : Nat) (flip : Byte) (hf : flip = 0 ∨ flip = 1) :
    let e := gcmEncrypt (tFwS t).kstore (readBytes d [] base 12) (stagedAad t 0) (tFw t)
    gcmDecrypt (tFwS t).kstore (readBytes d [] base 12) (stagedAad t 0) e.1 (e.2.map (· ^^^ flip)) =
      if flip = 0 then some (tFw t) else none := by
  intro e
  rcases hf with rfl | rfl
  · have h : e.2.map (· ^^^ (0 : Byte)) = e.2 := by
      rw [show (fun x : Byte => x ^^^ 0) = id from funext fun x => BitVec.xor_zero, List.map_id]
    rw [h]
    exact gcmDecrypt_gcmEncrypt _ _ _ _ (kstore_length _)
  · have e2 : e.2 = gcmTag (tFwS t).kstore (readBytes d [] base 12) (stagedAad t 0) e.1 := by
      show (gcmEncrypt _ _ _ _).2 = gcmTag _ _ _ (gcmEncrypt _ _ _ _).1
      rw [gcmEncrypt_eq]
    rw [gcmDecrypt, if_neg]
    · rfl
    · rw [← e2]
      exact flip_ne _ (by rw [e2, gcmTag_length _ _ _ _ (kstore_length _)])

theorem tFwUpd_target : ∀ t ∈ [1, 2, 3, 4, 5], fld (tFwUpd t) 6 1 = t := by
  intro t ht
  unfold tFwUpd
  rw [fld_append (by simp)]
  revert t
  decide +kernel

theorem tFwUpd_digest (t : Nat) : sub (tFwUpd t) 0xC0 48 = sha384 (tFw t) := by
  unfold tFwUpd sub
  rw [List.drop_left' (by simp), List.take_of_length_le (by simp)]

/-- What the staging buffer and the staging area hold. -/
theorem test_w_staged (t : Nat) (ht : t ∈ [1, 2, 3, 4, 5]) (flip : Byte) (hf : flip = 0 ∨ flip = 1) (st op : Nat) :
    let s := tUpd t flip st op
    s.stagedImage (fun a n => s.dramGet (stagingBase + a) n) s.kpr.upd = (if flip = 0 then some (tFw t) else none) ∧
    s.stagedImage (fun a n => s.flashGet (flashStaging + a) n) s.kpr.upd = (if flip = 0 then some (tFw t) else none) := by
  intro s
  have hl := tFw_length t ht
  have hu : s.kpr.upd.imageLen = (tFw t).length := rfl
  have hh : s.kpr.upd.header = tFwUpd t := rfl
  have hk : s.kstore = (tFwS t).kstore := kstore_of_gls rfl
  have n1 : 1 ≤ (tFw t).length := by rw [hl]; split <;> decide
  have n2 : (tFw t).length ≤ 65536 := by rw [hl]; split <;> decide
  constructor
  · obtain ⟨a, b, c⟩ := tArea_read zeroAt stagingBase t flip rfl _ rfl
    have p : ∀ x n, s.dramGet (stagingBase + x) n = readBytes zeroAt (tArea zeroAt stagingBase t flip) (stagingBase + x) n :=
      fun x n => State.dramGet_plain _ _ _ (.inr (by show (0x1FC4000000 : Nat) ≤ 0x1FDC200000 + x; omega))
    rw [stagedImage_one _ _ _ _ hu n1 n2, hk, hh, tFwUpd_target t ht, p, p, p, Nat.add_zero, a, b, c]
    exact tUpd_decrypt t zeroAt stagingBase flip hf
  · obtain ⟨a, b, c⟩ := tArea_read oneAt flashStaging t flip rfl _ rfl
    have p : ∀ x n, s.flashGet (flashStaging + x) n = readBytes oneAt (tArea oneAt flashStaging t flip) (flashStaging + x) n :=
      fun x n => rfl
    rw [stagedImage_one _ _ _ _ hu n1 n2, hk, hh, tFwUpd_target t ht, p, p, p, Nat.add_zero, a, b, c]
    exact tUpd_decrypt t oneAt flashStaging flip hf

theorem test_w_fw_digest : ∀ t ∈ [1, 2, 4], beNat (sha384 (tFwHead t)) = (tFwKey t).1 := by decide +kernel

theorem tFw_sig : ∀ t ∈ [1, 2, 4],
    ecdsaVerify (tFwKey t).2 (beBytes 48 (tFwKey t).1) (tFwKey t).1 (tFwKey t).1 = true := by decide +kernel

theorem tFw_fields : ∀ t ∈ [1, 2, 4], let i := tFw t
    let n := i.length
    beNat (beBytes 48 (tFwKey t).1) = (tFwKey t).1 ∧ fld i 8 4 = n ∧ fld i (n - 104) 8 = 1 ∧ i.take (n - 104) = tFwHead t ∧
    beNat (sub i (n - 96) 48) = (tFwKey t).1 ∧ beNat (sub i (n - 48) 48) = (tFwKey t).1 ∧
    (if t ≤ 3 then fwHeaderOk (i.take 64) t (fwSlot t 0).2 else locatable (i.take 0x80)) = true ∧
    (tFwS t).slotMay 1 (updUsage t).1 = true ∧ (tFwS t).updVersionOk t i = true := by decide +kernel

/-- The checks of the staged image of each kind pass. -/
theorem test_w_checks (t : Nat) (ht : t ∈ [1, 2, 4]) (flip : Byte) (st op : Nat) :
    let s := tUpd t flip st op
    (s.updChecks s.kpr.upd (tFw t)).2 = none := by
  intro s
  obtain ⟨h1, h2, h3, h4, h5, h6, h7, h8, h9⟩ := tFw_fields t ht
  have ht' : s.kpr.upd.target = t := rfl
  have hh : s.kpr.upd.header = tFwUpd t := rfl
  have hs : s.sigOk 1 (updUsage t).1 (sha384 (tFwHead t)) (tFwKey t).1 (tFwKey t).1 = true :=
    sigOk_at s (tFwKey t).2.1 (tFwKey t).2.2 _ _ _ rfl (test_w_fw_digest t ht) h8 (tFw_sig t ht) h1
  have hv : s.updVersionOk t (tFw t) = true := h9
  unfold State.updChecks
  rw [ht', hh, tFwUpd_digest, h7, h2]
  simp only [ne_eq, not_true_eq_false, decide_false, Bool.not_true, Bool.or_self, Bool.false_eq_true, if_false, State.verify]
  rw [h3, h4, h5, h6, if_pos hs]
  simp only [hv, if_true]

theorem test_w_updStage : ∀ t ∈ [1, 2, 4], let s := tUpd t 0 1 0x52
    let b := s.reqBody (.plot 0)
    let u := s.kpr.upd
    asksB s (.plot 0) 0x52 = true ∧ u.state = 1 ∧ u.owner = 0 ∧ fld b 0 4 = u.session ∧ bodyEnds b 4 = true ∧ s.gls.halted = false ∧
    u.received.length = ceilDiv u.imageLen 65536 ∧ s.kpr.bcb.length = 2 ∧ s.control.kinds.length = 3 ∧
    (if u.target ≤ 3 then [] else s.planFails (tFw t) (u.target - 4)).isEmpty = decide (t ≤ 3) := by decide +kernel

theorem test_w_updActivate : ∀ t ∈ [1, 2, 3, 4, 5], let s := tUpd t 0 2 0x53
    let b := s.reqBody (.plot 0)
    let u := s.kpr.upd
    asksB s (.plot 0) 0x53 = true ∧ u.state = 2 ∧ u.owner = 0 ∧ fld b 0 4 = u.session ∧ bodyEnds b 4 = true ∧ u.target = t ∧
    s.pwr.state = 0 ∧ s.gls.halted = false ∧ (∀ e ∈ s.kpr.mbx, e.2.serving = false) ∧
    ((s.setMbx 1 { serving := true }).mbx 1).serving = true ∧ ({ s with pwr := { s.pwr with state := 1 } } : State).pwr.state ≠ 0 ∧
    asksB (tUpd t 0 4 0x54) (.plot 0) 0x54 = true ∧ (tUpd t 0 4 0x54).kpr.upd.state ≠ 3 := by decide +kernel

theorem test_w_updCommit : ∀ n ∈ [1, 4],
    let s := tAsk { tMfg 0 0 with kpr := { tQ.kpr with fw := [(1, some ⟨0, 1, 300, 0, [], [], false⟩)] } } 0x55
      (leBytes 1 n)
    let b := s.reqBody (.plot 0)
    asksB s (.plot 0) 0x55 = true ∧ bodyEnds b 1 = true ∧ fld b 0 1 = n ∧ s.gls.halted = false ∧
    (if n = 4 then s.plan.map (·.version) else (s.fwOf n).map (·.svn)) = some (if n = 4 then 3 else 300) ∧
    (s.control.kind 1).trial = false ∧ s.spl.state ≠ 3 ∧ ({ s with spl := { s.spl with state := 3 } } : State).spl.state = 3 := by
  decide +kernel

theorem test_w_retry : ∀ t ∈ [4, 5], let s := tUpd t 0 4 0
    s.kpr.upd.state = 4 ∧ s.pwr.state = 0 ∧ s.pwr.normal + 1000000000 = s.now ∧ s.keeperServes = true ∧ s.gls.halted = false ∧
    s.kpr.upd.target = t ∧ tQ.kpr.upd.state ≠ 4 := by decide +kernel

/-- A handover since `t`, or the firmware after it. -/
def tHand (t : Nat) (p : Option Nat) : State := { tQ with kpr := { tQ.kpr with
  state := 2, next := some ⟨1, 2, 3, 4, zeros 48, [1, 2], false⟩
  upd := { state := 3, session := 5, target := 2, readyAt := some t, pendingReply := p } } }

theorem test_w_handover : ∀ t ∈ [500000000, 500000001], ∀ p ∈ [none, some 0], let s := tHand t p
    isKeeper .keeper = true ∧ isKeeper (.core 0) = false ∧ s.kpr.state = 2 ∧ s.kpr.next.isSome = true ∧ s.kpr.bcb.length = 2 ∧
    s.control.kinds.length = 3 ∧ s.kpr.upd.pendingReply = p ∧ tQ.kpr.state ≠ 2 ∧ tQ.kpr.state ≠ 4 ∧ tQ.kpr.next = none ∧
    decide (∃ t0 ∈ s.kpr.upd.readyAt, t0 + 500000000 ≤ s.now) = decide (t = 500000000) := by decide +kernel

theorem test_w_restart : ∀ t ∈ [900000000, 900000001], let s := (tAsk { tQ with kpr := { tQ.kpr with wdogAt := t } } 0x31 []).setMbx 1 { serving := true }
    s.kpr.state ≠ 0 ∧ s.kpr.state ≠ 4 ∧ decide (s.kpr.wdogAt + 100000000 ≤ s.now) = decide (t = 900000000) ∧
    swf (fun _ => ({} : MbxSt)) s.kpr.mbx = true ∧ (s.mbx 1).serving = true ∧ (s.mbx 0).serving = false ∧
    ({ s with kpr := { s.kpr with state := 4 } } : State).kpr.state = 4 := by decide +kernel

theorem test_w_logRead : ∀ m ∈ [1, 65536],
    let s := tAsk ({ tQ with kpr := { tQ.kpr with logWr := 2 } }.dramPut (logRing + 13) [1]) 0x60
      (zeros 8 ++ leBytes 4 m ++ zeros 4 ++ leBytes 8 0x8000)
    let b := s.reqBody (.plot 0)
    asksB s (.plot 0) 0x60 = true ∧ allZero b 0xC 4 = true ∧ bodyEnds b 0x18 = true ∧ fld b 8 4 = m ∧ fld b 0x10 8 = 0x8000 ∧
    s.logPick (s.mbxPlot 0) 2 0 m = (zeros 32, 2) ∧ s.accessFree (s.mbxStamp 0) 0x8000 32 true := by decide +kernel

theorem test_w_journalRead : ∀ n ∈ [0, 7], let s := tAsk tQ 0x61 (leBytes 1 n ++ zeros 7 ++ leBytes 8 0x8000)
    let b := s.reqBody (.plot 0)
    asksB s (.plot 0) 0x61 = true ∧ allZero b 1 7 = true ∧ bodyEnds b 0x10 = true ∧ fld b 0 1 = n ∧ fld b 8 8 = 0x8000 ∧
    (s.journalOf n).length = (if n = 0 then 32 else 0) ∧ s.accessFree (s.mbxStamp 0) 0x8000 (s.journalOf n).length true := by
  decide +kernel

end Sys2Proof.Machine
end

section
/-! SUPPORT. Accesses to register space (spec/00): what a write stores by access code, the refusals for size, lock and reserved
bits, and what a read clears and hides. Settles O34, O35 and O36. -/

namespace Sys2Proof.Machine
open Sys2Proof

/-! ### The register tables -/

theorem regAt_mem {a : Nat} {d : RegDef} {ix : Nat} (h : regAt a = some (d, ix)) : d ∈ regTable := by
  obtain ⟨d', hd', he⟩ := List.exists_of_findSome?_eq_some h
  obtain ⟨i, -, hi⟩ := Option.map_eq_some_iff.1 he
  cases hi
  exact hd'

/-- Every row of the tables is the row that its register's block lists. -/
theorem RegId.row_of_mem {d : RegDef} (h : d ∈ regTable) : d.id.row = some d := by
  revert d; decide +kernel

/-- The blocks without a writer rule hold no plan-locked register. -/
theorem RegDef.unlocked_of_mem {d : RegDef} (h : d ∈ regTable) (hb : d.block = .spl ∨ d.block = .qos ∨ d.block = .trl) :
    d.locked = false := by
  revert d; decide +kernel

/-- The plan-locked registers stand in the MCC and BED blocks. -/
theorem RegDef.locked_block {d : RegDef} (h : d ∈ regTable) (hl : d.locked = true) :
    d.block = .mcc ∨ d.id = .bedShare ∧ d.block = .bed := by
  revert d; decide +kernel

/-- No bit of a register has two of the access codes RW, W1C and W1S. -/
theorem RegDef.codes_disjoint {d : RegDef} (h : d ∈ regTable) :
    d.rw &&& d.w1c = 0 ∧ d.rw &&& d.w1s = 0 ∧ d.w1c &&& d.w1s = 0 := by
  revert d; decide +kernel

/-- No register stands in the GCR block. -/
theorem RegDef.block_ne_gcr {d : RegDef} (h : d ∈ regTable) : d.block ≠ .gcr := by
  revert d; decide +kernel


/-! ### The merge of a write -/

theorem testBit_disjoint {a b : Nat} (h : a &&& b = 0) (i : Nat) : (a.testBit i && b.testBit i) = false := by
  rw [← Nat.testBit_and, h, Nat.zero_testBit]

theorem testBit_allOnes {i : Nat} (hi : i < 64) : Nat.testBit 0xFFFFFFFFFFFFFFFF i = true := by
  rw [show 0xFFFFFFFFFFFFFFFF = 2 ^ 64 - 1 from rfl, Nat.testBit_two_pow_sub_one]; simpa using hi

/-- Bit `i` of what a write leaves, by the access code of the bit (R10, R12). -/
theorem RegDef.merge_testBit {d : RegDef} (h : d ∈ regTable) (old v hw : Nat) {i : Nat} (hi : i < 64) :
    (d.merge old v hw).testBit i =
      if d.w1c.testBit i then hw.testBit i || (old.testBit i && !v.testBit i)
      else if d.w1s.testBit i then old.testBit i || v.testBit i
      else if d.rw.testBit i then v.testBit i else old.testBit i := by
  obtain ⟨hwc, hws, hcs⟩ := RegDef.codes_disjoint h
  have hwc := testBit_disjoint hwc i
  have hws := testBit_disjoint hws i
  have hcs := testBit_disjoint hcs i
  simp only [RegDef.merge, Nat.testBit_or, Nat.testBit_and, Nat.testBit_xor, testBit_allOnes hi]
  generalize d.rw.testBit i = rw at *
  generalize d.w1c.testBit i = w1c at *
  generalize d.w1s.testBit i = w1s at *
  revert hwc hws hcs
  generalize old.testBit i = o, v.testBit i = v, hw.testBit i = e
  revert rw w1c w1s o v e
  decide

/-! ### Writes of another size (R9) -/

/-- What is left of the state `s` by an access that is refused for its size: the record and the bit of ERR_REG, and at most a
free value taken on the way. -/
def State.sizeRefusedFrom (s : State) (d : RegDef) (ix : Nat) (t : State) : Prop :=
  ∃ st a n, t = ({ s with free := n } : State).sizeRefused st d.block (d.inst ix) a

section
variable {s : State} {d : RegDef} {ix size : Nat} (hd : d ∈ regTable) (hs : size * 8 ≠ d.width)
include hd hs

theorem State.regWrite_wrongSize (st : Stamp) (v : Nat) (w : Option WRefusal) (enc : Bool) (store : State → State) :
    s.sizeRefusedFrom d ix (s.regWrite st d.id ix size v w enc store) := by
  refine ⟨st, d.addr ix, s.free, ?_⟩
  simp only [State.regWrite, RegId.row_of_mem hd]
  exact if_pos hs

theorem State.ringRegWrite_wrongSize (st : Stamp) (r : Ring) (v hw : Nat) (no : Option WRefusal) :
    s.sizeRefusedFrom d ix (s.ringRegWrite st r d.id ix size v hw no) := by
  unfold State.ringRegWrite
  (repeat' split) <;> exact State.regWrite_wrongSize hd hs ..

theorem State.queueWrite_wrongSize (who : Who) (v hw : Nat) :
    s.sizeRefusedFrom d ix (s.queueWrite who d.id ix size v hw) := by
  have h := @State.regWrite_wrongSize s d ix size hd hs
  unfold State.queueWrite
  dsimp only
  generalize d.id = id at *
  split <;> exact h ..


theorem State.streamWrite_wrongSize (who : Who) (v hw : Nat) : s.sizeRefusedFrom d ix (s.streamWrite who d.id ix size v hw) := by
  have h := @State.regWrite_wrongSize s d ix size hd hs
  unfold State.streamWrite
  dsimp only
  generalize d.id = id at *
  (repeat' split) <;> exact h ..

/-- The plan's refusal of a speed change (R351) concerns a write of the register's own size alone. -/
theorem State.gwyWrite_wrongSize (who : Who) (v hw : Nat) : s.sizeRefusedFrom d ix (s.gwyWrite who d.id ix size v hw) := by
  have h := @State.regWrite_wrongSize s d ix size hd hs
  have hr := @State.ringRegWrite_wrongSize s d ix size hd hs
  have hz : d.id = .gwyPCfg → size ≠ 4 := by
    intro e hz
    have := RegId.row_of_mem hd
    rw [e] at this
    cases this
    exact hs (by rw [hz])
  unfold State.gwyWrite
  dsimp only
  generalize d.id = id at *
  split
  case h_1 => rw [if_neg (fun hc => hz rfl hc.1)]; exact h ..
  case h_3 | h_4 | h_5 => exact hr ..
  all_goals exact h ..

/-- A write of GTH_SAFE_REQ takes the free value of the firmware's reason before its size is looked at. -/
theorem State.gthWrite_wrongSize (who : Who) (v hw : Nat) : s.sizeRefusedFrom d ix (s.gthWrite who d.id ix size v hw) := by
  have h := @State.regWrite_wrongSize s d ix size hd hs
  have hq : d.id = .gthSafeReq → s.sizeRefusedFrom d ix (s.fresh.2.safeReqWrite who size v s.fresh.1.toNat) := by
    intro e
    have hrow := RegId.row_of_mem hd
    have hq := @State.regWrite_wrongSize s.fresh.2 d 0 size hd hs (s.fresh.2.stampOf who) v (gthRefusal who) true
      (fun s' => if bit v 0 then s'.safeRequest s.fresh.1.toNat else s')
    rw [e] at hrow hq
    cases hrow
    exact hq
  unfold State.gthWrite
  dsimp only
  generalize d.id = id at *
  split
  case h_1 => exact hq rfl
  all_goals exact h ..

theorem State.pageWrite_wrongSize (who : Who) (i v hw : Nat) :
    s.sizeRefusedFrom d ix (s.pageWrite who d.id ix i size v hw) := by
  have h := @State.regWrite_wrongSize s d ix size hd hs
  unfold State.pageWrite
  dsimp only
  generalize d.id = id at *
  split <;> exact h ..

theorem State.hifWrite_wrongSize (who : Who) (v hw : Nat) : s.sizeRefusedFrom d ix (s.hifWrite who d.id ix size v hw) := by
  have h := @State.regWrite_wrongSize s d ix size hd hs
  have hp := @State.pageWrite_wrongSize s d ix size hd hs
  have hq := @State.queueWrite_wrongSize s d ix size hd hs
  unfold State.hifWrite
  dsimp only
  generalize d.id = id at *
  split
  case h_12 | h_13 | h_14 | h_15 | h_16 | h_17 | h_18 | h_19 => exact hp ..
  case h_20 | h_21 | h_22 | h_23 | h_24 | h_25 | h_26 | h_27 => exact hq ..
  all_goals exact h ..

/-- A write of another size than the register's is refused for it (R9), in whichever block the register stands. -/
theorem State.regWriteAt_wrongSize (who : Who) (v hw : Nat) : s.sizeRefusedFrom d ix (s.regWriteAt who d ix size v hw) := by
  have h := @State.regWrite_wrongSize s d ix size hd hs
  have hr := @State.ringRegWrite_wrongSize s d ix size hd hs
  have hst := @State.streamWrite_wrongSize s d ix size hd hs
  unfold State.regWriteAt
  cases hb : d.block <;> dsimp only
  case gcr => exact absurd hb (RegDef.block_ne_gcr hd)
  case gwy => exact State.gwyWrite_wrongSize hd hs ..
  case gth => exact State.gthWrite_wrongSize hd hs ..
  case hif => exact State.hifWrite_wrongSize hd hs ..
  case spl | qos | trl => exact h ..
  all_goals
    generalize d.id = id at *
    dsimp only [State.mccWrite, State.ownWrite, State.ownOpWrite, State.bedWrite, State.elxWrite, State.orgWrite, State.dspWrite,
      State.flwWrite, State.cvuWrite, State.timWrite, State.glsWrite, State.pctWrite, State.kprWrite, State.snsWrite, State.canWrite,
      State.semWrite, State.semValueWrite, State.semAddWrite, State.watchCfgWrite, State.watchThreshWrite]
  case mcc => exact h ..
  case sns =>
    split
    case h_10 => exact hst ..
    all_goals exact h ..
  case can =>
    split
    case h_6 | h_7 | h_8 => exact hr ..
    all_goals exact h ..
  all_goals split <;> exact h ..

end

/-! ### Accesses that change no machine -/

theorem State.machineKept_refl (s : State) : s.machineKept s := by simp [State.machineKept]

theorem State.machineKept_trans {s t u : State} (h : s.machineKept t) (h' : t.machineKept u) : s.machineKept u := by
  simp only [State.machineKept] at *
  simp [h, h']

theorem State.machineKept_wr (s : State) (id : RegId) (ix v : Nat) : s.machineKept (s.wr id ix v) := by
  simp [State.machineKept]

theorem State.machineKept_setErr (s : State) (b : Block) (i e : Nat) : s.machineKept (s.setErr b i e) := by
  simp [State.machineKept]

theorem State.machineKept_answer (s : State) (status : Nat) (data : List Byte) : s.machineKept (s.answer status data) := by
  simp [State.machineKept]

theorem State.machineKept_free (s : State) (n : Nat) : s.machineKept { s with free := n } := by
  simp [State.machineKept]

theorem State.machineKept_hwSet (s : State) (d : RegDef) (ix x : Nat) : s.machineKept (s.hwSet d ix x) := by
  unfold State.hwSet
  split
  · exact s.machineKept_refl
  · exact s.machineKept_wr ..

/-- A record of severity 0 to 2 is logged and has no other action (R19). -/
theorem State.machineKept_raise (s : State) {r : FaultRec} (h : r.severity ≤ 2) : s.machineKept (s.raise r) := by
  simp [State.machineKept, s.raise_tensor r (by omega), s.raise_safe_other r (by omega)]

theorem State.machineKept_sizeRefused (s : State) (st : Stamp) (b : Block) (i a : Nat) : s.machineKept (s.sizeRefused st b i a) :=
  State.machineKept_trans (s.machineKept_setErr b i 1) (State.machineKept_raise _ (Nat.zero_le 2))

theorem State.machineKept_afterRead (s : State) (d : RegDef) (ix ev : Nat) : s.machineKept (s.afterRead d ix ev) := by
  unfold State.afterRead
  dsimp only
  split
  · exact s.machineKept_refl
  · split
    · exact State.machineKept_trans (s.machineKept_wr ..) (State.machineKept_wr ..)
    · exact s.machineKept_wr ..

/-! ### Registers and records -/

theorem State.wr_regs_congr {s t : State} (h : t.regs = s.regs) (id : RegId) (ix v : Nat) :
    (t.wr id ix v).regs = (s.wr id ix v).regs := by simp only [State.wr, h]

theorem State.hwSet_regs_congr {s t : State} (h : t.regs = s.regs) (d : RegDef) (ix x : Nat) :
    (t.hwSet d ix x).regs = (s.hwSet d ix x).regs := by
  unfold State.hwSet
  split
  · exact h
  · rw [State.rd_congr h, State.wr_regs_congr h]

theorem State.setErr_regs_congr {s t : State} (h : t.regs = s.regs) (b : Block) (i e : Nat) :
    (t.setErr b i e).regs = (s.setErr b i e).regs := by
  unfold State.setErr State.setBitOf
  split
  · rw [State.rd_congr h, State.wr_regs_congr h]
  · exact h

@[simp] theorem State.hwSet_log (s : State) (d : RegDef) (ix x : Nat) : (s.hwSet d ix x).log = s.log := by
  unfold State.hwSet; split <;> rfl

@[simp] theorem State.hwSet_zero (s : State) (d : RegDef) (ix : Nat) : s.hwSet d ix 0 = s := rfl

@[simp] theorem State.sizeRefused_regs (s : State) (st : Stamp) (b : Block) (i a : Nat) :
    (s.sizeRefused st b i a).regs = (s.setErr b i 1).regs := State.raise_regs ..

theorem State.sizeRefused_log (s : State) (st : Stamp) (b : Block) (i a : Nat) : (s.sizeRefused st b i a).log =
    { s.log with raised := s.log.raised ++ [(s.mkRec b i fcACCESS_SIZE 0 stREFUSED_FORMAT).by st a] } := by
  simp [State.sizeRefused]

/-- What R9 leaves of an access: the machine as it was, the registers of `u`, and one record of ACCESS_SIZE. -/
def State.refusedForSize (s : State) (b : Block) (n : Nat) (u t : State) : Prop :=
  s.machineKept t ∧ t.regs = u.regs ∧ ∃ r, t.log = { s.log with raised := s.log.raised ++ [r] } ∧ r.time = s.now ∧
    r.source = srcId b n ∧ r.severity = 0 ∧ r.cls = fcACCESS_SIZE ∧ r.status = stREFUSED_FORMAT

/-- A refusal for the size, made in a state `s'` that has the log and the clock of `s`. -/
theorem State.sizeRefused_refusedForSize {s s' : State} (st : Stamp) (b : Block) (n a : Nat) (hk : s.machineKept s')
    (hl : s'.log = s.log) : s.refusedForSize b n (s'.setErr b n 1) (s'.sizeRefused st b n a) := by
  obtain ⟨-, hdt, -⟩ := id hk
  refine ⟨State.machineKept_trans hk (s'.machineKept_sizeRefused ..), s'.sizeRefused_regs ..,
    (s'.mkRec b n fcACCESS_SIZE 0 stREFUSED_FORMAT).by st a, ?_, State.now_congr hdt, rfl, rfl, rfl, rfl⟩
  rw [s'.sizeRefused_log, hl]

theorem State.refusedForSize_congr {s u u' t : State} {b : Block} {n : Nat} (h : s.refusedForSize b n u t)
    (hu : u.regs = u'.regs) : s.refusedForSize b n u' t := by
  obtain ⟨hk, hr, hrest⟩ := h
  exact ⟨hk, hr.trans hu, hrest⟩

theorem State.refusedForSize_hwSet {s u t : State} {b : Block} {n : Nat} (h : s.refusedForSize b n u t) (d : RegDef) (ix x : Nat) :
    s.refusedForSize b n (u.hwSet d ix x) (t.hwSet d ix x) := by
  obtain ⟨hk, hr, r, hl, hrest⟩ := h
  exact ⟨State.machineKept_trans hk (t.machineKept_hwSet ..), State.hwSet_regs_congr hr .., r, by rw [t.hwSet_log, hl], hrest⟩

theorem State.refusedForSize_answer {s u t : State} {b : Block} {n : Nat} (h : s.refusedForSize b n u t) (status : Nat)
    (data : List Byte) : s.refusedForSize b n u (t.answer status data) := by
  obtain ⟨hk, hr, r, hl, hrest⟩ := h
  exact ⟨State.machineKept_trans hk (t.machineKept_answer ..), hr, r, hl, hrest⟩

theorem leBytes_zero : ∀ n : Nat, leBytes n 0 = zeros n
  | 0 => rfl
  | n + 1 => by rw [leBytes, Nat.zero_div, leBytes_zero n]; rfl

/-! ### Accesses of register space -/

section
variable {who : Who} {a : BitVec 48} (hc : ∀ c, who ≠ .orangery c)
include hc

theorem exec_registerWrite_space (hb : (blockAt a.toNat).isSome = true) (size : Nat) (v hw : BitVec 64) (s : State) :
    exec (.registerWrite who (.addr a) size v hw) s =
      .next ((s.spaceWrite who a.toNat size v.toNat hw.toNat).answer stDONE []) := by
  show Host.Outcome.next _ = _
  cases who
  case orangery c => exact absurd rfl (hc c)
  all_goals exact congrArg _ (if_pos hb)

theorem State.readSpace_space (hb : (blockAt a.toNat).isSome = true) (size ev : Nat) (s : State) :
    s.readSpace who a.toNat size ev =
      (s.regRead who a.toNat size ev).1.answer stDONE (leBytes size (s.regRead who a.toNat size ev).2) := by
  cases who
  case orangery c => exact absurd rfl (hc c)
  all_goals exact if_pos hb

theorem exec_readClear_space (hb : (blockAt a.toNat).isSome = true) (size : Nat) (ev : BitVec 32) (s : State) :
    exec (.readClear who (.addr a) size ev) s = .next ((s.regRead who a.toNat size ev.toNat).1.answer stDONE
      (leBytes size (s.regRead who a.toNat size ev.toNat).2)) :=
  congrArg _ (State.readSpace_space hc hb ..)

theorem exec_counterRead_space (hb : (blockAt a.toNat).isSome = true) (size : Nat) (s : State) :
    exec (.counterRead who (.addr a) size) s = .next ((s.regRead who a.toNat size 0).1.answer stDONE
      (leBytes size (s.regRead who a.toNat size 0).2)) :=
  congrArg _ (State.readSpace_space hc hb ..)

end

theorem State.spaceWrite_reg {a ix : Nat} {d : RegDef} (h : regAt a = some (d, ix)) (s : State) (who : Who) (size v hw : Nat) :
    s.spaceWrite who a size v hw = (s.regWriteAt who d ix size (v % 2 ^ d.width) hw).hwSet d ix (hw &&& d.w1c) := by
  simp only [State.spaceWrite, h]

theorem State.regRead_reg {a ix size : Nat} {d : RegDef} (h : regAt a = some (d, ix)) (hs : size * 8 = d.width) (s : State)
    (who : Who) (ev : Nat) : s.regRead who a size ev = s.regValue who d ix ev := by
  simp only [State.regRead, h, if_pos hs]

theorem State.regRead_wrongSize {a ix size : Nat} {d : RegDef} (h : regAt a = some (d, ix)) (hs : size * 8 ≠ d.width) (s : State)
    (who : Who) (ev : Nat) : s.regRead who a size ev =
      ((s.hwSet d ix (ev &&& d.rc)).sizeRefused (s.stampOf who) d.block (d.inst ix) a, 0) := by
  simp only [State.regRead, h, if_neg hs]

/-- Where no register stands, an access that has the wrong size for what stands there is refused and does nothing else. -/
theorem State.spaceAccess_wrongSize {a size n : Nat} {b : Block} (h : regAt a = none) (hw : wrongSize a size = some (b, n))
    (s : State) (who : Who) :
    (∀ v hw, s.spaceWrite who a size v hw = s.sizeRefused (s.stampOf who) b n a) ∧
      ∀ ev, s.regRead who a size ev = (s.sizeRefused (s.stampOf who) b n a, 0) := by
  simp only [wrongSize, h] at hw
  simp only [State.spaceWrite, State.regRead, h]
  cases ht : telltaleOff a with
  | some off =>
    simp only [ht] at hw ⊢
    obtain ⟨hp, hbn⟩ : plainSize a size = false ∧ (Block.dsp, Block.unitAt .dsp a) = (b, n) := by
      by_cases hp : plainSize a size = true
      · rw [if_pos hp] at hw; cases hw
      · rw [if_neg hp] at hw; exact ⟨by simpa using hp, Option.some.inj hw⟩
    cases hbn
    simp [hp]
  | none =>
    simp only [ht] at hw ⊢
    obtain ⟨hg, hbn⟩ : ¬ ((unlistedAt a).isSome && (size == 4 || size == 8) && a % size == 0) = true ∧ blockAt a = some (b, n) := by
      split at hw
      · cases hw
      · exact ⟨‹_›, hw⟩
    have hn : ¬ ((size = 4 ∨ size = 8) ∧ a % size = 0 ∧ (!insideReg a) = true) := by
      intro ⟨h1, h2, h3⟩
      simp [unlistedAt, h, ht, hbn, h1, h2] at hg h3
      simp [h3] at hg
    simp only [hbn, if_neg hn, implies_true, and_self]

/-- An aligned access of 4 or 8 bytes at an offset that its block does not list does nothing (R576). -/
theorem State.spaceAccess_unlisted {a size n : Nat} {b : Block} (h : unlistedAt a = some (b, n)) (s : State) (who : Who)
    (hg : b = .gls → (s.stampOf who).secure = true) (hs : size = 4 ∨ size = 8) (ha : a % size = 0) :
    (∀ v hw, s.spaceWrite who a size v hw = s) ∧ ∀ ev, s.regRead who a size ev = (s, 0) := by
  unfold unlistedAt at h
  split at h
  · cases h
  next hu =>
    simp only [Bool.or_eq_true, not_or, Bool.not_eq_true, Option.isSome_eq_false_iff, Option.isNone_iff_eq_none] at hu
    obtain ⟨⟨hreg, htt⟩, hin⟩ := hu
    have hgl : ¬ (b = .gls ∧ (!(s.stampOf who).secure) = true) := fun ⟨e, hn⟩ => by simp [hg e] at hn
    simp only [State.spaceWrite, State.regRead, hreg, htt, h, hin, hs, ha, if_neg hgl]
    simp

theorem blockAt_of_unlistedAt {a n : Nat} {b : Block} (h : unlistedAt a = some (b, n)) : (blockAt a).isSome = true := by
  unfold unlistedAt at h
  split at h
  · cases h
  · simp [h]

/-- What hardware sets in the cycle of an access, where the access is refused for its size. -/
def State.setByHardware (u : State) (a : Nat) (w1c : Bool) (x : Nat) : State :=
  match regAt a with
  | some (d, ix) => u.hwSet d ix (x &&& if w1c then d.w1c else d.rc)
  | none => u

theorem State.spaceWrite_refusedForSize {a size n : Nat} {b : Block} (hw : wrongSize a size = some (b, n)) (s : State) (who : Who)
    (v e : Nat) : s.refusedForSize b n ((s.setErr b n 1).setByHardware a true e) (s.spaceWrite who a size v e) := by
  cases h : regAt a with
  | none =>
    rw [(State.spaceAccess_wrongSize h hw s who).1, State.setByHardware, h]
    exact State.sizeRefused_refusedForSize _ b n a s.machineKept_refl rfl
  | some p =>
    obtain ⟨d, ix⟩ := p
    simp only [wrongSize, h] at hw
    obtain ⟨hs, rfl, rfl⟩ : size * 8 ≠ d.width ∧ d.block = b ∧ d.inst ix = n := by
      split at hw <;> simp_all
    obtain ⟨st, a', f, hr⟩ := State.regWriteAt_wrongSize (s := s) (ix := ix) (regAt_mem h) hs who (v % 2 ^ d.width) e
    have hq := State.sizeRefused_refusedForSize st d.block (d.inst ix) a' (s.machineKept_free f) rfl
    have hu : (({ s with free := f } : State).setErr d.block (d.inst ix) 1).regs = (s.setErr d.block (d.inst ix) 1).regs :=
      State.setErr_regs_congr (s := s) (t := { s with free := f }) rfl ..
    rw [State.spaceWrite_reg h, hr]
    simp only [State.setByHardware, h, if_true]
    exact State.refusedForSize_hwSet (State.refusedForSize_congr hq hu) ..

theorem State.regRead_refusedForSize {a size n : Nat} {b : Block} (hw : wrongSize a size = some (b, n)) (s : State) (who : Who)
    (e : Nat) : s.refusedForSize b n ((s.setByHardware a false e).setErr b n 1) (s.regRead who a size e).1 ∧
      (s.regRead who a size e).2 = 0 := by
  cases h : regAt a with
  | none =>
    rw [(State.spaceAccess_wrongSize h hw s who).2, State.setByHardware, h]
    exact ⟨State.sizeRefused_refusedForSize _ b n a s.machineKept_refl rfl, rfl⟩
  | some p =>
    obtain ⟨d, ix⟩ := p
    simp only [wrongSize, h] at hw
    obtain ⟨hs, rfl, rfl⟩ : size * 8 ≠ d.width ∧ d.block = b ∧ d.inst ix = n := by
      split at hw <;> simp_all
    rw [State.regRead_wrongSize h hs]
    simp only [State.setByHardware, h]
    exact ⟨State.sizeRefused_refusedForSize _ _ _ _ (s.machineKept_hwSet ..) (s.hwSet_log ..), trivial⟩

/-- Settles O35: every block refuses a size that is not the register's own before any other rule (`regWriteAt_wrongSize`), and an
unlisted offset has no rule at all. -/
theorem wrongSizesAndUnlistedOffsets : Obligations.WrongSizesAndUnlistedOffsets := by
  refine ⟨fun who a size s b n hc hb hw => ?_, fun who a size s b n hc hu hg hs ha => ?_⟩
  · have hr (e : Nat) := State.regRead_refusedForSize hw s who e
    have hz (e : Nat) : leBytes size (s.regRead who a.toNat size e).2 = zeros size := by rw [(hr e).2, leBytes_zero]
    refine ⟨fun v e => ⟨_, exec_registerWrite_space hc hb size v e s, rfl, ?_⟩,
      fun e => ⟨_, exec_readClear_space hc hb size e s, ?_, ?_⟩, _, exec_counterRead_space hc hb size s, ?_, ?_⟩
    · exact State.refusedForSize_answer (State.spaceWrite_refusedForSize hw s who v.toNat e.toNat) ..
    · rw [hz]; rfl
    · exact State.refusedForSize_answer (hr e.toNat).1 ..
    · rw [hz]; rfl
    · have h0 : s.setByHardware a.toNat false 0 = s := by
        unfold State.setByHardware
        split <;> simp
      have := (hr 0).1
      rw [h0] at this
      exact State.refusedForSize_answer this ..
  · have hb := blockAt_of_unlistedAt hu
    obtain ⟨hwr, hrd⟩ := State.spaceAccess_unlisted hu s who hg hs ha
    refine ⟨fun v e => ?_, fun e => ?_, ?_⟩
    · rw [exec_registerWrite_space hc hb, hwr]
    · rw [exec_readClear_space hc hb, hrd, leBytes_zero]
    · rw [exec_counterRead_space hc hb, hrd, leBytes_zero]


/-! ### Reads -/

theorem RegId.ctorIdx_injective : Function.Injective RegId.ctorIdx := Function.LeftInverse.injective RegId.ofNat_ctorIdx

/-- A read of a register leaves each of its bits but an RC bit, and of an RC bit the event of the cycle (R13). -/
theorem State.afterRead_testBit {s : State} (hw : s.wf = true) (d : RegDef) (ix ev : Nat) {i : Nat} (hi : i < 64) :
    ((s.afterRead d ix ev).rd d.id ix).testBit i = if d.rc.testBit i then ev.testBit i else (s.rd d.id ix).testBit i := by
  have hregs := State.wf_regs hw
  unfold State.afterRead
  dsimp only
  split
  next hz => simp [hz]
  next =>
    have hv : ((s.wr d.id ix ((s.rd d.id ix &&& (0xFFFFFFFFFFFFFFFF ^^^ d.rc)) ||| (ev &&& d.rc))).rd d.id ix).testBit i =
        if d.rc.testBit i then ev.testBit i else (s.rd d.id ix).testBit i := by
      rw [State.rd_wr_self hregs, Nat.testBit_mod_two_pow]
      simp only [Nat.testBit_or, Nat.testBit_and, Nat.testBit_xor, testBit_allOnes hi, hi, decide_true, Bool.true_and]
      cases d.rc.testBit i <;> simp
    split
    next hp =>
      rw [State.rd_wr_other 0 (RegId.key_ne (by rw [hp]; decide))]
      exact hv
    next => exact hv

/-- A read leaves every other register, but HIF_Ii_ERR_ADDR under one of POSTED_ERR (Table 15-16). -/
theorem State.afterRead_rd_other (s : State) (d : RegDef) (ix ev : Nat) {id : RegId} {i : Nat} (hk : id.key i ≠ d.id.key ix)
    (he : d.id = .hifIPostedErr → id ≠ .hifIErrAddr) : (s.afterRead d ix ev).rd id i = s.rd id i := by
  unfold State.afterRead
  dsimp only
  split
  · rfl
  · split
    next hp =>
      have hne : id.ctorIdx ≠ RegId.hifIErrAddr.ctorIdx := fun e => he hp (RegId.ctorIdx_injective e)
      rw [State.rd_wr_other 0 (RegId.key_ne hne), State.rd_wr_other _ hk]
    next => exact State.rd_wr_other _ hk

@[simp] theorem State.afterRead_log (s : State) (d : RegDef) (ix ev : Nat) : (s.afterRead d ix ev).log = s.log := by
  unfold State.afterRead
  dsimp only
  split
  · rfl
  · split <;> rfl

/-- The reader is one of those that Table 14-2 names for a counter of group `g` that belongs to the Plot `p`. -/
def State.mayReadCtr (s : State) (who : Who) (g : Nat) (p : Option Nat) : Prop :=
  bit (s.rd .glsCtrPolicy 0) g = true ∨ (s.stampOf who).secure = true ∨ isKeeper who = true ∨
    ∃ n, p = some n ∧ s.isCoreOf who n = true

/-- R435 hides nothing of a register that holds no counter or whose counter the reader may read. -/
theorem State.hiddenBits_zero {s : State} {who : Who} {id : RegId} {ix : Nat}
    (h : ∀ g m p, s.ctrGroup id ix = some (g, m, p) → s.mayReadCtr who g p) : s.hiddenBits who id ix = 0 := by
  unfold State.hiddenBits
  split
  · rfl
  next g m p hg =>
    refine if_pos ?_
    rcases h g m p hg with h | h | h | ⟨n, rfl, h⟩ <;> simp [h]

/-- R435 hides the bits of a counter from a reader that may not read it. -/
theorem State.hiddenBits_blocked {s : State} {who : Who} {id : RegId} {ix g m : Nat} {p : Option Nat}
    (hg : s.ctrGroup id ix = some (g, m, p)) (h : ¬ s.mayReadCtr who g p) : s.hiddenBits who id ix = m := by
  unfold State.hiddenBits
  rw [hg]
  refine if_neg fun hc => h ?_
  simp only [Bool.or_eq_true] at hc
  rcases hc with ((hc | hc) | hc) | hc
  · exact .inl hc
  · exact .inr (.inl hc)
  · exact .inr (.inr (.inl hc))
  · cases p with
    | none => cases hc
    | some n => exact .inr (.inr (.inr ⟨n, rfl, hc⟩))

/-- Every counter of Table 14-2 takes some bits of its register. -/
theorem State.ctrGroup_mask {s : State} {id : RegId} {ix g m : Nat} {p : Option Nat} (h : s.ctrGroup id ix = some (g, m, p)) :
    m ≠ 0 := by
  unfold State.ctrGroup at h
  split at h <;> cases h <;> decide

section
variable {s : State} {who : Who} {d : RegDef} (hsec : d.block = .gls → (s.stampOf who).secure = true)
  (hsem : d.id ≠ .semValue) (hrng : d.id ≠ .glsRng) (hcfg : d.id ≠ .hifRpCfgData)
include hsec hsem hrng hcfg

theorem State.regValue_eq (ix ev : Nat) : s.regValue who d ix ev =
    if s.hiddenBits who d.id ix = 0 then (s.afterRead d ix ev, s.readable d ix)
    else ((s.hwSet d ix (ev &&& d.rc)).bump .glsCtrBlocked 0 1,
      s.readable d ix &&& (0xFFFFFFFFFFFFFFFF ^^^ s.hiddenBits who d.id ix)) := by
  have hg : ¬ (d.block = .gls ∧ (!(s.stampOf who).secure) = true) := fun ⟨e, hn⟩ => by simp [hsec e] at hn
  unfold State.regValue
  dsimp only
  rw [if_neg hg]
  split
  · exact absurd ‹_› hsem
  · exact absurd ‹_› hrng
  · exact absurd ‹_› hcfg
  · rfl

theorem State.regValue_open {ix : Nat} (h : ∀ g m p, s.ctrGroup d.id ix = some (g, m, p) → s.mayReadCtr who g p) (ev : Nat) :
    s.regValue who d ix ev = (s.afterRead d ix ev, s.readable d ix) := by
  rw [State.regValue_eq hsec hsem hrng hcfg, if_pos (State.hiddenBits_zero h)]

theorem State.regValue_blocked {ix g m : Nat} {p : Option Nat} (hg : s.ctrGroup d.id ix = some (g, m, p))
    (h : ¬ s.mayReadCtr who g p) (ev : Nat) : s.regValue who d ix ev = ((s.hwSet d ix (ev &&& d.rc)).bump .glsCtrBlocked 0 1,
      s.readable d ix &&& (0xFFFFFFFFFFFFFFFF ^^^ m)) := by
  have hm := State.hiddenBits_blocked hg h
  rw [State.regValue_eq hsec hsem hrng hcfg, if_neg (by rw [hm]; exact State.ctrGroup_mask hg), hm]

end

/-- Settles O36: a read that R435 does not hide leaves what `afterRead` leaves, and a hidden one what the event and the count of
GLS_CTR_BLOCKED leave. -/
theorem readsClearAndCountersHide : Obligations.ReadsClearAndCountersHide := by
  intro who a size ev s d ix hw hc hb hreg hs hsec hsem hrng hcfg
  have hread (e : Nat) := State.regRead_reg hreg hs s who e
  refine ⟨fun h => ⟨⟨_, exec_readClear_space hc hb size ev s, ?_⟩, _, exec_counterRead_space hc hb size s, ?_⟩,
    fun g m p hg h => ⟨?_, ?_⟩⟩
  · rw [hread, State.regValue_open hsec hsem hrng hcfg h]
    exact ⟨rfl, State.machineKept_trans (s.machineKept_afterRead ..) (State.machineKept_answer ..), s.afterRead_log ..,
      fun i hi => State.afterRead_testBit hw d ix _ hi, fun id i hk he => s.afterRead_rd_other d ix _ hk he⟩
  · rw [hread, State.regValue_open hsec hsem hrng hcfg h]
    exact ⟨rfl, State.machineKept_trans (s.machineKept_afterRead ..) (State.machineKept_answer ..), s.afterRead_log ..⟩
  · rw [exec_readClear_space hc hb, hread, State.regValue_blocked hsec hsem hrng hcfg hg h]
  · rw [exec_counterRead_space hc hb, hread, State.regValue_blocked hsec hsem hrng hcfg hg h, Nat.zero_and, State.hwSet_zero]

/-! ### Writes by access code -/

/-- A write of a register of a block without a writer rule (R10, R11). -/
theorem State.regWriteAt_plain {d : RegDef} {size : Nat} (hd : d ∈ regTable) (hs : size * 8 = d.width)
    (hblk : d.block = .spl ∨ d.block = .qos ∨ d.block = .trl) (s : State) (who : Who) (ix x hw : Nat) :
    s.regWriteAt who d ix size x hw =
      if x &&& (0xFFFFFFFFFFFFFFFF ^^^ d.mask) ≠ 0 then s.reservedRefused (s.stampOf who) d.block (d.inst ix) (d.addr ix)
      else s.wr d.id ix (d.merge (s.rd d.id ix) x hw) := by
  have hrow := RegId.row_of_mem hd
  have hl := RegDef.unlocked_of_mem hd hblk
  have hreg : s.regWriteAt who d ix size x hw =
      s.regWrite (s.stampOf who) d.id ix size x none true (fun s => s.regStore d.id ix x hw) := by
    unfold State.regWriteAt
    rcases hblk with hb | hb | hb <;> rw [hb]
  rw [hreg]
  simp [State.regWrite, State.regStore, hrow, hl, hs]

theorem State.regWrite_locked {d : RegDef} {size : Nat} (hd : d ∈ regTable) (hs : size * 8 = d.width) (hl : d.locked = true)
    (s : State) (st : Stamp) (ix v : Nat) (w : Option WRefusal) (enc : Bool) (store : State → State) :
    s.regWrite st d.id ix size v w enc store = s.lockRefused st d.block (d.addr ix) := by
  simp [State.regWrite, RegId.row_of_mem hd, hl, hs]

/-- A write of a plan-locked register is refused for the lock (R48), whoever writes. -/
theorem State.regWriteAt_locked {d : RegDef} {size : Nat} (hd : d ∈ regTable) (hs : size * 8 = d.width) (hl : d.locked = true)
    (s : State) (who : Who) (ix x hw : Nat) :
    s.regWriteAt who d ix size x hw = s.lockRefused (s.stampOf who) d.block (d.addr ix) := by
  have h := State.regWrite_locked hd hs hl s
  unfold State.regWriteAt
  rcases RegDef.locked_block hd hl with hb | ⟨hid, hb⟩
  · rw [hb] at h ⊢
    dsimp only [State.mccWrite]
    exact h ..
  · rw [hb, hid] at h ⊢
    dsimp only [State.bedWrite]
    exact h ..

theorem blockAt_of_unlisted {a : Nat} (h : listedAddr a = false) : blockAt a = none := by
  simp only [listedAddr, Bool.or_eq_false_iff, Bool.and_eq_false_iff, decide_eq_false_iff_not] at h
  unfold blockAt
  exact if_pos (by omega)

section
variable {who : Who} {a : BitVec 48} (hc : ∀ c, who ≠ .orangery c) (h : listedAddr a.toNat = false)
include hc h

theorem exec_registerWrite_outside (size : Nat) (v hw : BitVec 64) (s : State) :
    exec (.registerWrite who (.addr a) size v hw) s = .next (s.answer stOWNER_FAULT []) := by
  have hb := blockAt_of_unlisted h
  show Host.Outcome.next _ = _
  cases who
  case orangery c => exact absurd rfl (hc c)
  all_goals simp [hb, State.otherAccess, h]

theorem State.readSpace_outside (size ev : Nat) (s : State) :
    s.readSpace who a.toNat size ev = s.answer stOWNER_FAULT (zeros size) := by
  have hb := blockAt_of_unlisted h
  cases who
  case orangery c => exact absurd rfl (hc c)
  all_goals simp [State.readSpace, hb, State.otherAccess, h]

end

/-! ### Shader cores (R309) -/

theorem State.corePass_congr {s t : State} (hp : t.plan = s.plan) (ho : t.org = s.org) (c : Nat) : t.corePass c = s.corePass c := by
  simp only [State.corePass, State.ownerOf, State.orgRing, hp, ho]

/-- An access fault of a core that runs no pass takes a free value alone. -/
theorem State.accessTrap_idle {s : State} {c : Nat} (h : s.corePass c = none) (code : Nat) :
    s.accessTrap c code = { s with free := s.free + 1 } := by
  have hp : ({ s with free := s.free + 1 } : State).corePass c = none := h
  simp only [State.accessTrap, State.fresh_eq, State.shaderTrap, hp]

/-- An access fault adds records behind those that wait. -/
theorem State.accessTrap_raised (s : State) (c code : Nat) :
    ∃ more, (s.accessTrap c code).log.raised = s.log.raised ++ more ∧ (s.corePass c = none → more = []) := by
  cases h : s.corePass c with
  | none => exact ⟨[], by rw [State.accessTrap_idle h, List.append_nil], fun _ => rfl⟩
  | some pf =>
    obtain ⟨p, f⟩ := pf
    have hp : ({ s with free := s.free + 1 } : State).corePass c = some (p, f) := h
    simp only [State.accessTrap, State.fresh_eq, State.shaderTrap, hp, State.passAbort, State.updPass, State.setOrgRing, State.raise_log]
    exact ⟨_, rfl, nofun⟩

/-- The refusal of a shader core's access. -/
theorem State.coreRefused_spec (s : State) (c : Fin 16) (a : Nat) (write : Bool) :
    ∃ r more, (s.coreRefused c.val a write).resp = ⟨stOWNER_FAULT, []⟩ ∧
      (s.corePass c.val = none →
        (s.coreRefused c.val a write).regs = s.regs ∧ (s.coreRefused c.val a write).dram = s.dram ∧ more = []) ∧
      (s.coreRefused c.val a write).log.raised = s.log.raised ++ r :: more ∧ r.cls = fcOWNER ∧ r.severity = 0 ∧
      r.status = stOWNER_FAULT ∧ r.addr = a := by
  unfold State.coreRefused
  generalize hr : ({ (s.mkRec .org 0 fcOWNER 0 stOWNER_FAULT).by (s.stampOf (.orangery (Fin.ofNat 16 c.val))) a with
    detail := 1 } : FaultRec) = r
  have hidle : s.corePass c.val = none → (s.raise r).corePass c.val = none := by
    rw [State.corePass_congr (s.raise_plan r) (s.raise_org r)]; exact id
  obtain ⟨more, hm, hn⟩ := (s.raise r).accessTrap_raised c.val (if write then 7 else 5)
  refine ⟨r, more, rfl, fun h => ⟨?_, ?_, hn (hidle h)⟩, ?_, ?_⟩
  · rw [State.answer_regs, State.accessTrap_idle (hidle h)]; exact s.raise_regs r
  · rw [State.answer_dram, State.accessTrap_idle (hidle h)]; exact s.raise_dram r
  · rw [State.answer_log, hm, State.raise_log, List.append_assoc]; rfl
  · subst hr; exact ⟨rfl, rfl, rfl, rfl⟩

/-! ### Pins and system DMA channels (R426 to R428) -/

/-- A secure unit is no normal-world requester's. -/
theorem State.unitMine_secure {s : State} {who : Who} {kind ix : Nat} (ha : s.secureAttr kind ix = true)
    (hs : (s.stampOf who).secure = false) : s.unitMine who kind ix = false := by
  simp [State.unitMine, ha, hs]

/-- A normal-world write of a secure unit leaves one OWNER record and at most free values. -/
theorem State.unitWrite_ignored {s : State} {who : Who} {kind ix : Nat} (ha : s.secureAttr kind ix = true)
    (hs : (s.stampOf who).secure = false) (put : State → State) :
    ∃ r, (s.unitWrite who kind ix put).log.raised = s.log.raised ++ [r] ∧ r.cls = fcOWNER ∧ r.severity = 0 ∧
      r.status = stOWNER_FAULT ∧ s.machineKept (s.unitWrite who kind ix put) ∧ (s.unitWrite who kind ix put).regs = s.regs := by
  have hw : s.unitWrite who kind ix put = s.secureIgnored (s.stampOf who) := by
    simp [State.unitWrite, State.unitMine_secure ha hs, ha, hs]
  rw [hw]
  unfold State.secureIgnored
  simp only [State.fresh_eq]
  refine ⟨_, by rw [State.raise_log], rfl, rfl, rfl, ?_, State.raise_regs ..⟩
  exact State.machineKept_trans (s.machineKept_free _) (State.machineKept_raise _ (Nat.zero_le 2))

/-- Settles O34: the writer rules aside, a register takes its merge (`merge_testBit`), and what is locked, reserved, outside or
another world's keeps its value. -/
theorem registerWritesStoreByTheirAccessCodes : Obligations.RegisterWritesStoreByTheirAccessCodes := by
  refine ⟨fun who a size v hw s d ix hc hb hreg hs => ⟨fun hblk => ?_, fun hl => ?_⟩,
    fun d hd old v hw i hi => RegDef.merge_testBit hd _ _ _ hi,
    fun who a size v hw ev s hc h => ⟨exec_registerWrite_outside hc h .., congrArg _ (State.readSpace_outside hc h ..),
      congrArg _ (State.readSpace_outside hc h ..)⟩, fun c a size v hw ev s i hi => ?_,
    fun who n c ch w size v hw s => ⟨fun hm => ?_, fun hm => ?_, fun hsec i hi => ?_⟩⟩
  · have hp := State.regWriteAt_plain (regAt_mem hreg) hs hblk s who ix (v.toNat % 2 ^ d.width) hw.toNat
    rw [exec_registerWrite_space hc hb, State.spaceWrite_reg hreg, hp]
    exact ⟨fun hx => by rw [if_pos hx], fun hx => by rw [if_neg (Classical.not_not.2 hx)]⟩
  · rw [exec_registerWrite_space hc hb, State.spaceWrite_reg hreg, State.regWriteAt_locked (regAt_mem hreg) hs hl]
    rfl
  · obtain ⟨write, he⟩ : ∃ write, exec i s = .next (s.coreRefused c.val a.toNat write) := by
      rcases hi with rfl | rfl | rfl
      · exact ⟨true, rfl⟩
      · exact ⟨false, rfl⟩
      · exact ⟨false, rfl⟩
    obtain ⟨r, more, hresp, hidle, hlog, hr⟩ := s.coreRefused_spec c a.toNat write
    exact ⟨_, r, more, he, hresp, hidle, hlog, hr⟩
  · exact congrArg (fun t : State => Host.Outcome.next (t.answer stDONE [])) (if_pos hm)
  · exact congrArg (fun t : State => Host.Outcome.next (t.answer stDONE [])) (if_pos hm)
  · obtain ⟨kind, ix, put, ha, he⟩ : ∃ kind ix put, s.secureAttr kind ix = true ∧
        exec i s = .next ((s.unitWrite who kind ix put).answer stDONE []) := by
      rcases hi with ⟨rfl, ha⟩ | ⟨rfl, ha⟩ <;> exact ⟨_, _, _, ha, rfl⟩
    obtain ⟨r, hlog, hcls, hsev, hst, hk, hregs⟩ := State.unitWrite_ignored ha hsec put
    obtain ⟨-, -, -, -, -, -, -, -, hpin, hdma, -⟩ := hk
    exact ⟨_, r, he, hpin, hdma, hregs, hlog, hcls, hsev, hst⟩

end Sys2Proof.Machine
end

section
/-! SUPPORT. The fault-log collector and its ring (spec/16). Settles O9. -/

namespace Sys2Proof.Machine
open Sys2Proof

@[simp] theorem FaultRec.bytes_length (r : FaultRec) : r.bytes.length = 32 := by simp [FaultRec.bytes]

/-- An access of 32 bytes at a multiple of 32 lies in one page. -/
theorem pagePieces_record (k : Nat) : pagePieces (32 * k) 32 = [(32 * k, 32)] := by
  have h1 : (32 * k + 32 - 1) / 8192 - 32 * k / 8192 + 1 = 1 := by omega
  have h2 : max (32 * k) (8192 * (32 * k / 8192)) = 32 * k := by omega
  have h3 : min (32 * k + 32) (8192 * (32 * k / 8192 + 1)) = 32 * k + 32 := by omega
  rw [pagePieces, if_neg (by decide), h1, List.range_one, List.map_singleton]
  simp only [Nat.add_zero, h2, h3, Nat.add_sub_cancel_left]

/-- The Keeper places data that lies in one page at once, or not at all on a channel that it leaves out (R510). -/
theorem State.reservedPut_piece (s : State) {a : Nat} {data : List Byte} (h : pagePieces a data.length = [(a, data.length)]) :
    s.reservedPut a data = if s.channelOut (reservedPage a).1 then s else s.dramPut a data := by
  have hsub : sub data (a - a) data.length = data := by
    rw [Nat.sub_self, sub, List.drop_zero, List.take_of_length_le (Nat.le_refl _)]
  have hput : s.reservedPut a data =
      if s.channelOut (reservedPage a).1 then s else s.dramPut a (sub data (a - a) data.length) := by
    rw [State.reservedPut, h, List.foldl_cons, List.foldl_nil]
  rw [hput, hsub]

/-- The log interrupt of a Plot marks it in its register, and sends it. -/
theorem State.logInterrupt_kept (s : State) (r : FaultRec) (p : Nat) :
    (s.logInterrupt r p).log = s.log ∧ (s.logInterrupt r p).dram = s.dram ∧ (s.logInterrupt r p).kpr = s.kpr ∧
      (s.logInterrupt r p).plan = s.plan := by
  unfold State.logInterrupt
  dsimp only
  split <;> simp

theorem State.logInterrupts_kept (r : FaultRec) : ∀ (l : List Nat) (s : State),
    (l.foldl (fun s p => s.logInterrupt r p) s).log = s.log ∧ (l.foldl (fun s p => s.logInterrupt r p) s).dram = s.dram ∧
      (l.foldl (fun s p => s.logInterrupt r p) s).kpr = s.kpr ∧ (l.foldl (fun s p => s.logInterrupt r p) s).plan = s.plan
  | [], _ => ⟨rfl, rfl, rfl, rfl⟩
  | p :: l, s => by
    obtain ⟨h1, h2, h3, h4⟩ := State.logInterrupts_kept r l (s.logInterrupt r p)
    obtain ⟨g1, g2, g3, g4⟩ := s.logInterrupt_kept r p
    exact ⟨h1.trans g1, h2.trans g2, h3.trans g3, h4.trans g4⟩

/-- The place of a record in the ring, in records from address 0 on. -/
theorem logRing_place (n : Nat) : logRing + 32 * n = 32 * (0xFEC00000 + n) := by
  show 0x1FD8000000 + 32 * n = _
  omega

/-- LOG_WRITE of a record that has been held for its 10 µs. -/
theorem exec_logWrite_due {s : State} {r : FaultRec} {rest : List FaultRec} (hh : s.log.held = r :: rest)
    (ht : r.time + 10000 ≤ s.now) : exec .logWrite s = .next ({ s with log := { s.log with held := rest } }.ringWrite r) := by
  show Host.Outcome.next s.logWrite = _
  simp only [State.logWrite, hh, if_pos ht]

theorem State.dramByte_congr {s t : State} (hp : t.plan = s.plan) (hm : t.mem = s.mem) (hd : t.dram = s.dram) (a : Nat) :
    t.dramByte a = s.dramByte a := by
  simp only [State.dramByte, State.entry, State.entryDefault, hp, hm, hd]

theorem State.dramByte_setKpr (s : State) (k : KprSt) (a : Nat) : ({ s with kpr := k } : State).dramByte a = s.dramByte a :=
  State.dramByte_congr rfl rfl rfl a

theorem State.dramByte_setLog (s : State) (l : LogSt) (a : Nat) : ({ s with log := l } : State).dramByte a = s.dramByte a :=
  State.dramByte_congr rfl rfl rfl a

/-- What writing a record to the ring changes: the write count, and the 32 bytes of its place unless its channel is left out. -/
theorem State.ringWrite_spec (s : State) (r : FaultRec) (hw : s.wf = true) :
    let p := logRing + 32 * (s.kpr.logWr % 2097152)
    (s.ringWrite r).log = s.log ∧ (s.ringWrite r).kpr = { s.kpr with logWr := (s.kpr.logWr + 1) % 2 ^ 64 } ∧
      (s.ringWrite r).regs = s.regs ∧
      (s.channelOut (reservedPage p).1 = true → (s.ringWrite r).dram = s.dram) ∧
      (s.channelOut (reservedPage p).1 = false → ∀ a, a < 32 → (s.ringWrite r).dramByte (p + a) = r.bytes.getD a 0) ∧
      (∀ a, a < p ∨ p + 32 ≤ a → (s.ringWrite r).dramByte a = s.dramByte a) := by
  intro p
  have hp : keeperBase ≤ p := by show 0x1FC4000000 ≤ 0x1FD8000000 + _; omega
  have hlen := r.bytes_length
  have hpiece : pagePieces p r.bytes.length = [(p, r.bytes.length)] := by
    rw [hlen, show p = _ from logRing_place _, pagePieces_record]
  have hput := s.reservedPut_piece hpiece
  have he : s.ringWrite r = { s.reservedPut p r.bytes with kpr := { s.kpr with logWr := (s.kpr.logWr + 1) % 2 ^ 64 } } := rfl
  clear_value p
  rw [he]
  cases hc : s.channelOut (reservedPage p).1 with
  | true =>
    rw [hc, if_pos rfl] at hput
    rw [hput]
    exact ⟨rfl, rfl, rfl, fun _ => rfl, nofun, fun a _ => s.dramByte_setKpr _ a⟩
  | false =>
    rw [hc, if_neg Bool.false_ne_true] at hput
    have hplain := State.dramPut_plain r.bytes s p (.inr hp)
    rw [hput]
    refine ⟨?_, rfl, ?_, nofun, fun _ a ha => ?_, fun a ha => ?_⟩
    · rw [hplain]
    · rw [hplain]
    · rw [State.dramByte_setKpr, State.dramPut_inside r.bytes s p a hw (.inr hp) (hlen.symm ▸ ha)]
    · rw [State.dramByte_setKpr, State.dramPut_outside r.bytes s p a (.inr hp) (hlen.symm ▸ ha)]

/-- Settles O9: the interrupts of a collected record leave log and DRAM, and a record's 32 bytes lie in one page of the ring. -/
theorem logCollectorHoldsAndWrites : Obligations.LogCollectorHoldsAndWrites := by
  refine ⟨fun i r s hr => ⟨fun hlen ht => ?_, fun hlen hsev => ?_⟩, fun r rest s hw hh ht => ?_⟩
  · have he : exec (.logCollect i) s = .next ((List.range 16).foldl (fun s p => s.logInterrupt r p)
        { s with log := { s.log with raised := s.log.raised.eraseIdx i, held := insBy recLt r s.log.held } }) := by
      show Host.Outcome.next (s.logCollect i) = _
      simp only [State.logCollect, hr, if_neg (Nat.not_le.2 hlen), if_neg (Nat.not_lt.2 ht)]
    exact ⟨_, he, State.logInterrupts_kept r _ _⟩
  · show Host.Outcome.next (s.logCollect i) = _
    simp only [State.logCollect, hr, if_pos hlen, if_pos hsev]
  · obtain ⟨hl, hk, hr, hout, hin, hoff⟩ := ({ s with log := { s.log with held := rest } } : State).ringWrite_spec r hw
    exact ⟨_, exec_logWrite_due hh ht, hl, hk, hr, hout, hin,
      fun a ha => (hoff a ha).trans (s.dramByte_setLog _ a)⟩

end Sys2Proof.Machine
end

section
/-! SUPPORT. What the memory system leaves alone: the plan, the programs, contexts and commands in flight, and the stops. -/

namespace Sys2Proof.Machine
open Sys2Proof

/-- The plan, the power state with the device's number in its Grove, the enclaves, and of the tensor engine what only commands of the Keeper
and the queues change: the loaded programs, the contexts, the commands in flight, and the Plots that are or shall be stopped. -/
structure Roster where
  plan : Option Plan
  pwr : PwrSt
  gls : GlsSt
  progs : List (Nat × Option Prog)
  ctxs : List (Nat × Option CtxSt)
  flights : List Flight
  stopReq : List Nat
  stopped : List Nat

def State.roster (s : State) : Roster :=
  ⟨s.plan, s.pwr, s.gls, s.tensor.progs, s.tensor.ctxs, s.tensor.flights, s.tensor.stopReq, s.tensor.stopped⟩

theorem State.roster_eq {s t : State} (hp : t.plan = s.plan) (hw : t.pwr = s.pwr) (hg : t.gls = s.gls)
    (ht : t.tensor = s.tensor) : t.roster = s.roster := by
  simp only [State.roster, hp, hw, hg, ht]

theorem State.plan_of_roster {s t : State} (h : t.roster = s.roster) : t.plan = s.plan := congrArg Roster.plan h
theorem State.self_of_roster {s t : State} (h : t.roster = s.roster) : t.self = s.self :=
  congrArg (fun r : Roster => r.pwr.groveId) h
theorem State.enclaveOf_of_roster {s t : State} (h : t.roster = s.roster) (c : Nat) : t.enclaveOf c = s.enclaveOf c := by
  simp only [State.enclaveOf, show t.gls = s.gls from congrArg Roster.gls h]
theorem State.progs_of_roster {s t : State} (h : t.roster = s.roster) : t.tensor.progs = s.tensor.progs :=
  congrArg Roster.progs h

theorem foldl_roster {β : Type} {f : State → β → State} (h : ∀ s x, (f s x).roster = s.roster) :
    ∀ (l : List β) (s : State), (l.foldl f s).roster = s.roster
  | [], _ => rfl
  | x :: l, s => (foldl_roster h l (f s x)).trans (h s x)

section
variable (s : State)

/-! ### Setters and records -/

@[simp] theorem State.setMem_roster (m : MemSt) : ({ s with mem := m } : State).roster = s.roster := rfl
@[simp] theorem State.wr_roster (id : RegId) (ix v : Nat) : (s.wr id ix v).roster = s.roster := rfl
@[simp] theorem State.count_roster (id : RegId) (ix n : Nat) : (s.count id ix n).roster = s.roster := rfl
@[simp] theorem State.bump_roster (id : RegId) (ix n : Nat) : (s.bump id ix n).roster = s.roster := rfl
@[simp] theorem State.setEntry_roster (c j v : Nat) : (s.setEntry c j v).roster = s.roster := rfl
@[simp] theorem State.setPort_roster (q : Nat) (p : PortSt) : (s.setPort q p).roster = s.roster := rfl
@[simp] theorem State.setMcc_roster (c : Nat) (m : MccSt) : (s.setMcc c m).roster = s.roster := rfl
@[simp] theorem State.setCache_roster (l : List CacheLine) : (s.setCache l).roster = s.roster := rfl
@[simp] theorem State.padPut_roster (n o : Nat) (data : List Byte) : (s.padPut n o data).roster = s.roster := rfl
@[simp] theorem State.fresh_roster : s.fresh.2.roster = s.roster := rfl
@[simp] theorem State.freshBytes_roster (n : Nat) : (s.freshBytes n).2.roster = s.roster := rfl

@[simp] theorem State.setErr_roster (b : Block) (i e : Nat) : (s.setErr b i e).roster = s.roster :=
  State.roster_eq (s.setErr_plan b i e) (s.setErr_pwr b i e) (s.setErr_gls b i e) (s.setErr_tensor b i e)

/-- A record of any severity but 3 changes nothing of the roster (R19). -/
theorem State.raise_roster {r : FaultRec} (h : r.severity ≠ 3) : (s.raise r).roster = s.roster :=
  State.roster_eq (s.raise_plan r) (s.raise_pwr r) (s.raise_gls r) (s.raise_tensor r h)

/-! ### DRAM and the memory system -/

@[simp] theorem State.setDramByte_roster (a : Nat) (b : Byte) : (s.setDramByte a b).roster = s.roster := by
  unfold State.setDramByte; split <;> rfl

end

@[simp] theorem State.dramPut_roster : ∀ (l : List Byte) (s : State) (a : Nat), (s.dramPut a l).roster = s.roster
  | [], _, _ => rfl
  | b :: r, s, a => by rw [State.dramPut, State.dramPut_roster r, State.setDramByte_roster]

section
variable (s : State)

@[simp] theorem State.logRefusal_roster (st : Stamp) (a reason : Nat) (write : Bool) :
    (s.logRefusal st a reason write).roster = s.roster := by
  refine s.raise_roster ?_
  dsimp only [FaultRec.by]
  (repeat' split) <;> simp [State.mkRec]

@[simp] theorem State.linkRetry_roster (c a plot ctx : Nat) : (s.linkRetry c a plot ctx).roster = s.roster :=
  State.raise_roster _ nofun

@[simp] theorem State.putRetireList_roster (c : Nat) (l : List Nat) : (s.putRetireList c l).roster = s.roster := rfl

@[simp] theorem State.recordRetire_roster (c j : Nat) : (s.recordRetire c j).roster = s.roster := by
  unfold State.recordRetire
  dsimp only
  have hr : (s.raise { s.mkRec .mcc c 0x13 0 stDONE with detail := s.badPages c }).roster = s.roster := s.raise_roster nofun
  split
  · rw [State.putRetireList_roster]
    split
    · rfl
    · exact hr
  · split
    · rfl
    · split
      · exact State.putRetireList_roster ..
      · rfl

@[simp] theorem State.eccFatal_roster (c j a plot ctx : Nat) (link : Bool) :
    (s.eccFatal c j a plot ctx link).roster = s.roster := by
  have hsev : (if 130048 ≤ j then 4 else 2) ≠ 3 := by split <;> decide
  unfold State.eccFatal
  generalize (if 130048 ≤ j then 4 else 2) = sev at hsev ⊢
  rw [State.recordRetire_roster]
  exact State.raise_roster _ hsev

@[simp] theorem State.eccOnDie_roster (c j a plot ctx : Nat) : (s.eccOnDie c j a plot ctx).roster = s.roster := by
  unfold State.eccOnDie
  dsimp only
  split
  · rw [State.recordRetire_roster, State.raise_roster, State.setEntry_roster, State.raise_roster, State.wr_roster,
      State.bump_roster, State.setEntry_roster]
    all_goals nofun
  · rw [State.raise_roster, State.wr_roster, State.bump_roster, State.setEntry_roster]
    nofun

@[simp] theorem State.eccRead_roster (c j a plot ctx : Nat) (e : EccEvent) : (s.eccRead c j a plot ctx e).1.roster = s.roster := by
  cases e <;> simp only [State.eccRead, State.eccOnDie_roster, State.eccFatal_roster, State.linkRetry_roster]
  case linkCorrected => exact State.raise_roster _ nofun
  case linkRetried n => (repeat' split) <;> simp

@[simp] theorem State.eccWrite_roster (c a plot ctx : Nat) (data : List Byte) (e : EccEvent) :
    (s.eccWrite c a plot ctx data e).1.roster = s.roster := by
  cases e <;> simp [State.eccWrite]

@[simp] theorem State.takeTokens_roster (c : Nat) (r : DramReq) (t : Tier) : (s.takeTokens c r t).roster = s.roster := by
  unfold State.takeTokens; dsimp only; split <;> simp

@[simp] theorem State.enterSlot_roster (r : DramReq) (t : Tier) : (s.enterSlot r t).roster = s.roster := by
  unfold State.enterSlot; dsimp only; split <;> simp

@[simp] theorem State.grantOne_roster (q : Nat) : (s.grantOne q).roster = s.roster := by
  unfold State.grantOne; dsimp only; (repeat' split) <;> simp

@[simp] theorem State.cacheDrop_roster (st : Stamp) (lines : List Nat) : (s.cacheDrop st lines).roster = s.roster := rfl

@[simp] theorem State.victimWay_roster (ways : List Nat) (set : Nat) : (s.victimWay ways set).2.roster = s.roster := by
  unfold State.victimWay; split <;> simp

@[simp] theorem State.fillLine_roster (st : Stamp) (line : Nat) (data : List Byte) : (s.fillLine st line data).roster = s.roster := by
  unfold State.fillLine; split <;> simp

@[simp] theorem State.cacheDone_roster (r : DramReq) (data : List Byte) : (s.cacheDone r data).roster = s.roster := by
  unfold State.cacheDone
  split
  · rfl
  · split
    · simp
    · exact foldl_roster (fun s i => s.fillLine_roster ..) _ _

@[simp] theorem State.complete_roster (r : DramReq) (status : Nat) (data : List Byte) :
    (s.complete r status data).roster = s.roster := rfl

@[simp] theorem State.noteLatency_roster (c : Nat) (x : SlotReq) : (s.noteLatency c x).roster = s.roster := by
  unfold State.noteLatency
  dsimp only
  (repeat' split)
  · exact State.raise_roster _ nofun
  · rfl
  · rfl

@[simp] theorem State.perform_roster (c : Nat) (x : SlotReq) (e : EccEvent) : (s.perform c x e).roster = s.roster := by
  unfold State.perform; dsimp only; (repeat' split) <;> simp

@[simp] theorem State.serveOne_roster (c : Nat) (p : SlotReq → Bool) (e : EccEvent) : (s.serveOne c p e).1.roster = s.roster := by
  unfold State.serveOne; dsimp only; (repeat' split) <;> simp

@[simp] theorem State.serveCycle_roster (c : Nat) (e e2 : EccEvent) : (s.serveCycle c e e2).roster = s.roster := by
  have h := s.serveOne_roster c (fun _ => true) e
  unfold State.serveCycle
  split
  · simp
  · split
    next t x hx =>
      rw [hx] at h
      split
      · rw [State.serveOne_roster]; exact h
      · exact h
    next t hx => rw [hx] at h; exact h

@[simp] theorem State.memCycle_roster (q : Nat) : (s.memCycle q).roster = s.roster := by
  unfold State.memCycle
  exact (foldl_roster (fun s c => s.serveCycle_roster c ..) _ _).trans (s.grantOne_roster q)

end

@[simp] theorem State.letPass_roster (r : DramReq) : ∀ (n : Nat) (s : State), (s.letPass r n).roster = s.roster
  | 0, _ => rfl
  | n + 1, s => by
    unfold State.letPass
    split
    · rw [State.letPass_roster r n, State.memCycle_roster]
    · rfl

@[simp] theorem State.countAccess_roster (st : Stamp) (write : Bool) : ∀ (l : List (Nat × Nat)) (s : State),
    (s.countAccess st write l).roster = s.roster
  | [], _ => rfl
  | (a, n) :: r, s => by
    unfold State.countAccess
    rw [State.countAccess_roster st write r]
    (repeat' split) <;> simp

section
variable (s : State)

@[simp] theorem State.passReq_roster (r : DramReq) : (s.passReq r).roster = s.roster := by
  unfold State.passReq; dsimp only; split <;> simp

@[simp] theorem State.countIssued_roster (st : Stamp) (a n : Nat) : (s.countIssued st a n).roster = s.roster := by
  unfold State.countIssued; split <;> simp

@[simp] theorem State.pass_roster (st : Stamp) (a n : Nat) (write : Bool) : (s.pass st a n write).roster = s.roster := by
  unfold State.pass
  rw [State.countAccess_roster, foldl_roster (fun s r => s.passReq_roster r), State.countIssued_roster]

@[simp] theorem State.passRefused_roster (st : Stamp) (a n b reason : Nat) (write : Bool) :
    (s.passRefused st a n b reason write).roster = s.roster := by
  simp [State.passRefused]

/-- An access of DRAM by an engine leaves the roster. -/
@[simp] theorem State.memRead_roster (st : Stamp) (a n : Nat) : (s.memRead st a n).1.roster = s.roster := by
  unfold State.memRead; (repeat' split) <;> simp

@[simp] theorem State.memWrite_roster (st : Stamp) (a : Nat) (data : List Byte) : (s.memWrite st a data).1.roster = s.roster := by
  unfold State.memWrite; (repeat' split) <;> simp

end

theorem State.memRead_eq_roster {s t : State} {st : Stamp} {a n : Nat} {d : Option (List Byte)} (h : s.memRead st a n = (t, d)) :
    t.roster = s.roster := by
  rw [← s.memRead_roster st a n, h]

theorem State.memWrite_eq_roster {s t : State} {st : Stamp} {a : Nat} {data : List Byte} {ok : Bool}
    (h : s.memWrite st a data = (t, ok)) : t.roster = s.roster := by
  rw [← s.memWrite_roster st a data, h]

end Sys2Proof.Machine
end

section
/-! SUPPORT. A request that the Keeper executes, and the services LOAD, UNLOAD and PLOT_RESTART (spec/05, spec/16). -/

namespace Sys2Proof.Machine
open Sys2Proof

/-- A request that the Keeper executes ends with the reply that its service gives (R483 to R485). -/
theorem State.serve_of_asks {s : State} {m : Mbx} {op : Nat} (h : s.asks m op)
    {run : State → Nat → List Byte → State × Option (Nat × List Byte)} {t : State} {st : Nat} {body : List Byte}
    (hr : run s (mbxKey m) (s.reqBody m) = (t, some (st, body))) : s.serve m op run = t.finishMbx (mbxKey m) st body := by
  obtain ⟨⟨hbusy, hserving, hserves, hturn⟩, hop, hdup, hgate⟩ := h
  have hgo : ¬ (!(s.mbx (mbxKey m)).busy || (s.mbx (mbxKey m)).serving || fld (s.mbx (mbxKey m)).req 4 2 ≠ op ||
      !s.keeperServes || !s.mbxTurn (mbxKey m)) = true := by
    simp only [State.reqOp] at hop
    simp [hbusy, hserving, hserves, hturn, hop]
  have hfind : (if op = 1 ∨ op = 3 then none
      else (s.mbx (mbxKey m)).window.find? (fun r => r.seq == fld (s.mbx (mbxKey m)).req 0 4)) = none := by
    by_cases h1 : op = 1 ∨ op = 3
    · exact if_pos h1
    · rw [if_neg h1, List.find?_eq_none]
      intro r hr
      have : r.seq ≠ s.reqSeq m := ((hdup.resolve_left (fun e => h1 (.inl e))).resolve_left (fun e => h1 (.inr e))) r hr
      simpa [State.reqSeq] using this
  simp only [State.reqBody] at hr
  unfold State.serve
  dsimp only
  rw [if_neg hgo, hfind, hgate]
  dsimp only
  rw [hr]

/-! ### What is noted about waiting commands and blocked contexts -/

theorem State.touchHeads_eq : ∀ (l : List Nat) (s : State), ∃ qs,
    l.foldl (fun s q => s.touchHead q) s = { s with tensor := { s.tensor with queues := qs } }
  | [], _ => ⟨_, rfl⟩
  | q :: l, s => by
    have hq : ∃ qs, s.touchHead q = { s with tensor := { s.tensor with queues := qs } } := by
      unfold State.touchHead
      dsimp only
      split
      · exact ⟨s.tensor.queues, rfl⟩
      · exact ⟨_, rfl⟩
    obtain ⟨qs, hq⟩ := hq
    obtain ⟨qs', h'⟩ := State.touchHeads_eq l (s.touchHead q)
    exact ⟨qs', by rw [List.foldl_cons, h', hq]⟩

/-- `touch` notes times in the queues' heads and in the contexts, which keep their Plots. -/
theorem State.touch_eq (s : State) : ∃ (qs : List (Nat × QueueSt)) (f : Nat → CtxSt → CtxSt), (∀ c x, (f c x).plot = x.plot) ∧
    s.touch = { s with tensor := { s.tensor with queues := qs, ctxs := s.tensor.ctxs.map (fun e => (e.1, e.2.map (f e.1))) } } := by
  obtain ⟨qs, h⟩ := State.touchHeads_eq (s.tensor.queues.map (·.1)) s
  refine ⟨qs, State.touchCtx { s with tensor := { s.tensor with queues := qs } }, fun _ _ => rfl, ?_⟩
  unfold State.touch
  rw [h]

section
variable (s : State)

@[simp] theorem State.touch_plan : s.touch.plan = s.plan := by obtain ⟨_, _, -, h⟩ := s.touch_eq; rw [h]
@[simp] theorem State.touch_dram : s.touch.dram = s.dram := by obtain ⟨_, _, -, h⟩ := s.touch_eq; rw [h]
@[simp] theorem State.touch_pads : s.touch.pads = s.pads := by obtain ⟨_, _, -, h⟩ := s.touch_eq; rw [h]
@[simp] theorem State.touch_padLost : s.touch.padLost = s.padLost := by obtain ⟨_, _, -, h⟩ := s.touch_eq; rw [h]
@[simp] theorem State.touch_regs : s.touch.regs = s.regs := by obtain ⟨_, _, -, h⟩ := s.touch_eq; rw [h]
@[simp] theorem State.touch_progs : s.touch.tensor.progs = s.tensor.progs := by obtain ⟨_, _, -, h⟩ := s.touch_eq; rw [h]
@[simp] theorem State.touch_gens : s.touch.tensor.gens = s.tensor.gens := by obtain ⟨_, _, -, h⟩ := s.touch_eq; rw [h]
@[simp] theorem State.touch_sems : s.touch.tensor.sems = s.tensor.sems := by obtain ⟨_, _, -, h⟩ := s.touch_eq; rw [h]
@[simp] theorem State.touch_stopped : s.touch.tensor.stopped = s.tensor.stopped := by
  obtain ⟨_, _, -, h⟩ := s.touch_eq; rw [h]

end

/-! ### LOAD -/

theorem State.readBinds_roster (s : State) (st : Stamp) (img : List Byte) (a : Nat) :
    (s.readBinds st img a).1.roster = s.roster := by
  unfold State.readBinds
  split
  · rfl
  · exact s.memRead_roster ..

theorem State.copyIn_roster (st : Stamp) (n base : Nat) : ∀ (l : List (Nat × Nat × Nat)) (s : State),
    (s.copyIn st n base l).1.roster = s.roster
  | [], _ => rfl
  | (a, o, k) :: r, s => by
    unfold State.copyIn
    split
    next t d ht => rw [State.copyIn_roster st n base r, State.padPut_roster, State.memRead_eq_roster ht]
    next t ht => exact State.memRead_eq_roster ht

/-- A loop over a state that stops at the first failure. -/
theorem foldlOk_roster {β : Type} {f : State × Bool → β → State × Bool} (h : ∀ x b, (f x b).1.roster = x.1.roster) :
    ∀ (l : List β) (x : State × Bool), (l.foldl f x).1.roster = x.1.roster
  | [], _ => rfl
  | b :: l, x => (foldlOk_roster h l (f x b)).trans (h x b)

theorem State.pinCopy_roster (s : State) (p : Prog) (n : Nat) : (s.pinCopy p n).1.roster = s.roster := by
  unfold State.pinCopy
  split
  · refine foldlOk_roster (fun x g => ?_) _ _
    split
    · exact State.copyIn_roster ..
    · rfl
  · rfl

/-- The check of the store leaves a slot free. -/
theorem State.store_of_loadChecks {s : State} {l : LoadIn} {m : List (Nat × Nat)} (h : s.loadChecks l = ([], m)) :
    s.allProgs.length < 4096 := by
  have hnone : s.loadStore l = none := by
    have := congrArg Prod.fst h
    simp only [State.loadChecks, List.filterMap_eq_nil_iff] at this
    exact this (s.loadStore l) (by simp only [List.mem_cons, true_or, or_true])
  unfold State.loadStore at hnone
  split at hnone
  next hc => exact hc.1
  next => cases hnone

/-- A list that holds every number below `n` has `n` places. -/
theorem le_length_of_all_mem : ∀ (n : Nat) {l : List Nat}, (∀ k < n, k ∈ l) → n ≤ l.length
  | 0, _, _ => Nat.zero_le _
  | n + 1, l, h => by
    have hn := h n (Nat.lt_succ_self n)
    have hrest := le_length_of_all_mem n (l := l.erase n)
      (fun k hk => (List.mem_erase_of_ne (Nat.ne_of_lt hk)).2 (h k (Nat.lt_succ_of_lt hk)))
    have hpos := List.length_pos_of_mem hn
    rw [List.length_erase_of_mem hn] at hrest
    omega

/-- Of 4,096 slots, fewer programs than that leave one free. -/
theorem State.freeSlot_exists {s : State} (h : s.allProgs.length < 4096) :
    ∃ k ∈ List.range 4096, (sget (fun _ => none) s.tensor.progs k).isNone = true := by
  refine Classical.byContradiction (fun hno => ?_)
  have hall : ∀ k < 4096, k ∈ (s.tensor.progs.filter (·.2.isSome)).map (·.1) := by
    intro k hk
    have hs : (sget (fun _ => none) s.tensor.progs k).isSome = true :=
      Option.isSome_iff_ne_none.2 (fun hn => hno ⟨k, List.mem_range.2 hk, Option.isNone_iff_eq_none.2 hn⟩)
    rcases sget_listed (fun _ => none) k s.tensor.progs with hd | hm
    · rw [hd] at hs; cases hs
    · exact List.mem_map.2 ⟨_, List.mem_filter.2 ⟨hm, hs⟩, rfl⟩
  have hlen : (s.tensor.progs.filter (·.2.isSome)).length = s.allProgs.length := by
    rw [State.allProgs, ← List.countP_eq_length_filter, List.length_filterMap_eq_countP]
  have hle := le_length_of_all_mem 4096 hall
  rw [List.length_map, hlen] at hle
  omega

/-- A pick among the numbers below `n` that satisfy `p`, when there is one. -/
theorem pick_spec {n : Nat} {p : Nat → Bool} (h : ∃ k ∈ List.range n, p k = true) (x : Nat) :
    let l := (List.range n).filter p
    l.getD (x % l.length) 0 < n ∧ p (l.getD (x % l.length) 0) = true := by
  intro l
  obtain ⟨k, hk, hp⟩ := h
  have hi := Nat.mod_lt x (List.length_pos_of_mem (List.mem_filter.2 ⟨hk, hp⟩ : k ∈ l))
  have hm : l.getD (x % l.length) 0 ∈ l := by
    rw [List.getD_eq_getElem?_getD, List.getElem?_eq_getElem hi]
    exact List.getElem_mem hi
  exact (List.mem_filter.1 hm).imp List.mem_range.1 id

/-- The slot that a load takes is one of the free ones. -/
theorem State.pickStore_free {s : State} (h : s.allProgs.length < 4096) :
    s.pickStore.1 < 4096 ∧ sget (fun _ => none) s.tensor.progs s.pickStore.1 = none := by
  have hp := pick_spec (State.freeSlot_exists h) (Config.freeValue s.free).toNat
  unfold State.pickStore
  rw [State.fresh_eq]
  dsimp only at hp ⊢
  rw [Option.isNone_iff_eq_none] at hp
  exact hp

theorem fld_len_of_structFail {img : List Byte} {len : Nat} (h : structFail img len = none) : fld img 8 4 = len := by
  unfold structFail at h
  dsimp only at h
  split at h
  · cases h
  next hok =>
    simp only [progHdrOk, Bool.not_eq_true', Bool.not_eq_false, Bool.and_eq_true, beq_iff_eq] at hok
    simp [hok]

/-- A program put in a slot of the store (R173). -/
def State.storeProg (s : State) (slot : Nat) (p : Prog) : State :=
  ({ s with tensor := { s.tensor with progs := sset (fun _ => none) s.tensor.progs slot (some p) } } : State).touch

theorem State.storeProg_slot (s : State) (slot : Nat) (p : Prog) :
    sget (fun _ => none) (s.storeProg slot p).tensor.progs slot = some p := by
  rw [State.storeProg, State.touch_progs]
  dsimp only
  rw [sset, if_neg nofun, sget_sins_self]

/-- The bytes of the map that a load writes: the Bed of each of this device's virtual Beds (Table 05-6). -/
def mapBytes (mine : List Nat) (map_ : List (Nat × Nat)) : List Byte :=
  let beds : List Nat := mine.map (fun v => ((map_.find? (fun e => e.1 == v)).map (·.2)).getD 0xFF)
  (beds.map (BitVec.ofNat 8) ++ List.replicate 1024 0xFF).take 1024

/-- A load whose map is written and whose PINNED copies are made (R173). -/
theorem State.loadCommit_done {s s3 s5 : State} {st : Stamp} {l : LoadIn} {img : List Byte} {map_ : List (Nat × Nat)}
    {bindAddr mapAddr : Nat}
    (hw : s.memWrite st mapAddr (mapBytes (l.mine s.self) map_) = (s3, true))
    (hp : let p := s3.pickStore.2.mkProg l img map_ bindAddr (sget (fun _ => 0) s3.tensor.gens s3.pickStore.1)
      p.map.foldl (fun (x : State × Bool) n => if x.2 then x.1.pinCopy p n else x) (s3.pickStore.2, true) = (s5, true)) :
    let gen := sget (fun _ => 0) s3.tensor.gens s3.pickStore.1
    s.loadCommit st l img map_ bindAddr mapAddr =
      (s5.storeProg s3.pickStore.1 (s3.pickStore.2.mkProg l img map_ bindAddr gen),
        some (stDONE, leBytes 1 stDONE ++ zeros 3 ++ leBytes 4 (gen % 2 ^ 20 * 4096 + s3.pickStore.1) ++ leBytes 8 0xFFFFFFFF)) := by
  unfold mapBytes at hw
  unfold State.loadCommit
  dsimp only at hp ⊢
  rw [hw]
  dsimp only
  have hg : s3.pickStore.2.tensor.gens = s3.tensor.gens := rfl
  rw [hg, hp]
  rfl

/-- A load that passes every check commits (R169 to R173). -/
theorem State.svcLoad_passes {s s1 s2 : State} {k : Nat} {b img bt : List Byte} {map_ : List (Nat × Nat)}
    (hb : loadBodyOk b = true)
    (hr : s.memRead { s.mbxStamp k with ctx := fld b 0 2 } (fld b 8 8) (fld b 4 4) = (s1, some img))
    (hd : sha384 (img.take (fld b 4 4 - 48)) = sub img (fld b 4 4 - 48) 48) (he : s.enclaveOf (fld b 0 2) = none)
    (hs : structFail img (fld b 4 4) = none) (hv : fld img 4 2 = 1) (hv' : fld img 6 2 = 0)
    (hbt : s1.readBinds { s.mbxStamp k with ctx := fld b 0 2 } img (fld b 0x10 8) = (s2, some bt))
    (hc : s2.loadChecks (mkLoadIn (s.mbxStamp k).plot (fld b 0 2) (fld b 2 2) img bt) = ([], map_)) :
    s.svcLoad k b = s2.loadCommit { s.mbxStamp k with ctx := fld b 0 2 }
      (mkLoadIn (s.mbxStamp k).plot (fld b 0 2) (fld b 2 2) img bt) img map_ (fld b 0x10 8) (fld b 0x18 8) := by
  have he1 : s1.enclaveOf (fld b 0 2) = none := (State.enclaveOf_of_roster (State.memRead_eq_roster hr) _).trans he
  unfold State.svcLoad
  dsimp only
  rw [hb, hr]
  simp only [Bool.not_true, Bool.false_eq_true, if_false, fld_len_of_structFail hs, ne_eq, not_true_eq_false, he1, hd, hs, hv, hv',
    and_self, if_true, decide_false, Bool.or_self, State.loadImage, hbt, hc]

/-- The effects of a load that passes every check: a free slot of the store holds the program, and the reply names it. -/
theorem exec_load_passes {m : Mbx} {s s1 s2 s3 s5 : State} {img bt : List Byte} {map_ : List (Nat × Nat)} (ha : s.asks m 0x10)
    (hb : loadBodyOk (s.reqBody m) = true) :
    let k := mbxKey m
    let b := s.reqBody m
    let st : Stamp := { s.mbxStamp k with ctx := fld b 0 2 }
    let len := fld b 4 4
    let l := mkLoadIn st.plot (fld b 0 2) (fld b 2 2) img bt
    let s4 := s3.pickStore
    let p := s4.2.mkProg l img map_ (fld b 0x10 8) (sget (fun _ => 0) s3.tensor.gens s4.1)
    s.memRead st (fld b 8 8) len = (s1, some img) → sha384 (img.take (len - 48)) = sub img (len - 48) 48 →
    s.enclaveOf (fld b 0 2) = none → structFail img len = none → fld img 4 2 = 1 → fld img 6 2 = 0 →
    s1.readBinds st img (fld b 0x10 8) = (s2, some bt) → s2.loadChecks l = ([], map_) →
    s2.memWrite st (fld b 0x18 8) (mapBytes (l.mine s.self) map_) = (s3, true) →
    p.map.foldl (fun (x : State × Bool) n => if x.2 then x.1.pinCopy p n else x) (s4.2, true) = (s5, true) →
    exec (.load m) s = .next ((s5.storeProg s4.1 p).finishMbx k stDONE (leBytes 1 stDONE ++ zeros 3 ++
        leBytes 4 (p.gen % 2 ^ 20 * 4096 + s4.1) ++ leBytes 8 0xFFFFFFFF)) ∧
      s4.1 < 4096 ∧ sget (fun _ => none) s3.tensor.progs s4.1 = none ∧ s5.plan = s.plan := by
  intro k b st len l s4 p hread hdig hencl hstr hv hv' hbinds hchk hmap hpin
  have hr1 : s1.roster = s.roster := State.memRead_eq_roster hread
  have hr2 : s2.roster = s.roster := by rw [← hr1, ← s1.readBinds_roster st img (fld b 0x10 8), hbinds]
  have hr3 : s3.roster = s.roster := (State.memWrite_eq_roster hmap).trans hr2
  have hr5 : s5.roster = s.roster := by
    have hcopy (x : State × Bool) (n : Nat) : (if x.2 then x.1.pinCopy p n else x).1.roster = x.1.roster := by
      split
      · exact State.pinCopy_roster ..
      · rfl
    have h := foldlOk_roster hcopy p.map (s4.2, true)
    rw [hpin] at h
    exact h.trans hr3
  have hfree : s4.1 < 4096 ∧ sget (fun _ => none) s3.tensor.progs s4.1 = none :=
    State.pickStore_free (by
      rw [State.allProgs, State.progs_of_roster (hr3.trans hr2.symm)]
      exact State.store_of_loadChecks hchk)
  rw [← State.self_of_roster hr2] at hmap
  have hsvc : s.svcLoad k b = _ := State.svcLoad_passes hb hread hdig hencl hstr hv hv' hbinds hchk
  rw [State.loadCommit_done hmap hpin] at hsvc
  exact ⟨congrArg _ (State.serve_of_asks ha hsvc), hfree.1, hfree.2, State.plan_of_roster hr5⟩

/-! ### UNLOAD -/

theorem State.svcUnload_done {s : State} {k : Nat} {b : List Byte} {p : Prog} (hz : allZero b 2 2 = true) (he : bodyEnds b 8 = true)
    (hc : fld b 0 2 < 1024) (hplot : (s.ctx? (fld b 0 2)).map (·.plot) = some (s.mbxPlot k)) (hp : s.prog? (fld b 4 4) = some p)
    (hctx : p.ctx = fld b 0 2) (hbusy : s.progBusy (fld b 4 4) = false) :
    s.svcUnload k b = ((s.dropProg (fld b 4 4 % 4096)).touch, some (stDONE, [])) := by
  have hc' : ¬ 1023 < fld b 0 2 := by omega
  simp [State.svcUnload, hz, he, hc', hplot, hp, hctx, hbusy]

/-! ### PLOT_RESTART -/

/-- From `s` to `t` only registers and the state of the switch, the buses and the check-value units may differ. -/
def State.resetsTo (s t : State) : Prop := ∃ rs x, t = { s with regs := rs, net := x }

theorem State.resetsTo_refl (s : State) : s.resetsTo s := ⟨s.regs, s.net, rfl⟩

theorem State.resetsTo_trans {s t u : State} (h : s.resetsTo t) (h' : t.resetsTo u) : s.resetsTo u := by
  obtain ⟨_, _, rfl⟩ := h
  obtain ⟨rs, x, rfl⟩ := h'
  exact ⟨rs, x, rfl⟩

theorem State.resetsTo_wr (s : State) (id : RegId) (ix v : Nat) : s.resetsTo (s.wr id ix v) := ⟨_, s.net, rfl⟩
theorem State.resetsTo_setNet (s : State) (x : NetSt) : s.resetsTo { s with net := x } := ⟨s.regs, x, rfl⟩
theorem State.resetsTo_setRing (s : State) (r : Ring) (x : RingSt) : s.resetsTo (s.setRing r x) := s.resetsTo_setNet _
theorem State.resetsTo_setCan (s : State) (n : Nat) (x : CanSt) : s.resetsTo (s.setCan n x) := s.resetsTo_setNet _

theorem foldl_resetsTo {β : Type} {f : State → β → State} (h : ∀ (s : State) x, s.resetsTo (f s x)) :
    ∀ (l : List β) (s : State), s.resetsTo (l.foldl f s)
  | [], s => s.resetsTo_refl
  | x :: l, s => State.resetsTo_trans (h s x) (foldl_resetsTo h l (f s x))

theorem State.resetRegs_resetsTo (s : State) (ids : List RegId) (ixs : List Nat) : s.resetsTo (s.resetRegs ids ixs) := by
  refine foldl_resetsTo (fun s ix => foldl_resetsTo (fun s id => ?_) ids s) ixs s
  unfold State.resetReg
  split
  · exact s.resetsTo_wr ..
  · exact s.resetsTo_refl

theorem State.resetPorts_resetsTo (s : State) (p : Nat) : s.resetsTo (s.resetPorts p) := by
  unfold State.resetPorts
  dsimp only
  refine State.resetsTo_trans ?_ (foldl_resetsTo (fun s n => ?_) _ _)
  · exact State.resetsTo_trans (s.resetRegs_resetsTo ..) (foldl_resetsTo (fun s k => s.resetsTo_wr ..) _ _)
  · exact State.resetsTo_trans (State.resetsTo_trans (s.resetRegs_resetsTo ..) (State.resetsTo_setRing ..))
      (State.resetsTo_setRing ..)

theorem State.resetCan_resetsTo (s : State) (p : Nat) : s.resetsTo (s.resetCan p) := by
  unfold State.resetCan
  dsimp only
  refine State.resetsTo_trans (foldl_resetsTo (fun s n => ?_) _ s) (foldl_resetsTo (fun s n => ?_) _ _)
  · refine State.resetsTo_trans (State.resetsTo_trans (State.resetsTo_trans (State.resetsTo_trans ?_
      (State.resetsTo_setRing ..)) (State.resetsTo_setRing ..)) (State.resetsTo_setRing ..)) (State.resetsTo_setCan ..)
    exact State.resetsTo_trans (State.resetsTo_trans (s.resetRegs_resetsTo ..) (State.resetRegs_resetsTo ..))
      (State.resetRegs_resetsTo ..)
  · exact State.resetsTo_trans (s.resetRegs_resetsTo ..) (State.resetsTo_setNet ..)

theorem State.resetCvu_resetsTo (s : State) (p : Nat) : s.resetsTo (s.resetCvu p) :=
  foldl_resetsTo (fun s _ => State.resetsTo_trans (s.resetRegs_resetsTo ..) (State.resetsTo_setNet ..)) _ s

/-- A key whose entries are dropped reads its default, and every other key reads as before. -/
theorem sget_filter {β : Type} (d : Nat → β) (p : Nat → Bool) (k : Nat) : ∀ m : List (Nat × β),
    sget d (m.filter (fun e => p e.1)) k = if p k then sget d m k else d k
  | [] => by simp [sget]
  | (k', v) :: r => by
    have ih := sget_filter d p k r
    by_cases hk : k = k'
    · subst hk
      cases hp : p k <;> simp [hp, sget, ih]
    · cases hp : p k' <;> simp [hp, sget, ih, hk]

/-- What a restart changes of the Plots and their semaphores (R241, R519). -/
theorem State.restartPlot_spec (s : State) (p : Nat) :
    (s.restartPlot p).tensor.stopped = s.tensor.stopped.filter (· ≠ p) ∧
      (∀ n, s.ownerOf 0x06 n = p → (s.restartPlot p).semVal n = 0) ∧
      (∀ n, s.ownerOf 0x06 n ≠ p → (s.restartPlot p).semVal n = s.semVal n) ∧
      (s.restartPlot p).plan = s.plan ∧ (s.restartPlot p).dram = s.dram := by
  unfold State.restartPlot
  dsimp only
  generalize hu : ({ s with tensor := { s.tensor with sems := s.tensor.sems.filter (fun e => s.ownerOf 0x06 e.1 ≠ p) } } : State) = u
  obtain ⟨rs, x, hr⟩ := State.resetsTo_trans (State.resetsTo_trans (u.resetPorts_resetsTo p) (State.resetCan_resetsTo _ p))
    (State.resetCvu_resetsTo _ p)
  rw [hr]
  subst hu
  have hsem (n : Nat) : sget (fun _ => 0) (s.tensor.sems.filter (fun e => s.ownerOf 0x06 e.1 ≠ p)) n =
      if s.ownerOf 0x06 n ≠ p then s.semVal n else 0 := by
    have := sget_filter (fun _ => 0) (fun n => decide (s.ownerOf 0x06 n ≠ p)) n s.tensor.sems
    simpa [State.semVal] using this
  simp only [State.touch_stopped, State.touch_plan, State.touch_dram, State.semVal, State.touch_sems, hsem, true_and, and_true]
  exact ⟨fun n hn => if_neg (Classical.not_not.2 hn), fun n hn => if_pos hn⟩

/-- A restart that R519 admits: asked by a Plot that must run and is no less critical, of a stopped Plot that is not dead. -/
theorem State.svcPlotRestart_done {s : State} {k : Nat} {b : List Byte} {r r' : PlotRec} (he : bodyEnds b 1 = true)
    (hp : fld b 0 1 < 16) (hk : k < 16) (hr : s.plotRec k = some r) (hm : r.mustRun = true) (hr' : s.plotRec (fld b 0 1) = some r')
    (hcrit : r'.crit ≤ r.crit) (hstop : s.tensor.stopped.contains (fld b 0 1) = true)
    (hdead : s.kpr.deadPlots.contains (fld b 0 1) = false) :
    s.svcPlotRestart k b = (s.restartPlot (fld b 0 1), some (stDONE, [])) := by
  have h15 : ¬ 15 < fld b 0 1 := by omega
  have h16 : ¬ 16 ≤ k := by omega
  rw [List.contains_iff_mem] at hstop
  have hdead : fld b 0 1 ∉ s.kpr.deadPlots := by simpa using hdead
  simp [State.svcPlotRestart, he, h15, h16, hr, hm, hr', Nat.not_lt.2 hcrit, hstop, hdead]

end Sys2Proof.Machine
end

section
/-! SUPPORT. The stop of a Plot (R19, R25): what every step of it keeps of the contexts, the commands in flight and the stops. -/

namespace Sys2Proof.Machine
open Sys2Proof

/-- `t` follows `s` in a stop: the plan and the stopped Plots are those of `s`, a stop is asked only of a Plot that is not stopped,
every command in flight and every context of `t` stands in `s` under the same key, the context with the same Plot, and the map of
contexts stays canonical. -/
structure State.WindsDown (s t : State) : Prop where
  plan : t.plan = s.plan
  stopped : t.tensor.stopped = s.tensor.stopped
  stopReq : ∀ p ∈ t.tensor.stopReq, p ∈ s.tensor.stopReq ∨ p ∉ s.tensor.stopped
  flights : ∀ f ∈ t.tensor.flights, ∃ g ∈ s.tensor.flights, g.queue = f.queue ∧ g.cmd.seq = f.cmd.seq
  ctxs : ∀ e ∈ t.tensor.ctxs, ∃ d ∈ s.tensor.ctxs, d.1 = e.1 ∧ d.2.map (·.plot) = e.2.map (·.plot)
  canon : swf (fun _ => none) s.tensor.ctxs = true → swf (fun _ => none) t.tensor.ctxs = true

namespace State.WindsDown

theorem refl (s : State) : s.WindsDown s where
  plan := rfl
  stopped := rfl
  stopReq _ hp := .inl hp
  flights f hf := ⟨f, hf, rfl, rfl⟩
  ctxs e he := ⟨e, he, rfl, rfl⟩
  canon hs := hs

theorem trans {a s t : State} (h : a.WindsDown s) (h' : s.WindsDown t) : a.WindsDown t where
  plan := h'.plan.trans h.plan
  stopped := h'.stopped.trans h.stopped
  stopReq p hp := (h'.stopReq p hp).elim (h.stopReq p) (fun hn => .inr (h.stopped ▸ hn))
  flights f hf := by
    obtain ⟨g, hg, hgq, hgs⟩ := h'.flights f hf
    obtain ⟨k, hk, hkq, hks⟩ := h.flights g hg
    exact ⟨k, hk, hkq.trans hgq, hks.trans hgs⟩
  ctxs e he := by
    obtain ⟨d, hd, hdk, hdp⟩ := h'.ctxs e he
    obtain ⟨c, hc, hck, hcp⟩ := h.ctxs d hd
    exact ⟨c, hc, hck.trans hdk, hcp.trans hdp⟩
  canon hs := h'.canon (h.canon hs)

section
variable {a s : State} (h : a.WindsDown s)
include h

/-- A step that writes none of these fields. -/
theorem keep {t : State} (hp : t.plan = s.plan := by rfl) (hc : t.tensor.ctxs = s.tensor.ctxs := by rfl)
    (hf : t.tensor.flights = s.tensor.flights := by rfl) (hq : t.tensor.stopReq = s.tensor.stopReq := by rfl)
    (hs : t.tensor.stopped = s.tensor.stopped := by rfl) : a.WindsDown t where
  plan := hp.trans h.plan
  stopped := hs.trans h.stopped
  stopReq := hq ▸ h.stopReq
  flights := hf ▸ h.flights
  ctxs := hc ▸ h.ctxs
  canon := hc ▸ h.canon

theorem of_roster {t : State} (ht : t.roster = s.roster) : a.WindsDown t :=
  h.keep (congrArg Roster.plan ht) (congrArg Roster.ctxs ht) (congrArg Roster.flights ht) (congrArg Roster.stopReq ht)
    (congrArg Roster.stopped ht)

/-! ### Setters -/

theorem wr (id : RegId) (ix v : Nat) : a.WindsDown (s.wr id ix v) := h.keep
theorem count (id : RegId) (ix n : Nat) : a.WindsDown (s.count id ix n) := h.keep
theorem bump (id : RegId) (ix n : Nat) : a.WindsDown (s.bump id ix n) := h.keep
theorem send (o : Out) : a.WindsDown (s.send o) := h.keep
theorem setBed (n : Nat) (b : BedSt) : a.WindsDown (s.setBed n b) := h.keep
theorem setMbx (k : Nat) (m : MbxSt) : a.WindsDown (s.setMbx k m) := h.keep
theorem setInst (i : Nat) (x : InstSt) : a.WindsDown (s.setInst i x) := h.keep
theorem setQueue (q : Nat) (x : QueueSt) : a.WindsDown (s.setQueue q x) := h.keep
theorem setSpace (k : Nat) (x : Option Space) : a.WindsDown (s.setSpace k x) := h.keep
theorem setSem (n v : Nat) : a.WindsDown (s.setSem n v) := h.keep
theorem setEnclave (e : Nat) (x : Option EncSt) : a.WindsDown (s.setEnclave e x) := h.keep
theorem setPipe (n : Nat) (x : DspPipe) : a.WindsDown (s.setPipe n x) := h.keep
theorem setNetQueue (k tc : Nat) (l : List EthFrame) : a.WindsDown (s.setNetQueue k tc l) := h.keep
theorem setRing (r : Ring) (x : RingSt) : a.WindsDown (s.setRing r x) := h.keep
theorem setCan (n : Nat) (c : CanSt) : a.WindsDown (s.setCan n c) := h.keep
theorem setStream (n : Nat) (x : SnsStream) : a.WindsDown (s.setStream n x) := h.keep
theorem setOrgRing (p : Nat) (x : OrgRing) : a.WindsDown (s.setOrgRing p x) := h.keep
theorem setOrgCore (c : Nat) (x : OrgCore) : a.WindsDown (s.setOrgCore c x) := h.keep
theorem vacate (n k : Nat) : a.WindsDown (s.vacate n k) := h.keep
theorem queueStop (q : Nat) : a.WindsDown (s.queueStop q) := h.keep
theorem dropProg (k : Nat) : a.WindsDown (s.dropProg k) := h.keep
theorem memWrite (st : Stamp) (x : Nat) (d : List Byte) : a.WindsDown (s.memWrite st x d).1 := h.of_roster (s.memWrite_roster st x d)

theorem memRead_eq {t : State} {st : Stamp} {x n : Nat} {d : Option (List Byte)} (he : s.memRead st x n = (t, d)) : a.WindsDown t :=
  h.of_roster (memRead_eq_roster he)

theorem memWrite_eq {t : State} {st : Stamp} {x : Nat} {d : List Byte} {ok : Bool} (he : s.memWrite st x d = (t, ok)) :
    a.WindsDown t :=
  h.of_roster (memWrite_eq_roster he)

end

theorem ite {a t u : State} {p : Prop} [Decidable p] (ht : a.WindsDown t) (hu : a.WindsDown u) :
    a.WindsDown (if p then t else u) := by
  split
  · exact ht
  · exact hu

theorem foldl {β : Type} {a : State} {f : State → β → State} (hf : ∀ s x, a.WindsDown s → a.WindsDown (f s x)) :
    ∀ (l : List β) {s : State}, a.WindsDown s → a.WindsDown (l.foldl f s)
  | [], _, h => h
  | x :: l, s, h => foldl hf l (hf s x h)

/-! ### Records -/

theorem requestStop {a s : State} (h : a.WindsDown s) (p : Nat) : a.WindsDown (s.requestStop p) := by
  unfold State.requestStop
  split
  next hp =>
    have hns : p ∉ s.tensor.stopped := by
      simp only [Bool.and_eq_true, Bool.not_eq_true', List.contains_eq_mem, decide_eq_false_iff_not] at hp
      exact hp.2
    exact {
      plan := h.plan, stopped := h.stopped, flights := h.flights, ctxs := h.ctxs, canon := h.canon
      stopReq := fun q hq => (List.mem_append.1 hq).elim (h.stopReq q) (fun hq => .inr (h.stopped ▸ List.mem_singleton.1 hq ▸ hns)) }
  next => exact h

section
variable {a s : State} (h : a.WindsDown s)
include h

/-- A record may ask for the stop of a Plot that is not stopped (R19). -/
theorem raise (r : FaultRec) : a.WindsDown (s.raise r) := by
  have hlog : a.WindsDown { s with log := { s.log with raised := s.log.raised ++ [r] } } := h.keep
  unfold State.raise
  dsimp only
  split
  · exact hlog.keep (State.enterSafe_plan ..) (by rw [State.enterSafe_tensor]) (by rw [State.enterSafe_tensor])
      (by rw [State.enterSafe_tensor]) (by rw [State.enterSafe_tensor])
  · exact .ite (hlog.requestStop _) hlog

theorem setErr (b : Block) (i e : Nat) : a.WindsDown (s.setErr b i e) := h.of_roster (s.setErr_roster b i e)

theorem writerRefused (st : Stamp) (b : Block) (x : Nat) (w : WRefusal) : a.WindsDown (s.writerRefused st b x w) := by
  unfold State.writerRefused
  dsimp only
  split
  · exact (h.setErr ..).raise _
  · exact h.raise _

end
end State.WindsDown

/-! ### Contexts, commands in flight and the times noted of them -/

/-- Values of a canonical map may change in place while none becomes the default. -/
theorem swf_map {β : Type} [DecidableEq β] (d : Nat → β) {f : Nat × β → β} (hf : ∀ e, e.2 ≠ d e.1 → f e ≠ d e.1) :
    ∀ {m : List (Nat × β)}, swf d m = true → swf d (m.map (fun e => (e.1, f e))) = true
  | [], _ => rfl
  | (k, v) :: r, h => by
    obtain ⟨hv, hr, hw⟩ := (swf_cons d k v r).1 h
    refine (swf_cons d k _ _).2 ⟨hf (k, v) hv, fun e he => ?_, swf_map d hf hw⟩
    obtain ⟨e', he', rfl⟩ := List.mem_map.1 he
    exact hr e' he'

/-- In a canonical map a dropped key stands no more. -/
theorem not_mem_sset_none {β : Type} [DecidableEq β] {m : List (Nat × Option β)} (h : swf (fun _ => none) m = true) (k : Nat) :
    ∀ e ∈ sset (fun _ => none) m k none, e.1 ≠ k := by
  have hgone : ∀ {m : List (Nat × Option β)}, swf (fun _ => none) m = true → ∀ e ∈ sdel m k, e.1 ≠ k := by
    intro m
    induction m with
    | nil => simp [sdel]
    | cons x r ih =>
      obtain ⟨k', v⟩ := x
      intro h
      obtain ⟨-, hr, hw⟩ := (swf_cons _ k' v r).1 h
      unfold sdel
      intro e he
      split at he
      · have := hr e he; omega
      · split at he
        · rcases List.mem_cons.1 he with rfl | he
          · exact Nat.ne_of_gt ‹_›
          · have := hr e he; omega
        · rcases List.mem_cons.1 he with rfl | he
          · exact fun hk => absurd hk.symm ‹_›
          · exact ih hw e he
  simpa [sset] using hgone h

namespace State.WindsDown

section
variable {a s : State} (h : a.WindsDown s)
include h

theorem updCtx (c : Nat) {f : CtxSt → CtxSt} (hf : ∀ x, (f x).plot = x.plot) : a.WindsDown (s.updCtx c f) := by
  unfold State.updCtx
  split
  next x hx =>
    have hmem : (c, some x) ∈ s.tensor.ctxs := by
      have hl := sget_listed (fun _ => none) c s.tensor.ctxs
      rw [show sget (fun _ => none) s.tensor.ctxs c = some x from hx] at hl
      exact hl.resolve_left nofun
    refine h.trans { plan := rfl, stopped := rfl, stopReq := fun _ hp => .inl hp, flights := (WindsDown.refl s).flights,
                     ctxs := fun e he => ?_, canon := fun hs => swf_sset _ c (some (f x)) hs }
    rcases mem_sset (show e ∈ sset (fun _ => none) s.tensor.ctxs c (some (f x)) from he) with rfl | he
    · exact ⟨_, hmem, rfl, congrArg some (hf x).symm⟩
    · exact ⟨e, he, rfl, rfl⟩
  next => exact h

theorem countCommand (ctx run : Nat) : a.WindsDown (s.countCommand ctx run) := h.updCtx ctx (fun _ => rfl)

theorem updFlight (q seq : Nat) {f : Flight → Flight} (hq : ∀ x, (f x).queue = x.queue) (hs : ∀ x, (f x).cmd = x.cmd) :
    a.WindsDown (s.updFlight q seq f) := by
  refine h.trans { plan := rfl, stopped := rfl, stopReq := fun _ hp => .inl hp, ctxs := (WindsDown.refl s).ctxs, canon := id,
                   flights := fun x hx => ?_ }
  obtain ⟨g, hg, rfl⟩ := List.mem_map.1 hx
  refine ⟨g, hg, ?_⟩
  split
  · exact ⟨(hq g).symm, by rw [hs g]⟩
  · exact ⟨rfl, rfl⟩

theorem dropFlight (q seq : Nat) : a.WindsDown (s.dropFlight q seq) :=
  h.trans { plan := rfl, stopped := rfl, stopReq := fun _ hp => .inl hp, ctxs := (WindsDown.refl s).ctxs, canon := id,
            flights := fun x hx => ⟨x, (List.mem_filter.1 hx).1, rfl, rfl⟩ }

theorem touch : a.WindsDown s.touch := by
  obtain ⟨qs, f, hf, ht⟩ := s.touch_eq
  rw [ht]
  refine h.trans { plan := rfl, stopped := rfl, stopReq := fun _ hp => .inl hp, flights := (WindsDown.refl s).flights,
                   ctxs := fun e he => ?_,
                   canon := swf_map (fun _ => none) (f := fun e : Nat × Option CtxSt => e.2.map (f e.1)) (by simp) }
  obtain ⟨d, hd, rfl⟩ := List.mem_map.1 he
  exact ⟨d, hd, rfl, by cases d.2 <;> simp [hf]⟩

end
end State.WindsDown

end Sys2Proof.Machine
end

section
/-! SUPPORT. The operations of a stop, each within `State.WindsDown`: semaphores, completions, spaces, commands, networks, passes. -/

namespace Sys2Proof.Machine.State.WindsDown
open Sys2Proof

section
variable {a s : State} (h : a.WindsDown s)
include h

/-! ### Semaphores -/

theorem checkWatch (w : Nat) : a.WindsDown (s.checkWatch w) := by
  unfold State.checkWatch
  dsimp only
  split
  · split
    · exact h.keep
    · exact h.keep
  · exact h

theorem checkWatches (n : Nat) : a.WindsDown (s.checkWatches n) :=
  (foldl (fun _ w h => h.checkWatch w) _ h).touch

theorem semSignal (st : Stamp) (n v : Nat) : a.WindsDown (s.semSignal st n v) := by
  unfold State.semSignal
  dsimp only
  split
  · exact (((h.count ..).setSem ..).raise _).checkWatches n
  · exact ((h.count ..).setSem ..).checkWatches n

theorem semSignalBy (st : Stamp) (n v : Nat) : a.WindsDown (s.semSignalBy st n v) := by
  unfold State.semSignalBy
  split
  · exact h.semSignal ..
  · exact h.writerRefused ..

/-! ### Completion records -/

theorem writeRecord (q : Nat) (c : Cpl) : a.WindsDown (s.writeRecord q c) := by
  unfold State.writeRecord
  dsimp only
  split
  next t ht => exact (h.memWrite_eq ht).queueStop q
  next t ht =>
    have htail := (h.memWrite_eq ht).wr .hifQCplTail q ((s.rd .hifQCplTail q + 1) % 2 ^ 32)
    split
    · exact htail
    · split
      next u hu => exact htail.memWrite_eq hu
      next u hu => exact (htail.memWrite_eq hu).queueStop q

theorem queueIrq (q : Nat) : a.WindsDown (s.queueIrq q) := by
  unfold State.queueIrq
  (repeat' split)
  · exact h
  · exact h.send _
  · exact h.send _
  · exact h.send _

theorem cplSignal (q : Nat) (c : Cpl) : a.WindsDown (s.cplSignal q c) := by
  unfold State.cplSignal
  split
  · exact h.semSignalBy ..
  · exact h

theorem post (q : Nat) (c : Cpl) : a.WindsDown (s.post q c) := by
  have hw := (h.writeRecord q c).cplSignal q c
  unfold State.post
  dsimp only
  split
  · exact hw.queueIrq q
  · exact hw

theorem postOrWait (q : Nat) (c : Cpl) : a.WindsDown (s.postOrWait q c) := by
  unfold State.postOrWait
  split
  · exact h.post q c
  · exact h.setQueue ..

theorem remember (q seq status : Nat) : a.WindsDown (s.remember q seq status) :=
  foldl (fun _ d h => h.postOrWait q (d.dup _ status)) _ (h.setQueue ..)

theorem completeUnstarted (q : Nat) (c : Cmd) (late : Bool) (status : Nat) : a.WindsDown (s.completeUnstarted q c late status) := by
  unfold State.completeUnstarted
  dsimp only
  split
  · exact ((h.countCommand ..).postOrWait ..).remember ..
  · exact (h.postOrWait ..).remember ..

/-! ### Spaces of the Trellis -/

theorem putSeq (st : Stamp) (x : Space) (n : Nat) : a.WindsDown (s.putSeq st x n) := h.memWrite ..

theorem putChanged (st : Stamp) (old new : Space) : a.WindsDown (s.putChanged st old new) := by
  refine foldl (fun t n h => ?_) _ h
  split
  · exact h
  · exact h.putSeq ..

theorem ringUsed (st : Stamp) (x : Space) : a.WindsDown (s.ringUsed st x).1 := by
  unfold State.ringUsed
  split
  next t d ht => exact h.memRead_eq ht
  next t ht => exact h.memRead_eq ht

theorem release (st : Stamp) (key : Nat) (x : Space) (retire : Bool) (blk : Nat) :
    a.WindsDown (s.release st key x retire blk).1 := by
  have hu := h.ringUsed st x
  unfold State.release
  dsimp only
  split
  · dsimp only
    exact hu.raise _
  · exact (hu.memWrite ..).memWrite ..

end

theorem releaseAll {a : State} (st : Stamp) (key : Nat) (retire : Bool) : ∀ (l : List Nat) {s : State} (x : Space), a.WindsDown s →
    a.WindsDown (s.releaseAll st key x retire l).1
  | [], _, _, h => h
  | b :: r, _, _, h => releaseAll st key retire r _ (h.release st key _ retire b)

section
variable {a s : State} (h : a.WindsDown s)
include h

theorem retireStep (key q status : Nat) : a.WindsDown (s.retireStep key q status) := by
  unfold State.retireStep
  split
  · exact h
  · exact (releaseAll _ _ _ _ _ (h.putChanged ..)).setSpace ..

theorem retireAll (q seq status : Nat) : a.WindsDown (s.retireAll q seq status) := by
  refine foldl (fun t k h => ?_) _ h
  split
  · split
    · exact h.retireStep ..
    · exact h
  · exact h

/-! ### Commands in flight -/

theorem orphan (n : Nat) (p : Nat → Bool) : a.WindsDown (s.orphan n p) := (h.setBed ..).keep

theorem haltBeds (q seq : Nat) : a.WindsDown (s.haltBeds q seq) :=
  (foldl (fun _ _ h => h.orphan ..) _ h).keep

theorem haltCopy (n q seq : Nat) : a.WindsDown (s.haltCopy n q seq) := by
  unfold State.haltCopy
  split
  · exact (h.orphan ..).setBed ..
  · exact h

theorem cancelOps (q seq : Nat) : a.WindsDown (s.cancelOps q seq) := by
  unfold State.cancelOps
  split
  · exact h
  next f hf =>
    have hcount := foldl (fun _ (o : Oper) h => h.count .pavCompleted o.pav 1) (f.ops.filter (fun o => o.status.isNone)) h
    dsimp only
    refine haltBeds (updFlight ?_ q seq ?_ ?_) q seq
    · split
      · exact hcount.haltCopy ..
      · exact hcount
    · exact fun _ => rfl
    · exact fun _ => rfl

theorem endCommand (q seq status pav : Nat) : a.WindsDown (s.endCommand q seq status pav) := by
  refine (h.updFlight q seq (fun f => ?_) (fun f => ?_)).cancelOps q seq <;> unfold Flight.report <;> (repeat' split) <;> rfl

theorem readEntry (q : Nat) : a.WindsDown (s.readEntry q).1 := by
  unfold State.readEntry
  dsimp only
  split
  next t ht => exact (h.memRead_eq ht).queueStop q
  next t r ht => exact (h.memRead_eq ht).wr ..

theorem cancelRead (q : Nat) (c : Cmd) : a.WindsDown (s.cancelRead q c).1 := by
  unfold State.cancelRead
  split
  · exact h.postOrWait ..
  · split
    · exact h.setQueue ..
    · exact h.completeUnstarted ..

end

theorem flushUnread {a : State} (q : Nat) : ∀ (fuel n : Nat) {s : State}, a.WindsDown s → a.WindsDown (s.flushUnread q n fuel).1
  | 0, _, _, h => h
  | fuel + 1, n, s, h => by
    have hr := h.readEntry q
    unfold State.flushUnread
    split
    · exact h
    · split
      next t ht => rw [ht] at hr; exact hr
      next t c ht => rw [ht] at hr; exact flushUnread q fuel _ (hr.cancelRead q c)

section
variable {a s : State} (h : a.WindsDown s)
include h

theorem flushQueue (q : Nat) : a.WindsDown (s.flushQueue q).1 := by
  unfold State.flushQueue
  split
  · exact flushUnread q _ _ ((h.setQueue ..).completeUnstarted ..)
  · exact flushUnread q _ _ h

/-! ### Networks, sensor streams and passes -/

theorem ringStop (r : Ring) : a.WindsDown (s.ringStop r) := h.wr ..

theorem ringAdvance (r : Ring) : a.WindsDown (s.ringAdvance r) := by
  unfold State.ringAdvance
  dsimp only
  split
  · exact (h.wr ..).send _
  · exact h.wr ..

end

theorem ringWrites {a : State} (r : Ring) : ∀ (l : List (Nat × List Byte)) {s : State}, a.WindsDown s → a.WindsDown (s.ringWrites r l)
  | [], _, h => h
  | (x, d) :: l, _, h => by
    unfold State.ringWrites
    split
    next t ht => exact ringWrites r l (h.memWrite_eq ht)
    next t ht => exact (h.memWrite_eq ht).ringStop r

theorem txPublish {a : State} (r : Ring) : ∀ (fuel : Nat) {s : State}, a.WindsDown s → a.WindsDown (s.txPublish r fuel)
  | 0, _, h => h
  | fuel + 1, _, h => by
    unfold State.txPublish
    dsimp only
    split
    · exact h
    · split
      · exact txPublish r fuel ((ringWrites r _ (h.setRing ..)).ringAdvance r)
      · exact h

theorem cancelTx {a : State} (r : Ring) : ∀ (fuel : Nat) {s : State}, a.WindsDown s → a.WindsDown (s.cancelTx r fuel)
  | 0, _, h => h
  | fuel + 1, _, h => by
    unfold State.cancelTx
    dsimp only
    split
    · exact cancelTx r fuel (h.setRing ..)
    · exact h

section
variable {a s : State} (h : a.WindsDown s)
include h

theorem cancelRing (r : Ring) : a.WindsDown (s.cancelRing r) := txPublish r _ (cancelTx r _ (h.setRing ..))

theorem frameDone (f : EthFrame) (k : Nat) (at_ : Option Nat) (late : Bool) : a.WindsDown (s.frameDone f k at_ late) := by
  unfold State.frameDone
  split
  · exact h
  · exact txPublish _ _ (h.setRing ..)

theorem purge (k tc r : Nat) (p : EthFrame → Bool) : a.WindsDown (s.purge k tc r p) :=
  foldl (fun _ f h => (h.bump ..).frameDone f k none false) _ (h.setNetQueue ..)

theorem forgetDescs (n : Nat) : a.WindsDown (s.forgetDescs n) := h.keep

theorem netStopPlot (p : Nat) : a.WindsDown (s.netStopPlot p) := by
  refine foldl (fun t n h => ?_) _ h
  exact ((foldl (fun _ tc h => h.purge ..) _ ((h.cancelRing (.gwy n 0)).forgetDescs n)).wr ..).wr ..

theorem canOff (n : Nat) : a.WindsDown (s.canOff n) := ((h.setCan ..).cancelRing _).cancelRing _

theorem canSettleAll : a.WindsDown s.canSettleAll := by
  refine foldl (fun t n h => ?_) _ h
  unfold State.canSettle
  split
  · exact h.canOff n
  · exact h

theorem abandon (n : Nat) (p : SnsFrame → Bool) : a.WindsDown (s.abandon n p) := (h.setStream ..).bump ..

theorem unstart (n : Nat) : a.WindsDown (s.unstart n) := by
  unfold State.unstart
  dsimp only
  split
  · exact h
  · exact h.keep

theorem snsStopPlot (p : Nat) : a.WindsDown (s.snsStopPlot p) :=
  foldl (fun _ r h => ((h.unstart r.stream).wr ..).abandon ..) _ h

theorem commitPlane (n j : Nat) : a.WindsDown (s.commitPlane n j) := by
  unfold State.commitPlane
  split
  · exact h
  · dsimp only
    split
    · exact h.raise _
    · exact h.setPipe ..

theorem orgRecord (p : Nat) (c : Cpl) : a.WindsDown (s.orgRecord p c) := (h.memWrite ..).setOrgRing ..

theorem orgDup (p : Nat) (d : OrgPass) (status : Nat) : a.WindsDown (s.orgDup p d status) := by
  unfold State.orgDup
  dsimp only
  split
  · exact (h.orgRecord ..).send _
  · exact h.orgRecord ..

theorem writeBack (p c : Nat) : a.WindsDown (s.writeBack p c) :=
  (foldl (fun _ e h => h.memWrite _ e.1 e.2) _ h).setOrgCore ..

theorem frameCommit (f : OrgPass) : a.WindsDown (s.frameCommit f) := (h.wr ..).commitPlane ..

end

theorem countCores {a : State} (ns : Nat) : ∀ (l : List Nat) {s : State}, a.WindsDown s → a.WindsDown (s.countCores ns l)
  | [], _, h => h
  | c :: r, s, h => countCores ns r ((h.of_roster s.fresh_roster).count .orgCBusy c _)

section
variable {a s : State} (h : a.WindsDown s)
include h

theorem completePass (p : Nat) (f : OrgPass) (status : Nat) : a.WindsDown (s.completePass p f status) := by
  unfold State.completePass
  extract_lets x mine back popped busy committed rec signalled irq
  have hpopped : a.WindsDown popped := (foldl (fun _ c h => h.writeBack p c) f.cores h).setOrgRing ..
  have hbusy : a.WindsDown busy := by
    simp only [busy]
    split
    · exact countCores _ _ hpopped
    · exact hpopped
  have hrec : a.WindsDown rec := orgRecord (.ite (hbusy.frameCommit f) hbusy) ..
  have hsignalled : a.WindsDown signalled := .ite (hrec.semSignalBy ..) hrec
  exact foldl (fun _ d h => h.orgDup p d status) _ (.ite (hsignalled.send _) hsignalled)

theorem recordFetch (p : Nat) : a.WindsDown (s.recordFetch p) := by
  unfold State.recordFetch
  dsimp only
  split
  · exact h
  · generalize hm : s.memRead .. = m
    obtain ⟨t, d⟩ := m
    have hhead := (h.memRead_eq hm).wr .orgQHead p ((s.rd .orgQHead p + 1) % 2 ^ 32)
    cases d with
    | none | some r =>
      dsimp only
      split
      · exact hhead.orgDup ..
      · exact .ite (hhead.setOrgRing ..) (hhead.setOrgRing ..)

theorem orgStopPlot (p : Nat) : a.WindsDown (s.orgStopPlot p) :=
  foldl (fun _ f h => h.completePass p f stCANCELLED) _ ((foldl (fun _ _ h => h.recordFetch p) _ h).wr ..)

end

end Sys2Proof.Machine.State.WindsDown
end

section
/-! SUPPORT. The stop of a Plot, its contexts and commands in flight gone, and O39. -/

namespace Sys2Proof.Machine
open Sys2Proof

namespace State.WindsDown

/-! ### Contexts -/

theorem zeroPages {a : State} : ∀ (l : List Nat) {s : State}, a.WindsDown s → a.WindsDown (s.zeroPages l)
  | [], _, h => h
  | _ :: r, _, h => zeroPages r h.keep

theorem mapEntries {a : State} (f : Nat → Nat) : ∀ (l : List Nat) {s : State}, a.WindsDown s → a.WindsDown (s.mapEntries f l)
  | [], _, h => h
  | x :: r, s, h => by
    refine mapEntries f r ?_
    split
    · exact h.of_roster (s.setEntry_roster ..)
    · exact h

section
variable {a s : State} (h : a.WindsDown s)
include h

theorem zeroSealed (plot ctx : Nat) (pages : List Nat) : a.WindsDown (s.zeroSealed plot ctx pages) := by
  refine foldl (fun t x h => ?_) _ (zeroPages pages h)
  exact h.of_roster ((State.countAccess_roster ..).trans (State.countIssued_roster ..))

theorem destroyEnclave (e : Nat) : a.WindsDown (s.destroyEnclave e) := by
  unfold State.destroyEnclave
  split
  · exact h
  · exact (mapEntries _ _ (h.zeroSealed ..)).setEnclave ..

theorem unreside (c n : Nat) : a.WindsDown (s.unreside c n) := by
  unfold State.unreside
  dsimp only
  split
  · exact (h.vacate ..).keep
  · exact h.keep

end

end State.WindsDown

/-- The state of a context's destruction in which its entry is dropped, and the entry's drop (R221). -/
theorem State.destroyCtx_eq (s : State) (c : Nat) : ∃ u, s.WindsDown u ∧
    s.destroyCtx c = { u with tensor := { u.tensor with ctxs := sset (fun _ => none) u.tensor.ctxs c none } } := by
  unfold State.destroyCtx State.dropCtx
  extract_lets progs encl spaces
  have hprogs : s.WindsDown progs := .foldl (fun _ k h => h.dropProg k) _ (.refl s)
  have hencl : s.WindsDown encl := by
    simp only [encl]
    split
    · exact hprogs.destroyEnclave _
    · exact hprogs
  have hspaces : s.WindsDown spaces := .foldl (fun _ k h => h.setSpace k none) _ hencl
  exact ⟨_, .foldl (fun _ n h => h.unreside c n) _ hspaces, rfl⟩

theorem mem_of_mem_sset_none {β : Type} [DecidableEq β] {m : List (Nat × Option β)} {k : Nat} {e : Nat × Option β}
    (h : e ∈ sset (fun _ => none) m k none) : e ∈ m :=
  mem_sdel (by simpa [sset] using h)

theorem State.WindsDown.destroyCtx {a s : State} (h : a.WindsDown s) (c : Nat) : a.WindsDown (s.destroyCtx c) := by
  obtain ⟨u, hu, hs⟩ := s.destroyCtx_eq c
  rw [hs]
  exact (h.trans hu).trans {
    plan := rfl, stopped := rfl, stopReq := fun _ hp => .inl hp, flights := (State.WindsDown.refl u).flights
    ctxs := fun e he => ⟨e, mem_of_mem_sset_none he, rfl, rfl⟩
    canon := fun hw => swf_sset _ c none hw }

/-- A destroyed context stands no more. -/
theorem State.destroyCtx_gone {s : State} (hw : swf (fun _ => none) s.tensor.ctxs = true) (c : Nat) :
    ∀ e ∈ (s.destroyCtx c).tensor.ctxs, e.1 ≠ c := by
  obtain ⟨u, hu, hs⟩ := s.destroyCtx_eq c
  rw [hs]
  exact not_mem_sset_none (hu.canon hw) c

/-- What every step makes true of its own item, and every later step keeps, holds of every item after a run over a list. -/
theorem State.foldl_gone {β : Type} {f : State → β → State} {I : State → Prop} {G : β → State → Prop}
    (hstep : ∀ (s : State) x, s.WindsDown (f s x)) (hkeep : ∀ {s t : State}, s.WindsDown t → I s → I t)
    (hgone : ∀ {s t : State} x, s.WindsDown t → G x s → G x t) (hmake : ∀ s x, I s → G x (f s x)) :
    ∀ (l : List β) {s : State}, I s → ∀ x ∈ l, G x (l.foldl f s)
  | [], _, _, _, hx => nomatch hx
  | y :: l, s, hI, x, hx => by
    rcases List.mem_cons.1 hx with rfl | hx
    · exact hgone x (.foldl (fun _ z h => h.trans (hstep _ z)) l (.refl _)) (hmake s x hI)
    · exact State.foldl_gone hstep hkeep hgone hmake l (hkeep (hstep s y) hI) x hx

theorem State.WindsDown.dropContexts {a s : State} (h : a.WindsDown s) (p : Nat) : a.WindsDown (s.dropContexts p) :=
  .foldl (fun _ c h => h.destroyCtx c) _ h

/-- No context of a Plot is left when its contexts are dropped (R241). -/
theorem State.dropContexts_gone {s : State} (hw : swf (fun _ => none) s.tensor.ctxs = true) (p : Nat) :
    ∀ e ∈ (s.dropContexts p).tensor.ctxs, e.2.map (·.plot) ≠ some p := by
  intro e he hp
  obtain ⟨d, hd, hdk, hdp⟩ := (State.WindsDown.dropContexts (.refl s) p).ctxs e he
  have hlisted : e.1 ∈ (s.tensor.ctxs.filter (fun e => (e.2.map (·.plot)) == some p)).map (·.1) :=
    List.mem_map.2 ⟨d, List.mem_filter.2 ⟨hd, by simp [hdp, hp]⟩, hdk⟩
  have hgone := State.foldl_gone (f := fun s c => s.destroyCtx c) (I := fun s => swf (fun _ => none) s.tensor.ctxs = true)
    (G := fun c s => ∀ e ∈ s.tensor.ctxs, e.1 ≠ c) (fun s c => .destroyCtx (.refl s) c) (fun h hw => h.canon hw)
    (fun c h hG e he => by obtain ⟨d, hd, hdk, -⟩ := h.ctxs e he; exact hdk ▸ hG d hd)
    (fun s c hw => State.destroyCtx_gone hw c) _ hw e.1 hlisted
  exact hgone e he rfl

/-! ### Commands in flight -/

/-- The command is not in flight. -/
def State.landed (s : State) (q seq : Nat) : Prop := ∀ f ∈ s.tensor.flights, ¬ (f.queue = q ∧ f.cmd.seq = seq)

theorem State.landed_keep {s t : State} {q seq : Nat} (h : s.WindsDown t) (hs : s.landed q seq) : t.landed q seq := by
  intro f hf hk
  obtain ⟨g, hg, hq, hseq⟩ := h.flights f hf
  exact hs g hg ⟨hq.trans hk.1, hseq.trans hk.2⟩

theorem State.dropFlight_landed (s : State) (q seq : Nat) : (s.dropFlight q seq).landed q seq := by
  intro f hf hk
  have := (List.mem_filter.1 hf).2
  simp [hk.1, hk.2] at this

theorem State.landed_of_flight? {s : State} {q seq : Nat} (h : s.flight? q seq = none) : s.landed q seq := by
  intro f hf hk
  have := List.find?_eq_none.1 h f hf
  simp [hk.1, hk.2] at this

/-- A command that ends is dropped from the commands in flight, between its counting and its completion record. -/
theorem State.finish_drops (s : State) (f : Flight) : ∃ u, s.WindsDown u ∧ (u.dropFlight f.queue f.cmd.seq).WindsDown (s.finish f) := by
  unfold State.finish
  extract_lets q retired flags c dropped
  have hretired : s.WindsDown retired := .retireAll (.refl s) ..
  have hflags : s.WindsDown flags := .ite (hretired.memWrite ..) hretired
  exact ⟨_, hflags.countCommand .., (((State.WindsDown.refl dropped).post ..).remember ..).touch⟩

theorem State.WindsDown.finish {a s : State} (h : a.WindsDown s) (f : Flight) : a.WindsDown (s.finish f) := by
  obtain ⟨u, hu, hf⟩ := s.finish_drops f
  exact ((h.trans hu).dropFlight ..).trans hf

theorem State.finish_landed (s : State) (f : Flight) : (s.finish f).landed f.queue f.cmd.seq := by
  obtain ⟨u, -, hf⟩ := s.finish_drops f
  exact State.landed_keep hf (u.dropFlight_landed _ _)

theorem State.cancelFlight_spec (s : State) (f : Flight) :
    s.WindsDown (s.cancelFlight f) ∧ (s.cancelFlight f).landed f.queue f.cmd.seq := by
  unfold State.cancelFlight
  extract_lets q ended
  have hended : s.WindsDown ended := ((State.WindsDown.refl s).endCommand ..).updFlight _ _ (fun _ => rfl) (fun _ => rfl)
  split
  next hn => exact ⟨hended, State.landed_of_flight? hn⟩
  next g hg =>
    split
    · exact ⟨hended.dropFlight .., ended.dropFlight_landed _ _⟩
    · have hkey := List.find?_some hg
      simp only [Bool.and_eq_true, beq_iff_eq] at hkey
      obtain ⟨hgq, hgs⟩ := hkey
      have hland := ended.finish_landed g
      rw [hgq, hgs] at hland
      exact ⟨hended.finish g, hland⟩

theorem State.WindsDown.cancelCommands {a s : State} (h : a.WindsDown s) (p : Nat) : a.WindsDown (s.cancelCommands p) :=
  .foldl (fun _ q h => h.flushQueue q) _ (.foldl (fun _ f h => h.trans (State.cancelFlight_spec _ f).1) _ h)

/-- No command of a Plot's queues is in flight when its commands are cancelled (R49). -/
theorem State.cancelCommands_gone (s : State) (p : Nat) :
    ∀ f ∈ (s.cancelCommands p).tensor.flights, s.queuePlot f.queue ≠ p := by
  intro f hf hp
  obtain ⟨g, hg, hgq, hgs⟩ := (State.WindsDown.cancelCommands (.refl s) p).flights f hf
  have hlisted : g ∈ s.tensor.flights.filter (fun f => s.queuePlot f.queue == p) :=
    List.mem_filter.2 ⟨hg, by simp [hgq, hp]⟩
  have hland := State.foldl_gone (f := fun s f => s.cancelFlight f) (I := fun _ => True)
    (G := fun f s => s.landed f.queue f.cmd.seq) (fun s f => (s.cancelFlight_spec f).1) (fun _ h => h)
    (fun _ h hs => State.landed_keep h hs) (fun s f _ => (s.cancelFlight_spec f).2) _ (s := s) trivial g hlisted
  have hflush : (s.cancelCommands p).landed g.queue g.cmd.seq :=
    State.landed_keep (.foldl (fun _ q h => h.flushQueue q) _ (.refl _)) hland
  exact hflush f hf ⟨hgq.symm, hgs.symm⟩

/-! ### The host's functions -/

namespace State.WindsDown
section
variable {a s : State} (h : a.WindsDown s)
include h

theorem mbxInterrupt (k : Nat) : a.WindsDown (s.mbxInterrupt k) := by
  unfold State.mbxInterrupt
  exact .ite (.ite h (h.send _)) (h.send _)

theorem finishMbx (k status : Nat) (body : List Byte) : a.WindsDown (s.finishMbx k status body) := by
  unfold State.finishMbx State.putReply
  dsimp only
  exact .ite ((h.setMbx ..).mbxInterrupt k) (h.setMbx ..)

theorem closeInst (i cancelled : Nat) : a.WindsDown (s.closeInst i cancelled) :=
  ((((State.WindsDown.foldl (fun _ c h => h.destroyCtx c) _ h).setInst ..).setMbx ..).raise _).touch

theorem endFreeze (i status : Nat) : a.WindsDown (s.endFreeze i status) := by
  unfold State.endFreeze
  split
  · exact (h.setInst ..).finishMbx ..
  · exact h

theorem settleInst (i : Nat) : a.WindsDown (s.settleInst i) := by
  unfold State.settleInst
  extract_lets closed
  have hclosed : a.WindsDown closed := by
    simp only [closed]
    split
    · exact .ite h (.ite (((h.endFreeze ..).closeInst ..).finishMbx ..) ((h.endFreeze ..).closeInst ..))
    · exact h
  split
  · exact .ite hclosed ((hclosed.setInst ..).endFreeze ..).touch
  · exact hclosed

theorem settleHost : a.WindsDown s.settleHost := foldl (fun _ i h => h.settleInst i) _ h

end
end State.WindsDown

/-! ### The stop -/

/-- The stop of a Plot: what is done before the Plot counts as stopped, and what settles after. -/
theorem State.stopPlot_spec {s : State} (hw : swf (fun _ => none) s.tensor.ctxs = true) (p : Nat) :
    (s.stopPlot p).tensor.stopped.contains p = true ∧ (s.stopPlot p).tensor.stopReq.contains p = false ∧
      (s.stopPlot p).plan = s.plan ∧ (∀ f ∈ (s.stopPlot p).tensor.flights, s.queuePlot f.queue ≠ p) ∧
      ∀ e ∈ (s.stopPlot p).tensor.ctxs, e.2.map (·.plot) ≠ some p := by
  unfold State.stopPlot
  extract_lets closed quiet passed tensor marked
  have hcancel : s.WindsDown (s.cancelCommands p) := .cancelCommands (.refl s) p
  have hdrop : ((s.cancelCommands p).dropContexts p).WindsDown passed := by
    have hquiet : ((s.cancelCommands p).dropContexts p).WindsDown quiet :=
      (((State.WindsDown.refl _).setMbx ..).snsStopPlot p).netStopPlot p
    exact .ite hquiet (hquiet.orgStopPlot p)
  have hsettle : marked.WindsDown marked.canSettleAll.settleHost.touch := ((State.WindsDown.refl marked).canSettleAll).settleHost.touch
  refine ⟨?_, ?_, ?_, fun f hf => ?_, fun e he => ?_⟩
  · rw [hsettle.stopped]
    simp [marked]
  · rw [List.contains_eq_mem, decide_eq_false_iff_not]
    intro hp
    rcases hsettle.stopReq p hp with hp | hp
    · simp [marked] at hp
    · simp [marked] at hp
  · exact hsettle.plan.trans ((hcancel.dropContexts p).trans hdrop).plan
  · obtain ⟨g, hg, hq, -⟩ := hsettle.flights f hf
    obtain ⟨k, hk, hkq, -⟩ := ((State.WindsDown.dropContexts (.refl _) p).trans hdrop).flights g hg
    rw [← hq, ← hkq]
    exact s.cancelCommands_gone p k hk
  · obtain ⟨d, hd, -, hdp⟩ := hsettle.ctxs e he
    obtain ⟨c, hc, -, hcp⟩ := hdrop.ctxs d hd
    rw [← hdp, ← hcp]
    exact State.dropContexts_gone (hcancel.canon hw) p c hc

theorem State.queuePlot_of_plan {s t : State} (h : t.plan = s.plan) (q : Nat) : t.queuePlot q = s.queuePlot q := by
  simp only [State.queuePlot, State.ownerOf, h]

/-- A stop that was asked for stops the Plot, with no command in flight and no context of it left. -/
theorem exec_plotStop_asked {s : State} {p : Fin 16} (hw : swf (fun _ => none) s.tensor.ctxs = true)
    (hreq : s.tensor.stopReq.contains p.val = true) :
    ∃ t : State, exec (.plotStop p) s = .next t ∧ t.tensor.stopped.contains p.val = true ∧
      t.tensor.stopReq.contains p.val = false ∧ t.plan = s.plan ∧ (∀ f ∈ t.tensor.flights, t.queuePlot f.queue ≠ p.val) ∧
      ∀ e ∈ t.tensor.ctxs, e.2.map (·.plot) ≠ some p.val := by
  obtain ⟨hstop, hdone, hplan, hflights, hctxs⟩ := State.stopPlot_spec hw p.val
  have hexec : exec (.plotStop p) s = .next (s.stopPlot p.val) := congrArg Host.Outcome.next (if_pos hreq)
  refine ⟨_, hexec, hstop, hdone, hplan, fun f hf => ?_, hctxs⟩
  rw [State.queuePlot_of_plan hplan]
  exact hflights f hf

/-- Settles O39: LOAD, UNLOAD and PLOT_RESTART give DONE with the effects of their services; a stop runs within `State.WindsDown`. -/
theorem loadingStoppingAndRestarting : Obligations.LoadingStoppingAndRestarting := by
  refine ⟨?load, ?unload, ?stop, ?restart⟩
  case load =>
    intro m s s1 s2 s3 s5 img bt map_ k b st len l beds s4 p ha hb hread hdig hencl hstr hv hv' hbinds hchk hmap hpin
    obtain ⟨hexec, hslot, hfree, hplan⟩ := exec_load_passes ha hb hread hdig hencl hstr hv hv' hbinds hchk hmap hpin
    exact ⟨s5.storeProg s4.1 p, hexec, hslot, hfree, s5.storeProg_slot .., State.touch_dram _, State.touch_pads _, State.touch_padLost _,
      (State.touch_plan _).trans hplan⟩
  case unload =>
    intro m s p b h ha hz he hc hplot hp hctx hbusy hwp hwg
    refine ⟨(s.dropProg (h % 4096)).touch, congrArg _ (State.serve_of_asks ha (State.svcUnload_done hz he hc hplot hp hctx hbusy)),
      ?_, ?_, State.touch_dram _, State.touch_pads _, State.touch_regs _⟩
    · rw [State.touch_progs]
      exact sget_sset_self (fun _ => none) (h % 4096) none hwp
    · rw [State.touch_gens]
      exact sget_sset_self (fun _ => 0) (h % 4096) _ hwg
  case stop =>
    exact fun s p hw => ⟨fun hreq => congrArg Host.Outcome.next (if_neg (by rw [hreq]; exact nofun)), exec_plotStop_asked hw⟩
  case restart =>
    intro m s r k p ha he hp hk hr hm hcrit hstop hdead
    obtain ⟨r', hr', hle⟩ := hcrit
    obtain ⟨hstopped, hzero, hkept, hplan, hdram⟩ := s.restartPlot_spec p
    exact ⟨s.restartPlot p, congrArg _ (State.serve_of_asks ha (State.svcPlotRestart_done he hp hk hr hm hr' hle hstop hdead)),
      hstopped, hzero, hkept, hplan, hdram⟩

end Sys2Proof.Machine
end

section
/-! SUPPORT. What lasts until a device reset (R46, R418): `State.Keeps`, and its rules for updates, branches, folds and pairs. -/

namespace Sys2Proof.Machine
open Sys2Proof

/-- `s` keeps what stands in `s₀`: safe state, and the accepted plan (R46, R418). -/
structure State.Keeps (s₀ s : State) : Prop where
  safe : s₀.safe.safe = true → s.safe.safe = true
  plan : ∀ p, s₀.plan = some p → s.plan = some p

namespace State.Keeps

theorem refl (s : State) : s.Keeps s := ⟨id, fun _ => id⟩

section
variable {s₀ s t : State}

section
variable {pending : List Instr} {dt free pins : Nat} {regs : SMap Word64} {resp : Resp} {out : List Out} {spl : SplSt}
  {dram pads flash : List Host.Cell} {padLost : List PadRange} {log : LogSt} {mem : MemSt} {tensor : TensorSt} {pwr : PwrSt}
  {kpr : KprSt} {gth : GthSt} {gls : GlsSt} {host : HostSt} {elx : ElxSt} {tim : TimSt} {net : NetSt} {sns : SnsSt}
  {org : OrgSt} {dsp : DspSt} {pinCtl sysDma : SMap Nat}

/-- An update of any other fields. The fields stand one by one, so that the rule fits every record update as written. -/
theorem update (h : s₀.Keeps s) :
    s₀.Keeps {
      pending, dt, free, regs, resp, out, plan := s.plan, spl, dram, pads, padLost, flash, log, safe := s.safe, mem, tensor,
      pwr, kpr, gth, gls, host, elx, tim, net, sns, org, dsp, pins, pinCtl, sysDma } := ⟨h.safe, h.plan⟩

end

/-- The state of a pair written out. -/
theorem pair {β : Type} {y : β} (h : s₀.Keeps s) : s₀.Keeps (s, y).1 := h

theorem ite {p : Prop} [Decidable p] (hs : s₀.Keeps s) (ht : s₀.Keeps t) :
    s₀.Keeps (if p then s else t) := by
  split
  · exact hs
  · exact ht

/-- An `if` that goes on from the state of its other branch. -/
theorem ifThen {p : Prop} [Decidable p] (hs : s₀.Keeps s) (ht : s₀.Keeps s → s₀.Keeps t) : s₀.Keeps (if p then t else s) :=
  .ite (ht hs) hs

theorem ifElse {p : Prop} [Decidable p] (hs : s₀.Keeps s) (ht : s₀.Keeps s → s₀.Keeps t) : s₀.Keeps (if p then s else t) :=
  .ite hs (ht hs)

theorem ite₁ {β : Type} {p : Prop} [Decidable p] {x y : State × β} (hx : s₀.Keeps x.1) (hy : s₀.Keeps y.1) :
    s₀.Keeps (if p then x else y).1 := by
  split
  · exact hx
  · exact hy

theorem ite₂ {β : Type} {p : Prop} [Decidable p] {x y : β × State} (hx : s₀.Keeps x.2) (hy : s₀.Keeps y.2) :
    s₀.Keeps (if p then x else y).2 := by
  split
  · exact hx
  · exact hy

theorem foldl {β : Type} {f : State → β → State} {l : List β} (hf : ∀ s x, s₀.Keeps s → s₀.Keeps (f s x)) (h : s₀.Keeps s) :
    s₀.Keeps (l.foldl f s) := by
  induction l generalizing s with
  | nil => exact h
  | cons x l ih => exact ih (hf s x h)

theorem foldl₁ {β γ : Type} {f : State × γ → β → State × γ} {l : List β} {y : State × γ}
    (hf : ∀ y x, s₀.Keeps y.1 → s₀.Keeps (f y x).1) (h : s₀.Keeps y.1) : s₀.Keeps (l.foldl f y).1 := by
  induction l generalizing y with
  | nil => exact h
  | cons x l ih => exact ih (hf y x h)

/-- The state of a pair that a match took apart. -/
theorem of_eq {β : Type} {x : State × β} {y : β} (he : x = (t, y)) (hx : s₀.Keeps x.1) : s₀.Keeps t := by
  rw [he] at hx
  exact hx

theorem of_eq₂ {β : Type} {x : β × State} {y : β} (he : x = (y, t)) (hx : s₀.Keeps x.2) : s₀.Keeps t := by
  rw [he] at hx
  exact hx

end

end State.Keeps
end Sys2Proof.Machine
end

section
/-! SUPPORT. `State.Keeps`, one rule per operation: registers, records, memory and the memory system. -/

namespace Sys2Proof.Machine.State.Keeps
open Sys2Proof

variable {s₀ s t : State}

/-! ### Records, registers, pads and flash -/

theorem fresh (h : s₀.Keeps s) : s₀.Keeps s.fresh.2 := .update h

theorem freshBytes {n : Nat} (h : s₀.Keeps s) : s₀.Keeps (s.freshBytes n).2 := .update h

theorem answer {status : Nat} {data : List Byte} (h : s₀.Keeps s) : s₀.Keeps (s.answer status data) := .update h

theorem send {o : Out} (h : s₀.Keeps s) : s₀.Keeps (s.send o) := .update h

theorem wr {id : RegId} {ix v : Nat} (h : s₀.Keeps s) : s₀.Keeps (s.wr id ix v) := .update h

theorem bump {id : RegId} {ix n : Nat} (h : s₀.Keeps s) : s₀.Keeps (s.bump id ix n) := .wr h

theorem count {id : RegId} {ix n : Nat} (h : s₀.Keeps s) : s₀.Keeps (s.count id ix n) := .wr h

theorem setBitOf {id : RegId} {ix b : Nat} (h : s₀.Keeps s) : s₀.Keeps (s.setBitOf id ix b) := .wr h

theorem setErr {b : Block} {inst bit : Nat} (h : s₀.Keeps s) : s₀.Keeps (s.setErr b inst bit) := by
  unfold State.setErr
  split
  · exact .setBitOf h
  · exact h

theorem enterSafe {x c : Nat} (h : s₀.Keeps s) : s₀.Keeps (s.enterSafe x c) := by
  obtain ⟨-, hp⟩ := h
  exact ⟨fun _ => s.enterSafe_safe_safe x c, fun p h₀ => (s.enterSafe_plan x c).trans (hp p h₀)⟩

theorem requestStop {plot : Nat} (h : s₀.Keeps s) : s₀.Keeps (s.requestStop plot) := .ite (.update h) h

theorem raise {r : FaultRec} (h : s₀.Keeps s) : s₀.Keeps (s.raise r) :=
  .ite (.enterSafe (.update h)) (.ifThen (.update h) fun h => .requestStop h)

theorem raiseOpen {r : FaultRec} (h : s₀.Keeps s) : s₀.Keeps (s.raiseOpen r) := .raise (.update h)

theorem setBed {n : Nat} {b : BedSt} (h : s₀.Keeps s) : s₀.Keeps (s.setBed n b) := .update h

theorem setEntry {c j v : Nat} (h : s₀.Keeps s) : s₀.Keeps (s.setEntry c j v) := .update h

theorem logRefusal {st : Stamp} {a reason : Nat} {write : Bool} (h : s₀.Keeps s) :
    s₀.Keeps (s.logRefusal st a reason write) :=
  .raise h

theorem setDramByte {a : Nat} {b : Byte} (h : s₀.Keeps s) : s₀.Keeps (s.setDramByte a b) :=
  .ite (.setEntry h) (.update h)

theorem dramPut : ∀ {l : List Byte} {a : Nat} {s : State}, s₀.Keeps s → s₀.Keeps (s.dramPut a l)
  | [], _, _, h => h
  | _ :: r, _, _, h => dramPut (l := r) (.setDramByte h)

theorem reservedPut {a : Nat} {data : List Byte} (h : s₀.Keeps s) : s₀.Keeps (s.reservedPut a data) :=
  .foldl (fun _ _ h => .ite h (.dramPut h)) h

theorem padWrite {a : Nat} {data : List Byte} (h : s₀.Keeps s) : s₀.Keeps (s.padWrite a data) := .update h

theorem padPut {bed off : Nat} {data : List Byte} (h : s₀.Keeps s) : s₀.Keeps (s.padPut bed off data) := .padWrite h

theorem padReset {r : PadRange} (h : s₀.Keeps s) : s₀.Keeps (s.padReset r) := .update h

theorem padClear {bed off n : Nat} (h : s₀.Keeps s) : s₀.Keeps (s.padClear bed off n) := .padReset h

theorem padLose {bed off n : Nat} (h : s₀.Keeps s) : s₀.Keeps (s.padLose bed off n) := .update (.padReset h)

theorem flashPut {a : Nat} {data : List Byte} (h : s₀.Keeps s) : s₀.Keeps (s.flashPut a data) := .update h

theorem flashErase {a n : Nat} (h : s₀.Keeps s) : s₀.Keeps (s.flashErase a n) := .update h

theorem sizeRefused {st : Stamp} {b : Block} {inst addr : Nat} (h : s₀.Keeps s) :
    s₀.Keeps (s.sizeRefused st b inst addr) :=
  .raise (.setErr h)

theorem hwSet {d : RegDef} {ix bits : Nat} (h : s₀.Keeps s) : s₀.Keeps (s.hwSet d ix bits) := .ite h (.wr h)

theorem reservedRefused {st : Stamp} {b : Block} {inst addr : Nat} (h : s₀.Keeps s) :
    s₀.Keeps (s.reservedRefused st b inst addr) :=
  .raise (.setErr h)

theorem lockRefused {st : Stamp} {b : Block} {addr : Nat} (h : s₀.Keeps s) : s₀.Keeps (s.lockRefused st b addr) :=
  .raise h

theorem writerRefused {st : Stamp} {b : Block} {addr : Nat} {w : WRefusal} (h : s₀.Keeps s) :
    s₀.Keeps (s.writerRefused st b addr w) := by
  unfold State.writerRefused
  dsimp only
  refine .raise ?_
  split
  · exact .setErr h
  · exact h

theorem regWrite {st : Stamp} {id : RegId} {ix size v : Nat} {w : Option WRefusal} {enc : Bool} {store : State → State}
    (h : s₀.Keeps s) (hs : ∀ t, s₀.Keeps t → s₀.Keeps (store t)) :
    s₀.Keeps (s.regWrite st id ix size v w enc store) := by
  unfold State.regWrite
  split
  · exact h
  · refine .ite (.sizeRefused h) (.ite (.lockRefused h) ?_)
    split
    · exact .writerRefused h
    · exact .ite (.reservedRefused h) (hs s h)

theorem regStore {id : RegId} {ix v hw : Nat} (h : s₀.Keeps s) : s₀.Keeps (s.regStore id ix v hw) := by
  unfold State.regStore
  split
  · exact .wr h
  · exact h

/-! ### The memory system -/

theorem putRetireList {c : Nat} {l : List Nat} (h : s₀.Keeps s) : s₀.Keeps (s.putRetireList c l) := .flashPut h

theorem recordRetire {c j : Nat} (h : s₀.Keeps s) : s₀.Keeps (s.recordRetire c j) := by
  unfold State.recordRetire
  dsimp only
  refine .ite (.putRetireList (.ite h (.update (.raise h)))) (.ite h ?_)
  split
  · exact .putRetireList h
  · exact h

theorem eccOnDie {c j a plot ctx : Nat} (h : s₀.Keeps s) : s₀.Keeps (s.eccOnDie c j a plot ctx) :=
  .ifThen (.raise (.wr (.bump (.setEntry h)))) fun h => .recordRetire (.raise (.setEntry h))

theorem eccFatal {c j a plot ctx : Nat} {link : Bool} (h : s₀.Keeps s) : s₀.Keeps (s.eccFatal c j a plot ctx link) :=
  .recordRetire (.raise (.wr (.bump (.setEntry h))))

theorem linkRetry {c a plot ctx : Nat} (h : s₀.Keeps s) : s₀.Keeps (s.linkRetry c a plot ctx) :=
  .raise (.wr (.bump h))

theorem eccRead {c j a plot ctx : Nat} {e : EccEvent} (h : s₀.Keeps s) : s₀.Keeps (s.eccRead c j a plot ctx e).1 := by
  cases e with
  | clean => exact h
  | onDieCorrected => exact .eccOnDie h
  | onDieUncorrectable => exact .eccFatal h
  | linkCorrected =>
    dsimp only [State.eccRead]
    exact .raise (.wr (.bump h))
  | linkRetried n => exact .ite (.linkRetry (.linkRetry h)) (.ite (.linkRetry h) h)
  | linkFailed => exact .eccFatal (.linkRetry (.linkRetry h))

theorem eccWrite {c a plot ctx : Nat} {data : List Byte} {e : EccEvent} (h : s₀.Keeps s) :
    s₀.Keeps (s.eccWrite c a plot ctx data e).1 := by
  cases e with
  | linkCorrected => exact .eccRead h
  | linkRetried n => exact .eccRead h
  | linkFailed =>
    dsimp only [State.eccWrite]
    exact .freshBytes (.linkRetry (.linkRetry h))
  | clean => exact h
  | onDieCorrected => exact h
  | onDieUncorrectable => exact h

theorem glsMemory {who : Who} {a n : Nat} {write : Bool} {data : List Byte} (h : s₀.Keeps s) :
    s₀.Keeps (s.glsMemory who a n write data) :=
  .ite (.answer h) (.ite (.answer h) (.ite (.answer h) (.ite (.answer (.update h)) (.answer h))))

theorem otherAccess {who : Who} {a n : Nat} {write : Bool} {data : List Byte} (h : s₀.Keeps s) :
    s₀.Keeps (s.otherAccess who a n write data) :=
  .ite (.answer h) (.ite (.glsMemory h) h)

theorem setPort {q : Nat} {p : PortSt} (h : s₀.Keeps s) : s₀.Keeps (s.setPort q p) := .update h

theorem setMcc {c : Nat} {m : MccSt} (h : s₀.Keeps s) : s₀.Keeps (s.setMcc c m) := .update h

theorem issue {st : Stamp} {a n : Nat} {write : Bool} {data : List Byte} {cached : Bool} (h : s₀.Keeps s) :
    s₀.Keeps (s.issue st a n write data cached) := by
  unfold State.issue
  dsimp only
  split
  · exact .answer (.logRefusal (.ite (.count h) h))
  · exact .setPort (.ite (.count h) h)

theorem takeTokens {c : Nat} {r : DramReq} {t : Tier} (h : s₀.Keeps s) : s₀.Keeps (s.takeTokens c r t) :=
  .ite (.count (.update h)) h

theorem enterSlot {r : DramReq} {t : Tier} (h : s₀.Keeps s) : s₀.Keeps (s.enterSlot r t) :=
  .takeTokens (.ifThen (.setMcc h) fun h => .count h)

theorem grantOne {q : Nat} (h : s₀.Keeps s) : s₀.Keeps (s.grantOne q) := by
  unfold State.grantOne
  dsimp only
  refine .ite h ?_
  split
  · exact h
  · exact .enterSlot (.setPort h)

theorem setCache {l : List CacheLine} (h : s₀.Keeps s) : s₀.Keeps (s.setCache l) := .update h

theorem cacheDrop {st : Stamp} {lines : List Nat} (h : s₀.Keeps s) : s₀.Keeps (s.cacheDrop st lines) := .setCache h

theorem hitLine {st : Stamp} {line : Nat} (h : s₀.Keeps s) : s₀.Keeps (s.hitLine st line).2 := by
  unfold State.hitLine
  dsimp only
  split
  · exact h
  · exact .ite₂ h (.fresh h)

theorem hitLines {st : Stamp} : ∀ {l : List Nat} {s : State}, s₀.Keeps s → s₀.Keeps (s.hitLines st l).2
  | [], _, h => h
  | _ :: r, _, h => hitLines (l := r) (.hitLine h)

theorem victimWay {ways : List Nat} {set : Nat} (h : s₀.Keeps s) : s₀.Keeps (s.victimWay ways set).2 := by
  unfold State.victimWay
  dsimp only
  split
  · exact h
  · exact .fresh h

theorem fillLine {st : Stamp} {line : Nat} {data : List Byte} (h : s₀.Keeps s) :
    s₀.Keeps (s.fillLine st line data) := by
  unfold State.fillLine
  dsimp only
  split
  · exact h
  · exact .setCache (.victimWay (.cacheDrop h))

theorem cacheDone {r : DramReq} {data : List Byte} (h : s₀.Keeps s) : s₀.Keeps (s.cacheDone r data) :=
  .ite h (.ite (.cacheDrop h) (.foldl (fun _ _ h => .fillLine h) h))

theorem complete {r : DramReq} {status : Nat} {data : List Byte} (h : s₀.Keeps s) :
    s₀.Keeps (s.complete r status data) :=
  .send (.answer h)

theorem noteLatency {c : Nat} {x : SlotReq} (h : s₀.Keeps s) : s₀.Keeps (s.noteLatency c x) :=
  .ite (.ifThen (.wr h) fun h => .raise h) h

theorem perform {c : Nat} {x : SlotReq} {ecc : EccEvent} (h : s₀.Keeps s) : s₀.Keeps (s.perform c x ecc) := by
  unfold State.perform
  dsimp only
  have hn : s₀.Keeps (s.noteLatency c x) := .noteLatency h
  split
  · exact .complete (.logRefusal hn)
  · refine .ite (.complete (.cacheDone (.dramPut (.eccWrite (.count hn))))) ?_
    exact .ite (.complete (.cacheDone (.eccRead (.count hn)))) (.complete (.eccRead (.count hn)))

theorem serveOne {c : Nat} {p : SlotReq → Bool} {ecc : EccEvent} (h : s₀.Keeps s) :
    s₀.Keeps (s.serveOne c p ecc).1 := by
  unfold State.serveOne
  dsimp only
  split
  · exact h
  · exact .ite₁ (.setMcc h) (.perform (.setMcc h))

theorem serveCycle {c : Nat} {ecc ecc2 : EccEvent} (h : s₀.Keeps s) : s₀.Keeps (s.serveCycle c ecc ecc2) := by
  unfold State.serveCycle
  dsimp only
  split
  · exact .perform (.setMcc h)
  · split
    next ht =>
      have ht := of_eq ht (.serveOne h)
      exact .ite (.serveOne ht) ht
    next ht => exact .of_eq ht (.serveOne h)

theorem memCycle {q : Nat} (h : s₀.Keeps s) : s₀.Keeps (s.memCycle q) :=
  .foldl (fun _ _ h => .serveCycle h) (.grantOne h)

theorem letPass {r : DramReq} : ∀ {n : Nat} {s : State}, s₀.Keeps s → s₀.Keeps (s.letPass r n)
  | 0, _, h => h
  | n + 1, _, h => .ite (letPass (n := n) (.memCycle h)) h

theorem passReq {r : DramReq} (h : s₀.Keeps s) : s₀.Keeps (s.passReq r) := by
  unfold State.passReq
  dsimp only
  split
  · exact .takeTokens (.setPort (.letPass h))
  · exact .setMcc (.setPort (.letPass h))
  · exact .setPort (.letPass h)

theorem countAccess {st : Stamp} {write : Bool} :
    ∀ {l : List (Nat × Nat)} {s : State}, s₀.Keeps s → s₀.Keeps (s.countAccess st write l)
  | [], _, h => h
  | _ :: r, s, h => by
    refine countAccess (l := r) ?_
    split
    · exact .ite (.count h) (.count h)
    · exact h

theorem countIssued {st : Stamp} {a n : Nat} (h : s₀.Keeps s) : s₀.Keeps (s.countIssued st a n) := .ite (.count h) h

theorem pass {st : Stamp} {a n : Nat} {write : Bool} (h : s₀.Keeps s) : s₀.Keeps (s.pass st a n write) :=
  .countAccess (.foldl (fun _ _ h => .passReq h) (.countIssued h))

theorem passRefused {st : Stamp} {a n b reason : Nat} {write : Bool} (h : s₀.Keeps s) :
    s₀.Keeps (s.passRefused st a n b reason write) :=
  .logRefusal (.countIssued h)

theorem memRead {st : Stamp} {a n : Nat} (h : s₀.Keeps s) : s₀.Keeps (s.memRead st a n).1 := by
  unfold State.memRead
  dsimp only
  refine .ite₁ h ?_
  split
  · exact .passRefused h
  · exact .pass h

theorem memWrite {st : Stamp} {a : Nat} {data : List Byte} (h : s₀.Keeps s) : s₀.Keeps (s.memWrite st a data).1 := by
  unfold State.memWrite
  refine .ite₁ h ?_
  split
  · exact .passRefused h
  · exact .dramPut (.pass h)

theorem mccWrite {who : Who} {id : RegId} {ix size v hw : Nat} (h : s₀.Keeps s) :
    s₀.Keeps (s.mccWrite who id ix size v hw) := by
  unfold State.mccWrite
  dsimp only
  exact .regWrite h fun _ h => .regStore h

theorem cacheRequest {st : Stamp} {a n : Nat} {write : Bool} {data : List Byte} (h : s₀.Keeps s) :
    s₀.Keeps (s.cacheRequest st a n write data) :=
  .ite (.issue (.cacheDrop h)) (.ite (.send (.answer (.hitLines h))) (.issue h))

theorem dramRequest {who : Who} {a n : Nat} {write : Bool} {data : List Byte} {cache : CacheUse} (h : s₀.Keeps s) :
    s₀.Keeps (s.dramRequest who a n write data cache) := by
  unfold State.dramRequest
  dsimp only
  split
  · exact .issue h
  · exact .ite (.cacheRequest h) (.issue h)
  · exact .answer (.ite (.cacheDrop h) h)

end Sys2Proof.Machine.State.Keeps
end

section
/-! SUPPORT. `State.Keeps`, one rule per operation: mailboxes, queue heads, semaphores and links. -/

namespace Sys2Proof.Machine.State.Keeps
open Sys2Proof

variable {s₀ s t : State}

/-! ### Mailboxes -/

theorem setMbx {k : Nat} {m : MbxSt} (h : s₀.Keeps s) : s₀.Keeps (s.setMbx k m) := .update h

theorem setInst {i : Nat} {x : InstSt} (h : s₀.Keeps s) : s₀.Keeps (s.setInst i x) := .update h

theorem mbxInterrupt {k : Nat} (h : s₀.Keeps s) : s₀.Keeps (s.mbxInterrupt k) := .ite (.ite h (.send h)) (.send h)

theorem putReply {k : Nat} {r : Reply} {dup keep : Bool} (h : s₀.Keeps s) : s₀.Keeps (s.putReply k r dup keep) :=
  .ifThen (.setMbx h) fun h => .mbxInterrupt h

theorem finishMbx {k status : Nat} {body : List Byte} (h : s₀.Keeps s) : s₀.Keeps (s.finishMbx k status body) :=
  .putReply h

theorem serve {m : Mbx} {op : Nat} {run : State → Nat → List Byte → State × Option (Nat × List Byte)} (h : s₀.Keeps s)
    (hr : ∀ t k b, s₀.Keeps t → s₀.Keeps (run t k b).1) : s₀.Keeps (s.serve m op run) := by
  unfold State.serve
  refine .ite h ?_
  split
  · exact .putReply h
  · split
    · exact .finishMbx h
    · split
      next ht => exact .finishMbx (.of_eq ht (hr _ _ _ h))
      next ht =>
        have ht := of_eq ht (hr _ _ _ h)
        exact .ite (.setMbx ht) ht

theorem mbxGo {k : Nat} {req : List Byte} (h : s₀.Keeps s) : s₀.Keeps (s.mbxGo k req) := by
  unfold State.mbxGo
  dsimp only
  refine .ite (.setMbx h) ?_
  split
  · exact .putReply (.setMbx h)
  · exact .finishMbx (.setMbx h)

/-! ### Queues and spaces -/

theorem setQueue {q : Nat} {x : QueueSt} (h : s₀.Keeps s) : s₀.Keeps (s.setQueue q x) := .update h

theorem setSpace {k : Nat} {x : Option Space} (h : s₀.Keeps s) : s₀.Keeps (s.setSpace k x) := .update h

theorem touchHead {q : Nat} (h : s₀.Keeps s) : s₀.Keeps (s.touchHead q) := by
  unfold State.touchHead
  dsimp only
  split
  · exact h
  · exact .setQueue h

theorem touch (h : s₀.Keeps s) : s₀.Keeps s.touch := .update (.foldl (fun _ _ h => .touchHead h) h)

/-! ### Semaphores -/

theorem setSem {n v : Nat} (h : s₀.Keeps s) : s₀.Keeps (s.setSem n v) := .update h

theorem checkWatch {w : Nat} (h : s₀.Keeps s) : s₀.Keeps (s.checkWatch w) :=
  .ite (.ifThen (.update (.setBitOf h)) fun h => .send h) h

theorem checkWatches {n : Nat} (h : s₀.Keeps s) : s₀.Keeps (s.checkWatches n) :=
  .touch (.foldl (fun _ _ h => .checkWatch h) h)

theorem semSignal {st : Stamp} {n v : Nat} (h : s₀.Keeps s) : s₀.Keeps (s.semSignal st n v) :=
  .checkWatches (.ifThen (.setSem (.count h)) fun h => .raise h)

theorem semAdd {st : Stamp} {n a : Nat} (h : s₀.Keeps s) : s₀.Keeps (s.semAdd st n a) :=
  .checkWatches (.ifThen (.setSem (.count h)) fun h => .raise h)

theorem semSignalBy {st : Stamp} {n v : Nat} (h : s₀.Keeps s) : s₀.Keeps (s.semSignalBy st n v) :=
  .ite (.semSignal h) (.writerRefused h)

theorem semAddBy {st : Stamp} {n a : Nat} (h : s₀.Keeps s) : s₀.Keeps (s.semAddBy st n a) :=
  .ite (.ite h (.semAdd h)) (.writerRefused h)

theorem semRead {st : Stamp} {n : Nat} (h : s₀.Keeps s) : s₀.Keeps (s.semRead st n).1 :=
  .ite₁ h (.pair (.writerRefused h))

theorem watchCfgWrite {who : Who} {w size v hw : Nat} (h : s₀.Keeps s) :
    s₀.Keeps (s.watchCfgWrite who w size v hw) := by
  unfold State.watchCfgWrite
  dsimp only
  exact .regWrite h fun _ h => .checkWatch (.ite (.update (.ifThen (.regStore h) fun h => .send h))
    (.ifThen (.ifThen (.regStore h) fun h => .send h) fun h => .update h))

theorem watchThreshWrite {who : Who} {w size v : Nat} (h : s₀.Keeps s) :
    s₀.Keeps (s.watchThreshWrite who w size v) := by
  unfold State.watchThreshWrite
  dsimp only
  exact .regWrite h fun _ h => .checkWatch (.ifThen (.regStore h) fun h => .update h)

theorem semValueWrite {who : Who} {n size v : Nat} (h : s₀.Keeps s) : s₀.Keeps (s.semValueWrite who n size v) := by
  unfold State.semValueWrite
  dsimp only
  exact .regWrite h fun _ h => .semSignal h

theorem semAddWrite {who : Who} {n size v : Nat} (h : s₀.Keeps s) : s₀.Keeps (s.semAddWrite who n size v) := by
  unfold State.semAddWrite
  dsimp only
  exact .regWrite h fun _ h => .ite h (.semAdd h)

theorem semWrite {who : Who} {id : RegId} {ix size v hw : Nat} (h : s₀.Keeps s) :
    s₀.Keeps (s.semWrite who id ix size v hw) := by
  unfold State.semWrite
  split
  · exact .semValueWrite h
  · exact .semAddWrite h
  · exact .watchCfgWrite h
  · exact .watchThreshWrite h
  · exact .regWrite h fun _ h => .regStore h

/-! ### Links of the Grove -/

theorem setElxPort {k : Nat} {p : ElxPort} (h : s₀.Keeps s) : s₀.Keeps (s.setElxPort k p) := .update h

theorem sendFlit {k : Nat} {payload : List Byte} (h : s₀.Keeps s) : s₀.Keeps (s.sendFlit k payload) :=
  .send (.setElxPort h)

theorem sendFlits {k : Nat} {l : List (List Byte)} (h : s₀.Keeps s) : s₀.Keeps (s.sendFlits k l) :=
  .foldl (fun _ _ h => .sendFlit h) h

theorem sendHeader {k : Nat} (h : s₀.Keeps s) : s₀.Keeps (s.sendHeader k) := .ite (.sendFlit h) h

theorem returnCredits {k : Nat} (h : s₀.Keeps s) : s₀.Keeps (s.returnCredits k) := .ite h (.sendHeader h)

theorem portFlush {k : Nat} (h : s₀.Keeps s) : s₀.Keeps (s.portFlush k) :=
  .ite h (.ite h (.sendFlits (.count (.setElxPort h))))

theorem portSend {k : Nat} {m : ElxMsg} (h : s₀.Keeps s) : s₀.Keeps (s.portSend k m) := .portFlush (.setElxPort h)

theorem elxSend {m : ElxMsg} (h : s₀.Keeps s) : s₀.Keeps (s.elxSend m) := by
  unfold State.elxSend
  split
  · exact .portSend h
  · exact h

theorem sendCtrl {dest : Nat} {c : Ctrl} (h : s₀.Keeps s) : s₀.Keeps (s.sendCtrl dest c) :=
  .elxSend (.update (.update (.send h)))

theorem portCtrl {k dest : Nat} {c : Ctrl} (h : s₀.Keeps s) : s₀.Keeps (s.portCtrl k dest c) :=
  .portSend (.update (.update (.send h)))

theorem elxForward {m : ElxMsg} (h : s₀.Keeps s) : s₀.Keeps (s.elxForward m) := .ite (.elxSend h) h

theorem issueAt {i : Nat} (h : s₀.Keeps s) : s₀.Keeps (s.issueAt i) := by
  unfold State.issueAt
  dsimp only
  split
  · exact h
  · refine .ite h ?_
    split
    · exact h
    · exact .ite (.portSend (.update h)) h

theorem elxPump (h : s₀.Keeps s) : s₀.Keeps s.elxPump := .foldl (fun _ _ h => .issueAt h) (.update h)

theorem elxOp {st : Stamp} {kind dest addr len : Nat} {data : List Byte} {use : RemoteUse} (h : s₀.Keeps s) :
    s₀.Keeps (s.elxOp st kind dest addr len data use) :=
  .elxPump (.update h)

theorem rerouted {r : State} (h : s₀.Keeps s) : s₀.Keeps (r.rerouted s) := .elxPump (.update h)

theorem windowRefused {st : Stamp} {a reason : Nat} (h : s₀.Keeps s) : s₀.Keeps (s.windowRefused st a reason) :=
  .raise h

theorem remoteAccess {st : Stamp} {a len : Nat} {write : Bool} {data : List Byte} {use : RemoteUse} (h : s₀.Keeps s) :
    s₀.Keeps (s.remoteAccess st a len write data use).1 := by
  unfold State.remoteAccess
  dsimp only
  split
  · exact h
  · split
    · exact .windowRefused h
    · exact .ite₁ (.elxOp h) (.ite₁ (.elxOp h) (.ite₁ (.elxOp h) (.elxOp h)))

theorem ownWindow {who : Who} {off len : Nat} {write : Bool} {data : List Byte} (h : s₀.Keeps s) :
    s₀.Keeps (s.ownWindow who off len write data) := by
  unfold State.ownWindow
  dsimp only
  split
  · exact .answer (.windowRefused h)
  · refine .ite (.answer (.memWrite h)) ?_
    split
    next ht => exact .answer (.of_eq ht (.memRead h))
    next ht => exact .answer (.of_eq ht (.memRead h))
  · exact .ite (.answer (.ite (.semValueWrite h) (.semAddWrite h))) (.ite (.answer (.semRead h)) (.answer h))

theorem elxReplay {k : Nat} (h : s₀.Keeps s) : s₀.Keeps (s.elxReplay k) := .bump (.foldl (fun _ _ h => .send h) h)

theorem nonMember {k : Nat} {m : ElxMsg} (h : s₀.Keeps s) : s₀.Keeps (s.nonMember k m) := .raise h

theorem elxDeliver {k : Nat} {m : ElxMsg} (h : s₀.Keeps s) : s₀.Keeps (s.elxDeliver k m) :=
  .ite (.ite (.setElxPort (.count h)) (.ite (.nonMember (.setElxPort (.count h)))
    (.elxForward (.setElxPort (.count h))))) (.setElxPort (.count h))

theorem flitReceive {k : Nat} {f : List Byte} (h : s₀.Keeps s) : s₀.Keeps (s.flitReceive k f) := by
  refine .ite h (.ite (.sendHeader (.setElxPort h)) (.ifElse (.portFlush (.ifThen ?_ fun h => .elxReplay h)) fun h =>
    ?_))
  · exact .setElxPort h
  · exact .returnCredits (.foldl (fun _ _ h => .elxDeliver h) (.setElxPort h))

theorem takeMsg {k kind : Nat} {run : State → ElxMsg → State} (h : s₀.Keeps s)
    (hr : ∀ t x, s₀.Keeps t → s₀.Keeps (run t x)) :
    s₀.Keeps (s.takeMsg k kind run) := by
  unfold State.takeMsg
  extract_lets p
  split
  · exact h
  · refine .ite h ?_
    extract_lets taken handled
    have ht : s₀.Keeps taken := .setElxPort h
    exact .returnCredits (.ite (.ite (.nonMember ht) (.elxForward ht)) (.ite (.nonMember ht) (hr _ _ ht)))

theorem doElxWrite {k : Nat} {x : ElxMsg} (h : s₀.Keeps s) : s₀.Keeps (s.doElxWrite k x) := .elxSend (.memWrite h)

theorem doElxRead {k : Nat} {m : ElxMsg} (h : s₀.Keeps s) : s₀.Keeps (s.doElxRead k m) := by
  unfold State.doElxRead
  split
  next ht => exact .elxSend (.of_eq ht (.memRead h))
  next ht => exact .elxSend (.of_eq ht (.memRead h))

theorem doElxSignal {k : Nat} {m : ElxMsg} (h : s₀.Keeps s) : s₀.Keeps (s.doElxSignal k m) :=
  .elxSend (.semSignalBy h)

theorem doElxAdd {k : Nat} {m : ElxMsg} (h : s₀.Keeps s) : s₀.Keeps (s.doElxAdd k m) := .elxSend (.semAddBy h)

theorem doElxSemRead {k : Nat} {m : ElxMsg} (h : s₀.Keeps s) : s₀.Keeps (s.doElxSemRead k m) := by
  unfold State.doElxSemRead
  dsimp only
  exact .elxSend (.semRead h)

end Sys2Proof.Machine.State.Keeps
end

section
/-! SUPPORT. `State.Keeps`, one rule per operation: power levels, Beds and spaces. -/

namespace Sys2Proof.Machine.State.Keeps
open Sys2Proof

variable {s₀ s t : State}

/-! ### Power levels -/

theorem tickLevels (h : s₀.Keeps s) : s₀.Keeps s.tickLevels := .update h

theorem tickEmergency (h : s₀.Keeps s) : s₀.Keeps s.tickEmergency := .update h

theorem updatePowerState (h : s₀.Keeps s) : s₀.Keeps s.updatePowerState := .ite h (.raise (.update h))

theorem thermalTrip (h : s₀.Keeps s) : s₀.Keeps s.thermalTrip := .ifThen (.update h) fun h => .raise h

theorem limiterTick {power : Nat} {temps : List Nat} (h : s₀.Keeps s) : s₀.Keeps (s.limiterTick power temps) :=
  .thermalTrip (.updatePowerState (.tickEmergency (.tickLevels (.update h))))

theorem pctWrite {who : Who} {id : RegId} {ix size v hw : Nat} (h : s₀.Keeps s) :
    s₀.Keeps (s.pctWrite who id ix size v hw) := by
  unfold State.pctWrite
  dsimp only
  split <;> exact .regWrite h fun _ h => .regStore h

/-! ### Beds, their channels and their power -/

theorem bedOwner {n reason : Nat} {write : Bool} {port off : Nat} {st : Stamp} {addr : Nat} (h : s₀.Keeps s) :
    s₀.Keeps (s.bedOwner n reason write port off st addr) :=
  .raise h

theorem updCtx {c : Nat} {f : CtxSt → CtxSt} (h : s₀.Keeps s) : s₀.Keeps (s.updCtx c f) := by
  unfold State.updCtx
  dsimp only
  split
  · exact .update h
  · exact h

theorem updFlight {q seq : Nat} {f : Flight → Flight} (h : s₀.Keeps s) : s₀.Keeps (s.updFlight q seq f) := .update h

theorem orphan {n : Nat} {p : Nat → Bool} (h : s₀.Keeps s) : s₀.Keeps (s.orphan n p) := .update (.setBed h)

theorem haltBeds {q seq : Nat} (h : s₀.Keeps s) : s₀.Keeps (s.haltBeds q seq) :=
  .update (.foldl (fun _ _ h => .orphan h) h)

theorem haltCopy {n q seq : Nat} (h : s₀.Keeps s) : s₀.Keeps (s.haltCopy n q seq) := .ite (.setBed (.orphan h)) h

theorem cancelOps {q seq : Nat} (h : s₀.Keeps s) : s₀.Keeps (s.cancelOps q seq) := by
  unfold State.cancelOps
  dsimp only
  split
  · exact h
  · exact .haltBeds (.updFlight (.ifThen (.foldl (fun _ _ h => .count h) h) fun h => .haltCopy h))

theorem endCommand {q seq status : Nat} {pav : Nat} (h : s₀.Keeps s) : s₀.Keeps (s.endCommand q seq status pav) :=
  .cancelOps (.updFlight h)

theorem lateReport {n status : Nat} (h : s₀.Keeps s) : s₀.Keeps (s.lateReport n status) := by
  unfold State.lateReport
  split
  · exact .ite (.updFlight h) h
  · exact h

theorem setTarget {n : Nat} {t : Pwr} (h : s₀.Keeps s) : s₀.Keeps (s.setTarget n t) :=
  .ite h (.ite (.setBed h) (.setBed h))

theorem arriveContents {n : Nat} {b : BedSt} {t : Pwr} (h : s₀.Keeps s) : s₀.Keeps (s.arriveContents n b t).1 := by
  unfold State.arriveContents
  split
  next ht =>
    have ht := of_eq₂ ht (.ite₂ (.padClear h) h)
    split
    · exact .padClear (.update ht)
    · exact .ite₁ (.update ht) ht
    · exact ht

theorem dropResidents {n : Nat} (h : s₀.Keeps s) : s₀.Keeps (s.dropResidents n) := .foldl (fun _ _ h => .wr h) h

theorem pwrDone {n : Nat} (h : s₀.Keeps s) : s₀.Keeps (s.pwrDone n) := by
  unfold State.pwrDone
  dsimp only
  split
  · exact h
  · exact .ifThen (.setBed (.arriveContents h)) fun h => .touch (.dropResidents h)

theorem bedEcc {n : Nat} {st : Stamp} {addr : Nat} {e : BedEcc} (h : s₀.Keeps s) :
    s₀.Keeps (s.bedEcc n st addr e).1 := by
  unfold State.bedEcc
  dsimp only
  split
  · exact h
  · exact .raise (.bump h)

theorem slotStore {n slot v : Nat} (h : s₀.Keeps s) : s₀.Keeps (s.slotStore n slot v) :=
  .touch (.ifThen (.regStore h) fun h => .updCtx (.setBed (.padClear h)))

theorem bedWrite {who : Who} {id : RegId} {ix size v hw : Nat} (h : s₀.Keeps s) :
    s₀.Keeps (s.bedWrite who id ix size v hw) := by
  unfold State.bedWrite
  dsimp only
  split
  case h_1 => exact .regWrite h fun _ h => .setTarget (.regStore h)
  case h_2 => exact .regWrite h fun _ h => .slotStore h
  all_goals exact .regWrite h fun _ h => .regStore h

theorem copyIn {st : Stamp} {n base : Nat} :
    ∀ {l : List (Nat × Nat × Nat)} {s : State}, s₀.Keeps s → s₀.Keeps (s.copyIn st n base l).1
  | [], _, h => h
  | _ :: _, _, h => by
    unfold State.copyIn
    split
    next ht => exact copyIn (.padPut (.of_eq ht (.memRead h)))
    next ht => exact .of_eq ht (.memRead h)

theorem pinCopy {p : Prog} {n : Nat} (h : s₀.Keeps s) : s₀.Keeps (s.pinCopy p n).1 := by
  unfold State.pinCopy
  dsimp only
  split
  · exact .foldl₁ (fun _ _ h => .ite₁ (.copyIn h) h) h
  · exact h

theorem vacate {n slot : Nat} (h : s₀.Keeps s) : s₀.Keeps (s.vacate n slot) := .wr h

theorem runMoves {n : Nat} (h : s₀.Keeps s) : s₀.Keeps (s.runMoves n) := by
  unfold State.runMoves
  dsimp only
  split
  · exact h
  · refine .ite h (.ifThen ?_ fun h => .bedWrite (.update h))
    split
    · exact .ite h (.updCtx (.vacate h))
    · exact h

theorem clearDone {n : Nat} (h : s₀.Keeps s) : s₀.Keeps (s.clearDone n) := by
  unfold State.clearDone
  dsimp only
  split
  · exact h
  · refine .touch (.runMoves ?_)
    split
    · exact .foldl (fun _ _ h => .pinCopy h) (.setBed h)
    · exact .setBed h

theorem inbound {who : Who} {addr size : Nat} {write : Bool} {data : List Byte} {en : List Bool} (h : s₀.Keeps s) :
    s₀.Keeps (s.inbound who addr size write data en) := by
  unfold State.inbound
  dsimp only
  refine .ite (.answer (.raise h)) ?_
  split
  · exact .answer (.bedOwner h)
  · exact .ite (.answer (.update h)) (.answer h)

theorem descRefusal {n : Nat} {d : Desc} {st : Stamp} (h : s₀.Keeps s) : s₀.Keeps (s.descRefusal n d st).1 :=
  .ite₁ h (.ite₁ (.bedOwner h) (.ite₁ (.bedOwner h) (.ite₁ (.bedOwner h) (.ite₁ h h))))

theorem readPieces {st : Stamp} : ∀ {l : List (Nat × Nat)} {s : State}, s₀.Keeps s → s₀.Keeps (s.readPieces st l).1
  | [], _, h => h
  | _ :: _, _, h => by
    unfold State.readPieces
    split
    next ht => exact readPieces (.of_eq ht (.memRead h))
    next ht => exact .of_eq ht (.memRead h)

theorem writePages {st : Stamp} :
    ∀ {l : List (Nat × Nat)} {d : List Byte} {s : State}, s₀.Keeps s → s₀.Keeps (s.writePages st l d).1
  | [], _, _, h => h
  | _ :: _, _, _, h => by
    unfold State.writePages
    split
    next ht => exact writePages (.of_eq ht (.memWrite h))
    next ht => exact .of_eq ht (.memWrite h)

theorem putShare {n t : Nat} {st : Stamp} {off : Nat} {data : List Byte} (h : s₀.Keeps s) :
    s₀.Keeps (s.putShare n t st off data).1 :=
  .ite₁ (.padPut h) (.ite₁ h (.foldl₁ (fun _ _ h => .ite₁ h (.update (.inbound h))) h))

theorem remotePiece {n c : Nat} {st : Stamp} {x : State × Nat} {a l : Nat} {write : Bool} {data : List Byte} {use : RemoteUse}
    (h : s₀.Keeps x.1) : s₀.Keeps (State.remotePiece n c st x a l write data use).1 := by
  unfold State.remotePiece
  refine .ite₁ h ?_
  split
  next ht => exact .of_eq ht (.remoteAccess h)
  next ht => exact .setBed (.of_eq ht (.remoteAccess h))

theorem remoteRead {n c t : Nat} {st : Stamp} {a up len : Nat} (h : s₀.Keeps s) :
    s₀.Keeps (s.remoteRead n c t st a up len).1 :=
  .foldl₁ (fun _ _ h => .remotePiece h) h

theorem remoteWrite {n c : Nat} {st : Stamp} {a : Nat} {data : List Byte} (h : s₀.Keeps s) :
    s₀.Keeps (s.remoteWrite n c st a data).1 :=
  .ite₁ (.sizeRefused h) (.foldl₁ (fun _ _ h => .remotePiece h) h)

theorem poisonRead {st : Stamp} {a : Nat} (h : s₀.Keeps s) : s₀.Keeps (s.poisonRead st a) := by
  unfold State.poisonRead
  split
  · exact .eccFatal h
  · exact h

theorem moveRow {n c : Nat} {d : Desc} {st : Stamp} {k : Nat} {ue : Option Nat} (h : s₀.Keeps s) :
    s₀.Keeps (s.moveRow n c d st k ue).1 := by
  unfold State.moveRow
  dsimp only
  split
  · exact .ite₁ (.remoteRead h) (.putShare (.ifThen (.readPieces h) fun h => .poisonRead h))
  · exact .ite₁ (.bedOwner h) (.ite₁ (.remoteWrite h) (.writePages h))
  · exact .putShare h

theorem moveRows {n c : Nat} {d : Desc} {st : Stamp} {ueAt : Option Nat} :
    ∀ {left k : Nat} {s : State}, s₀.Keeps s → s₀.Keeps (s.moveRows n c d st ueAt left k).1
  | 0, _, _, h => h
  | n + 1, _, _, h => .ite₁ (moveRows (left := n) (.moveRow h)) (.moveRow h)

theorem runDesc {n c : Nat} {d : Desc} {st : Stamp} {ueAt : Option Nat} {ecc : BedEcc} (h : s₀.Keeps s) :
    s₀.Keeps (s.runDesc n c d st ueAt ecc).1 := by
  unfold State.runDesc
  split
  next ht => exact .of_eq ht (.descRefusal h)
  next ht =>
    have ht := of_eq ht (.descRefusal h)
    split
    next hu => exact .moveRows (.of_eq hu (.bedEcc ht))
    next hu => exact .moveRows (.of_eq hu (.bedEcc ht))

theorem dmaStart {n c : Nat} {raw : List Byte} {ueAt : Option Nat} {ecc : BedEcc} (h : s₀.Keeps s) :
    s₀.Keeps (s.dmaStart n c raw ueAt ecc) := by
  unfold State.dmaStart
  dsimp only
  split
  · exact h
  · exact .ite h (.setBed (.runDesc h))

theorem dmaDone {n c : Nat} (h : s₀.Keeps s) : s₀.Keeps (s.dmaDone n c) := by
  unfold State.dmaDone
  dsimp only
  refine .ite h (.ite ?_ (.ite h ?_))
  · split
    · exact .lateReport h
    · exact h
  · split
    · exact .ifThen (.setBed h) fun h => .touch (.endCommand h)
    · exact .setBed h

theorem inboundEcc {who : Who} {addr size : Nat} {write : Bool} {data : List Byte} {en : List Bool} {ecc : BedEcc}
    (h : s₀.Keeps s) : s₀.Keeps (s.inboundEcc who addr size write data en ecc) := by
  unfold State.inboundEcc
  dsimp only
  refine .ite (.inbound h) ?_
  split
  next ht => exact .inbound (.of_eq ht (.bedEcc h))
  next ht => exact .answer (.of_eq ht (.bedEcc h))

theorem seqTrap {n code pc : Nat} (h : s₀.Keeps s) : s₀.Keeps (s.seqTrap n code pc) := by
  unfold State.seqTrap
  dsimp only
  refine .ite h ?_
  split
  · refine .touch (.endCommand ?_)
    split
    · exact .raise h
    · exact h
  · refine .ite (.lateReport ?_) h
    split
    · exact .raise h
    · exact h
  · exact h

/-! ### Spaces and steps -/

theorem bindCheck {st : Stamp} {c : Cmd} (h : s₀.Keeps s) : s₀.Keeps (s.bindCheck st c).1 := by
  unfold State.bindCheck
  dsimp only
  split
  next ht => exact .of_eq ht (.memRead h)
  next ht => exact .of_eq ht (.memRead h)

theorem putSeq {st : Stamp} {x : Space} {n : Nat} (h : s₀.Keeps s) : s₀.Keeps (s.putSeq st x n) := .memWrite h

theorem ringUsed {st : Stamp} {x : Space} (h : s₀.Keeps s) : s₀.Keeps (s.ringUsed st x).1 := by
  unfold State.ringUsed
  split
  next ht => exact .of_eq ht (.memRead h)
  next ht => exact .of_eq ht (.memRead h)

theorem release {st : Stamp} {key : Nat} {x : Space} {retire : Bool} {blk : Nat} (h : s₀.Keeps s) :
    s₀.Keeps (s.release st key x retire blk).1 := by
  unfold State.release
  dsimp only
  exact .ite₁ (.pair (.raise (.ringUsed h))) (.memWrite (.memWrite (.ringUsed h)))

theorem releaseAll {st : Stamp} {key : Nat} {retire : Bool} :
    ∀ {l : List Nat} {x : Space} {s : State}, s₀.Keeps s → s₀.Keeps (s.releaseAll st key x retire l).1
  | [], _, _, h => h
  | _ :: r, _, _, h => releaseAll (l := r) (.release h)

theorem quarantine {st : Stamp} {x : Space} {blocks : List Nat} (h : s₀.Keeps s) :
    s₀.Keeps (s.quarantine st x blocks).1 :=
  .memWrite h

theorem readVersion {st : Stamp} {t n : Nat} (h : s₀.Keeps s) : s₀.Keeps (s.readVersion st t n).1 := by
  unfold State.readVersion
  dsimp only
  split
  next ht => exact .of_eq ht (.memRead h)
  next ht =>
    have ht := of_eq ht (.memRead h)
    split
    next hu => exact .of_eq hu (.memRead ht)
    next hu => exact .of_eq hu (.memRead ht)

theorem depart {st : Stamp} {key : Nat} {x : Space} {n : Nat} (h : s₀.Keeps s) :
    s₀.Keeps (s.depart st key x n).1 := by
  unfold State.depart
  dsimp only
  refine .ite₁ h (.releaseAll (.ite₁ ?_ h))
  split
  next ht =>
    have ht := of_eq ht (.memRead h)
    split
    next hu => exact .of_eq hu (.readVersion ht)
    next hu => exact .of_eq hu (.readVersion ht)
  next ht => exact .of_eq ht (.memRead h)

theorem logInvalid {st : Stamp} {key n gen : Nat} {r : Nat × Nat} (h : s₀.Keeps s) :
    s₀.Keeps (s.logInvalid st key n gen r) :=
  .raise h

theorem logExhausted {st : Stamp} {key n : Nat} {was : Bool} {missing : Nat} (h : s₀.Keeps s) :
    s₀.Keeps (s.logExhausted st key n was missing) :=
  .ite (.raise h) h

theorem openSeq {st : Stamp} {key : Nat} {x : Space} {n : Nat} {vbeds : Nat → Bool} {joint : Bool} (h : s₀.Keeps s) :
    s₀.Keeps (s.openSeq st key x n vbeds joint).1 := by
  unfold State.openSeq
  dsimp only
  refine .ite₁ h ?_
  split
  next ht => exact .of_eq ht (.memRead h)
  next ht =>
    have ht := of_eq ht (.memRead h)
    split
    next hu => exact .of_eq hu (.readVersion ht)
    next hu =>
      have hu := of_eq hu (.readVersion ht)
      refine .ifElse ?_ fun h => .logExhausted h
      split
      · exact .logInvalid hu
      · exact hu

theorem putChanged {st : Stamp} {old new : Space} (h : s₀.Keeps s) : s₀.Keeps (s.putChanged st old new) :=
  .foldl (fun _ _ h => .ite h (.putSeq h)) h

theorem abortGroveStep {key : Nat} (h : s₀.Keeps s) : s₀.Keeps (s.abortGroveStep key) := by
  unfold State.abortGroveStep
  split
  · exact .touch (.endCommand h)
  · exact h

theorem logJoint {st : Stamp} {key : Nat} {x y : Space} (h : s₀.Keeps s) : s₀.Keeps (s.logJoint st key x y) :=
  .foldl (fun _ _ h => .ite (.logExhausted h) h) h

theorem applyJoint {key : Nat} {runs : List (Nat × Nat)} {leaves exhausted : List Nat} (h : s₀.Keeps s) :
    s₀.Keeps (s.applyJoint key runs leaves exhausted) := by
  unfold State.applyJoint
  dsimp only
  split
  · exact h
  · split
    · exact h
    · exact .setSpace (.putChanged (.logJoint (.foldl₁ (fun _ _ h => .depart h) h)))

theorem logAgree {key : Nat} {x : Space} {epochs : Bool} (h : s₀.Keeps s) : s₀.Keeps (s.logAgree key x epochs) :=
  .raise h

theorem groveResult {key : Nat} {mismatch : Option Bool} {runs : List (Nat × Nat)} {leaves exhausted : List Nat}
    (h : s₀.Keeps s) : s₀.Keeps (s.groveResult key mismatch runs leaves exhausted) := by
  unfold State.groveResult
  split
  · refine .ite h ?_
    split
    · exact .touch (.applyJoint h)
    · exact .abortGroveStep (.logAgree h)
  · exact h

theorem groveJudge {key : Nat} (h : s₀.Keeps s) : s₀.Keeps (s.groveJudge key) := by
  unfold State.groveJudge
  dsimp only
  split
  · exact h
  · exact .ite h (.groveResult (.setSpace (.foldl (fun _ _ h => .sendCtrl h) h)))

theorem groveReport {key : Nat} {r : StepReport} (h : s₀.Keeps s) : s₀.Keeps (s.groveReport key r) := by
  unfold State.groveReport
  split
  · exact h
  · exact .ite h (.groveJudge (.setSpace h))

theorem reportStep {key : Nat} (h : s₀.Keeps s) : s₀.Keeps (s.reportStep key) := by
  unfold State.reportStep
  dsimp only
  split
  · exact h
  · exact .ite (.groveReport h) (.sendCtrl h)

theorem openStep {key q seq : Nat} {p : Prog} (h : s₀.Keeps s) : s₀.Keeps (s.openStep key q seq p) := by
  unfold State.openStep
  dsimp only
  split
  · exact h
  · refine .ite (.reportStep (.setSpace (.foldl₁ (fun _ _ h => .openSeq h) h))) ?_
    exact .setSpace (.putChanged (.foldl₁ (fun _ _ h => .openSeq h) (.foldl₁ (fun _ _ h => .depart h) h)))

theorem retireStep {key q status : Nat} (h : s₀.Keeps s) : s₀.Keeps (s.retireStep key q status) := by
  unfold State.retireStep
  dsimp only
  split
  · exact h
  · exact .setSpace (.releaseAll (.putChanged h))

theorem retireAll {q seq status : Nat} (h : s₀.Keeps s) : s₀.Keeps (s.retireAll q seq status) := by
  unfold State.retireAll
  refine .foldl (fun t x h => ?_) h
  split
  · exact .ite (.retireStep h) h
  · exact h

theorem startFlight {q seq : Nat} (h : s₀.Keeps s) : s₀.Keeps (s.startFlight q seq) := by
  unfold State.startFlight
  dsimp only
  split
  · exact .ite h (.updCtx (.updFlight h))
  · exact h

theorem setReady {q seq status : Nat} (h : s₀.Keeps s) : s₀.Keeps (s.setReady q seq status) := .updFlight h

theorem endCopy {n q seq : Nat} (h : s₀.Keeps s) : s₀.Keeps (s.endCopy n q seq) := .setReady (.setBed h)

theorem runOnce {q seq op : Nat} {run : State → Flight → State × Nat} (h : s₀.Keeps s)
    (hr : ∀ t f, s₀.Keeps t → s₀.Keeps (run t f).1) : s₀.Keeps (s.runOnce q seq op run) := by
  unfold State.runOnce
  split
  · exact h
  · refine .ite h ?_
    split
    next ht => exact .setReady (.of_eq ht (hr _ _ (.startFlight h)))

theorem doBind {f : Flight} (h : s₀.Keeps s) : s₀.Keeps (s.doBind f).1 := by
  unfold State.doBind
  dsimp only
  split
  next ht => exact .of_eq ht (.bindCheck h)
  next ht => exact .setSpace (.foldl (fun _ _ h => .putSeq h) (.memWrite (.of_eq ht (.bindCheck h))))

theorem doUnbind {f : Flight} (h : s₀.Keeps s) : s₀.Keeps (s.doUnbind f).1 := by
  unfold State.doUnbind
  split
  · exact h
  · exact .ite₁ h (.setSpace h)

theorem doAdmit {f : Flight} (h : s₀.Keeps s) : s₀.Keeps (s.doAdmit f).1 := by
  unfold State.doAdmit
  dsimp only
  split
  · exact h
  · exact .setSpace (.putChanged h)

theorem doLeave {f : Flight} (h : s₀.Keeps s) : s₀.Keeps (s.doLeave f).1 := by
  unfold State.doLeave
  dsimp only
  split
  · exact h
  · exact .setSpace (.putChanged h)

theorem doFree {f : Flight} (h : s₀.Keeps s) : s₀.Keeps (s.doFree f).1 := by
  unfold State.doFree
  dsimp only
  split
  · exact h
  · split
    next ht => exact .of_eq ht (.memRead h)
    next ht =>
      have ht := of_eq ht (.memRead h)
      exact .ite₁ (.ringUsed ht) (.ite₁ (.ringUsed ht)
        (.setSpace (.ite₁ (.quarantine (.ringUsed ht)) (.releaseAll (.ringUsed ht)))))

end Sys2Proof.Machine.State.Keeps
end

section
/-! SUPPORT. `State.Keeps`, one rule per operation: queues, runs and operators. -/

namespace Sys2Proof.Machine.State.Keeps
open Sys2Proof

variable {s₀ s t : State}

/-! ### Queues -/

theorem queueStop {q : Nat} (h : s₀.Keeps s) : s₀.Keeps (s.queueStop q) := .wr h

theorem writeRecord {q : Nat} {c : Cpl} (h : s₀.Keeps s) : s₀.Keeps (s.writeRecord q c) := by
  unfold State.writeRecord
  dsimp only
  split
  next ht => exact .queueStop (.of_eq ht (.memWrite h))
  next ht =>
    have ht := of_eq ht (.memWrite h)
    refine .ite (.wr ht) ?_
    split
    next hu => exact .of_eq hu (.memWrite (.wr ht))
    next hu => exact .queueStop (.of_eq hu (.memWrite (.wr ht)))

theorem queueIrq {q : Nat} (h : s₀.Keeps s) : s₀.Keeps (s.queueIrq q) := by
  unfold State.queueIrq
  split
  · exact .ite (.ite h (.send h)) (.send h)
  · exact .send h

theorem cplSignal {q : Nat} {c : Cpl} (h : s₀.Keeps s) : s₀.Keeps (s.cplSignal q c) := by
  unfold State.cplSignal
  split
  · exact .semSignalBy h
  · exact h

theorem post {q : Nat} {c : Cpl} (h : s₀.Keeps s) : s₀.Keeps (s.post q c) :=
  .ifThen (.cplSignal (.writeRecord h)) fun h => .queueIrq h

theorem postOrWait {q : Nat} {c : Cpl} (h : s₀.Keeps s) : s₀.Keeps (s.postOrWait q c) := .ite (.post h) (.setQueue h)

theorem drain {q : Nat} : ∀ {fuel : Nat} {s : State}, s₀.Keeps s → s₀.Keeps (s.drain q fuel)
  | 0, _, h => h
  | _ + 1, _, h => by
    unfold State.drain
    split
    · exact h
    · exact .ite (drain (.post (.setQueue h))) h

theorem remember {q seq status : Nat} (h : s₀.Keeps s) : s₀.Keeps (s.remember q seq status) :=
  .foldl (fun _ _ h => .postOrWait h) (.setQueue h)

theorem countCommand {ctx run : Nat} (h : s₀.Keeps s) : s₀.Keeps (s.countCommand ctx run) := .updCtx h

theorem completeUnstarted {q : Nat} {c : Cmd} {late : Bool} {status : Nat} (h : s₀.Keeps s) :
    s₀.Keeps (s.completeUnstarted q c late status) :=
  .remember (.postOrWait (.ite (.countCommand h) h))

theorem readEntry {q : Nat} (h : s₀.Keeps s) : s₀.Keeps (s.readEntry q).1 := by
  unfold State.readEntry
  dsimp only
  split
  next ht => exact .queueStop (.of_eq ht (.memRead h))
  next ht => exact .wr (.of_eq ht (.memRead h))

theorem takeHead {q : Nat} {c : Cmd} (h : s₀.Keeps s) : s₀.Keeps (s.takeHead q c) := by
  unfold State.takeHead
  dsimp only
  split
  · exact .postOrWait h
  · exact .ite (.setQueue h) (.setQueue h)

theorem fetch {q : Nat} (h : s₀.Keeps s) : s₀.Keeps (s.fetch q) := by
  unfold State.fetch
  refine .ite h ?_
  split
  next ht => exact .of_eq ht (.readEntry h)
  next ht => exact .touch (.takeHead (.of_eq ht (.readEntry h)))

theorem launch {q : Nat} {xh : HeadCmd} (h : s₀.Keeps s) : s₀.Keeps (s.launch q xh) :=
  .foldl (fun _ _ h => .ite (.setTarget (.wr h)) h) (.update h)

theorem dispatch (h : s₀.Keeps s) : s₀.Keeps s.dispatch := by
  unfold State.dispatch
  dsimp only
  refine .ite h ?_
  split
  · exact .touch h
  · split
    · exact .touch h
    · split
      · exact .touch (.completeUnstarted (.setQueue (.touch h)))
      · exact .touch (.launch (.setQueue (.touch h)))

theorem operComplete {pav slot : Nat} (h : s₀.Keeps s) : s₀.Keeps (s.operComplete pav slot) := by
  unfold State.operComplete
  dsimp only
  refine .ite h ?_
  split
  · exact h
  · split
    · exact h
    · split
      · exact h
      · exact .touch (.ifElse (.updFlight (.count h)) fun h => .cancelOps h)

theorem dropFlight {q seq : Nat} (h : s₀.Keeps s) : s₀.Keeps (s.dropFlight q seq) := .update h

theorem finish {f : Flight} (h : s₀.Keeps s) : s₀.Keeps (s.finish f) :=
  .touch (.remember (.post (.dropFlight (.countCommand (.ifThen (.retireAll h) fun h => .memWrite h)))))

theorem commandComplete {q seq : Nat} (h : s₀.Keeps s) : s₀.Keeps (s.commandComplete q seq) := by
  unfold State.commandComplete
  refine .ite h ?_
  split
  · exact h
  · exact .ite (.finish (.foldl (fun _ _ h => .finish h) h)) h

theorem reportMiss {f : Flight} (h : s₀.Keeps s) : s₀.Keeps (s.reportMiss f) := by
  unfold State.reportMiss
  split
  · exact .bump (.raise h)
  · split
    · exact .bump (.raise h)
    · exact .raise h

theorem deadlineMiss {q seq : Nat} (h : s₀.Keeps s) : s₀.Keeps (s.deadlineMiss q seq) := by
  unfold State.deadlineMiss
  dsimp only
  split
  · exact h
  · exact .ite h (.ite (.touch (.endCommand (.updCtx (.updFlight (.reportMiss h)))))
    (.updFlight (.updCtx (.updFlight (.reportMiss h)))))

theorem queuedMiss {q : Nat} (h : s₀.Keeps s) : s₀.Keeps (s.queuedMiss q) := by
  unfold State.queuedMiss
  dsimp only
  split
  · exact h
  · exact .ite h (.ite (.touch (.completeUnstarted (.setQueue (.ite (.updCtx (.raise h)) (.raise h)))))
    (.setQueue (.ite (.updCtx (.raise h)) (.raise h))))

theorem cancelRead {q : Nat} {c : Cmd} (h : s₀.Keeps s) : s₀.Keeps (s.cancelRead q c).1 := by
  unfold State.cancelRead
  dsimp only
  split
  · exact .postOrWait h
  · exact .ite₁ (.setQueue h) (.completeUnstarted h)

theorem flushUnread {q : Nat} : ∀ {fuel n : Nat} {s : State}, s₀.Keeps s → s₀.Keeps (s.flushUnread q n fuel).1
  | 0, _, _, h => h
  | _ + 1, _, _, h => by
    unfold State.flushUnread
    refine .ite₁ h ?_
    split
    next ht => exact .of_eq ht (.readEntry h)
    next ht => exact flushUnread (.cancelRead (.of_eq ht (.readEntry h)))

theorem flushQueue {q : Nat} (h : s₀.Keeps s) : s₀.Keeps (s.flushQueue q).1 := by
  unfold State.flushQueue
  dsimp only
  split
  · exact .flushUnread (.completeUnstarted (.setQueue h))
  · exact .flushUnread h

theorem queueCfgStore {q v hw : Nat} (h : s₀.Keeps s) : s₀.Keeps (s.queueCfgStore q v hw) :=
  .touch (.ifThen (.regStore h) fun h => .setQueue (.wr (.wr (.wr (.wr (.wr h))))))

theorem queueWrite {who : Who} {id : RegId} {q size v hw : Nat} (h : s₀.Keeps s) :
    s₀.Keeps (s.queueWrite who id q size v hw) := by
  unfold State.queueWrite
  dsimp only
  split
  case h_4 => exact .regWrite h fun _ h => .queueCfgStore h
  case h_6 => exact .regWrite h fun _ h => .touch (.drain (.regStore h))
  all_goals exact .regWrite h fun _ h => .regStore h

/-! ### Runs -/

theorem argCheck {st : Stamp} {p : Prog} {a : Nat} (h : s₀.Keeps s) : s₀.Keeps (s.argCheck st p a).1 := by
  unfold State.argCheck
  dsimp only
  split
  next ht => exact .of_eq ht (.memRead h)
  next ht =>
    have ht := of_eq ht (.memRead h)
    refine .ite₁ ht ?_
    split
    next hu => exact .of_eq hu (.ite₁ ht (.memRead ht))
    next hu =>
      have hu := of_eq hu (.ite₁ ht (.memRead ht))
      exact .ite₁ hu (.ite₁ hu hu)

theorem scratchLost {c n : Nat} (h : s₀.Keeps s) : s₀.Keeps (s.scratchLost c n) := .foldl (fun _ _ h => .padLose h) h

theorem runStart {q seq : Nat} (h : s₀.Keeps s) : s₀.Keeps (s.runStart q seq) := by
  unfold State.runStart
  dsimp only
  split
  · exact h
  · refine .ite h ?_
    split
    · exact h
    · split
      next ht => exact .touch (.endCommand (.updFlight (.of_eq ht (.argCheck h))))
      next ht =>
        have ht := of_eq ht (.argCheck h)
        split
        · exact .touch (.endCommand (.updFlight ht))
        · exact .updFlight (.foldl (fun _ _ h => .scratchLost h) (.startFlight ht))

theorem doCopy {f : Flight} {ueAt : Option Nat} (h : s₀.Keeps s) : s₀.Keeps (s.doCopy f ueAt) := by
  unfold State.doCopy
  dsimp only
  exact .ifThen (.setBed (.updFlight (.runDesc (.updFlight h)))) fun h => .endCopy h

theorem updPart {c : Cand} {g : BedPart → BedPart} (h : s₀.Keeps s) : s₀.Keeps (s.updPart c g) := .updFlight h

theorem preempt {c : Cand} (h : s₀.Keeps s) : s₀.Keeps (s.preempt c) := .foldl (fun _ _ h => .updCtx (.updFlight h)) h

theorem startOp {c : Cand} (h : s₀.Keeps s) : s₀.Keeps (s.startOp c) :=
  .setBed (.update (.updFlight (.updPart (.preempt h))))

theorem noteFlags {q seq op : Nat} {g : NumFlags} (h : s₀.Keeps s) : s₀.Keeps (s.noteFlags q seq op g) :=
  .ite h (.updFlight h)

theorem runOp {n kind : Nat} {run : State → Cand → OpResult} (h : s₀.Keeps s)
    (hr : ∀ t c, s₀.Keeps t → s₀.Keeps (run t c).1) :
    s₀.Keeps (s.runOp n kind run) := by
  unfold State.runOp
  split
  · exact h
  · refine .ite h ?_
    split
    next ht => exact .touch (.noteFlags (.of_eq ht (hr _ _ (.startOp h))))
    next ht => exact .touch (.endCommand (.noteFlags (.of_eq ht (hr _ _ (.startOp h)))))

theorem opComplete {n : Nat} (h : s₀.Keeps s) : s₀.Keeps (s.opComplete n) := by
  unfold State.opComplete
  dsimp only
  split
  · exact h
  · refine .ite h ?_
    split
    · exact .touch (.count (.setBed h))
    · split
      · exact .touch (.count (.setBed h))
      · split
        · exact .touch (.ifElse (.count (.setBed h)) fun h => .semAddBy h)
        · exact .touch (.count (.setBed h))

/-! ### Operators -/

theorem shareOff {c : Cand} {st : Stamp} {off n : Nat} {write : Bool} (h : s₀.Keeps s) :
    s₀.Keeps (s.shareOff c st off n write).1 :=
  .ite₁ (.bedOwner h) h

theorem bindRead {c : Cand} {st : Stamp} {t : TensorRec} :
    ∀ {l : List (Nat × Nat)} {s : State}, s₀.Keeps s → s₀.Keeps (s.bindRead c st t l).1
  | [], _, h => h
  | (off, n) :: r, s, h => by
    unfold State.bindRead
    extract_lets got
    have hgot : s₀.Keeps got.1 := by
      simp only [got]
      split
      · split
        next ht => exact .of_eq ht (.shareOff h)
        next ht => exact .of_eq ht (.shareOff h)
      · exact .memRead h
      · exact .memRead h
    clear_value got
    obtain ⟨u, _ | d⟩ := got
    · exact hgot
    · have hr : s₀.Keeps (u.bindRead c st t r).1 := bindRead hgot
      dsimp only
      split
      next ht => exact .of_eq ht hr
      next ht => exact .of_eq ht hr

theorem bindWrite {c : Cand} {st : Stamp} {t : TensorRec} {off : Nat} {d : List Byte} (h : s₀.Keeps s) :
    s₀.Keeps (s.bindWrite c st t off d).1 := by
  unfold State.bindWrite
  refine .ite₁ h ?_
  split
  · split
    next ht => exact .padPut (.of_eq ht (.shareOff h))
    next ht => exact .of_eq ht (.shareOff h)
  · exact .ite₁ (.memWrite h) h
  · exact .memWrite h

theorem readTensor {c : Cand} {st : Stamp} {t : TensorRec} (h : s₀.Keeps s) : s₀.Keeps (s.readTensor c st t).1 := by
  unfold State.readTensor
  split
  next ht => exact .of_eq ht (.bindRead h)
  next ht =>
    have ht := of_eq ht (.bindRead h)
    split
    next hu => exact .of_eq hu (.bindRead ht)
    next hu => exact .of_eq hu (.bindRead ht)

theorem readInputs {c : Cand} {st : Stamp} :
    ∀ {l : List TensorRec} {s : State}, s₀.Keeps s → s₀.Keeps (s.readInputs c st l).1
  | [], _, h => h
  | t :: r, s, h => by
    unfold State.readInputs
    split
    next ht => exact .of_eq ht (.readTensor h)
    next u x hu =>
      have hr : s₀.Keeps (u.readInputs c st r).1 := readInputs (.of_eq hu (.readTensor h))
      split
      next hv => exact .of_eq hv hr
      next hv => exact .of_eq hv hr

theorem putElem {c : Cand} {st : Stamp} {t : TensorRec} {i code : Nat} (h : s₀.Keeps s) :
    s₀.Keeps (s.putElem c st t i code).1 :=
  .ite₁ (.bindWrite h) (.bindWrite h)

theorem putResults {c : Cand} {st : Stamp} {x : TensorRec} :
    ∀ {l : List (Nat × Nat)} {g : NumFlags} {s : State}, s₀.Keeps s → s₀.Keeps (s.putResults c st x g l).1
  | [], _, _, h => h
  | _ :: _, _, _, h => by
    unfold State.putResults
    dsimp only
    split
    next ht => exact putResults (.of_eq ht (.putElem h))
    next ht => exact .of_eq ht (.putElem h)

theorem putCodes {c : Cand} {st : Stamp} {x : TensorRec} :
    ∀ {l : List (Nat × Nat)} {s : State}, s₀.Keeps s → s₀.Keeps (s.putCodes c st x l).1
  | [], _, h => h
  | _ :: _, _, h => by
    unfold State.putCodes
    split
    next ht => exact putCodes (.of_eq ht (.putElem h))
    next ht => exact .of_eq ht (.putElem h)

theorem putBlock {c : Cand} {st : Stamp} {t : TensorRec} {g : Nat} {xs : List Nat} (h : s₀.Keeps s) :
    s₀.Keeps (s.putBlock c st t g xs).1 := by
  unfold State.putBlock
  split
  next ht =>
    split
    next ht => exact .of_eq ht (.putCodes h)
    next ht =>
      have ht := of_eq ht (.putCodes h)
      split
      next hu => exact .of_eq hu (.bindWrite ht)
      next hu => exact .of_eq hu (.bindWrite ht)

theorem putBlocks {c : Cand} {st : Stamp} {x : TensorRec} :
    ∀ {l : List (Nat × List Nat)} {g : NumFlags} {s : State}, s₀.Keeps s → s₀.Keeps (s.putBlocks c st x g l).1
  | [], _, _, h => h
  | _ :: _, _, _, h => by
    unfold State.putBlocks
    split
    next ht => exact putBlocks (.of_eq ht (.putBlock h))
    next ht => exact .of_eq ht (.putBlock h)

theorem putF32 {c : Cand} {st : Stamp} {t : TensorRec} {g : NumFlags} {l : List (Nat × Nat)} (h : s₀.Keeps s) :
    s₀.Keeps (s.putF32 c st t g l).1 :=
  .ite₁ (.putBlocks h) (.putResults h)

theorem withInputs {c : Cand} {f : State → Stamp → List TData → List TensorRec → OpResult} (h : s₀.Keeps s)
    (hf : ∀ t st xs ts, s₀.Keeps t → s₀.Keeps (f t st xs ts).1) : s₀.Keeps (s.withInputs c f).1 := by
  unfold State.withInputs
  dsimp only
  split
  next ht => exact .of_eq ht (.readInputs h)
  next ht => exact hf _ _ _ _ (.of_eq ht (.readInputs h))

theorem matmul {c : Cand} {outs : List (Nat × Nat × Nat)} {tiles : List (Nat × Nat × Nat)}
    {post : Option (EwOp × BitVec 32 × BitVec 32)} (h : s₀.Keeps s) : s₀.Keeps (s.matmul c outs tiles post).1 :=
  .withInputs h fun _ _ _ _ h => .putF32 (.setBed h)

theorem withEcc {c : Cand} {e : BedEcc} {run : State → OpResult} (h : s₀.Keeps s)
    (hr : ∀ t, s₀.Keeps t → s₀.Keeps (run t).1) :
    s₀.Keeps (s.withEcc c e run).1 := by
  unfold State.withEcc
  split
  next ht => exact hr _ (.of_eq ht (.bedEcc h))
  next ht => exact .of_eq ht (.bedEcc h)

theorem conv2d {c : Cand} {outs : List (Nat × Nat × Nat)} {taps : List (Nat × Nat × Nat × Nat)}
    {stride dilation pad : Nat × Nat} {post : Option (EwOp × BitVec 32 × BitVec 32)} (h : s₀.Keeps s) :
    s₀.Keeps (s.conv2d c outs taps stride dilation pad post).1 :=
  .withInputs h fun _ _ _ _ h => .putF32 (.setBed h)

theorem eltwise {c : Cand} {elems : List (Nat × Nat × Nat)} {op : EwOp} {b cc : Nat} (h : s₀.Keeps s) :
    s₀.Keeps (s.eltwise c elems op b cc).1 :=
  .withInputs h fun _ _ _ _ h => .putF32 h

theorem rowOp {c : Cand} {rows : List Nat} {kind : Nat} {eps : BitVec 32} (h : s₀.Keeps s) :
    s₀.Keeps (s.rowOp c rows kind eps).1 :=
  .withInputs h fun _ _ _ _ h => .putF32 h

theorem reduce {c : Cand} {elems arrival : List Nat} (h : s₀.Keeps s) : s₀.Keeps (s.reduce c elems arrival).1 :=
  .withInputs h fun _ _ _ _ h => .putF32 h

theorem quantise {c : Cand} {elems : List Nat} (h : s₀.Keeps s) : s₀.Keeps (s.quantise c elems).1 :=
  .withInputs h fun _ _ _ _ h => .putF32 h

theorem putGathered {c : Cand} {st : Stamp} {y : TensorRec} {r n : Nat} {row : List Nat × List Byte}
    (h : s₀.Keeps s) : s₀.Keeps (s.putGathered c st y r n row).1 := by
  unfold State.putGathered
  split
  next ht => exact .of_eq ht (.putCodes h)
  next ht =>
    have ht := of_eq ht (.putCodes h)
    split
    next hu => exact .of_eq hu (.bindWrite ht)
    next hu => exact .of_eq hu (.bindWrite ht)

theorem gatherRows {c : Cand} {st : Stamp} {x ix : TData} {y : TensorRec} :
    ∀ {l : List Nat} {s : State}, s₀.Keeps s → s₀.Keeps (s.gatherRows c st x ix y l).1
  | [], _, h => h
  | _ :: _, _, h => by
    unfold State.gatherRows
    split
    next ht => exact gatherRows (.of_eq ht (.putGathered h))
    next ht => exact .of_eq ht (.putGathered h)

theorem putParts {c : Cand} {st : Stamp} {y : TensorRec} :
    ∀ {l : List (Nat × Nat)} {d : List Byte} {s : State}, s₀.Keeps s → s₀.Keeps (s.putParts c st y l d).1
  | [], _, _, h => h
  | _ :: _, _, _, h => by
    unfold State.putParts
    split
    next ht => exact putParts (.of_eq ht (.bindWrite h))
    next ht => exact .of_eq ht (.bindWrite h)

theorem copyPieces {c : Cand} {st : Stamp} {src : List Byte} {y : TensorRec} :
    ∀ {l : List (Nat × Nat × Nat)} {s : State}, s₀.Keeps s → s₀.Keeps (s.copyPieces c st src y l).1
  | [], _, h => h
  | _ :: _, _, h => by
    unfold State.copyPieces
    split
    next ht => exact copyPieces (.of_eq ht (.putParts h))
    next ht => exact .of_eq ht (.putParts h)

theorem exchangeRead {c : Cand} {st : Stamp} {a : Nat} {y : TensorRec} {off len : Nat} (h : s₀.Keeps s) :
    s₀.Keeps (s.exchangeRead c st a y off len).1 := by
  unfold State.exchangeRead
  dsimp only
  refine .foldl₁ (fun x x h => .ite₁ h ?_) h
  split
  · split
    next ht => exact .remotePiece (.of_eq ht (.shareOff h))
    next ht => exact .of_eq ht (.shareOff h)
  · exact h
  · exact .remotePiece h

theorem exchangeSend {c : Cand} {st : Stamp} {addr : Nat} {d : List Byte} (h : s₀.Keeps s) :
    s₀.Keeps (s.exchangeSend c st addr d).1 := by
  unfold State.exchangeSend
  dsimp only
  refine .ite₁ h (.ite₁ (.remoteWrite h) ?_)
  split
  next ht => exact .of_eq ht (.memWrite h)
  next ht => exact .of_eq ht (.memWrite h)

theorem exchangeReceive {c : Cand} {st : Stamp} {addr : Nat} {y : TensorRec} {off len : Nat} (h : s₀.Keeps s) :
    s₀.Keeps (s.exchangeReceive c st addr y off len).1 := by
  unfold State.exchangeReceive
  dsimp only
  refine .ite₁ h (.ite₁ (.exchangeRead h) ?_)
  split
  next ht => exact .of_eq ht (.memRead h)
  next ht =>
    have ht := of_eq ht (.memRead h)
    split
    next hu => exact .of_eq hu (.bindWrite ht)
    next hu => exact .of_eq hu (.bindWrite ht)

theorem exchange {c : Cand} {send : Bool} {addr scaleAddr : Nat} (h : s₀.Keeps s) :
    s₀.Keeps (s.exchange c send addr scaleAddr).1 := by
  unfold State.exchange
  dsimp only
  refine .ite₁ (.withInputs h fun _ _ _ _ h => ?_) (.ite₁ (.exchangeReceive h)
    (.exchangeReceive (.exchangeReceive h)))
  exact .ite₁ (.exchangeSend h) (.exchangeSend (.exchangeSend h))

theorem topkOp {c : Cand} {rows : List Nat} {k : Nat} {tieHigh : Bool} (h : s₀.Keeps s) :
    s₀.Keeps (s.topkOp c rows k tieHigh).1 := by
  unfold State.topkOp
  dsimp only
  refine .withInputs h fun t x x x h => ?_
  split
  next ht => exact .of_eq ht (.putF32 h)
  next ht => exact .putF32 (.of_eq ht (.putF32 h))

/-! ### Attention -/

theorem putRow {c : AttCtx} {lane row head : Nat} {vals : List Nat} (h : s₀.Keeps s) :
    s₀.Keeps (s.putRow c lane row head vals).1 := by
  unfold State.putRow
  dsimp only
  exact .memWrite h

theorem appendRow {c : AttCtx} {q : SeqSt} {v : Version} {i xh : Nat} (h : s₀.Keeps s) :
    s₀.Keeps (s.appendRow c q v i xh).1 := by
  unfold State.appendRow
  dsimp only
  refine .foldl₁ (fun x x h => .ite₁ h ?_) h
  split
  next ht => exact .of_eq ht (.memRead h)
  next ht => exact .memWrite (.of_eq ht (.memRead h))

theorem appendSeq {c : AttCtx} {q : SeqSt} {v : Version} (h : s₀.Keeps s) : s₀.Keeps (s.appendSeq c q v).1 :=
  .foldl₁ (fun _ _ h => .ite₁ (.appendRow h) h) h

theorem stepVersion {c : AttCtx} {q : SeqSt} (h : s₀.Keeps s) : s₀.Keeps (s.stepVersion c q).1 := .readVersion h

theorem zeroRows {c : AttCtx} {lane rows : Nat} (h : s₀.Keeps s) : s₀.Keeps (s.zeroRows c lane rows).1 :=
  .foldl₁ (fun _ _ h => .ite₁ (.putRow h) h) h

theorem startSeq {c : AttCtx} {q : SeqSt} (h : s₀.Keeps s) : s₀.Keeps (s.startSeq c q).1 := by
  unfold State.startSeq
  dsimp only
  split
  next ht => exact .of_eq ht (.stepVersion h)
  next ht =>
    have ht := of_eq ht (.stepVersion h)
    split
    next hu => exact .of_eq hu (.ite₁ (.appendSeq ht) ht)
    next hu =>
      have hu := of_eq hu (.ite₁ (.appendSeq ht) ht)
      exact .ite₁ (.zeroRows hu) (.update hu)

theorem startAttend {c : AttCtx} (h : s₀.Keeps s) : s₀.Keeps (s.startAttend c).1 :=
  .foldl₁ (fun _ _ h => .ite₁ (.zeroRows h) h) (.foldl₁ (fun _ _ h => .ite₁ (.startSeq h) h) h)

theorem readRow {st : Stamp} {a fmt n : Nat} (h : s₀.Keeps s) : s₀.Keeps (s.readRow st a fmt n).1 := by
  unfold State.readRow
  split
  next ht => exact .of_eq ht (.memRead h)
  next ht => exact .of_eq ht (.memRead h)

theorem foldPositions {c : AttCtx} {q : List Num} {n : Nat} :
    ∀ {l : List (Nat × Nat)} {a : Partial} {s : State}, s₀.Keeps s → s₀.Keeps (s.foldPositions c q n a l).1
  | [], _, _, h => h
  | _ :: _, _, _, h => by
    unfold State.foldPositions
    split
    next ht => exact .of_eq ht (.readRow h)
    next ht =>
      split
      next hu => exact .of_eq hu (.readRow (.of_eq ht (.readRow h)))
      next hu => exact foldPositions (.of_eq hu (.readRow (.of_eq ht (.readRow h))))

theorem bedPartial {c : AttCtx} {n vb : Nat} {q : SeqSt} {v : Version} {i qh : Nat} (h : s₀.Keeps s) :
    s₀.Keeps (s.bedPartial c n vb q v i qh).1 := by
  unfold State.bedPartial
  dsimp only
  split
  next ht => exact .of_eq ht (.readRow h)
  next ht =>
    have ht := of_eq ht (.readRow h)
    split
    next hu => exact .of_eq hu (.foldPositions ht)
    next hu => exact .update (.of_eq hu (.foldPositions ht))

theorem bedSeq {c : AttCtx} {n vb : Nat} {q : SeqSt} (h : s₀.Keeps s) : s₀.Keeps (s.bedSeq c n vb q).1 := by
  unfold State.bedSeq
  split
  next ht => exact .of_eq ht (.stepVersion h)
  next ht =>
    have ht := of_eq ht (.stepVersion h)
    exact .ite₁ (.foldl₁ (fun _ _ h => .ite₁ (.bedPartial h) h) ht) ht

theorem attendKernel {c : Cand} (h : s₀.Keeps s) : s₀.Keeps (s.attendKernel c) :=
  .update (.setBed (.update (.padLose h)))

theorem attendRun {c : Cand} {key : Nat} {x : Space} (h : s₀.Keeps s) : s₀.Keeps (s.attendRun c key x).1 := by
  unfold State.attendRun
  dsimp only
  split
  next ht => exact .of_eq ht (.ite₁ (.startAttend (.updFlight (.attendKernel h))) (.updFlight (.attendKernel h)))
  next ht =>
    have ht := of_eq ht (.ite₁ (.startAttend (.updFlight (.attendKernel h))) (.updFlight (.attendKernel h)))
    split
    next hu => exact .of_eq hu (.foldl₁ (fun _ _ h => .ite₁ (.bedSeq h) h) ht)
    next hu => exact .of_eq hu (.foldl₁ (fun _ _ h => .ite₁ (.bedSeq h) h) ht)

theorem attendOp {n : Nat} (h : s₀.Keeps s) : s₀.Keeps (s.attendOp n) := by
  unfold State.attendOp
  split
  · exact h
  · refine .ite h ?_
    split
    · exact .touch (.endCommand h)
    · refine .ite (.touch (.endCommand h)) (.ite h ?_)
      extract_lets opened
      have hopened : s₀.Keeps opened := .ite (.openStep h) h
      split
      · exact .ite (.runOp hopened (fun _ _ h => .attendRun h)) hopened
      · exact hopened

theorem attendRow {key : AttKey} {a : Partial} (h : s₀.Keeps s) : s₀.Keeps (s.attendRow key a) := by
  unfold State.attendRow
  dsimp only
  split
  · exact h
  · exact .ifElse (.noteFlags (.putRow h)) fun h => .touch (.endCommand h)

theorem mergePart {t : Nat} {m : PartMsg} (h : s₀.Keeps s) : s₀.Keeps (s.mergePart t m) := by
  unfold State.mergePart
  dsimp only
  split
  · exact h
  · refine .ite (.update (.count h)) (.ite (.attendRow (.update (.count h))) ?_)
    split <;> exact .update (.count h)

theorem partialMerge {t i : Nat} (h : s₀.Keeps s) : s₀.Keeps (s.partialMerge t i) := by
  unfold State.partialMerge
  dsimp only
  refine .ite h ?_
  split
  · exact h
  · exact .mergePart (.update h)

end Sys2Proof.Machine.State.Keeps
end

section
/-! SUPPORT. `State.Keeps`, one rule per operation: the Glasshouse and contexts. -/

namespace Sys2Proof.Machine.State.Keeps
open Sys2Proof

variable {s₀ s t : State}

/-! ### Sessions -/

theorem setControl {f : Bcb → Bcb} (h : s₀.Keeps s) : s₀.Keeps (s.setControl f) := .update h

theorem setKind {k : Nat} {f : KindCtl → KindCtl} (h : s₀.Keeps s) : s₀.Keeps (s.setKind k f) := .setControl h

theorem endSession (h : s₀.Keeps s) : s₀.Keeps s.endSession := .flashErase (.update (.ite (.setControl h) h))

theorem dropUpdate (h : s₀.Keeps s) : s₀.Keeps s.dropUpdate := by
  unfold State.dropUpdate
  dsimp only
  split
  · exact .finishMbx (.ifThen (.endSession h) fun h => .update h)
  · exact .ifThen (.endSession h) fun h => .update h

/-! ### The Glasshouse -/

theorem sigFail {k image : Nat} (h : s₀.Keeps s) : s₀.Keeps (s.sigFail k image) := .raise h

theorem verify {k usage image : Nat} {digest : List Byte} {r sg : Nat} (h : s₀.Keeps s) :
    s₀.Keeps (s.verify k usage image digest r sg).1 :=
  .ite₁ h (.sigFail h)

theorem setEnclave {e : Nat} {x : Option EncSt} (h : s₀.Keeps s) : s₀.Keeps (s.setEnclave e x) := .update h

theorem freshScalar (h : s₀.Keeps s) : s₀.Keeps s.freshScalar.2 := .freshBytes (n := 48) h

theorem mapEntries {f : Nat → Nat} : ∀ {l : List Nat} {s : State}, s₀.Keeps s → s₀.Keeps (s.mapEntries f l)
  | [], _, h => h
  | _ :: r, _, h => by
    refine mapEntries (l := r) ?_
    split
    · exact .setEntry h
    · exact h

theorem zeroPages : ∀ {l : List Nat} {s : State}, s₀.Keeps s → s₀.Keeps (s.zeroPages l)
  | [], _, h => h
  | _ :: r, _, h => zeroPages (l := r) (.update h)

theorem zeroSealed {plot ctx : Nat} {pages : List Nat} (h : s₀.Keeps s) : s₀.Keeps (s.zeroSealed plot ctx pages) :=
  .foldl (fun _ _ h => .countAccess (.countIssued h)) (.zeroPages h)

theorem destroyEnclave {e : Nat} (h : s₀.Keeps s) : s₀.Keeps (s.destroyEnclave e) := by
  unfold State.destroyEnclave
  dsimp only
  split
  · exact h
  · exact .setEnclave (.mapEntries (.zeroSealed h))

theorem svcAttest {k : Nat} {b : List Byte} (h : s₀.Keeps s) : s₀.Keeps (s.svcAttest k b).1 := by
  unfold State.svcAttest
  dsimp only
  refine .ite₁ h (.ite₁ h ?_)
  split
  next ht => exact .of_eq ht (.memRead h)
  next ht =>
    have ht := of_eq ht (.memRead h)
    refine .ite₁ ht ?_
    split
    · exact .logRefusal ht
    · exact .ite₁ ht (.pair (.memWrite (.freshScalar ht)))

theorem svcRandom {k : Nat} {b : List Byte} (h : s₀.Keeps s) : s₀.Keeps (s.svcRandom k b).1 := by
  unfold State.svcRandom
  dsimp only
  refine .ite₁ h (.ite₁ h ?_)
  split
  · exact .logRefusal h
  · exact .ite₁ h (.memWrite (.update (.freshBytes h)))

theorem svcEncCreate {k : Nat} {b : List Byte} (h : s₀.Keeps s) : s₀.Keeps (s.svcEncCreate k b).1 := by
  unfold State.svcEncCreate
  dsimp only
  refine .ite₁ h (.ite₁ h ?_)
  split
  next ht => exact .of_eq ht (.memRead h)
  next ht =>
    have ht := of_eq ht (.memRead h)
    refine .ite₁ ht (.ite₁ (.verify ht) (.ite₁ (.verify ht) (.ite₁ (.verify ht) (.ite₁ (.verify ht) ?_))))
    split
    · exact .verify ht
    · split
      · exact .pair (.raise (.verify ht))
      · exact .setEnclave (.zeroSealed (.mapEntries (.verify ht)))

theorem writePieces {st : Stamp} :
    ∀ {l : List (Nat × Nat)} {d : List Byte} {s : State}, s₀.Keeps s → s₀.Keeps (s.writePieces st l d).1
  | [], _, _, h => h
  | _ :: r, _, _, h => .ite₁ (writePieces (l := r) (.memWrite h)) (.memWrite h)

theorem svcEncImport {k : Nat} {b : List Byte} (h : s₀.Keeps s) : s₀.Keeps (s.svcEncImport k b).1 := by
  unfold State.svcEncImport
  dsimp only
  refine .ite₁ h ?_
  split
  · exact h
  · refine .ite₁ h (.ite₁ h ?_)
    split
    next ht => exact .of_eq ht (.memRead h)
    next ht =>
      have ht := of_eq ht (.memRead h)
      refine .ite₁ ht ?_
      split
      · exact .writePieces ht
      · exact .pair (.raise (.writePieces ht))

theorem svcEncSeal {k : Nat} {b : List Byte} (h : s₀.Keeps s) : s₀.Keeps (s.svcEncSeal k b).1 := by
  unfold State.svcEncSeal
  dsimp only
  refine .ite₁ h ?_
  split
  · exact h
  · exact .setEnclave (.mapEntries h)

theorem svcEncDestroy {k : Nat} {b : List Byte} (h : s₀.Keeps s) : s₀.Keeps (s.svcEncDestroy k b).1 := by
  unfold State.svcEncDestroy
  dsimp only
  refine .ite₁ h ?_
  split
  · exact h
  · exact .ite₁ h (.destroyEnclave h)

theorem flushGls {status except : Nat} (h : s₀.Keeps s) : s₀.Keeps (s.flushGls status except) :=
  .foldl (fun _ _ h => .ite (.finishMbx h) h) h

theorem glsWrite {who : Who} {id : RegId} {ix size v hw : Nat} (h : s₀.Keeps s) :
    s₀.Keeps (s.glsWrite who id ix size v hw) := by
  unfold State.glsWrite
  dsimp only
  split
  · exact .regWrite h fun _ h => .ite (.wr (.setErr h)) (.wr h)
  · exact .regWrite h fun _ h => .regStore h
  · exact .regWrite h fun _ h => .regStore h

theorem openDebug {ports : Nat} (h : s₀.Keeps s) : s₀.Keeps (s.openDebug ports) :=
  .ifThen (.raise (.update h)) fun h => .raise (.update h)

theorem debugAccess {token : List Byte} {signer r sg : Nat} (h : s₀.Keeps s) :
    s₀.Keeps (s.debugAccess token signer r sg) :=
  .ite (.answer h) (.ite (.answer (.update (.freshBytes h)))
    (.ite (.answer (.openDebug h)) (.ite (.answer (.verify h)) (.answer (.openDebug (.update (.verify h)))))))

theorem jtagShift {tdi : List Bool} (h : s₀.Keeps s) : s₀.Keeps (s.jtagShift tdi) := by
  unfold State.jtagShift
  dsimp only
  split
  · exact .answer h
  · exact .answer h
  · exact .answer (.freshBytes h)

theorem resetSecurePins (h : s₀.Keeps s) : s₀.Keeps s.resetSecurePins := .update h

/-! ### Programs and contexts -/

theorem loadRefuse {f : LoadFail} {count : Nat} (h : s₀.Keeps s) : s₀.Keeps (s.loadRefuse f count).1 :=
  .ite₁ h (.update h)

theorem pickStore (h : s₀.Keeps s) : s₀.Keeps s.pickStore.2 := .update h

theorem loadCommit {st : Stamp} {l : LoadIn} {img : List Byte} {map_ : List (Nat × Nat)} {bindAddr mapAddr : Nat}
    (h : s₀.Keeps s) : s₀.Keeps (s.loadCommit st l img map_ bindAddr mapAddr).1 := by
  unfold State.loadCommit
  dsimp only
  split
  next ht => exact .of_eq ht (.memWrite h)
  next ht =>
    have ht := of_eq ht (.memWrite h)
    split
    next hu => exact .of_eq hu (.foldl₁ (fun _ _ h => .ite₁ (.pinCopy h) h) (.pickStore ht))
    next hu => exact .touch (.update (.of_eq hu (.foldl₁ (fun _ _ h => .ite₁ (.pinCopy h) h) (.pickStore ht))))

theorem readBinds {st : Stamp} {img : List Byte} {a : Nat} (h : s₀.Keeps s) : s₀.Keeps (s.readBinds st img a).1 :=
  .ite₁ h (.memRead h)

theorem loadImage {st : Stamp} {b img : List Byte} (h : s₀.Keeps s) : s₀.Keeps (s.loadImage st b img).1 := by
  unfold State.loadImage
  dsimp only
  split
  next ht => exact .of_eq ht (.readBinds h)
  next ht =>
    have ht := of_eq ht (.readBinds h)
    split
    · exact .loadCommit ht
    · exact .loadRefuse ht

theorem svcLoad {k : Nat} {b : List Byte} (h : s₀.Keeps s) : s₀.Keeps (s.svcLoad k b).1 := by
  unfold State.svcLoad
  dsimp only
  refine .ite₁ h ?_
  split
  next ht => exact .of_eq ht (.memRead h)
  next ht =>
    have ht := of_eq ht (.memRead h)
    refine .ite₁ (.loadRefuse ht) (.ite₁ (.loadRefuse ht) ?_)
    split
    · exact .loadRefuse ht
    · exact .ite₁ (.loadImage ht) (.loadRefuse ht)

theorem dropProg {slot : Nat} (h : s₀.Keeps s) : s₀.Keeps (s.dropProg slot) := .update h

theorem svcUnload {k : Nat} {b : List Byte} (h : s₀.Keeps s) : s₀.Keeps (s.svcUnload k b).1 :=
  .ite₁ h (.ite₁ h (.ite₁ h (.ite₁ h (.touch (.dropProg h)))))

theorem unreside {c n : Nat} (h : s₀.Keeps s) : s₀.Keeps (s.unreside c n) := by
  unfold State.unreside
  dsimp only
  refine .update ?_
  split
  · exact .vacate h
  · exact h

theorem dropCtx {c : Nat} (h : s₀.Keeps s) : s₀.Keeps (s.dropCtx c) := .update (.foldl (fun _ _ h => .unreside h) h)

theorem svcCtxCreate {k : Nat} {b : List Byte} (h : s₀.Keeps s) : s₀.Keeps (s.svcCtxCreate k b).1 := by
  unfold State.svcCtxCreate
  dsimp only
  refine .ite₁ h ?_
  split
  · exact h
  · exact .ite₁ h (.update h)

theorem svcCtxDestroy {k : Nat} {b : List Byte} (h : s₀.Keeps s) : s₀.Keeps (s.svcCtxDestroy k b).1 :=
  .ite₁ h (.ite₁ h (.ite₁ h (.touch (.dropCtx h))))

theorem svcCtxBind {k : Nat} {b : List Byte} (h : s₀.Keeps s) : s₀.Keeps (s.svcCtxBind k b).1 := by
  unfold State.svcCtxBind
  dsimp only
  refine .ite₁ h ?_
  split
  · exact h
  · exact .ite₁ h (.ite₁ h (.touch (.updCtx h)))

theorem svcCtxUnbind {k : Nat} {b : List Byte} (h : s₀.Keeps s) : s₀.Keeps (s.svcCtxUnbind k b).1 := by
  unfold State.svcCtxUnbind
  dsimp only
  refine .ite₁ h ?_
  split
  · exact h
  · exact .ite₁ h (.ite₁ h (.touch (.updCtx (.unreside h))))

theorem svcCtxStats {k : Nat} {b : List Byte} (h : s₀.Keeps s) : s₀.Keeps (s.svcCtxStats k b).1 := by
  unfold State.svcCtxStats
  dsimp only
  refine .ite₁ h ?_
  split
  · exact h
  · refine .ite₁ h ?_
    split
    next ht => exact .of_eq ht (.memWrite h)
    next ht => exact .of_eq ht (.memWrite h)

theorem reside {c n k : Nat} (h : s₀.Keeps s) : s₀.Keeps (s.reside c n k) :=
  .runMoves (.update (.ite h (.bedWrite h)))

theorem serveWaiter {x : State × List Nat} {w : Waiter} (h : s₀.Keeps x.1) : s₀.Keeps (State.serveWaiter x w).1 :=
  .ite₁ h (.foldl (fun _ _ h => .reside h) h)

theorem residencyTick (h : s₀.Keeps s) : s₀.Keeps s.residencyTick :=
  .ifElse (.touch h) fun h => .touch (.foldl₁ (fun _ _ h => .serveWaiter h) h)

end Sys2Proof.Machine.State.Keeps
end

section
/-! SUPPORT. `State.Keeps`, one rule per operation: displays, time and the Gateway. -/

namespace Sys2Proof.Machine.State.Keeps
open Sys2Proof

variable {s₀ s t : State}

/-! ### Displays -/

theorem setPipe {n : Nat} {x : DspPipe} (h : s₀.Keeps s) : s₀.Keeps (s.setPipe n x) := .update h

theorem commitPlane {n j : Nat} (h : s₀.Keeps s) : s₀.Keeps (s.commitPlane n j) := by
  unfold State.commitPlane
  dsimp only
  split
  · exact h
  · split
    · exact .raise h
    · exact .setPipe h

theorem dspLinkDown {n : Nat} {training : Bool} (h : s₀.Keeps s) : s₀.Keeps (s.dspLinkDown n training) :=
  .ite (.raise (.setPipe h)) h

theorem hpdRise {n : Nat} (h : s₀.Keeps s) : s₀.Keeps (s.hpdRise n) := .ite (.setPipe h) h

theorem dspWrite {who : Who} {id : RegId} {ix size v hw : Nat} (h : s₀.Keeps s) :
    s₀.Keeps (s.dspWrite who id ix size v hw) := by
  unfold State.dspWrite
  dsimp only
  split
  case h_7 => exact .regWrite h fun _ h => .ite (.commitPlane h) h
  all_goals exact .regWrite h fun _ h => .regStore h

theorem telltaleWrite {who : Who} {off : Nat} {data : List Byte} (h : s₀.Keeps s) :
    s₀.Keeps (s.telltaleWrite who off data) :=
  .ite (.update h) (.writerRefused h)

/-! ### Time -/

theorem putDomain {k : Nat} {d : DomainSt} (h : s₀.Keeps s) : s₀.Keeps (s.putDomain k d) := .update h

theorem retime (h : s₀.Keeps s) : s₀.Keeps s.retime := .ite (.update h) h

theorem setDomain {k : Nat} {d : DomainSt} (h : s₀.Keeps s) : s₀.Keeps (s.setDomain k d) := .retime (.putDomain h)

theorem clockCycle (h : s₀.Keeps s) : s₀.Keeps s.clockCycle := .ite h (.update h)

theorem applyRoles {k : Nat} (h : s₀.Keeps s) : s₀.Keeps (s.applyRoles k) := .ite h (.setDomain h)

theorem enterHoldover {k : Nat} (h : s₀.Keeps s) : s₀.Keeps (s.enterHoldover k) := .ite (.raiseOpen (.setDomain h)) h

theorem slaveLost {p : Nat} (h : s₀.Keeps s) : s₀.Keeps (s.slaveLost p) :=
  .foldl (fun _ _ h => .ite (.enterHoldover h) h) h

theorem logStep {k ns : Nat} (h : s₀.Keeps s) : s₀.Keeps (s.logStep k ns) := .raise h

theorem setPdelay {p : Nat} {x : PdelaySt} (h : s₀.Keeps s) : s₀.Keeps (s.setPdelay p x) :=
  .ifThen (.update h) fun h => .slaveLost (.raise h)

theorem pdelayInitiate {p : Nat} (h : s₀.Keeps s) : s₀.Keeps (s.pdelayInitiate p) := .ite h (.send (.setPdelay h))

theorem pdelayResp {p delay : Nat} (h : s₀.Keeps s) : s₀.Keeps (s.pdelayResp p delay) := .ite h (.setPdelay h)

theorem domCfgStore {k v hw : Nat} (h : s₀.Keeps s) : s₀.Keeps (s.domCfgStore k v hw) :=
  .ite (.setDomain (.regStore h)) (.ifThen (.regStore h) fun h => .setDomain h)

theorem timCfgStore {v hw : Nat} (h : s₀.Keeps s) : s₀.Keeps (s.timCfgStore v hw) :=
  .ite (.update (.regStore h)) (.retime (.regStore h))

theorem capture {c : Nat} (h : s₀.Keeps s) : s₀.Keeps (s.capture c) := .foldl (fun _ _ h => .wr h) (.wr (.wr h))

theorem stepDomain {k : Nat} {ns : Int} (h : s₀.Keeps s) : s₀.Keeps (s.stepDomain k ns) := .logStep (.setDomain h)

theorem timWrite {who : Who} {id : RegId} {ix size v hw : Nat} (h : s₀.Keeps s) :
    s₀.Keeps (s.timWrite who id ix size v hw) := by
  unfold State.timWrite
  dsimp only
  split
  case h_1 => exact .regWrite h fun _ h => .timCfgStore h
  case h_2 => exact .regWrite h fun _ h => .update (.regStore h)
  case h_3 => exact .regWrite h fun _ h => .domCfgStore h
  case h_4 => exact .regWrite h fun _ h => .applyRoles (.regStore h)
  case h_6 => exact .regWrite h fun _ h => .stepDomain h
  case h_8 => exact .regWrite h fun _ h => .ite (.capture h) h
  all_goals exact .regWrite h fun _ h => .regStore h

/-! ### The Gateway -/

theorem setNetPort {k : Nat} {p : PortNet} (h : s₀.Keeps s) : s₀.Keeps (s.setNetPort k p) := .update h

theorem setNetQueue {k tc : Nat} {l : List EthFrame} (h : s₀.Keeps s) : s₀.Keeps (s.setNetQueue k tc l) := .update h

theorem dropFrame {r : Nat} (h : s₀.Keeps s) : s₀.Keeps (s.dropFrame r) := .bump h

theorem setRing {r : Ring} {x : RingSt} (h : s₀.Keeps s) : s₀.Keeps (s.setRing r x) := .update h

theorem ringStop {r : Ring} (h : s₀.Keeps s) : s₀.Keeps (s.ringStop r) := .wr h

theorem ringWrites {r : Ring} : ∀ {l : List (Nat × List Byte)} {s : State}, s₀.Keeps s → s₀.Keeps (s.ringWrites r l)
  | [], _, h => h
  | _ :: _, _, h => by
    unfold State.ringWrites
    split
    next ht => exact ringWrites (.of_eq ht (.memWrite h))
    next ht => exact .ringStop (.of_eq ht (.memWrite h))

theorem ringAdvance {r : Ring} (h : s₀.Keeps s) : s₀.Keeps (s.ringAdvance r) := .ifThen (.wr h) fun h => .send h

theorem txPublish {r : Ring} : ∀ {fuel : Nat} {s : State}, s₀.Keeps s → s₀.Keeps (s.txPublish r fuel)
  | 0, _, h => h
  | _ + 1, _, h => by
    unfold State.txPublish
    dsimp only
    split
    · exact h
    · exact .ite (txPublish (.ringAdvance (.ringWrites (.setRing h)))) h

theorem txAnswer {r : Ring} {pos status : Nat} {stop : Bool} (h : s₀.Keeps s) :
    s₀.Keeps (s.txAnswer r pos status stop) :=
  .ifThen (.txPublish (.setRing h)) fun h => .ringStop h

theorem txUpdate {r : Ring} {pos : Nat} {f : TxRec → TxRec} (h : s₀.Keeps s) : s₀.Keeps (s.txUpdate r pos f) :=
  .txPublish (.setRing h)

theorem frameDone {f : EthFrame} {k : Nat} {at_ : Option Nat} {late : Bool} (h : s₀.Keeps s) :
    s₀.Keeps (s.frameDone f k at_ late) := by
  unfold State.frameDone
  split
  · exact h
  · exact .txUpdate h

theorem purge {k tc r : Nat} {p : EthFrame → Bool} (h : s₀.Keeps s) : s₀.Keeps (s.purge k tc r p) :=
  .foldl (fun _ _ h => .frameDone (.dropFrame h)) (.setNetQueue h)

theorem flowEcc {key : List Byte} {e : Option Bool} (h : s₀.Keeps s) : s₀.Keeps (s.flowEcc key e).1 := by
  unfold State.flowEcc
  split
  · exact h
  · dsimp only
    exact .raiseOpen h
  · exact .dropFrame (.update (.raiseOpen h))

theorem police {i len : Nat} (h : s₀.Keeps s) : s₀.Keeps (s.police i len).1 :=
  .ite₁ (.update h) (.bump (.dropFrame (.update h)))

theorem enqueueAll {f : EthFrame} {tc : Nat} :
    ∀ {l : List Nat} {s : State}, s₀.Keeps s → s₀.Keeps (s.enqueueAll f tc l).1
  | [], _, h => h
  | k :: r, s, h => by
    unfold State.enqueueAll
    split
    · exact enqueueAll (l := r) (.dropFrame h)
    · exact enqueueAll (l := r) (.setNetQueue h)

theorem flowLookup {ecc : Option (Fin 2 × Bool)} :
    ∀ {l : List (List Byte)} {i : Nat} {s : State}, s₀.Keeps s → s₀.Keeps (s.flowLookup ecc i l).1
  | [], _, _, h => h
  | _ :: _, _, _, h => by
    unfold State.flowLookup
    split
    next ht => exact .of_eq ht (.flowEcc h)
    next ht =>
      split
      · exact .of_eq ht (.flowEcc h)
      · exact flowLookup (.of_eq ht (.flowEcc h))

theorem forwardFrame {f : EthFrame} {pcp : Nat} {ecc : Option (Fin 2 × Bool)} (h : s₀.Keeps s) :
    s₀.Keeps (s.forwardFrame f pcp ecc).1 := by
  unfold State.forwardFrame
  dsimp only
  split
  next ht => exact .of_eq ht (.flowLookup h)
  next ht =>
    have ht := of_eq ht (.flowLookup h)
    refine .ite₁ (.dropFrame ht) ?_
    split
    next hu => exact .of_eq hu (.ite₁ (.police ht) ht)
    next hu => exact .enqueueAll (.of_eq hu (.ite₁ (.police ht) ht))

theorem ethReceive {k : Nat} {raw : List Byte} {ecc : Option (Fin 2 × Bool)} (h : s₀.Keeps s) :
    s₀.Keeps (s.ethReceive k raw ecc) :=
  .ite h (.ite (.dropFrame (.count h)) (.ite (.dropFrame (.count h)) (.ifElse (.count h) fun h => .forwardFrame h)))

theorem gateRefresh {k : Nat} (h : s₀.Keeps s) : s₀.Keeps (s.gateRefresh k) := by
  unfold State.gateRefresh
  dsimp only
  split
  · exact h
  · exact .setNetPort h

theorem selectReady {k : Nat} (h : s₀.Keeps s) : s₀.Keeps (s.selectReady k) :=
  .foldl (fun _ _ h => .purge h) (.gateRefresh h)

theorem transmitStart {k : Nat} (h : s₀.Keeps s) : s₀.Keeps (s.transmitStart k) := by
  unfold State.transmitStart
  extract_lets sel p
  have hsel : s₀.Keeps sel := .selectReady h
  clear_value sel
  refine .ite hsel ?_
  split
  · exact hsel
  · exact .setNetPort (.setNetQueue hsel)

theorem launchLate {f : EthFrame} {k work : Nat} (h : s₀.Keeps s) : s₀.Keeps (s.launchLate f k work).1 := by
  unfold State.launchLate
  dsimp only
  split
  · exact .ite₁ (.pair (.raise h)) h
  · exact h

theorem transmitEnd {k : Nat} (h : s₀.Keeps s) : s₀.Keeps (s.transmitEnd k) := by
  unfold State.transmitEnd
  dsimp only
  split
  · exact h
  · split
    · exact .send (.count (.setNetPort h))
    · exact .frameDone (.launchLate (.send (.count (.setNetPort h))))

theorem linkUp {k speed : Nat} (h : s₀.Keeps s) : s₀.Keeps (s.linkUp k speed) := .ite (.setNetPort h) h

theorem linkDown {k : Nat} (h : s₀.Keeps s) : s₀.Keeps (s.linkDown k) := .ite (.slaveLost (.raise (.setNetPort h))) h

theorem txInject {n pos : Nat} {d l : List Byte} {ecc : Option (Fin 2 × Bool)} (h : s₀.Keeps s) :
    s₀.Keeps (s.txInject n pos d l ecc) := by
  unfold State.txInject
  dsimp only
  exact .txPublish (.setRing (.ite₁ (.forwardFrame (.count h)) (.dropFrame (.count h))))

theorem txTake {n : Nat} {ecc : Option (Fin 2 × Bool)} (h : s₀.Keeps s) : s₀.Keeps (s.txTake n ecc) := by
  unfold State.txTake
  dsimp only
  refine .ite h ?_
  split
  next ht => exact .txAnswer (.of_eq ht (.memRead (.setRing h)))
  next ht =>
    have ht := of_eq ht (.memRead (.setRing h))
    split
    · exact .txAnswer ht
    · split
      next hu => exact .txAnswer (.of_eq hu (.memRead ht))
      next hu =>
        have hu := of_eq hu (.memRead ht)
        split
        · exact .txAnswer hu
        · exact .txInject hu

theorem rxFill {r : Ring} {data : List Byte} {info stamp : Nat} (h : s₀.Keeps s) :
    s₀.Keeps (s.rxFill r data info stamp).1 := by
  unfold State.rxFill
  dsimp only
  split
  next ht => exact .ringStop (.ringAdvance (.of_eq ht (.memRead (.setRing h))))
  next ht =>
    have ht := of_eq ht (.memRead (.setRing h))
    refine .ite₁ (.ringAdvance (.ringWrites ht)) ?_
    split
    next hu => exact .ringStop (.ringAdvance (.ringWrites (.of_eq hu (.memWrite ht))))
    next hu => exact .ringAdvance (.ringWrites (.of_eq hu (.memWrite ht)))

theorem rxDeliver {n : Nat} (h : s₀.Keeps s) : s₀.Keeps (s.rxDeliver n) := by
  unfold State.rxDeliver
  extract_lets r k sel
  have hsel : s₀.Keeps sel := .selectReady h
  clear_value sel
  refine .ite hsel ?_
  split
  · exact hsel
  · split
    next ht => exact .of_eq ht (.rxFill hsel)
    next ht => exact .frameDone (.launchLate (.count (.setNetQueue (.of_eq ht (.rxFill hsel)))))

theorem setFlwSlot {n : Nat} {x : FlwSlot} (h : s₀.Keeps s) : s₀.Keeps (s.setFlwSlot n x) := .update h

theorem flowApply {n op a : Nat} {r : List Byte} (h : s₀.Keeps s) : s₀.Keeps (s.flowApply n op a r) := by
  unfold State.flowApply
  dsimp only
  split
  · exact .update h
  · exact .update h
  · exact .memWrite h

theorem flowCommit {n : Nat} (h : s₀.Keeps s) : s₀.Keeps (s.flowCommit n) := by
  unfold State.flowCommit
  dsimp only
  split
  · exact h
  · split
    next ht => exact .setFlwSlot (.of_eq ht (.memRead h))
    next ht =>
      have ht := of_eq ht (.memRead h)
      split
      · exact .setFlwSlot (.logRefusal ht)
      · split
        · exact .setFlwSlot ht
        · exact .setFlwSlot (.flowApply ht)

theorem flwWrite {who : Who} {id : RegId} {ix size v hw : Nat} (h : s₀.Keeps s) :
    s₀.Keeps (s.flwWrite who id ix size v hw) := by
  unfold State.flwWrite
  dsimp only
  split
  case h_2 => exact .regWrite h fun _ h => .update (.regStore h)
  case h_5 => exact .regWrite h fun _ h => .setFlwSlot h
  all_goals exact .regWrite h fun _ h => .regStore h

theorem forgetDescs {n : Nat} (h : s₀.Keeps s) : s₀.Keeps (s.forgetDescs n) := .update h

theorem setCan {n : Nat} {c : CanSt} (h : s₀.Keeps s) : s₀.Keeps (s.setCan n c) := .update h

theorem ringCfgStore {r : Ring} {v hw : Nat} (h : s₀.Keeps s) : s₀.Keeps (s.ringCfgStore r v hw) := by
  unfold State.ringCfgStore
  dsimp only
  refine .ite ?_ (.regStore h)
  split
  · exact .forgetDescs (.setRing (.wr (.wr (.wr (.regStore h)))))
  · exact .setCan (.setRing (.wr (.wr (.wr (.regStore h)))))
  · exact .setCan (.setRing (.wr (.wr (.wr (.regStore h)))))
  · exact .setRing (.wr (.wr (.wr (.regStore h))))

theorem ringRegWrite {st : Stamp} {r : Ring} {id : RegId} {ix size v hw : Nat} {no : Option WRefusal}
    (h : s₀.Keeps s) : s₀.Keeps (s.ringRegWrite st r id ix size v hw no) :=
  .ite (.regWrite h fun _ h => .regStore h) (.ite (.regWrite h fun _ h => .ringCfgStore h)
    (.ite (.regWrite h fun _ h => .regStore h) (.regWrite h fun _ h => .regStore h)))

theorem portCfgStore {k v hw : Nat} (h : s₀.Keeps s) : s₀.Keeps (s.portCfgStore k v hw) :=
  .ifThen (.regStore h) fun h => .slaveLost (.setNetPort h)

theorem gwyWrite {who : Who} {id : RegId} {ix size v hw : Nat} (h : s₀.Keeps s) :
    s₀.Keeps (s.gwyWrite who id ix size v hw) := by
  unfold State.gwyWrite
  dsimp only
  split
  case h_1 => exact .ite (.lockRefused h) (.regWrite h fun _ h => .portCfgStore h)
  case h_2 | h_6 => exact .regWrite h fun _ h => .regStore h
  all_goals exact .ringRegWrite h

theorem sendSync {k ingress : Nat} {c : SyncCopy} (h : s₀.Keeps s) : s₀.Keeps (s.sendSync k ingress c) :=
  .enqueueAll h

theorem servo {k : Nat} {off : Int} (h : s₀.Keeps s) : s₀.Keeps (s.servo k off) :=
  .ite (.logStep (.setDomain h)) (.setDomain (.update h))

theorem syncReceive {p number origin : Nat} {corr ratio : Int} (h : s₀.Keeps s) :
    s₀.Keeps (s.syncReceive p number origin corr ratio) := by
  unfold State.syncReceive
  dsimp only
  split
  · exact h
  · exact .ifElse (.applyRoles h) fun h => .sendSync (.servo h)

theorem syncSend {k : Nat} (h : s₀.Keeps s) : s₀.Keeps (s.syncSend k) :=
  .ifElse (.applyRoles h) fun h => .foldl (fun _ _ h => .enqueueAll h) (.setDomain h)

theorem cancelTx {r : Ring} : ∀ {fuel : Nat} {s : State}, s₀.Keeps s → s₀.Keeps (s.cancelTx r fuel)
  | 0, _, h => h
  | n + 1, _, h => .ite (cancelTx (fuel := n) (.setRing h)) h

theorem cancelRing {r : Ring} (h : s₀.Keeps s) : s₀.Keeps (s.cancelRing r) := .txPublish (.cancelTx (.setRing h))

theorem netStopPlot {plot : Nat} (h : s₀.Keeps s) : s₀.Keeps (s.netStopPlot plot) :=
  .foldl (fun _ _ h => .wr (.wr (.foldl (fun _ _ h => .purge h) (.forgetDescs (.cancelRing h))))) h

end Sys2Proof.Machine.State.Keeps
end

section
/-! SUPPORT. `State.Keeps`, one rule per operation: boot, and the loader, which accepts a plan only where none is (R46). -/

namespace Sys2Proof.Machine.State.Keeps
open Sys2Proof

variable {s₀ s t : State}

/-! ### Boot and the loader -/

theorem logBootStep {e : JournalEntry} (h : s₀.Keeps s) : s₀.Keeps (s.logBootStep e) := .ite h (.raise h)

theorem addStep {step outcome status slot : Nat} {detail : List Byte} (h : s₀.Keeps s) :
    s₀.Keeps (s.addStep step outcome status slot detail) :=
  .ifThen (.update h) fun h => .logBootStep (.reservedPut h)

theorem closeJournal (h : s₀.Keeps s) : s₀.Keeps s.closeJournal := .flashPut (.ite (.reservedPut h) h)

theorem bootStop {step status slot : Nat} (h : s₀.Keeps s) : s₀.Keeps (s.bootStop step status slot) :=
  .update (.closeJournal (.addStep h))

theorem fwSigned {kind : Nat} {img : List Byte} (h : s₀.Keeps s) : s₀.Keeps (s.fwSigned kind img).1 :=
  .ite₁ h (.sigFail h)

theorem fwVerify {kind slot : Nat} {trial : Bool} (h : s₀.Keeps s) : s₀.Keeps (s.fwVerify kind slot trial).1 := by
  unfold State.fwVerify
  split
  refine .ite₁ h ?_
  dsimp only
  split
  next ht => exact .of_eq ht (.fwSigned h)
  next ht => exact .of_eq ht (.fwSigned h)

theorem setFw {kind : Nat} {f : FwRun} (h : s₀.Keeps s) : s₀.Keeps (s.setFw kind f) := .update h

theorem fwChoose {kind : Nat} (h : s₀.Keeps s) : s₀.Keeps (s.fwChoose kind).1 := by
  unfold State.fwChoose
  dsimp only
  split
  next ht => exact .of_eq ht (.fwVerify (.ite (.setKind h) h))
  next ht =>
    have ht := of_eq ht (.fwVerify (.ite (.setKind h) h))
    split
    next hu => exact .of_eq hu (.fwVerify ht)
    next hu => exact .of_eq hu (.fwVerify ht)

theorem fwStep {step kind : Nat} (h : s₀.Keeps s) : s₀.Keeps (s.fwStep step kind) := by
  unfold State.fwStep
  refine .ite h ?_
  split
  next ht => exact .addStep (.setFw (.of_eq ht (.fwChoose h)))
  next ht => exact .bootStop (.of_eq ht (.fwChoose h))

theorem glsStart {glsOk rngOk : Bool} (h : s₀.Keeps s) : s₀.Keeps (s.glsStart glsOk rngOk) :=
  .ite (.bootStop h) (.addStep (.ifElse (.update h) fun h => .raise (.fresh h)))

theorem controlStep (h : s₀.Keeps s) : s₀.Keeps s.controlStep := .ite h (.addStep (.update (.setControl h)))

theorem enableRails (h : s₀.Keeps s) : s₀.Keeps s.enableRails := .ite h (.update h)

theorem dramStep {noTrain : Nat} (h : s₀.Keeps s) : s₀.Keeps (s.dramStep noTrain) :=
  .ite h (.ite (.bootStop h) (.addStep (.update h)))

theorem startKeeper {f : FwRun} (h : s₀.Keeps s) : s₀.Keeps (s.startKeeper f) :=
  .foldl (fun _ _ h => .logBootStep h) (.update (.reservedPut h))

theorem keeperStep {bad : List Bool} (h : s₀.Keeps s) : s₀.Keeps (s.keeperStep bad) := by
  unfold State.keeperStep
  dsimp only
  refine .ite h ?_
  split
  · exact h
  · refine .ite (.addStep (.startKeeper h)) (.ite (.bootStop h) ?_)
    split
    next ht => exact .bootStop (.of_eq ht (.fwVerify (.addStep h)))
    next ht =>
      have ht := of_eq ht (.fwVerify (.addStep h))
      exact .ite (.bootStop (.addStep (.setFw ht))) (.addStep (.startKeeper (.addStep (.setFw ht))))

theorem selfTestStep {bad : List (Nat × Nat)} (h : s₀.Keeps s) : s₀.Keeps (s.selfTestStep bad) :=
  .ite h (.addStep (.update h))

theorem bootRetire {readable : Bool} (h : s₀.Keeps s) : s₀.Keeps (s.bootRetire readable) :=
  .ite h (.ite (.addStep h) (.addStep (.update h)))

theorem markRetired {readable : Bool} (h : s₀.Keeps s) : s₀.Keeps (s.markRetired readable) :=
  .ite (.foldl (fun _ _ h => .setEntry h) h) h

theorem injection {fail : Option (Nat × Bool)} (h : s₀.Keeps s) : s₀.Keeps (s.injection fail) := by
  unfold State.injection
  dsimp only
  split
  · exact .update h
  · exact .raise (.update h)

theorem gthStep {fail : Option (Nat × Bool)} (h : s₀.Keeps s) : s₀.Keeps (s.gthStep fail) := by
  unfold State.gthStep
  dsimp only
  refine .ite h ?_
  split
  next ht => exact .addStep (.of_eq ht (.fwChoose h))
  next ht =>
    have ht := of_eq ht (.fwChoose h)
    exact .ite (.addStep (.update (.injection (.setFw ht)))) (.addStep (.update (.injection (.setFw ht))))

theorem checkSlot {slot : Nat} (h : s₀.Keeps s) : s₀.Keeps (s.checkSlot slot).1 := by
  unfold State.checkSlot
  dsimp only
  refine .ite₁ h ?_
  split
  next ht => exact .of_eq ht (.verify h)
  next ht => exact .of_eq ht (.verify h)

theorem logFails {slot : Nat} {fs : List PlanFail} (h : s₀.Keeps s) : s₀.Keeps (s.logFails slot fs) :=
  .update (.foldl (fun _ _ h => .raise h) h)

theorem loadGolden {p : Plan} (h : s₀.Keeps s) : s₀.Keeps (s.loadGolden p) :=
  .foldl (fun _ _ h => .wr (.wr (.memWrite h))) h

/-- The loader's plan leaves what stood before only where none was accepted. -/
theorem acceptPlan {p : Plan} {slot : Nat} {readable : Bool} (hn : s₀.plan = none) (h : s₀.Keeps s) :
    s₀.Keeps (s.acceptPlan p slot readable) := by
  unfold State.acceptPlan
  split
  next ht =>
  have ht := of_eq₂ ht (.fresh h)
  extract_lets _ _ _ accepted marked limits beds ports pipes joined
  have haccepted : s₀.Keeps accepted := ⟨ht.1, fun q hq => by simp [hn] at hq⟩
  have hpipes : s₀.Keeps pipes :=
    .foldl (fun _ _ h => .setPipe h) (.foldl (fun _ _ h => .wr h)
      (.foldl (fun _ _ h => .wr (.setBed h)) (.wr (.wr (.markRetired haccepted)))))
  exact .loadGolden (.ite (.update hpipes) (.foldl (fun _ _ h => .setElxPort h) (.update hpipes)))

theorem noPlan {readable : Bool} (h : s₀.Keeps s) : s₀.Keeps (s.noPlan readable) := by
  unfold State.noPlan
  dsimp only
  exact .raise (.update (.markRetired h))

theorem planStep {readable : Bool} (h : s₀.Keeps s) : s₀.Keeps (s.planStep readable) := by
  unfold State.planStep
  split
  next => exact h
  next hopen =>
    have hn : s₀.plan = none := by
      refine Option.eq_none_iff_forall_ne_some.2 fun p hp => hopen ?_
      simp [h.2 p hp]
    refine .ite (.noPlan (.addStep h)) ?_
    split
    next ht =>
      extract_lets logged _ _ _ tried
      have hlogged : s₀.Keeps logged := .logFails (.of_eq ht (.checkSlot h))
      clear_value logged
      split
      · exact .acceptPlan hn (.addStep hlogged)
      · extract_lets late
        have htried : s₀.Keeps tried := .update hlogged
        refine .ite (.noPlan (.addStep hlogged)) (.ite (.noPlan (.addStep hlogged)) ?_)
        split
        next hu =>
          have hb := of_eq hu (.checkSlot htried)
          dsimp only
          split
          · exact .acceptPlan hn (.addStep (.raise (.logFails hb)))
          · exact .noPlan (.addStep (.logFails hb))

theorem bootSteps {b : BootIn} (h : s₀.Keeps s) : s₀.Keeps (s.bootSteps b) :=
  .planStep (.gthStep (.bootRetire (.selfTestStep (.keeperStep (.dramStep h)))))

theorem keepTrial {kind : Nat} (h : s₀.Keeps s) : s₀.Keeps (s.keepTrial kind) := by
  unfold State.keepTrial
  split
  · exact .ite (.setKind h) h
  · exact h

theorem firstKick (h : s₀.Keeps s) : s₀.Keeps s.firstKick :=
  .touch (.closeJournal (.addStep (.foldl (fun _ _ h => .keepTrial h) (.update (.addStep h)))))

theorem startFails (h : s₀.Keeps s) : s₀.Keeps s.startFails := .addStep (.update h)

theorem xspiMode {sfdp8d : Bool} (h : s₀.Keeps s) : s₀.Keeps (s.xspiMode sfdp8d) := .update h

end Sys2Proof.Machine.State.Keeps
end

section
/-! SUPPORT. `State.Keeps`, one rule per operation: CAN and LIN, checksum units, the Grove and sensors. -/

namespace Sys2Proof.Machine.State.Keeps
open Sys2Proof

variable {s₀ s t : State}

/-! ### CAN and LIN -/

theorem canOff {n : Nat} (h : s₀.Keeps s) : s₀.Keeps (s.canOff n) := .cancelRing (.cancelRing (.setCan h))

theorem canSettle {n : Nat} (h : s₀.Keeps s) : s₀.Keeps (s.canSettle n) := .ite (.canOff h) h

theorem canSettleAll (h : s₀.Keeps s) : s₀.Keeps s.canSettleAll := .foldl (fun _ _ h => .canSettle h) h

theorem canTake {n x : Nat} (h : s₀.Keeps s) : s₀.Keeps (s.canTake n x) := by
  unfold State.canTake
  dsimp only
  split
  next ht => exact .txAnswer (.of_eq ht (.memRead (.setRing h)))
  next ht =>
    have ht := of_eq ht (.memRead (.setRing h))
    refine .ite (.txAnswer ht) ?_
    split
    next hu => exact .txAnswer (.of_eq hu (.memRead ht))
    next hu =>
      have hu := of_eq hu (.memRead ht)
      refine .ite (.txAnswer hu) ?_
      split
      · exact .txAnswer hu
      · exact .setCan (.setRing hu)

theorem canOffer {n x : Nat} (h : s₀.Keeps s) : s₀.Keeps (s.canOffer n x) := .ite (.setCan h) (.canTake h)

theorem canArbitrate {n : Nat} (h : s₀.Keeps s) : s₀.Keeps (s.canArbitrate n) :=
  .ifElse (.canSettle h) fun h => .ite (.canOffer h) (.ite (.canOffer h) h)

theorem canTxDone {n result err tec rec_ : Nat} (h : s₀.Keeps s) : s₀.Keeps (s.canTxDone n result err tec rec_) := by
  unfold State.canTxDone
  dsimp only
  split
  · exact h
  · split
    · exact h
    · exact .canSettle (.ite (.send (.txUpdate (.setCan h))) (.ite (.txUpdate (.setCan h)) (.setCan h)))

theorem canDeliver {n : Nat} {b : List Byte} {stamp : Nat} :
    ∀ {fuel : Nat} {s : State}, s₀.Keeps s → s₀.Keeps (s.canDeliver n b stamp fuel)
  | 0, _, h => .bump h
  | _ + 1, _, h => by
    unfold State.canDeliver
    refine .ite (.bump h) ?_
    split
    next ht => exact .of_eq ht (.rxFill h)
    next ht => exact canDeliver (.of_eq ht (.rxFill h))

theorem canReceive {n : Nat} {b : List Byte} {stamp rec_ : Nat} (h : s₀.Keeps s) :
    s₀.Keeps (s.canReceive n b stamp rec_) :=
  .ifElse (.canSettle h) fun h => .ifThen (.setCan h) fun h => .canDeliver h

theorem canPassive {n tec rec_ : Nat} (h : s₀.Keeps s) : s₀.Keeps (s.canPassive n tec rec_) :=
  .ite (.raise (.setCan h)) h

theorem canBusOff {n err : Nat} (h : s₀.Keeps s) : s₀.Keeps (s.canBusOff n err) := .ite (.raise (.setCan h)) h

theorem canRecover {n : Nat} (h : s₀.Keeps s) : s₀.Keeps (s.canRecover n) := .ite (.canSettle (.setCan h)) h

theorem canCfgStore {n v hw : Nat} (h : s₀.Keeps s) : s₀.Keeps (s.canCfgStore n v hw) :=
  .ite (.canSettle (.setCan (.regStore h))) (.ifThen (.regStore h) fun h => .setCan h)

theorem setLin {l : Nat} {x : LinSt} (h : s₀.Keeps s) : s₀.Keeps (s.setLin l x) := .update h

theorem linStart {l v : Nat} (h : s₀.Keeps s) : s₀.Keeps (s.linStart l v) := .ite h (.send (.setLin h))

theorem linClose {l err : Nat} (h : s₀.Keeps s) : s₀.Keeps (s.linClose l err) := .setLin h

theorem linEnd {l : Nat} {data : List Byte} {sum : Nat} {framing bitErr : Bool} (h : s₀.Keeps s) :
    s₀.Keeps (s.linEnd l data sum framing bitErr) := by
  unfold State.linEnd
  dsimp only
  split
  · exact h
  · exact .ite (.linClose h) (.ite (.linClose h) (.linClose (.wr h)))

theorem linNoResponse {l : Nat} (h : s₀.Keeps s) : s₀.Keeps (s.linNoResponse l) := by
  unfold State.linNoResponse
  split
  · exact h
  · exact .ite h (.linClose h)

theorem canWrite {who : Who} {id : RegId} {ix size v hw : Nat} (h : s₀.Keeps s) :
    s₀.Keeps (s.canWrite who id ix size v hw) := by
  unfold State.canWrite
  dsimp only
  split
  case h_1 => exact .regWrite h fun _ h => .canCfgStore h
  case h_6 | h_7 | h_8 => exact .ringRegWrite h
  case h_9 => exact .regWrite h fun _ h => .ifElse (.regStore h) fun h => .setLin h
  case h_10 => exact .regWrite h fun _ h => .linStart h
  all_goals exact .regWrite h fun _ h => .regStore h

/-! ### Checksum units -/

theorem setCvu {u : Nat} {x : CvuSt} (h : s₀.Keeps s) : s₀.Keeps (s.setCvu u x) := .update h

theorem cvuStart {u v : Nat} (h : s₀.Keeps s) : s₀.Keeps (s.cvuStart u v) := .ite h (.setCvu h)

theorem cvuFinal {c : CrcSet} {reg : Nat} (h : s₀.Keeps s) : s₀.Keeps (s.cvuFinal c reg).1 := .ite₁ h (.update h)

theorem cvuRun {u op : Nat} {fromValue : Bool} {b : List Byte} (h : s₀.Keeps s) :
    s₀.Keeps (s.cvuRun u op fromValue b).1 := by
  unfold State.cvuRun
  dsimp only
  refine .ite₁ (.wr h) ?_
  split
  · split
    next ht => exact .wr (.wr (.of_eq ht (.memWrite (.cvuFinal h))))
    next ht => exact .of_eq ht (.memWrite (.cvuFinal h))
  · exact .wr (.wr (.cvuFinal h))
  · exact .wr (.wr (.cvuFinal h))

theorem cvuDone {u : Nat} (h : s₀.Keeps s) : s₀.Keeps (s.cvuDone u) := by
  unfold State.cvuDone
  dsimp only
  split
  · exact h
  · refine .ite (.setCvu h) ?_
    split
    next ht => exact .setCvu (.of_eq ht (.memRead h))
    next ht => exact .setCvu (.cvuRun (.of_eq ht (.memRead h)))

theorem cvuWrite {who : Who} {id : RegId} {ix size v hw : Nat} (h : s₀.Keeps s) :
    s₀.Keeps (s.cvuWrite who id ix size v hw) := by
  unfold State.cvuWrite
  dsimp only
  split
  case h_2 => exact .regWrite h fun _ h => .cvuStart h
  all_goals exact .regWrite h fun _ h => .regStore h

/-! ### The Grove -/

theorem portDown {k cause peer : Nat} (h : s₀.Keeps s) : s₀.Keeps (s.portDown k cause peer) := .raise h

theorem leavePort {k : Nat} (h : s₀.Keeps s) : s₀.Keeps (s.leavePort k) :=
  .ite (.portFlush h) (.foldl (fun _ _ h => .elxSend h) (.setElxPort h))

theorem portTrain {k lanes : Nat} (h : s₀.Keeps s) : s₀.Keeps (s.portTrain k lanes) :=
  .ite h (.leavePort (.rerouted (.ifThen (.ifThen (.ifElse (.setElxPort h) fun h => .raise h) fun h =>
    .portDown h) fun h => .portCtrl h)))

theorem portRetrain {k : Nat} (h : s₀.Keeps s) : s₀.Keeps (s.portRetrain k) :=
  .ite (.rerouted (.bump (.setElxPort h))) h

theorem linkHello {k grove peerPort : Nat} (h : s₀.Keeps s) : s₀.Keeps (s.linkHello k grove peerPort) :=
  .ite h (.ifElse (.setElxPort h) fun h => .leavePort (.rerouted (.portDown h)))

theorem channelAnswer {n c w : Nat} (h : s₀.Keeps s) : s₀.Keeps (s.channelAnswer n c w) := by
  unfold State.channelAnswer
  dsimp only
  split
  · exact .ifThen (.setBed h) fun h => .endCopy h
  · refine .ite (.setBed h) ?_
    split
    · exact .ifElse (.setBed h) fun h => .touch (.endCommand h)
    · exact .setBed h

theorem remoteAnswer {x : RemoteOp} {status : Nat} {data : List Byte} (h : s₀.Keeps s) :
    s₀.Keeps (s.remoteAnswer x status data) := by
  unfold State.remoteAnswer
  split
  · exact h
  · exact .channelAnswer (.ite₁ (.putShare h) h)
  · exact .channelAnswer (.ite₁ (.memWrite h) h)

theorem remoteComplete {o : RemoteOp} {status : Nat} {data : List Byte} (h : s₀.Keeps s) :
    s₀.Keeps (s.remoteComplete o status data) :=
  .send (.remoteAnswer (.update h))

theorem elxAnswer {m : ElxMsg} (h : s₀.Keeps s) : s₀.Keeps (s.elxAnswer m) := by
  unfold State.elxAnswer
  split
  · exact .elxPump (.remoteComplete h)
  · exact h

theorem elxCause {cause dev : Nat} (h : s₀.Keeps s) : s₀.Keeps (s.elxCause cause dev) := .update h

theorem logLeftOut {cause dev : Nat} (h : s₀.Keeps s) : s₀.Keeps (s.logLeftOut cause dev) := .raise h

theorem standalone {cause : Nat} (h : s₀.Keeps s) : s₀.Keeps (s.standalone cause) := .update (.elxCause h)

theorem abortRemote {mask : Nat} (h : s₀.Keeps s) : s₀.Keeps (s.abortRemote mask) :=
  .foldl (fun _ _ h => .remoteComplete h) h

theorem abortSpanning (h : s₀.Keeps s) : s₀.Keeps s.abortSpanning := .update (.foldl (fun _ _ h => .endCommand h) h)

theorem abortSpaces (h : s₀.Keeps s) : s₀.Keeps s.abortSpaces := by
  unfold State.abortSpaces
  dsimp only
  refine .foldl (fun t x h => ?_) h
  split
  · exact .setSpace (.abortGroveStep h)
  · exact .abortGroveStep h

theorem applyAbort {mask cause : Nat} {recMask : Nat} (h : s₀.Keeps s) : s₀.Keeps (s.applyAbort mask cause recMask) :=
  .touch (.update (.raise (.abortSpaces (.abortSpanning (.abortRemote h)))))

theorem expelledDevice {mask : Nat} (h : s₀.Keeps s) : s₀.Keeps (s.expelledDevice mask).2 := by
  unfold State.expelledDevice
  split
  · exact h
  · exact .update h

theorem applyExpel {mask cause : Nat} (h : s₀.Keeps s) : s₀.Keeps (s.applyExpel mask cause) := by
  unfold State.applyExpel
  dsimp only
  exact .applyAbort (.elxCause (.expelledDevice (.rerouted (.update h))))

theorem leaveGrove {cause recMask : Nat} (h : s₀.Keeps s) : s₀.Keeps (s.leaveGrove cause recMask) :=
  .standalone (.applyAbort h)

theorem setPeer {d : Nat} {x : MemberSt} (h : s₀.Keeps s) : s₀.Keeps (s.setPeer d x) := .update h

theorem expel {mask cause : Nat} (h : s₀.Keeps s) : s₀.Keeps (s.expel mask cause) :=
  .applyExpel (.foldl (fun _ _ h => .sendCtrl h) h)

theorem sendJoin (h : s₀.Keeps s) : s₀.Keeps s.sendJoin := .sendCtrl (.update h)

theorem join {d : Nat} {digest : List Byte} {fw feat : Nat} {delta : Int} (h : s₀.Keeps s) :
    s₀.Keeps (s.join d digest fw feat delta) := by
  unfold State.join
  dsimp only
  refine .ite h ?_
  split
  · exact .sendCtrl (.update (.setPeer h))
  · exact .sendCtrl (.logLeftOut (.elxCause (.setPeer h)))

theorem leftOut {cause : Nat} (h : s₀.Keeps s) : s₀.Keeps (s.leftOut cause) := .ite (.standalone (.logLeftOut h)) h

theorem formationEnd (h : s₀.Keeps s) : s₀.Keeps s.formationEnd :=
  .ite (.rerouted (.foldl (fun _ _ h => .sendCtrl h) (.update h))) h

theorem formed {mask hb : Nat} (h : s₀.Keeps s) : s₀.Keeps (s.formed mask hb) := .ite (.rerouted (.update h)) h

theorem noMaster (h : s₀.Keeps s) : s₀.Keeps s.noMaster :=
  .ite (.ite (.standalone (.logLeftOut h)) h) (.ite (.leaveGrove h) h)

theorem discipline {delta : Int} {interval : Nat} (h : s₀.Keeps s) : s₀.Keeps (s.discipline delta interval) :=
  .update h

theorem timeResult {delta : Int} (h : s₀.Keeps s) : s₀.Keeps (s.timeResult delta) :=
  .ifThen (.discipline (.update h)) fun h => .sendJoin h

theorem timeDue (h : s₀.Keeps s) : s₀.Keeps s.timeDue := .ite (.sendCtrl (.update h)) h

theorem timeRequest {d : Nat} {times : Option (Nat × Nat × Nat)} (h : s₀.Keeps s) :
    s₀.Keeps (s.timeRequest d times) := by
  unfold State.timeRequest
  dsimp only
  refine .ite h (.sendCtrl ?_)
  split
  · exact .setPeer h
  · exact h

theorem timeReply {delta : Option Int} {tol hb ta : Nat} (h : s₀.Keeps s) :
    s₀.Keeps (s.timeReply delta tol hb ta) := by
  unfold State.timeReply
  dsimp only
  refine .ite h ?_
  split
  · exact .timeResult (.update h)
  · exact .update h

theorem heartbeat {at_ : Nat} {delta : Int} (h : s₀.Keeps s) : s₀.Keeps (s.heartbeat at_ delta) :=
  .ite (.sendCtrl (.discipline (.update h))) h

theorem heartbeatSend (h : s₀.Keeps s) : s₀.Keeps s.heartbeatSend :=
  .ite (.foldl (fun _ _ h => .sendCtrl (.setPeer h)) (.update h)) h

theorem heartbeatReply {d ta tb tc : Nat} (h : s₀.Keeps s) : s₀.Keeps (s.heartbeatReply d ta tb tc) :=
  .ite (.ifThen (.setPeer h) fun h => .expel h) h

theorem countMiss {d : Nat} (h : s₀.Keeps s) : s₀.Keeps (s.countMiss d) := by
  unfold State.countMiss
  dsimp only
  split
  · exact h
  · exact .setPeer h

theorem heartbeatMissed {d : Nat} (h : s₀.Keeps s) : s₀.Keeps (s.heartbeatMissed d) :=
  .ite (.ifThen (.countMiss h) fun h => .expel h) h

theorem expelReceived {mask cause : Nat} (h : s₀.Keeps s) : s₀.Keeps (s.expelReceived mask cause) :=
  .ite (.ite (.leaveGrove h) (.applyExpel h)) h

theorem halfWindow (h : s₀.Keeps s) : s₀.Keeps s.halfWindow := .ite (.sendJoin h) h

theorem elxWrite {who : Who} {id : RegId} {ix size v hw : Nat} (h : s₀.Keeps s) :
    s₀.Keeps (s.elxWrite who id ix size v hw) := by
  unfold State.elxWrite
  dsimp only
  split <;> exact .regWrite h fun _ h => .regStore h

/-! ### Sensors -/

theorem setStream {n : Nat} {x : SnsStream} (h : s₀.Keeps s) : s₀.Keeps (s.setStream n x) := .update h

theorem abandon {n : Nat} {p : SnsFrame → Bool} (h : s₀.Keeps s) : s₀.Keeps (s.abandon n p) := .bump (.setStream h)

theorem unstart {n : Nat} (h : s₀.Keeps s) : s₀.Keeps (s.unstart n) := .ite h (.wr (.setStream (.update h)))

theorem streamOff {n : Nat} (h : s₀.Keeps s) : s₀.Keeps (s.streamOff n) := .abandon (.wr (.unstart h))

theorem snsStopPlot {plot : Nat} (h : s₀.Keeps s) : s₀.Keeps (s.snsStopPlot plot) :=
  .foldl (fun _ _ h => .streamOff h) h

theorem snsHeader {k hdr : Nat} (h : s₀.Keeps s) : s₀.Keeps (s.snsHeader k hdr).1 :=
  .ite₁ h (.ite₁ (.bump h) (.update (.ite (.bump h) h)))

theorem frameDrop {n why count : Nat} (h : s₀.Keeps s) : s₀.Keeps (s.frameDrop n why count) := .raise (.bump h)

theorem frameAccept {r : StreamRec} {fnum : Nat} (h : s₀.Keeps s) : s₀.Keeps (s.frameAccept r fnum) :=
  .ite (.frameDrop (.setStream (.ifThen (.wr h) fun h => .update h)))
    (.ifElse (.setStream (.ifThen (.wr h) fun h => .update h)) fun h => .raise h)

theorem streamStart {r : StreamRec} {fnum : Nat} (h : s₀.Keeps s) : s₀.Keeps (s.streamStart r fnum) :=
  .ite h (.ite (.frameDrop (.setStream (.update (.setStream h)))) (.frameAccept (.setStream h)))

theorem frameStart {k vc fnum hdr : Nat} (h : s₀.Keeps s) : s₀.Keeps (s.frameStart k vc fnum hdr) := by
  unfold State.frameStart
  dsimp only
  split
  next ht => exact .of_eq ht (.snsHeader h)
  next ht =>
    have ht := of_eq ht (.snsHeader h)
    exact .ite (.bump ht) (.foldl (fun _ _ h => .streamStart h) ht)

theorem addLine {r : StreamRec} {b : List Byte} {golden : Bool} (h : s₀.Keeps s) : s₀.Keeps (s.addLine r b golden) :=
  .setStream (.ite (.bump h) h)

theorem goldenLine {r : StreamRec} {i : Nat} (h : s₀.Keeps s) : s₀.Keeps (s.goldenLine r i) := by
  unfold State.goldenLine
  refine .ite h ?_
  split
  next ht => exact .addLine (.of_eq ht (.memRead h))
  next ht => exact .addLine (.of_eq ht (.memRead h))

theorem lineArrives {r : StreamRec} {b : List Byte} {crcOk : Bool} (h : s₀.Keeps s) :
    s₀.Keeps (s.lineArrives r b crcOk) := by
  unfold State.lineArrives
  dsimp only
  split
  · exact h
  · exact .ifElse (.setStream h) fun h => .ite (.goldenLine h) (.addLine h)

theorem longPacket {k vc dt hdr : Nat} {b : List Byte} {crcOk : Bool} (h : s₀.Keeps s) :
    s₀.Keeps (s.longPacket k vc dt hdr b crcOk) := by
  unfold State.longPacket
  dsimp only
  split
  next ht => exact .of_eq ht (.snsHeader h)
  next ht =>
    have ht := of_eq ht (.snsHeader h)
    split
    · exact .bump (.ite ht (.bump ht))
    · exact .lineArrives (.ite ht (.bump ht))

theorem streamEnd {r : StreamRec} (h : s₀.Keeps s) : s₀.Keeps (s.streamEnd r) := by
  unfold State.streamEnd
  dsimp only
  split
  · exact h
  · exact .setStream (.ite (.foldl (fun _ _ h => .goldenLine h) h) h)

theorem frameEnd {k vc hdr : Nat} (h : s₀.Keeps s) : s₀.Keeps (s.frameEnd k vc hdr) := by
  unfold State.frameEnd
  dsimp only
  split
  next ht => exact .of_eq ht (.snsHeader h)
  next ht =>
    have ht := of_eq ht (.snsHeader h)
    exact .ite (.bump ht) (.foldl (fun _ _ h => .streamEnd h) ht)

theorem ispLine {isp : Nat} (h : s₀.Keeps s) : s₀.Keeps (s.ispLine isp) := by
  unfold State.ispLine
  dsimp only
  split
  · exact h
  · exact .ite h (.setStream h)

theorem framePayload {r : StreamRec} {f : SnsFrame} (h : s₀.Keeps s) : s₀.Keeps (s.framePayload r f).1 :=
  .ite₁ h (.update h)

theorem frozenCheck {n : Nat} {f : SnsFrame} {sig : Nat} (h : s₀.Keeps s) : s₀.Keeps (s.frozenCheck n f sig).1 :=
  .ite₁ h (.ite₁ (.setStream h) (.ifElse (.setStream h) fun h => .raise h))

theorem goldenCheck {n : Nat} {f : SnsFrame} {sig : Nat} (h : s₀.Keeps s) : s₀.Keeps (s.goldenCheck n f sig).1 :=
  .ite₁ (.raise h) h

theorem frameEndTime {n : Nat} {f : SnsFrame} (h : s₀.Keeps s) : s₀.Keeps (s.frameEndTime n f).2 := by
  unfold State.frameEndTime
  split
  · exact h
  · split
    · exact .ite₂ (.update h) h
    · exact .update h

theorem streamStopped {n : Nat} (h : s₀.Keeps s) : s₀.Keeps (s.streamStopped n) := .setStream (.streamOff h)

theorem announce {r : StreamRec} {f : SnsFrame} (h : s₀.Keeps s) : s₀.Keeps (s.announce r f) :=
  .ifThen (.ifThen (.ifThen (.update (.wr (.wr (.setStream h)))) fun h => .semAddBy h) fun h => .send h) fun h =>
    .raise (.bump h)

theorem publishFrame {r : StreamRec} {f : SnsFrame} (h : s₀.Keeps s) : s₀.Keeps (s.publishFrame r f) := by
  unfold State.publishFrame
  dsimp only
  split
  next ht => exact .streamStopped (.of_eq ht (.memWrite (.framePayload h)))
  next ht =>
    have ht := of_eq ht (.memWrite (.framePayload h))
    split
    next hu => exact .streamStopped (.of_eq hu (.memWrite (.frameEndTime (.goldenCheck (.frozenCheck ht)))))
    next hu => exact .announce (.of_eq hu (.memWrite (.frameEndTime (.goldenCheck (.frozenCheck ht)))))

theorem framePublish {n : Nat} (h : s₀.Keeps s) : s₀.Keeps (s.framePublish n) := by
  unfold State.framePublish
  split
  · exact .ite (.publishFrame h) h
  · exact h

theorem frameMiss {n sev : Nat} {f : SnsFrame} (h : s₀.Keeps s) : s₀.Keeps (s.frameMiss n sev f) :=
  .ite (.abandon (.raise (.bump h))) (.setStream (.raise (.bump h)))

theorem frameDeadline {n : Nat} (h : s₀.Keeps s) : s₀.Keeps (s.frameDeadline n) := by
  unfold State.frameDeadline
  split
  · exact h
  · exact .ite h (.foldl (fun _ _ h => .frameMiss h) h)

theorem goldenWindowEnd {n : Nat} (h : s₀.Keeps s) : s₀.Keeps (s.goldenWindowEnd n) := by
  unfold State.goldenWindowEnd
  dsimp only
  split
  · exact h
  · exact .foldl (fun _ _ h => .abandon (.raise (.bump h))) (.update h)

theorem frameMissing {n : Nat} (h : s₀.Keeps s) : s₀.Keeps (s.frameMissing n) := by
  unfold State.frameMissing
  dsimp only
  split
  · exact .ite h (.ifElse (.bump (.setStream h)) fun h => .raise h)
  · exact h

theorem snsCfgStore {r : StreamRec} {st : Stamp} {v hw : Nat} (h : s₀.Keeps s) : s₀.Keeps (s.snsCfgStore r st v hw) :=
  .ite (.ite (.writerRefused h) (.setStream (.wr (.wr (.regStore h))))) (.ifThen (.regStore h) fun h => .streamOff h)

theorem rdStore {n v hw : Nat} (h : s₀.Keeps s) : s₀.Keeps (s.rdStore n v hw) := by
  unfold State.rdStore
  dsimp only
  exact .regStore (.setStream h)

theorem streamWrite {who : Who} {id : RegId} {n size v hw : Nat} (h : s₀.Keeps s) :
    s₀.Keeps (s.streamWrite who id n size v hw) := by
  unfold State.streamWrite
  dsimp only
  split
  case h_1 =>
    split
    · exact .regWrite h fun _ h => .regStore h
    · exact .regWrite h fun _ h => .snsCfgStore h
  case h_5 => exact .regWrite h fun _ h => .rdStore h
  all_goals exact .regWrite h fun _ h => .regStore h

theorem snsWrite {who : Who} {id : RegId} {ix size v hw : Nat} (h : s₀.Keeps s) :
    s₀.Keeps (s.snsWrite who id ix size v hw) := by
  unfold State.snsWrite
  split
  case h_10 => exact .streamWrite h
  all_goals exact .regWrite h fun _ h => .regStore h

end Sys2Proof.Machine.State.Keeps
end

section
/-! SUPPORT. `State.Keeps`, one rule per operation: the Gatehouse, the host interface and the Keeper. -/

namespace Sys2Proof.Machine.State.Keeps
open Sys2Proof

variable {s₀ s t : State}

/-! ### The Gatehouse -/

theorem setTask {t : Nat} {x : TaskSt} (h : s₀.Keeps s) : s₀.Keeps (s.setTask t x) := .update h

theorem readSample {st : Stamp} {r : RuleRec} {a : Nat} (h : s₀.Keeps s) : s₀.Keeps (s.readSample st r a).1 := by
  unfold State.readSample
  split
  next ht => exact .of_eq ht (.memRead h)
  next ht => exact .of_eq ht (.memRead h)

theorem judgeSamples {r : RuleRec} {last : Option (List Nat)} (h : s₀.Keeps s) :
    s₀.Keeps (s.judgeSamples r last).1 := by
  unfold State.judgeSamples
  dsimp only
  split
  next ht => exact .of_eq ht (.readSample h)
  next ht =>
    have ht := of_eq ht (.readSample h)
    refine .ite₁ ht ?_
    split
    next hu => exact .of_eq hu (.readSample ht)
    next hu => exact .of_eq hu (.readSample ht)

theorem verdictOf {r : RuleRec} {x : RuleSt} {new : Nat} (h : s₀.Keeps s) : s₀.Keeps (s.verdictOf r x new).1 :=
  .ite₁ h (.ite₁ h (.ite₁ h (.judgeSamples h)))

theorem ruleFail {i : Nat} {r : RuleRec} {v : Verdict} (h : s₀.Keeps s) : s₀.Keeps (s.ruleFail i r v) :=
  .ite h (.raise (.bump h))

theorem evalRule {i : Nat} {r : RuleRec} (h : s₀.Keeps s) : s₀.Keeps (s.evalRule i r) := by
  unfold State.evalRule
  dsimp only
  exact .ifElse (.ite₁ h (.semRead h)) fun h => .ruleFail (.ifThen (.update (.verdictOf h)) fun h => .memWrite h)

theorem gthSram {ecc : Option Bool} (h : s₀.Keeps s) : s₀.Keeps (s.gthSram ecc) := by
  unfold State.gthSram
  split
  · exact h
  · exact .raiseOpen h
  · exact .raiseOpen h

theorem taskRelease {t : Nat} (h : s₀.Keeps s) : s₀.Keeps (s.taskRelease t) := by
  unfold State.taskRelease
  dsimp only
  split
  · exact h
  · exact .ifElse (.setTask h) fun h => .foldl (fun _ _ h => .evalRule h) h

theorem taskMisses {t : Nat} (h : s₀.Keeps s) : s₀.Keeps (s.taskMisses t) := by
  unfold State.taskMisses
  dsimp only
  split
  · exact h
  · exact .ite h (.foldl (fun _ _ h => .raise (.bump h)) (.setTask h))

theorem taskDone {t : Nat} (h : s₀.Keeps s) : s₀.Keeps (s.taskDone t) := by
  unfold State.taskDone
  dsimp only
  split
  · exact h
  · exact .setTask h

theorem goldenTestEnd {n : Nat} (h : s₀.Keeps s) : s₀.Keeps (s.goldenTestEnd n) := by
  unfold State.goldenTestEnd
  dsimp only
  split
  · exact h
  · exact .foldl (fun _ _ h => .raise h) (.update h)

theorem wdogKick (h : s₀.Keeps s) : s₀.Keeps s.wdogKick := .ite h (.ifThen (.update h) fun h => .firstKick h)

theorem wdogLapse (h : s₀.Keeps s) : s₀.Keeps s.wdogLapse :=
  .ite h (.ifElse (.raiseOpen (.update h)) fun h => .startFails h)

theorem safeRequest {reason : Nat} (h : s₀.Keeps s) : s₀.Keeps (s.safeRequest reason) := .ite h (.raise h)

theorem safeReqWrite {who : Who} {size v reason : Nat} (h : s₀.Keeps s) :
    s₀.Keeps (s.safeReqWrite who size v reason) :=
  .regWrite h fun _ h => .ite (.safeRequest h) h

theorem gthWrite {who : Who} {id : RegId} {ix size v hw : Nat} (h : s₀.Keeps s) :
    s₀.Keeps (s.gthWrite who id ix size v hw) := by
  unfold State.gthWrite
  dsimp only
  split
  case h_1 => exact .safeReqWrite (.fresh h)
  case h_3 => exact .regWrite h fun _ h => .ite (.wdogKick h) h
  case h_4 => exact .regWrite h fun _ h => .taskDone h
  all_goals exact .regWrite h fun _ h => .regStore h

/-! ### The host interface -/

theorem destroyCtx {c : Nat} (h : s₀.Keeps s) : s₀.Keeps (s.destroyCtx c) := by
  unfold State.destroyCtx
  dsimp only
  refine .dropCtx (.foldl (fun _ _ h => .setSpace h) ?_)
  split
  · exact .destroyEnclave (.foldl (fun _ _ h => .dropProg h) h)
  · exact .foldl (fun _ _ h => .dropProg h) h

theorem closeInst {i cancelled : Nat} (h : s₀.Keeps s) : s₀.Keeps (s.closeInst i cancelled) :=
  .touch (.raise (.setMbx (.setInst (.foldl (fun _ _ h => .destroyCtx h) h))))

theorem flushInst {i : Nat} (h : s₀.Keeps s) : s₀.Keeps (s.flushInst i).1 := .foldl₁ (fun _ _ h => .flushQueue h) h

theorem endFreeze {i status : Nat} (h : s₀.Keeps s) : s₀.Keeps (s.endFreeze i status) := by
  unfold State.endFreeze
  dsimp only
  split
  · exact .finishMbx (.setInst h)
  · exact h

theorem settleInst {i : Nat} (h : s₀.Keeps s) : s₀.Keeps (s.settleInst i) := by
  unfold State.settleInst
  extract_lets settled
  have hs : s₀.Keeps settled := by
    simp only [settled]
    split
    · exact .ite h (.ifThen (.closeInst (.endFreeze h)) fun h => .finishMbx h)
    · exact h
  split
  · exact .ite hs (.touch (.endFreeze (.setInst hs)))
  · exact hs

theorem settleHost (h : s₀.Keeps s) : s₀.Keeps s.settleHost := .foldl (fun _ _ h => .settleInst h) h

theorem startClose {i : Nat} {reply : Bool} (h : s₀.Keeps s) : s₀.Keeps (s.startClose i reply) :=
  .touch (.setInst (.flushInst h))

theorem dropWaits {waits : List OutRead} {status : Nat} (h : s₀.Keeps s) : s₀.Keeps (s.dropWaits waits status) :=
  .foldl (fun _ _ h => .send (.update h)) h

theorem stopOutbound {i : Nat} (h : s₀.Keeps s) : s₀.Keeps (s.stopOutbound i) := by
  unfold State.stopOutbound
  dsimp only
  refine .foldl (fun t x h => ?_) (.dropWaits (.setInst h))
  split
  · exact .send (.update h)
  · exact h

theorem fnReset {i : Nat} {linkDown : Bool} (h : s₀.Keeps s) : s₀.Keeps (s.fnReset i linkDown) :=
  .touch (.raise (.ifThen (.stopOutbound h) fun h => .setInst h))

theorem svcOpen {k : Nat} {b : List Byte} (h : s₀.Keeps s) : s₀.Keeps (s.svcOpen k b).1 :=
  .ite₁ h (.ite₁ h (.ite₁ h (.ite₁ h (.ite₁ h (.ite₁ (.setMbx h) (.touch (.setInst (.update (.setMbx h)))))))))

theorem svcClose {k : Nat} {b : List Byte} (h : s₀.Keeps s) : s₀.Keeps (s.svcClose k b).1 :=
  .ite₁ h (.ite₁ h (.ite₁ h (.startClose h)))

theorem svcAttach {k : Nat} {b : List Byte} (h : s₀.Keeps s) : s₀.Keeps (s.svcAttach k b).1 :=
  .ite₁ h (.ite₁ h (.ite₁ h (.ite₁ h (.touch (.setMbx (.setInst (.ite (.flushInst h) h)))))))

theorem svcFreeze {k : Nat} {b : List Byte} (h : s₀.Keeps s) : s₀.Keeps (s.svcFreeze k b).1 :=
  .ite₁ h (.ite₁ h (.ite₁ h (.touch (.setInst h))))

theorem svcThaw {k : Nat} {b : List Byte} (h : s₀.Keeps s) : s₀.Keeps (s.svcThaw k b).1 :=
  .ite₁ h (.ite₁ h (.touch (.setInst h)))

theorem dropUnread {q : Nat} : ∀ {fuel : Nat} {s : State}, s₀.Keeps s → s₀.Keeps (s.dropUnread q fuel)
  | 0, _, h => h
  | _ + 1, _, h => by
    unfold State.dropUnread
    refine .ite h ?_
    split
    next ht => exact .of_eq ht (.readEntry h)
    next ht => exact dropUnread (.of_eq ht (.readEntry h))

theorem dropQueued {q : Nat} (h : s₀.Keeps s) : s₀.Keeps (s.dropQueued q) := .dropUnread (.setQueue h)

theorem svcDiscard {k : Nat} {b : List Byte} (h : s₀.Keeps s) : s₀.Keeps (s.svcDiscard k b).1 :=
  .ite₁ h (.ite₁ h (.closeInst (.foldl (fun _ _ h => .dropQueued h) h)))

theorem beat {i : Nat} (h : s₀.Keeps s) : s₀.Keeps (s.beat i) := .ite (.setInst h) h

theorem pageWrite {who : Who} {id : RegId} {ix i size v hw : Nat} (h : s₀.Keeps s) :
    s₀.Keeps (s.pageWrite who id ix i size v hw) := by
  unfold State.pageWrite
  dsimp only
  split
  · exact .regWrite h fun _ h => .ite (.beat h) h
  · exact .regWrite h fun _ h => .ite (.mbxGo h) h
  · exact .regWrite h fun _ h => .regStore h

theorem hifWrite {who : Who} {id : RegId} {ix size v hw : Nat} (h : s₀.Keeps s) :
    s₀.Keeps (s.hifWrite who id ix size v hw) := by
  unfold State.hifWrite
  dsimp only
  split
  case h_4 | h_5 => exact .regWrite h fun _ h => .ite (.send h) (.regStore h)
  case h_12 | h_13 | h_14 | h_15 | h_16 | h_17 | h_18 | h_19 => exact .pageWrite h
  case h_20 | h_21 | h_22 | h_23 | h_24 | h_25 | h_26 | h_27 => exact .queueWrite h
  all_goals exact .regWrite h fun _ h => .regStore h

theorem failReads {port : Nat} (h : s₀.Keeps s) : s₀.Keeps (s.failReads port) := by
  unfold State.failReads
  dsimp only
  refine .foldl (fun t x h => ?_) (.dropWaits h)
  split
  · exact .send (.update h)
  · exact h

/-! ### The fault log -/

theorem ringWrite {r : FaultRec} (h : s₀.Keeps s) : s₀.Keeps (s.ringWrite r) := .update (.reservedPut h)

theorem logInterrupt {r : FaultRec} {p : Nat} (h : s₀.Keeps s) : s₀.Keeps (s.logInterrupt r p) :=
  .ite (.send (.setBitOf h)) h

theorem logCollect {i : Nat} (h : s₀.Keeps s) : s₀.Keeps (s.logCollect i) := by
  unfold State.logCollect
  dsimp only
  split
  · exact h
  · exact .ite (.ite (.bump (.update h)) h) (.foldl (fun _ _ h => .logInterrupt h)
    (.ite (.bump (.ringWrite (.update h))) (.update h)))

theorem logWrite (h : s₀.Keeps s) : s₀.Keeps s.logWrite := by
  unfold State.logWrite
  dsimp only
  split
  · exact h
  · exact .ite (.ringWrite (.update h)) h

/-! ### Updates and handover -/

theorem noteStatus {r : State × Option (Nat × List Byte)} (h : s₀.Keeps r.1) : s₀.Keeps (noteStatus r).1 := by
  unfold Machine.noteStatus
  split
  · exact .update h
  · exact h

theorem svcUpdBegin {k : Nat} {b : List Byte} (h : s₀.Keeps s) : s₀.Keeps (s.svcUpdBegin k b).1 := by
  unfold State.svcUpdBegin
  dsimp only
  refine .ite₁ h (.ite₁ h ?_)
  split
  next ht => exact .of_eq ht (.memRead h)
  next ht =>
    have ht := of_eq ht (.memRead h)
    refine .ite₁ ht (.ite₁ ht ?_)
    split
    next hu => exact .of_eq hu (.verify ht)
    next hu =>
      have hu := of_eq hu (.verify ht)
      split
      · exact hu
      · exact .update hu

theorem stageBlock {off : Nat} {pt : List Byte} (h : s₀.Keeps s) : s₀.Keeps (s.stageBlock off pt) :=
  .update (.reservedPut (.reservedPut (.update h)))

theorem svcUpdBlock {k : Nat} {b : List Byte} (h : s₀.Keeps s) : s₀.Keeps (s.svcUpdBlock k b).1 := by
  unfold State.svcUpdBlock
  dsimp only
  refine .ite₁ h ?_
  split
  · exact h
  · refine .ite₁ h (.ite₁ h (.ite₁ h ?_))
    split
    next ht => exact .of_eq ht (.memRead h)
    next ht =>
      have ht := of_eq ht (.memRead h)
      refine .ite₁ ht (.ite₁ ht ?_)
      split
      · exact ht
      · exact .stageBlock ht

theorem updChecks {u : UpdSt} {img : List Byte} (h : s₀.Keeps s) : s₀.Keeps (s.updChecks u img).1 := by
  unfold State.updChecks
  dsimp only
  refine .ite₁ h ?_
  split
  next ht => exact .of_eq ht (.verify h)
  next ht => exact .of_eq ht (.verify h)

theorem recordSession (h : s₀.Keeps s) : s₀.Keeps s.recordSession := .setControl h

theorem svcUpdStage {k : Nat} {b : List Byte} (h : s₀.Keeps s) : s₀.Keeps (s.svcUpdStage k b).1 := by
  unfold State.svcUpdStage
  dsimp only
  refine .ite₁ h ?_
  split
  · exact h
  · refine .ite₁ h (.ite₁ h (.ite₁ h (.ite₁ h ?_)))
    split
    · exact h
    · split
      next ht => exact .of_eq ht (.updChecks h)
      next ht =>
        have ht := of_eq ht (.updChecks h)
        split
        · exact ht
        · exact .recordSession (.update (.flashPut (.flashErase ht)))

theorem writeSlot {base size : Nat} {img : List Byte} (h : s₀.Keeps s) : s₀.Keeps (s.writeSlot base size img) :=
  .flashPut (.flashErase h)

theorem answerActivation {status : Nat} (h : s₀.Keeps s) : s₀.Keeps (s.answerActivation status) := by
  unfold State.answerActivation
  dsimp only
  split
  · exact .finishMbx (.update h)
  · exact .raise (.update h)

theorem deferSession (h : s₀.Keeps s) : s₀.Keeps s.deferSession := .recordSession (.update h)

theorem beginActivation (h : s₀.Keeps s) : s₀.Keeps s.beginActivation.1 := by
  unfold State.beginActivation
  dsimp only
  refine .ite₁ (.deferSession h) (.ite₁ h ?_)
  split
  · exact .endSession h
  · exact .ite₁ (.update h) (.ite₁ (.endSession (.setKind (.writeSlot h))) (.endSession (.writeSlot h)))

theorem svcUpdActivate {k : Nat} {b : List Byte} (h : s₀.Keeps s) : s₀.Keeps (s.svcUpdActivate k b).1 := by
  unfold State.svcUpdActivate
  dsimp only
  refine .ite₁ h ?_
  split
  · exact h
  · refine .ite₁ h (.ite₁ h ?_)
    split
    next ht => exact .of_eq ht (.beginActivation h)
    next ht => exact .update (.of_eq ht (.beginActivation h))

theorem svcUpdAbort {k : Nat} {b : List Byte} (h : s₀.Keeps s) : s₀.Keeps (s.svcUpdAbort k b).1 := by
  unfold State.svcUpdAbort
  refine .ite₁ h ?_
  split
  · exact h
  · exact .ite₁ h (.endSession h)

theorem svcUpdCommit {x1 : Nat} {b : List Byte} (h : s₀.Keeps s) : s₀.Keeps (s.svcUpdCommit x1 b).1 := by
  unfold State.svcUpdCommit
  dsimp only
  refine .ite₁ h (.ite₁ h ?_)
  split
  · exact h
  · exact .ite₁ h (.update h)

theorem keeperOpens (h : s₀.Keeps s) : s₀.Keeps s.keeperOpens := .ifThen (.update h) fun h => .raise h

theorem handoverFails {late : Bool} (h : s₀.Keeps s) : s₀.Keeps (s.handoverFails late) :=
  .endSession (.answerActivation (.raise (.keeperOpens (.update h))))

theorem handoverStart (h : s₀.Keeps s) : s₀.Keeps s.handoverStart := by
  unfold State.handoverStart
  dsimp only
  split
  · exact .endSession (.answerActivation (.update h))
  · split
    next ht => exact .handoverFails (.of_eq ht (.updChecks (.reservedPut h)))
    next ht => exact .update (.of_eq ht (.updChecks (.reservedPut h)))

theorem settleHandover (h : s₀.Keeps s) : s₀.Keeps s.settleHandover :=
  .ite h (.ite (.answerActivation (.deferSession h)) (.ite h (.handoverStart h)))

theorem handoverReady (h : s₀.Keeps s) : s₀.Keeps s.handoverReady := by
  unfold State.handoverReady
  dsimp only
  split
  · exact h
  · exact .ite h (.endSession (.setKind (.writeSlot (.answerActivation (.update (.keeperOpens (.setFw h)))))))

theorem handoverLate (h : s₀.Keeps s) : s₀.Keeps s.handoverLate := by
  unfold State.handoverLate
  split
  · exact .ite (.handoverFails h) h
  · exact h

theorem retryActivation (h : s₀.Keeps s) : s₀.Keeps s.retryActivation := by
  unfold State.retryActivation
  dsimp only
  refine .ite h ?_
  split
  next ht => exact .update (.raise (.of_eq ht (.beginActivation h)))
  next ht => exact .settleHandover (.of_eq ht (.beginActivation h))

/-! ### The Keeper -/

theorem svcLogRead {k : Nat} {b : List Byte} (h : s₀.Keeps s) : s₀.Keeps (s.svcLogRead k b).1 := by
  unfold State.svcLogRead
  dsimp only
  refine .ite₁ h ?_
  split
  next ht => exact .of_eq ht (.memWrite h)
  next ht => exact .of_eq ht (.memWrite h)

theorem svcJournalRead {k : Nat} {b : List Byte} (h : s₀.Keeps s) : s₀.Keeps (s.svcJournalRead k b).1 := by
  unfold State.svcJournalRead
  dsimp only
  refine .ite₁ h ?_
  split
  next ht => exact .of_eq ht (.memWrite h)
  next ht => exact .of_eq ht (.memWrite h)

theorem failRequest {k : Nat} (h : s₀.Keeps s) : s₀.Keeps (s.failRequest k) :=
  .finishMbx (.ifThen (.update h) fun h => .setInst h)

theorem interruptActivation (h : s₀.Keeps s) : s₀.Keeps s.interruptActivation :=
  .ite (.update h) (.ite (.endSession (.update h)) h)

theorem keeperRestart (h : s₀.Keeps s) : s₀.Keeps s.keeperRestart :=
  .ite h (.update (.interruptActivation (.foldl (fun _ _ h => .failRequest h) (.raise h))))

theorem keeperKick (h : s₀.Keeps s) : s₀.Keeps s.keeperKick := .ite (.keeperOpens (.update h)) (.update h)

theorem kprWrite {who : Who} {id : RegId} {ix size v hw : Nat} (h : s₀.Keeps s) :
    s₀.Keeps (s.kprWrite who id ix size v hw) := by
  unfold State.kprWrite
  dsimp only
  split
  case h_1 => exact .regWrite h fun _ h => .ite (.keeperKick h) h
  case h_2 => exact .regWrite h fun _ h => .ite (.handoverReady h) h
  case h_3 => exact .regWrite h fun _ h => .ite (.mbxGo h) h
  all_goals exact .regWrite h fun _ h => .regStore h

/-! ### Save and restore -/

theorem svcSave {k : Nat} {b : List Byte} (h : s₀.Keeps s) : s₀.Keeps (s.svcSave k b).1 := by
  unfold State.svcSave
  extract_lets i body n
  refine .ite₁ h (.ite₁ h (.ite₁ h ?_))
  split
  next ht => exact .of_eq ht (.memWrite h)
  next ht => exact .of_eq ht (.memWrite h)

theorem restoreCtx {x : InstImg} {r : List Byte} (he : s.restoreCtx x r = some t) (h : s₀.Keeps s) : s₀.Keeps t := by
  unfold State.restoreCtx at he
  dsimp only at he
  split at he
  · cases he
  · cases he
    exact .update h

theorem restoreSpace {x : InstImg} {r : List Byte} (h : s₀.Keeps s) : s₀.Keeps (s.restoreSpace x r).1 := by
  unfold State.restoreSpace
  extract_lets c pav st cmd
  split
  next ht => exact .of_eq ht (.bindCheck h)
  next ht => exact .setSpace (.foldl (fun _ _ h => .putSeq h) (.memWrite (.of_eq ht (.bindCheck h))))

theorem restoreProg {k : Nat} {x : InstImg} {p : ImgProg} (h : s₀.Keeps s) : s₀.Keeps (s.restoreProg k x p).1 := by
  unfold State.restoreProg
  dsimp only
  refine .ite₁ h ?_
  split
  next ht => exact .of_eq ht (.readBinds h)
  next ht =>
    have ht := of_eq ht (.readBinds h)
    split
    · exact ht
    next hu =>
      split
      next hu => exact .of_eq hu (.foldl₁ (fun _ _ h => .ite₁ (.pinCopy h) h) ht)
      next hu => exact .update (.of_eq hu (.foldl₁ (fun _ _ h => .ite₁ (.pinCopy h) h) ht))

theorem stepAll {α : Type} {f : State → α → State × Except Nat Unit} (hf : ∀ t x, s₀.Keeps t → s₀.Keeps (f t x).1) :
    ∀ {l : List α} {s : State}, s₀.Keeps s → s₀.Keeps (stepAll f s l).1
  | [], _, h => h
  | _ :: _, _, h => by
    unfold Machine.stepAll
    split
    next ht => exact stepAll hf (.of_eq ht (hf _ _ h))
    next ht => exact .of_eq ht (hf _ _ h)

theorem restoreQueue {r : List Byte} (h : s₀.Keeps s) : s₀.Keeps (s.restoreQueue r) :=
  .setQueue (.wr (.wr (.wr (.wr (.wr (.wr (.wr (.wr (.update h)))))))))

theorem restoreAll {k : Nat} {x : InstImg} (h : s₀.Keeps s) : s₀.Keeps (s.restoreAll k x).1 := by
  have hctx : ∀ t r, s₀.Keeps t → s₀.Keeps (match t.restoreCtx x r with
      | some t => (t, Except.ok ())
      | none => (t, Except.error stREFUSED_FIT)).1 := by
    intro t r h
    split
    next hu => exact .restoreCtx hu h
    next => exact h
  unfold State.restoreAll
  dsimp only
  refine .ite₁ h ?_
  split
  next ht => exact .of_eq ht (.stepAll hctx h)
  next ht =>
    have ht := of_eq ht (.stepAll hctx h)
    split
    next hu => exact .of_eq hu (.stepAll (fun _ _ h => .restoreSpace h) ht)
    next hu => exact .stepAll (fun _ _ h => .restoreProg h) (.of_eq hu (.stepAll (fun _ _ h => .restoreSpace h) ht))

theorem restoreInst {x : InstImg} (h : s₀.Keeps s) : s₀.Keeps (s.restoreInst x) :=
  .touch (.setInst (.setMbx (.foldl (fun _ _ h => .checkWatches (.setSem h))
    (.foldl (fun _ _ h => .restoreQueue h) (.update h)))))

theorem svcRestore {k : Nat} {b : List Byte} (h : s₀.Keeps s) : s₀.Keeps (s.svcRestore k b).1 := by
  unfold State.svcRestore
  dsimp only
  refine .ite₁ h ?_
  split
  next ht => exact .of_eq ht (.memRead h)
  next ht =>
    have ht := of_eq ht (.memRead h)
    refine .ite₁ ht (.ite₁ ht (.ite₁ ht (.ite₁ ht ?_)))
    split
    · exact ht
    next hu => exact .restoreInst (.of_eq hu (.restoreAll ht))

end Sys2Proof.Machine.State.Keeps
end

section
/-! SUPPORT. `State.Keeps`, one rule per operation: the Orangery, latches and ownership commands. -/

namespace Sys2Proof.Machine.State.Keeps
open Sys2Proof

variable {s₀ s t : State}

/-! ### Passes and latches -/

theorem setOrgRing {p : Nat} {x : OrgRing} (h : s₀.Keeps s) : s₀.Keeps (s.setOrgRing p x) := .update h

theorem updPass {p : Nat} {f : OrgPass} {g : OrgPass → OrgPass} (h : s₀.Keeps s) : s₀.Keeps (s.updPass p f g) :=
  .setOrgRing h

theorem setOrgCore {c : Nat} {x : OrgCore} (h : s₀.Keeps s) : s₀.Keeps (s.setOrgCore c x) := .update h

theorem orgRecord {p : Nat} {c : Cpl} (h : s₀.Keeps s) : s₀.Keeps (s.orgRecord p c) := .setOrgRing (.memWrite h)

theorem orgDup {p : Nat} {d : OrgPass} {status : Nat} (h : s₀.Keeps s) : s₀.Keeps (s.orgDup p d status) :=
  .ifThen (.orgRecord h) fun h => .send h

theorem writeBack {p c : Nat} (h : s₀.Keeps s) : s₀.Keeps (s.writeBack p c) :=
  .setOrgCore (.foldl (fun _ _ h => .memWrite h) h)

theorem orgCycles {ns : Nat} (h : s₀.Keeps s) : s₀.Keeps (s.orgCycles ns).2 := .update h

theorem countCores {ns : Nat} : ∀ {l : List Nat} {s : State}, s₀.Keeps s → s₀.Keeps (s.countCores ns l)
  | [], _, h => h
  | _ :: r, _, h => countCores (l := r) (.count (.orgCycles (ns := ns) h))

theorem frameCommit {f : OrgPass} (h : s₀.Keeps s) : s₀.Keeps (s.frameCommit f) := .commitPlane (.wr h)

theorem completePass {p : Nat} {f : OrgPass} {status : Nat} (h : s₀.Keeps s) :
    s₀.Keeps (s.completePass p f status) := by
  unfold State.completePass
  dsimp only
  refine .foldl (fun _ _ h => .orgDup h) (.ifThen (.ifThen (.orgRecord (.ifThen ?_ fun h => .frameCommit h)) fun h =>
    .semSignalBy h) fun h => .send h)
  split
  · exact .countCores (.setOrgRing (.foldl (fun _ _ h => .writeBack h) h))
  · exact .setOrgRing (.foldl (fun _ _ h => .writeBack h) h)

theorem passAbort {p : Nat} {f : OrgPass} {status : Nat} (h : s₀.Keeps s) : s₀.Keeps (s.passAbort p f status) :=
  .updPass h

theorem shaderTrap {c code pc : Nat} (h : s₀.Keeps s) : s₀.Keeps (s.shaderTrap c code pc) := by
  unfold State.shaderTrap
  dsimp only
  split
  · exact h
  · exact .passAbort (.raise h)

theorem accessTrap {c code : Nat} (h : s₀.Keeps s) : s₀.Keeps (s.accessTrap c code) := .shaderTrap (.update h)

theorem coreStart {p c a : Nat} (h : s₀.Keeps s) : s₀.Keeps (s.coreStart p c a) := by
  unfold State.coreStart
  dsimp only
  split
  next ht => exact .setOrgCore (.of_eq ht (.memRead h))
  next ht => exact .shaderTrap (.setOrgCore (.of_eq ht (.memRead h)))

theorem passBegin {p : Nat} {f : OrgPass} (h : s₀.Keeps s) : s₀.Keeps (s.passBegin p f) :=
  .ite h (.foldl (fun _ _ h => .coreStart h) (.updPass h))

theorem passStart {p : Nat} {f : OrgPass} (h : s₀.Keeps s) : s₀.Keeps (s.passStart p f) := by
  unfold State.passStart
  dsimp only
  refine .ite (.passBegin h) ?_
  split
  next ht => exact .completePass (.of_eq ht (.memRead h))
  next ht =>
    have ht := of_eq ht (.memRead h)
    exact .ite (.completePass ht) (.ite (.completePass ht) (.passBegin (.updPass ht)))

theorem passAdvance {p : Nat} (h : s₀.Keeps s) : s₀.Keeps (s.passAdvance p) := by
  unfold State.passAdvance
  dsimp only
  split
  · exact h
  · refine .ite h ?_
    split
    · exact .completePass h
    · exact .ifThen (.updPass h) fun h => .passStart h

theorem recordFetch {p : Nat} (h : s₀.Keeps s) : s₀.Keeps (s.recordFetch p) := by
  unfold State.recordFetch
  dsimp only
  refine .ite h ?_
  split
  · refine .orgDup (.wr ?_)
    split
    next ht => exact .of_eq ht (.memRead h)
    next ht => exact .of_eq ht (.memRead h)
  · refine .ite (.setOrgRing (.wr ?_)) (.setOrgRing (.wr ?_)) <;>
    · split
      next ht => exact .of_eq ht (.memRead h)
      next ht => exact .of_eq ht (.memRead h)

theorem passFetch {p : Nat} (h : s₀.Keeps s) : s₀.Keeps (s.passFetch p) := .ite h (.passAdvance (.recordFetch h))

theorem coreRead {p c a n : Nat} (h : s₀.Keeps s) : s₀.Keeps (s.coreRead p c a n).1 := by
  unfold State.coreRead
  split
  next ht => exact .of_eq ht (.memRead h)
  next ht => exact .accessTrap (.of_eq ht (.memRead h))

theorem coreStores {p c : Nat} :
    ∀ {l : List (Nat × List Byte)} {s : State}, s₀.Keeps s → s₀.Keeps (s.coreStores p c l).1
  | [], _, h => .ite₁ (.writeBack h) h
  | _ :: r, _, h => .ite₁ (.accessTrap (.memWrite h)) (coreStores (l := r) (.setOrgCore h))

theorem coreWrites {p c : Nat} :
    ∀ {l : List (Nat × List Byte)} {s : State}, s₀.Keeps s → s₀.Keeps (s.coreWrites p c l).1
  | [], _, h => h
  | _ :: _, _, h => by
    unfold State.coreWrites
    split
    next ht => exact coreWrites (.of_eq ht (.memWrite h))
    next ht => exact .accessTrap (.of_eq ht (.memWrite h))

theorem coreReads {p c : Nat} : ∀ {l : List (Nat × Nat)} {s : State}, s₀.Keeps s → s₀.Keeps (s.coreReads p c l).1
  | [], _, h => h
  | _ :: r, _, h => by
    unfold State.coreReads
    split
    next ht => exact .of_eq ht (.coreRead h)
    next u x hu =>
      have hr : s₀.Keeps (u.coreReads p c r).1 := coreReads (.of_eq hu (.coreRead h))
      split
      next hv => exact .of_eq hv hr
      next hv => exact .of_eq hv hr

theorem drawIndices {p c : Nat} {d : List Byte} (h : s₀.Keeps s) : s₀.Keeps (s.drawIndices p c d).1 := by
  unfold State.drawIndices
  dsimp only
  refine .ite₁ h ?_
  split
  next ht => exact .of_eq ht (.coreRead h)
  next ht => exact .of_eq ht (.coreRead h)

theorem assemble {p c : Nat} {f : OrgPass} {shaded : List (Nat × Nat × List (BitVec 32))} :
    ∀ {left k : Nat} {s : State}, s₀.Keeps s → s₀.Keeps (s.assemble p c f shaded left k).1
  | 0, _, _, h => h
  | n + 1, k, _, h => by
    unfold State.assemble
    split
    next ht => exact .of_eq ht (.coreRead h)
    next ht =>
      have hd := of_eq ht (.coreRead h)
      refine .ite₁ (.passAbort hd) ?_
      split
      next hu => exact .of_eq hu (.drawIndices hd)
      next u x hu =>
        have hr : s₀.Keeps (u.assemble p c f shaded n (k + 1)).1 := assemble (.of_eq hu (.drawIndices hd))
        split
        next hv => exact .of_eq hv hr
        next hv => exact .of_eq hv hr

theorem geometry {p : Nat} {shaded : List (Nat × Nat × List (BitVec 32))} {binBytes : Nat} (h : s₀.Keeps s) :
    s₀.Keeps (s.geometry p shaded binBytes) := by
  unfold State.geometry
  dsimp only
  refine .ite h ?_
  split
  · exact h
  · split
    next ht => exact .of_eq ht (.assemble h)
    next ht =>
      have ht := of_eq ht (.assemble h)
      refine .ite (.passAbort ht) ?_
      split
      next hu => exact .of_eq hu (.coreWrites (.freshBytes ht))
      next hu => exact .updPass (.of_eq hu (.coreWrites (.freshBytes ht)))

theorem loadTargets {p c : Nat} {f : OrgPass} {n : Nat} :
    ∀ {l : List (Nat × Nat)} {i : Nat} {s : State}, s₀.Keeps s → s₀.Keeps (s.loadTargets p c f n i l).1
  | [], _, _, h => h
  | _ :: r, i, _, h => by
    unfold State.loadTargets
    dsimp only
    split
    next ht => exact .of_eq ht (.ite₁ h (.coreReads h))
    next u x hu =>
      have hr : s₀.Keeps (u.loadTargets p c f n (i + 1) r).1 := loadTargets (.of_eq hu (.ite₁ h (.coreReads h)))
      split
      next hv => exact .of_eq hv hr
      next hv => exact .of_eq hv hr

theorem tileStore {p c : Nat} {f : OrgPass} {o : OrgTile} (h : s₀.Keeps s) : s₀.Keeps (s.tileStore p c f o).1 := by
  unfold State.tileStore
  split
  next ht => exact .of_eq ht (.coreWrites h)
  next ht => exact .updPass (.of_eq ht (.coreWrites h))

theorem tileOpen {p c : Nat} {f : OrgPass} (h : s₀.Keeps s) : s₀.Keeps (s.tileOpen p c f) := by
  unfold State.tileOpen
  split
  · exact h
  · refine .ite h ?_
    split
    next ht => exact .of_eq ht (.loadTargets h)
    next ht => exact .updPass (.of_eq ht (.loadTargets h))

theorem tilePhase {c : Nat} (h : s₀.Keeps s) : s₀.Keeps (s.tilePhase c) := by
  unfold State.tilePhase
  dsimp only
  refine .ite h ?_
  split
  · exact h
  · split
    · exact .tileOpen h
    · split
      next ht => exact .of_eq ht (.tileStore h)
      next ht => exact .tileOpen (.of_eq ht (.tileStore h))

theorem ogxOut {c target : Nat} {frags : List (Nat × Nat × Nat × List (BitVec 32))} (h : s₀.Keeps s) :
    s₀.Keeps (s.ogxOut c target frags) := by
  unfold State.ogxOut
  dsimp only
  refine .ite h ?_
  split
  · exact h
  · split
    · exact h
    · exact .updPass h

theorem ogxLoad {c reg : Nat} {cols : List (List Nat)} (h : s₀.Keeps s) : s₀.Keeps (s.ogxLoad c reg cols) :=
  .setOrgCore h

theorem ogxRun {c : Nat} {op : OgxOp} {word : BitVec 32} {run : State → Nat → Nat → State} (h : s₀.Keeps s)
    (hr : ∀ t i j, s₀.Keeps t → s₀.Keeps (run t i j)) : s₀.Keeps (s.ogxRun c op word run) := by
  unfold State.ogxRun
  refine .ite h ?_
  split
  · exact .ite (hr _ _ _ h) (.accessTrap h)
  · exact .accessTrap h

theorem mapByte {p c a : Nat} (h : s₀.Keeps s) : s₀.Keeps (s.mapByte p c a).1 := by
  unfold State.mapByte
  dsimp only
  split
  · refine .ite₁ (.fresh h) ?_
    split
    next ht => exact .setOrgCore (.of_eq ht (.coreRead (.fresh h)))
    next ht => exact .of_eq ht (.coreRead (.fresh h))
  · split
    next ht => exact .setOrgCore (.of_eq ht (.coreRead (.fresh h)))
    next ht => exact .of_eq ht (.coreRead (.fresh h))

theorem allResident {p c : Nat} {d : TexDesc} :
    ∀ {l : List (Num × Nat × Nat × Nat)} {s : State}, s₀.Keeps s → s₀.Keeps (s.allResident p c d l).1
  | [], _, h => h
  | _ :: _, _, h => by
    unfold State.allResident
    refine .ite₁ h ?_
    dsimp only
    split
    next ht => exact .of_eq ht (.mapByte h)
    next ht => exact .ite₁ (allResident (.of_eq ht (.mapByte h))) (.of_eq ht (.mapByte h))

theorem freshColour (h : s₀.Keeps s) : s₀.Keeps s.freshColour.1 := .update h

theorem sampleElem {p c : Nat} {d : TexDesc} {t : Option (List (Num × Nat × Nat × Nat))} (h : s₀.Keeps s) :
    s₀.Keeps (s.sampleElem p c d t).1 := by
  unfold State.sampleElem
  dsimp only
  split
  · exact .freshColour h
  · split
    next ht => exact .of_eq ht (.allResident h)
    next ht => exact .bump (.of_eq ht (.allResident h))
    next ht =>
      have ht := of_eq ht (.allResident h)
      split
      next hu => exact .of_eq hu (.coreReads ht)
      next hu => exact .of_eq hu (.coreReads ht)

theorem texOf {p c : Nat} {f : OrgPass} {i : Nat} (h : s₀.Keeps s) : s₀.Keeps (s.texOf p c f i).1 := by
  unfold State.texOf
  refine .ite₁ h ?_
  split
  next ht => exact .of_eq ht (.coreRead h)
  next ht => exact .of_eq ht (.coreRead h)

theorem sampleAll {p c : Nat} {d : Option TexDesc} {mask : Nat} {uv : List (BitVec 32 × BitVec 32)}
    {lods : Option (List (BitVec 32))} :
    ∀ {left i : Nat} {s : State}, s₀.Keeps s → s₀.Keeps (s.sampleAll p c d mask uv lods left i).1
  | 0, _, _, h => h
  | n + 1, i, s, h => by
    unfold State.sampleAll
    extract_lets one
    have hone : s₀.Keeps one.1 := by
      refine .ite₁ h ?_
      split
      · exact .freshColour h
      · exact .sampleElem h
    clear_value one
    obtain ⟨u, _ | x⟩ := one
    · exact hone
    · have hr : s₀.Keeps (u.sampleAll p c d mask uv lods n (i + 1)).1 := sampleAll hone
      dsimp only
      split
      next ht => exact .of_eq ht hr
      next ht => exact .of_eq ht hr

theorem ogxTex {c vd : Nat} {tex mask : Nat} {uv : List (BitVec 32 × BitVec 32)} {lods : Option (List (BitVec 32))}
    (h : s₀.Keeps s) : s₀.Keeps (s.ogxTex c vd tex mask uv lods) := by
  unfold State.ogxTex
  refine .ite h ?_
  split
  · exact h
  · split
    next ht => exact .of_eq ht (.texOf h)
    next ht =>
      have ht := of_eq ht (.texOf h)
      split
      next hu => exact .of_eq hu (.sampleAll ht)
      next hu => exact .setOrgCore (.of_eq hu (.sampleAll ht))

theorem residentMask {p c : Nat} {d : Option TexDesc} {mask : Nat} {uv : List (BitVec 32 × BitVec 32)} :
    ∀ {left i : Nat} {s : State}, s₀.Keeps s → s₀.Keeps (s.residentMask p c d mask uv left i).1
  | 0, _, _, h => h
  | n + 1, i, s, h => by
    unfold State.residentMask
    extract_lets open_ one
    have hone : s₀.Keeps one.1 := by
      refine .ite₁ h ?_
      split
      · exact .fresh h
      · split
        · exact .fresh h
        · exact .allResident h
    clear_value one
    obtain ⟨u, _ | x⟩ := one
    · exact hone
    · have hr : s₀.Keeps (u.residentMask p c d mask uv n (i + 1)).1 := residentMask hone
      dsimp only
      split
      next ht => exact .of_eq ht hr
      next ht => exact .of_eq ht hr

theorem ogxRes {c vd : Nat} {tex mask : Nat} {uv : List (BitVec 32 × BitVec 32)} (h : s₀.Keeps s) :
    s₀.Keeps (s.ogxRes c vd tex mask uv) := by
  unfold State.ogxRes
  dsimp only
  refine .ite h ?_
  split
  · exact h
  · split
    next ht => exact .of_eq ht (.texOf h)
    next ht =>
      have ht := of_eq ht (.texOf h)
      split
      next hu => exact .of_eq hu (.residentMask ht)
      next hu => exact .setOrgCore (.of_eq hu (.residentMask ht))

theorem ogxInterp {c vd comp mask : Nat} {elems : List (Nat × Nat × Nat)} (h : s₀.Keeps s) :
    s₀.Keeps (s.ogxInterp c vd comp mask elems) := by
  unfold State.ogxInterp
  dsimp only
  refine .ite h ?_
  split
  · exact h
  · exact .setOrgCore h

theorem groupBegin {f : OrgPass} {c : Nat} (h : s₀.Keeps s) : s₀.Keeps (s.groupBegin f c) := .update (.setOrgCore h)

theorem computeStart {p : Nat} (h : s₀.Keeps s) : s₀.Keeps (s.computeStart p) := by
  unfold State.computeStart
  refine .ite h ?_
  split
  · exact h
  · exact .foldl (fun _ _ h => .groupBegin h) (.updPass h)

theorem groupClear {c : Nat} (h : s₀.Keeps s) : s₀.Keeps (s.groupClear c) := .setOrgCore h

theorem groupEnd {c : Nat} {writes : List (Nat × List Byte)} (h : s₀.Keeps s) : s₀.Keeps (s.groupEnd c writes) := by
  unfold State.groupEnd
  dsimp only
  refine .ite h ?_
  split
  · exact h
  · refine .ite h ?_
    split
    next ht => exact .of_eq ht (.coreStores h)
    next ht =>
      have ht := of_eq ht (.coreStores h)
      exact .ite (.passAdvance (.updPass (.groupClear ht)))
        (.ite (.groupBegin (.updPass (.groupClear ht))) (.passAdvance (.updPass (.groupClear ht))))

theorem passComplete {p : Nat} (h : s₀.Keeps s) : s₀.Keeps (s.passComplete p) := by
  unfold State.passComplete
  refine .ite h ?_
  split
  · exact h
  · exact .passAdvance (.completePass h)

theorem passMiss {p seq : Nat} (h : s₀.Keeps s) : s₀.Keeps (s.passMiss p seq) := by
  unfold State.passMiss
  dsimp only
  split
  · exact h
  · exact .ite (.passAbort (.updPass (.raise h))) h

theorem orgStopPlot {p : Nat} (h : s₀.Keeps s) : s₀.Keeps (s.orgStopPlot p) :=
  .foldl (fun _ _ h => .completePass h) (.wr (.foldl (fun _ _ h => .recordFetch h) h))

theorem scanRows {n : Nat} {pl : DspPlane} :
    ∀ {left y : Nat} {s : State}, s₀.Keeps s → s₀.Keeps (s.scanRows n pl left y).1
  | 0, _, _, h => h
  | n + 1, _, _, h => by
    refine scanRows (left := n) ?_
    split
    next ht => exact .of_eq ht (.memRead h)
    next ht => exact .of_eq ht (.memRead h)

theorem scanPlanes {n : Nat} : ∀ {l : List Nat} {s : State}, s₀.Keeps s → s₀.Keeps (s.scanPlanes n l).1
  | [], _, h => h
  | _ :: r, _, h => .ite₁ (scanPlanes (l := r) h) (scanPlanes (l := r) (.scanRows h))

theorem storeCrcs {n : Nat} {l : List Scan} (h : s₀.Keeps s) : s₀.Keeps (s.storeCrcs n l) :=
  .foldl (fun _ _ h => .ite h (.wr h)) h

theorem readPose {n : Nat} (h : s₀.Keeps s) : s₀.Keeps (s.readPose n).1 := by
  unfold State.readPose
  dsimp only
  refine .ite₁ h (.ite₁ ?_ (.setPipe ?_)) <;>
  · split
    next ht => exact .of_eq ht (.memRead h)
    next ht => exact .of_eq ht (.memRead h)

theorem lateFrames {n k sev : Nat} (h : s₀.Keeps s) : s₀.Keeps (s.lateFrames n k sev) :=
  .foldl (fun _ _ h => .ite (.passAbort h) (.updPass h)) h

theorem latch {n : Nat} (h : s₀.Keeps s) : s₀.Keeps (s.latch n) := by
  unfold State.latch
  split
  · exact h
  · split
    next hl =>
      have hscan := of_eq hl (.ite₁ h (.scanPlanes h))
      dsimp only
      exact .ifElse (.wr (.setPipe (.ite₁ (.ifThen (.storeCrcs hscan) fun h => .send h)
        (.readPose (.ifThen (.storeCrcs hscan) fun h => .send h))))) fun h => .lateFrames (.raise (.bump (.bump h)))

theorem orgCfgStore {p v hw : Nat} (h : s₀.Keeps s) : s₀.Keeps (s.orgCfgStore p v hw) :=
  .ifThen (.regStore h) fun h => .setOrgRing (.wr (.wr h))

theorem orgWrite {who : Who} {id : RegId} {ix size v hw : Nat} (h : s₀.Keeps s) :
    s₀.Keeps (s.orgWrite who id ix size v hw) := by
  unfold State.orgWrite
  dsimp only
  split
  case h_4 => exact .regWrite h fun _ h => .orgCfgStore h
  all_goals exact .regWrite h fun _ h => .regStore h

/-! ### Ownership commands -/

theorem setOwnSlot {n : Nat} {o : OwnCmd} (h : s₀.Keeps s) : s₀.Keeps (s.setOwnSlot n o) := .update h

theorem ownApply {op sub : Nat} :
    ∀ {l : List (Option (Nat × Nat))} {n : Nat} {s : State}, s₀.Keeps s → s₀.Keeps (s.ownApply op sub l n).1
  | [], _, _, h => h
  | none :: r, _, _, h => ownApply (l := r) h
  | some _ :: r, _, _, h => ownApply (l := r) (.ite h (.ite (.recordRetire (.setEntry h)) (.setEntry h)))

theorem ownRun {st : Stamp} {n op sub : Nat} (h : s₀.Keeps s) : s₀.Keeps (s.ownRun st n op sub) := by
  unfold State.ownRun
  dsimp only
  refine .ite ?_ (.ite (.setOwnSlot (.ownApply h)) (.setOwnSlot h))
  split <;> exact .setOwnSlot h

theorem ownOpWrite {who : Who} {n size v : Nat} (h : s₀.Keeps s) : s₀.Keeps (s.ownOpWrite who n size v) := by
  unfold State.ownOpWrite
  dsimp only
  exact .regWrite h fun _ h => .ownRun h

theorem ownWrite {who : Who} {id : RegId} {ix size v hw : Nat} (h : s₀.Keeps s) :
    s₀.Keeps (s.ownWrite who id ix size v hw) := by
  unfold State.ownWrite
  dsimp only
  split
  case h_1 => exact .ownOpWrite h
  case h_4 | h_5 => exact .regWrite h fun _ h => h
  all_goals exact .regWrite h fun _ h => .regStore h

theorem ownComplete {n : Nat} (h : s₀.Keeps s) : s₀.Keeps (s.ownComplete n) := .ite (.setOwnSlot h) h

end Sys2Proof.Machine.State.Keeps
end

section
/-! SUPPORT. `State.Keeps`, one rule per operation: the stop of a Plot, self-test, register space and PCIe. -/

namespace Sys2Proof.Machine.State.Keeps
open Sys2Proof

variable {s₀ s t : State}

/-! ### The stop and restart of a Plot -/

theorem cancelFlight {f : Flight} (h : s₀.Keeps s) : s₀.Keeps (s.cancelFlight f) := by
  unfold State.cancelFlight
  dsimp only
  split
  · exact .updFlight (.endCommand h)
  · exact .ite (.dropFlight (.updFlight (.endCommand h))) (.finish (.updFlight (.endCommand h)))

theorem cancelCommands {p : Nat} (h : s₀.Keeps s) : s₀.Keeps (s.cancelCommands p) :=
  .foldl (fun _ _ h => .flushQueue h) (.foldl (fun _ _ h => .cancelFlight h) h)

theorem dropContexts {p : Nat} (h : s₀.Keeps s) : s₀.Keeps (s.dropContexts p) := .foldl (fun _ _ h => .destroyCtx h) h

theorem closePlotMbx {p : Nat} (h : s₀.Keeps s) : s₀.Keeps (s.closePlotMbx p) := .setMbx h

theorem stopPlot {p : Nat} (h : s₀.Keeps s) : s₀.Keeps (s.stopPlot p) :=
  .touch (.settleHost (.canSettleAll (.update (.ifElse
    (.netStopPlot (.snsStopPlot (.closePlotMbx (.dropContexts (.cancelCommands h))))) fun h => .orgStopPlot h))))

theorem resetReg {ix : Nat} {id : RegId} (h : s₀.Keeps s) : s₀.Keeps (s.resetReg ix id) := by
  unfold State.resetReg
  split
  · exact .wr h
  · exact h

theorem resetRegs {ids : List RegId} {ixs : List Nat} (h : s₀.Keeps s) : s₀.Keeps (s.resetRegs ids ixs) :=
  .foldl (fun _ _ h => .foldl (fun _ _ h => .resetReg h) h) h

theorem resetPorts {p : Nat} (h : s₀.Keeps s) : s₀.Keeps (s.resetPorts p) :=
  .foldl (fun _ _ h => .setRing (.setRing (.resetRegs h))) (.foldl (fun _ _ h => .wr h) (.resetRegs h))

theorem resetCan {p : Nat} (h : s₀.Keeps s) : s₀.Keeps (s.resetCan p) :=
  .foldl (fun _ _ h => .update (.resetRegs h)) (.foldl
    (fun _ _ h => .setCan (.setRing (.setRing (.setRing (.resetRegs (.resetRegs (.resetRegs h))))))) h)

theorem resetCvu {p : Nat} (h : s₀.Keeps s) : s₀.Keeps (s.resetCvu p) :=
  .foldl (fun _ _ h => .update (.resetRegs h)) h

theorem restartPlot {p : Nat} (h : s₀.Keeps s) : s₀.Keeps (s.restartPlot p) :=
  .touch (.update (.resetCvu (.resetCan (.resetPorts (.update h)))))

theorem svcPlotRestart {k : Nat} {b : List Byte} (h : s₀.Keeps s) : s₀.Keeps (s.svcPlotRestart k b).1 :=
  .ite₁ h (.ite₁ h (.restartPlot h))

/-! ### Self-test -/

theorem setRound {kind unit : Nat} {r : RoundSt} (h : s₀.Keeps s) : s₀.Keeps (s.setRound kind unit r) := .update h

theorem sliceStart {kind unit : Nat} (h : s₀.Keeps s) : s₀.Keeps (s.sliceStart kind unit) :=
  .ite h (.ite (.bump h) (.ite h (.setRound h)))

theorem afterSlice {kind unit : Nat} (h : s₀.Keeps s) : s₀.Keeps (s.afterSlice kind unit) := by
  unfold State.afterSlice
  dsimp only
  split
  · exact .setBed h
  · exact .setOrgCore h
  · exact h

theorem sliceFault {kind unit slice : Nat} (h : s₀.Keeps s) : s₀.Keeps (s.sliceFault kind unit slice) :=
  .foldl (fun _ _ h => .requestStop h) (.raise (.update h))

theorem sliceEnd {kind unit : Nat} {fault : Bool} (h : s₀.Keeps s) : s₀.Keeps (s.sliceEnd kind unit fault) :=
  .ite h (.ifThen (.setRound (.afterSlice h)) fun h => .sliceFault h)

theorem roundOverdue {kind unit : Nat} (h : s₀.Keeps s) : s₀.Keeps (s.roundOverdue kind unit) :=
  .ite h (.raise (.bump (.setRound h)))

/-! ### Register space -/

theorem afterRead {d : RegDef} {ix event : Nat} (h : s₀.Keeps s) : s₀.Keeps (s.afterRead d ix event) :=
  .ite h (.ifThen (.wr h) fun h => .wr h)

theorem rngRead (h : s₀.Keeps s) : s₀.Keeps s.rngRead.1 := .ite₁ (.update h) h

theorem cfgRead {r : Nat} (h : s₀.Keeps s) : s₀.Keeps (s.cfgRead r).1 := .ite₁ (.send h) h

theorem regValue {who : Who} {d : RegDef} {ix event : Nat} (h : s₀.Keeps s) :
    s₀.Keeps (s.regValue who d ix event).1 := by
  unfold State.regValue
  dsimp only
  refine .ite₁ (.pair (.writerRefused (.hwSet h))) ?_
  split
  · exact .semRead h
  · exact .rngRead h
  · exact .cfgRead h
  · exact .ite₁ (.afterRead h) (.bump (.hwSet h))

theorem regRead {who : Who} {a size event : Nat} (h : s₀.Keeps s) : s₀.Keeps (s.regRead who a size event).1 := by
  unfold State.regRead
  dsimp only
  split
  · exact .ite₁ (.regValue h) (.sizeRefused (.hwSet h))
  · split
    · exact .ite₁ h (.sizeRefused h)
    · split
      · exact h
      · exact .ite₁ (.ite₁ (.pair (.writerRefused h)) h) (.sizeRefused h)

theorem regWriteAt {who : Who} {d : RegDef} {ix size v hw : Nat} (h : s₀.Keeps s) :
    s₀.Keeps (s.regWriteAt who d ix size v hw) := by
  unfold State.regWriteAt
  split
  case h_1 => exact h
  case h_5 | h_6 => exact .bedWrite h
  case h_7 => exact .mccWrite h
  case h_8 => exact .ownWrite h
  case h_9 => exact .snsWrite h
  case h_10 => exact .orgWrite h
  case h_11 => exact .dspWrite h
  case h_12 => exact .gwyWrite h
  case h_13 => exact .flwWrite h
  case h_14 => exact .canWrite h
  case h_15 => exact .timWrite h
  case h_16 => exact .gthWrite h
  case h_17 => exact .glsWrite h
  case h_18 => exact .hifWrite h
  case h_19 => exact .elxWrite h
  case h_20 => exact .pctWrite h
  case h_21 => exact .cvuWrite h
  case h_22 => exact .semWrite h
  case h_23 => exact .kprWrite h
  all_goals exact .regWrite h fun _ h => .regStore h

theorem spaceWrite {who : Who} {a size v hw : Nat} (h : s₀.Keeps s) : s₀.Keeps (s.spaceWrite who a size v hw) := by
  unfold State.spaceWrite
  dsimp only
  split
  · exact .hwSet (.regWriteAt h)
  · split
    · exact .ite (.telltaleWrite h) (.sizeRefused h)
    · split
      · exact h
      · exact .ite (.ite (.writerRefused h) h) (.sizeRefused h)

theorem coreRefused {c a : Nat} {write : Bool} (h : s₀.Keeps s) : s₀.Keeps (s.coreRefused c a write) :=
  .answer (.accessTrap (.raise h))

theorem secureIgnored {st : Stamp} (h : s₀.Keeps s) : s₀.Keeps (s.secureIgnored st) := by
  unfold State.secureIgnored
  dsimp only
  exact .raise (.fresh (.fresh (.fresh h)))

theorem unitWrite {who : Who} {kind ix : Nat} {put : State → State} (h : s₀.Keeps s)
    (hp : ∀ t, s₀.Keeps t → s₀.Keeps (put t)) :
    s₀.Keeps (s.unitWrite who kind ix put) := .ite (hp s h) (.ite (.secureIgnored h) h)

theorem readSpace {who : Who} {a size event : Nat} (h : s₀.Keeps s) : s₀.Keeps (s.readSpace who a size event) := by
  unfold State.readSpace
  split
  · exact .coreRefused h
  · refine .ite (.answer ?_) (.otherAccess h)
    split
    · exact .ite₁ (.regValue h) (.sizeRefused (.hwSet h))
    · split
      · exact .ite₁ h (.sizeRefused h)
      · split
        · exact h
        · exact .ite₁ (.ite₁ (.pair (.writerRefused h)) h) (.sizeRefused h)

theorem readTarget {who : Who} {at_ : RegTarget} {size event : Nat} (h : s₀.Keeps s) :
    s₀.Keeps (s.readTarget who at_ size event) := by
  unfold State.readTarget
  split
  · exact .readSpace h
  · exact .answer h
  · exact .answer h

/-! ### PCIe -/

theorem postedRefused {port : Nat} {i : Option Nat} {addr code : Nat} (h : s₀.Keeps s) :
    s₀.Keeps (s.postedRefused port i addr code) := by
  unfold State.postedRefused
  dsimp only
  split
  · exact .raise h
  · exact .ifThen (.raise (.bump (.ite (.wr h) h))) fun h => .ifElse (.update h) fun h => .send h

theorem maskedPut : ∀ {l : List (Option Byte)} {a : Nat} {s : State}, s₀.Keeps s → s₀.Keeps (s.maskedPut a l)
  | [], _, _, h => h
  | none :: r, _, _, h => maskedPut (l := r) h
  | some _ :: r, _, _, h => maskedPut (l := r) (.setDramByte h)

theorem inWrite {port func addr : Nat} {data : List (Option Byte)} {x : InTarget} (h : s₀.Keeps s) :
    s₀.Keeps (s.inWrite port func addr data x) := by
  cases x with
  | reg i a => exact .ite (.postedRefused h) (.spaceWrite h)
  | msixTable off => exact .update h
  | pba => exact h
  | dram i a =>
    refine .ite h ?_
    split
    · exact .postedRefused (.passRefused h)
    · exact .maskedPut (.pass h)

theorem hifOwnerRec {port plot ctx addr reason : Nat} (h : s₀.Keeps s) :
    s₀.Keeps (s.hifOwnerRec port plot ctx addr reason) :=
  .raise h

theorem unsupported {port func : Nat} {i : Option Nat} {addr reason : Nat} (h : s₀.Keeps s) :
    s₀.Keeps (s.unsupported port func i addr reason) := by
  unfold State.unsupported
  dsimp only
  refine .send ?_
  split <;> exact .hifOwnerRec h

theorem inRead {port func len : Nat} {x : InTarget} (h : s₀.Keeps s) : s₀.Keeps (s.inRead port func len x) := by
  cases x with
  | reg i a => exact .ite (.send h) (.send (.regRead h))
  | msixTable off => exact .send h
  | pba => exact .send h
  | dram i a =>
    dsimp only [State.inRead]
    split
    next ht => exact .update (.of_eq ht (.memRead h))
    next ht => exact .send (.of_eq ht (.memRead h))

theorem outAnswer {st : Stamp} {addr size : Nat} {write : Bool} {status : Nat} (h : s₀.Keeps s) :
    s₀.Keeps (s.outAnswer st addr size write status) :=
  .send h

theorem issueRead {r : OutRead} (h : s₀.Keeps s) : s₀.Keeps (s.issueRead r) := by
  unfold State.issueRead
  split
  · exact .update h
  · exact .send (.update h)

theorem outSend {st : Stamp} {w addr off size : Nat} {write : Bool} {data : List Byte} (h : s₀.Keeps s) :
    s₀.Keeps (s.outSend st w addr off size write data) :=
  .ite (.outAnswer h) (.ite (.outAnswer (.ite (.send h) h)) (.ite (.outAnswer h) (.issueRead h)))

theorem nextRead {port : Nat} (h : s₀.Keeps s) : s₀.Keeps (s.nextRead port) := by
  unfold State.nextRead
  dsimp only
  split
  · exact h
  · exact .issueRead (.update h)

theorem endRead {r : OutRead} {port tag status : Nat} {data : List Byte} (h : s₀.Keeps s) :
    s₀.Keeps (s.endRead r port tag status data) :=
  .nextRead (.send (.update h))

end Sys2Proof.Machine.State.Keeps
end

section
/-! SUPPORT. The commands: those that end in a device reset, those that keep, and O4. -/

namespace Sys2Proof.Machine
open Sys2Proof

namespace State

/-- `o` answers a state that keeps what stands in `s₀`. -/
def KeepsNext (s₀ : State) (o : Host.Outcome State Fault Refusal) : Prop := ∃ t, o = .next t ∧ s₀.Keeps t

/-- A service's answer `r` keeps what stands in `s₀`, or the service ended in a device reset, which sends no reply. -/
def KeepsOrResets (s₀ : State) (r : State × Option (Nat × List Byte)) : Prop :=
  s₀.Keeps r.1 ∨ ∃ u : State, r = (u.deviceReset, none)

section
variable {s₀ s t : State}

theorem KeepsNext.next (h : s₀.Keeps t) : s₀.KeepsNext (.next t) := ⟨t, rfl, h⟩

theorem KeepsOrResets.ite {p : Prop} [Decidable p] {x y : State × Option (Nat × List Byte)} (hx : s₀.Keeps x.1)
    (hy : s₀.KeepsOrResets y) : s₀.KeepsOrResets (if p then x else y) := by
  split
  · exact .inl hx
  · exact hy

/-- A device reset leaves no mailbox busy (R453 step 6, R541). -/
theorem deviceReset_mbx_busy (u : State) (k : Nat) : (u.deviceReset.mbx k).busy = false := rfl

/-- LC_ADVANCE: every refusal keeps, and the advance ends in a device reset (R453 step 6). -/
theorem svcLcAdvance_keepsOrResets {k : Nat} {b : List Byte} (h : s₀.Keeps s) : s₀.KeepsOrResets (s.svcLcAdvance k b) := by
  unfold svcLcAdvance
  dsimp only
  refine .ite h ?_
  split
  next ht => exact .inl (.of_eq ht (.memRead h))
  next ht =>
    have ht := Keeps.of_eq ht (.memRead h)
    exact .ite ht (.ite ht (.ite (.sigFail ht) (.ite ht (.ite ht (.ite ht (.inr ⟨_, rfl⟩))))))

/-- `serve` with a service that keeps or ends in a device reset. -/
theorem serve_keeps_or_resets {m : Mbx} {op : Nat} {run : State → Nat → List Byte → State × Option (Nat × List Byte)}
    (h : s₀.Keeps s) (hr : ∀ k b, s₀.KeepsOrResets (run s k b)) :
    s₀.Keeps (s.serve m op run) ∨ ∃ u : State, s.serve m op run = u.deviceReset := by
  unfold serve
  dsimp only
  split
  · exact .inl h
  · split
    · exact .inl (.putReply h)
    · split
      · exact .inl (.finishMbx h)
      · rcases hr (mbxKey m) (sub (s.mbx (mbxKey m)).req 0x10 48) with hk | ⟨u, hu⟩
        · left
          split
          next ht => exact .finishMbx (.of_eq ht hk)
          next ht => exact .ite (.setMbx (.of_eq ht hk)) (.of_eq ht hk)
        · right
          refine ⟨u, ?_⟩
          rw [hu]
          simp [deviceReset_mbx_busy]

end

end State

/-- The commands that end in a device reset: POWER_ON_RESET, POWER_FAIL, RESET_N_FALL, LC_ADVANCE (R453, R541). -/
def resetsDevice : Instr → Bool
  | .powerOnReset => true
  | .powerFail => true
  | .resetNFall => true
  | .lcAdvance _ => true
  | _ => false

section
variable {s₀ s : State}

theorem execRemoteWindowAccess_keeps {who : Who} {addr : BitVec 48} {size : Nat} {write : Bool} {data : List Byte}
    (h : s₀.Keeps s) : s₀.KeepsNext (execRemoteWindowAccess who addr size write data s) := by
  refine .next ?_
  split
  · exact h
  · refine .ite (.answer (.sizeRefused h)) (.ite (.ownWindow h) ?_)
    split
    next ht => exact .answer (.of_eq ht (.remoteAccess h))
    next ht => exact .answer (.of_eq ht (.remoteAccess h))

theorem execDroop_keeps {sensor : Fin 8} (h : s₀.Keeps s) : s₀.KeepsNext (execDroop sensor s) := by
  refine .next ?_
  split
  · exact h
  · exact .bump (.update h)

theorem execDroopRelease_keeps (h : s₀.Keeps s) : s₀.KeepsNext (execDroopRelease s) := by
  refine .next ?_
  split
  · exact h
  · exact .ite (.raise (.update h)) (.update h)

theorem execCopy_keeps {q : Fin 256} {seq : BitVec 32} {ueAt : Option Nat} (h : s₀.Keeps s) :
    s₀.KeepsNext (execCopy q seq ueAt s) := by
  refine .next ?_
  split
  · exact h
  · exact .ite h (.doCopy (.startFlight h))

theorem execDebugToken_keeps {op : JtagOp} {signer : BitVec 64} {r sg : BitVec 384} (h : s₀.Keeps s) :
    s₀.KeepsNext (execDebugToken op signer r sg s) := by
  refine .next ?_
  split
  · exact .answer (.update h)
  · exact .jtagShift h
  · exact .debugAccess h

theorem execWipeDone_keeps (h : s₀.Keeps s) : s₀.KeepsNext (execWipeDone s) := by
  refine .next ?_
  split
  · exact .ite (.update h) h
  · exact h

theorem execRingCfgWrite_keeps {who : Who} {ring : RingName} {value : BitVec 32} (h : s₀.Keeps s) :
    s₀.KeepsNext (execRingCfgWrite who ring value s) := by
  refine .next ?_
  split
  · exact .gwyWrite h
  · exact .canWrite h

theorem execTime_keeps {msg : TimeMsg} {tol : BitVec 16} {hb : BitVec 8} (h : s₀.Keeps s) :
    s₀.KeepsNext (execTime msg tol hb s) := by
  refine .next ?_
  split
  · exact .timeDue h
  · exact .timeRequest h
  · exact .timeReply h

theorem execFreezeTimeout_keeps {inst : Fin 32} (h : s₀.Keeps s) : s₀.KeepsNext (execFreezeTimeout inst s) := by
  refine .next ?_
  split
  · exact .ite (.touch (.endFreeze (.settleInst h))) (.settleInst h)
  · exact .settleInst h

theorem execRegisterWrite_keeps {who : Who} {at_ : RegTarget} {size : Nat} {value hw : BitVec 64} (h : s₀.Keeps s) :
    s₀.KeepsNext (execRegisterWrite who at_ size value hw s) := by
  refine .next ?_
  split
  · exact .answer (.unitWrite h fun _ h => .update h)
  · exact .answer (.unitWrite h fun _ h => .update h)
  · split
    · exact .coreRefused h
    · exact .ite (.answer (.spaceWrite h)) (.otherAccess h)

theorem execInboundWrite_keeps {port : Fin 3} {func : Fin 32} {bar : Fin 3} {addr : BitVec 64} {data : List (Option Byte)}
    {poisoned : Bool} (h : s₀.Keeps s) : s₀.KeepsNext (execInboundWrite port func bar addr data poisoned s) := by
  refine .next (.ite h (.ite (.postedRefused h) (.ite (.postedRefused h) ?_)))
  split
  · exact .postedRefused h
  · exact .inWrite h

theorem execInboundRead_keeps {port : Fin 3} {func : Fin 32} {bar : Fin 3} {addr : BitVec 64} {len : Fin 4097}
    (h : s₀.Keeps s) : s₀.KeepsNext (execInboundRead port func bar addr len s) := by
  refine .next (.ite h (.ite (.unsupported h) ?_))
  split
  · exact .unsupported h
  · exact .ite (.send h) (.inRead h)

theorem execOutboundAccess_keeps {who : Who} {addr : BitVec 48} {size : Nat} {write : Bool} {data : List Byte}
    (h : s₀.Keeps s) : s₀.KeepsNext (execOutboundAccess who addr size write data s) := by
  refine .next (.ite h ?_)
  split
  · exact .outAnswer (.hifOwnerRec h)
  · exact .ite (.outAnswer (.hifOwnerRec h)) (.outSend h)

theorem execOutboundCompletion_keeps {port : Fin 3} {tag : Fin 768} {err : Fin 4} {data : List Byte} (h : s₀.Keeps s) :
    s₀.KeepsNext (execOutboundCompletion port tag err data s) := by
  refine .next ?_
  split
  · exact h
  · exact .ite (.endRead (.raise h)) (.ite (.endRead h) h)

theorem execCompletionTimeout_keeps {port : Fin 3} {tag : Fin 768} (h : s₀.Keeps s) :
    s₀.KeepsNext (execCompletionTimeout port tag s) := by
  refine .next ?_
  split
  · exact h
  · exact .ite (.endRead (.raise (.fresh h))) h

theorem exec_keeps {c : Instr} (hc : resetsDevice c = false) (h : s₀.Keeps s) : s₀.KeepsNext (exec c s) := by
  cases c with
  | powerOnReset | powerFail | resetNFall | lcAdvance => cases hc
  | resetNRise => exact .next (.ite h (.ite (.update h) (.update h)))
  | rootPllLock =>
    exact .next (.ite h (.enableRails (.fwStep (.fwStep (.controlStep (.xspiMode (.glsStart (.update h))))))))
  | railInRegulation =>
    exact .next (.ite h (.ite (.bootStop h) (.ite (.update (.update h))
      (.bootSteps (.addStep (.update (.update h)))))))
  | registerWrite => exact execRegisterWrite_keeps h
  | readClear | counterRead => exact .next (.readTarget h)
  | dramRequest => exact .next (.ite (.dramRequest h) (.otherAccess h))
  | holdQueueGrant => exact .next (.ifThen (.grantOne h) fun h => .grantOne h)
  | mccServe => exact .next (.serveCycle h)
  | scrub => exact .next (.eccRead h)
  | setSub | setRo | clearRo | query | retire => exact .next (.ownOpWrite h)
  | ownCmdComplete => exact .next (.ownComplete h)
  | commandFetch => exact .next (.fetch h)
  | hifQqTailWrite | hifQqCfgWrite => exact .next (.queueWrite h)
  | dispatch => exact .next (.dispatch h)
  | nop => exact .next (.runOnce h fun _ _ h => h)
  | run => exact .next (.runStart h)
  | copy => exact execCopy_keeps h
  | bind => exact .next (.runOnce h fun _ _ h => .doBind h)
  | unbind => exact .next (.runOnce h fun _ _ h => .doUnbind h)
  | admitSeq => exact .next (.runOnce h fun _ _ h => .doAdmit h)
  | leave => exact .next (.runOnce h fun _ _ h => .doLeave h)
  | free => exact .next (.runOnce h fun _ _ h => .doFree h)
  | operationComplete => exact .next (.operComplete h)
  | commandComplete => exact .next (.settleHost (.commandComplete h))
  | commandDeadlineMiss => exact .next (.deadlineMiss h)
  | queuedDeadlineMiss => exact .next (.queuedMiss h)
  | matmul => exact .next (.runOp h fun _ _ h => .withEcc h fun _ h => .matmul h)
  | conv2d => exact .next (.runOp h fun _ _ h => .conv2d h)
  | eltwise => exact .next (.runOp h fun _ _ h => .eltwise h)
  | norm | softmax => exact .next (.runOp h fun _ _ h => .rowOp h)
  | reduce => exact .next (.runOp h fun _ _ h => .reduce h)
  | quantise => exact .next (.runOp h fun _ _ h => .quantise h)
  | gather => exact .next (.runOp h fun _ _ h => .withInputs h fun _ _ _ _ h => .gatherRows h)
  | copyOperator => exact .next (.runOp h fun _ _ h => .withInputs h fun _ _ _ _ h => .copyPieces h)
  | attend => exact .next (.attendOp h)
  | exchange => exact .next (.runOp h fun _ _ h => .exchange h)
  | topk => exact .next (.runOp h fun _ _ h => .topkOp h)
  | operatorComplete => exact .next (.opComplete h)
  | partialMerge => exact .next (.partialMerge h)
  | groveAdmissionReport => exact .next (.groveReport h)
  | groveAdmissionResult => exact .next (.groveResult h)
  | dmaDescriptor => exact .next (.dmaStart h)
  | dmaDescriptorDone => exact .next (.dmaDone h)
  | dmaStall => exact .next (.ite (.raise h) h)
  | inboundScratchpadAccess => exact .next (.ite (.inboundEcc h) h)
  | bedPwrWrite | bedSlotWrite => exact .next (.bedWrite h)
  | bedPwrTransitionDone => exact .next (.runMoves (.pwrDone h))
  | shareClearDone => exact .next (.clearDone h)
  | seqTrap => exact .next (.seqTrap h)
  | load => exact .next (.serve h fun _ _ _ h => .svcLoad h)
  | unload => exact .next (.serve h fun _ _ _ h => .svcUnload h)
  | ctxCreate => exact .next (.serve h fun _ _ _ h => .svcCtxCreate h)
  | ctxDestroy => exact .next (.serve h fun _ _ _ h => .svcCtxDestroy h)
  | ctxBind => exact .next (.serve h fun _ _ _ h => .svcCtxBind h)
  | ctxUnbind => exact .next (.serve h fun _ _ _ h => .svcCtxUnbind h)
  | ctxStats => exact .next (.serve h fun _ _ _ h => .svcCtxStats h)
  | residencyTick => exact .next (.residencyTick h)
  | plotStop => exact .next (.ite (.stopPlot h) h)
  | plotRestart => exact .next (.serve h fun _ _ _ h => .svcPlotRestart h)
  | signal => exact .next (.semValueWrite h)
  | add => exact .next (.semAddWrite h)
  | semValueRead => exact .next (.answer (.semRead h))
  | semWatchCfgWrite => exact .next (.watchCfgWrite h)
  | semWatchThreshWrite => exact .next (.watchThreshWrite h)
  | portTrain => exact .next (.portTrain h)
  | portRetrain => exact .next (.portRetrain h)
  | flitReceive => exact .next (.flitReceive h)
  | linkHello => exact .next (.linkHello h)
  | write => exact .next (.takeMsg h fun _ _ h => .doElxWrite h)
  | read => exact .next (.takeMsg h fun _ _ h => .doElxRead h)
  | readData | ack => exact .next (.takeMsg h fun _ _ h => .elxAnswer h)
  | semSignal => exact .next (.takeMsg h fun _ _ h => .doElxSignal h)
  | semAdd => exact .next (.takeMsg h fun _ _ h => .doElxAdd h)
  | semRead => exact .next (.takeMsg h fun _ _ h => .doElxSemRead h)
  | remoteWindowAccess => exact execRemoteWindowAccess_keeps h
  | join => exact .next (.join h)
  | admitted => exact .next (.ite (.update h) h)
  | leftOut => exact .next (.leftOut h)
  | formationWindowEnd => exact .next (.formationEnd h)
  | formed => exact .next (.formed h)
  | noMaster => exact .next (.noMaster h)
  | time => exact execTime_keeps h
  | heartbeatSend => exact .next (.heartbeatSend h)
  | heartbeat => exact .next (.heartbeat h)
  | heartbeatReply => exact .next (.heartbeatReply h)
  | heartbeatMissed => exact .next (.heartbeatMissed h)
  | expel => exact .next (.expelReceived h)
  | frameStart => exact .next (.frameStart h)
  | longPacket => exact .next (.longPacket h)
  | frameEnd => exact .next (.frameEnd h)
  | ispLine => exact .next (.ispLine h)
  | framePublish => exact .next (.framePublish h)
  | frameDeadline => exact .next (.frameDeadline h)
  | goldenWindowEnd => exact .next (.goldenWindowEnd h)
  | frameMissing => exact .next (.frameMissing h)
  | snsCfgWrite => exact .next (.streamWrite h)
  | passFetch => exact .next (.passFetch h)
  | orgQpCfgWrite => exact .next (.orgWrite h)
  | render => exact .next (.geometry h)
  | tilePhase => exact .next (.tilePhase h)
  | compute => exact .next (.computeStart h)
  | computeGroupEnd => exact .next (.groupEnd h)
  | passComplete => exact .next (.passComplete h)
  | passDeadlineMiss => exact .next (.passMiss h)
  | shaderTrap => exact .next (.shaderTrap h)
  | ogxTex | ogxTexl => exact .next (.ogxRun h fun _ _ _ h => .ogxTex (.ogxLoad h))
  | ogxRes => exact .next (.ogxRun h fun _ _ _ h => .ogxRes (.ogxLoad h))
  | ogxInterp => exact .next (.ogxRun h fun _ _ _ h => .ogxInterp h)
  | ogxOut => exact .next (.ogxRun h fun _ _ _ h => .ogxOut (.ogxLoad h))
  | commit => exact .next (.dspWrite h)
  | latch => exact .next (.latch h)
  | dspLinkDown => exact .next (.dspLinkDown h)
  | hpdRise => exact .next (.hpdRise h)
  | ethFrameReceive => exact .next (.ethReceive h)
  | transmitStart => exact .next (.transmitStart h)
  | transmitEnd => exact .next (.transmitEnd h)
  | gateEntryChange => exact .next (.gateRefresh h)
  | ethLinkUp => exact .next (.linkUp h)
  | ethLinkDown => exact .next (.linkDown h)
  | flwWrite | flwDelete | flwQuery => exact .next (.flwWrite h)
  | flwCommit => exact .next (.foldl (fun _ _ h => .flowCommit h) h)
  | txDescriptor => exact .next (.txTake h)
  | rxDeliver => exact .next (.rxDeliver h)
  | ringCfgWrite => exact execRingCfgWrite_keeps h
  | canArbitration => exact .next (.canArbitrate h)
  | canTxDone => exact .next (.canTxDone h)
  | canFrameReceive => exact .next (.canReceive h)
  | errorPassive => exact .next (.canPassive h)
  | busOff => exact .next (.canBusOff h)
  | busOffRecovery => exact .next (.canRecover h)
  | linFrame => exact .next (.canWrite h)
  | noResponse => exact .next (.linNoResponse h)
  | cvuContinue | cvuCompute | append | checkStrip => exact .next (.cvuWrite h)
  | cvuOpDone => exact .next (.cvuDone h)
  | syncReceive => exact .next (.syncReceive h)
  | syncSend => exact .next (.syncSend h)
  | pdelayInitiate => exact .next (.pdelayInitiate h)
  | pdelayReq => exact .next (.send (.send h))
  | pdelayResp => exact .next (.pdelayResp h)
  | syncReceiptTimeout => exact .next (.ite (.enterHoldover h) h)
  | holdoverExpired => exact .next (.ite (.raise (.setDomain h)) h)
  | timDkStep | capture => exact .next (.timWrite h)
  | taskRelease => exact .next (.taskRelease (.gthSram h))
  | gthTaskDone | gthWdogKick => exact .next (.gthWrite h)
  | taskDeadlineMiss => exact .next (.taskMisses h)
  | goldenTestDeadline => exact .next (.goldenTestEnd h)
  | gthWatchdogTimeout => exact .next (.wdogLapse h)
  | clockMonitor | supplyMonitor | pllUnlock => exact .next (.raise h)
  | lockstepMismatch => exact .next (.ite h (.raise h))
  | sliceStart => exact .next (.sliceStart h)
  | sliceEnd => exact .next (.sliceEnd h)
  | selftestOverdue => exact .next (.roundOverdue h)
  | safeRequest => exact .next (.safeReqWrite h)
  | debugToken => exact execDebugToken_keeps h
  | attest => exact .next (.serve h fun _ _ _ h => .ite₁ h (.svcAttest h))
  | random => exact .next (.serve h fun _ _ _ h => .ite₁ h (.svcRandom h))
  | encCreate => exact .next (.serve h fun _ _ _ h => .ite₁ h (.svcEncCreate h))
  | encImport => exact .next (.serve h fun _ _ _ h => .ite₁ h (.svcEncImport h))
  | encSeal => exact .next (.serve h fun _ _ _ h => .ite₁ h (.svcEncSeal h))
  | encDestroy => exact .next (.serve h fun _ _ _ h => .ite₁ h (.svcEncDestroy h))
  | revoke => exact .next (.ite (.answer (.verify h)) (.ite (.answer (.verify h)) (.answer (.update (.verify h)))))
  | tamper =>
    exact .next (.ite h (.ite (.raise h) (.dropUpdate (.flushGls
      (.update (.zeroPages (.resetSecurePins (.raise (.update h)))))))))
  | wipeDone => exact execWipeDone_keeps h
  | rngHealth => exact .next (.raise (.update h))
  | glsCtrPolicyWrite => exact .next (.glsWrite h)
  | msiWrite => exact .next (.ite (.send h) h)
  | inboundWrite => exact execInboundWrite_keeps h
  | inboundRead => exact execInboundRead_keeps h
  | outboundAccess => exact execOutboundAccess_keeps h
  | outboundCompletion => exact execOutboundCompletion_keeps h
  | completionTimeout => exact execCompletionTimeout_keeps h
  | hifRprCfgDataAccess => exact .next (.ite (.hifWrite h) (.answer (.ite (.send h) h)))
  | flr => exact .next (.ite (.fnReset h) h)
  | vfEnableClear => exact .next (.foldl (fun _ _ h => .fnReset h) (.update h))
  | pcieLinkDown =>
    exact .next (.ite (.failReads (.update (.foldl (fun _ _ h => .fnReset h)
      (.ifThen (.update h) fun h => .raise h)))) (.failReads (.ifThen (.update h) fun h => .raise h)))
  | openMbx => exact .next (.serve h fun _ _ _ h => .svcOpen h)
  | closeMbx => exact .next (.settleHost (.serve h fun _ _ _ h => .svcClose h))
  | attach => exact .next (.settleHost (.serve h fun _ _ _ h => .svcAttach h))
  | beat => exact .next (.hifWrite h)
  | heartbeatLapse => exact .next (.ite (.touch (.raiseOpen (.setInst h))) h)
  | detachExpiry => exact .next (.ite (.settleHost (.startClose h)) h)
  | freeze => exact .next (.settleHost (.serve h fun _ _ _ h => .svcFreeze h))
  | freezeTimeout => exact execFreezeTimeout_keeps h
  | save => exact .next (.serve h fun _ _ _ h => .svcSave h)
  | restore => exact .next (.serve h fun _ _ _ h => .svcRestore h)
  | thaw => exact .next (.serve h fun _ _ _ h => .svcThaw h)
  | discard => exact .next (.serve h fun _ _ _ h => .svcDiscard h)
  | updBegin => exact .next (.serve h fun _ _ _ h => .noteStatus (.svcUpdBegin h))
  | updBlock => exact .next (.serve h fun _ _ _ h => .noteStatus (.svcUpdBlock h))
  | updStage => exact .next (.serve h fun _ _ _ h => .noteStatus (.svcUpdStage h))
  | updActivate => exact .next (.settleHandover (.serve h fun _ _ _ h => .noteStatus (.svcUpdActivate h)))
  | kprHandoverReady | kprWdogKick => exact .next (.kprWrite h)
  | handoverFail => exact .next (.handoverLate h)
  | activationRetry => exact .next (.retryActivation h)
  | updAbort => exact .next (.serve h fun _ _ _ h => .noteStatus (.svcUpdAbort h))
  | updCommit => exact .next (.serve h fun _ _ _ h => .svcUpdCommit h)
  | logRead => exact .next (.serve h fun _ _ _ h => .svcLogRead h)
  | journalRead => exact .next (.serve h fun _ _ _ h => .svcJournalRead h)
  | keeperRestart => exact .next (.keeperRestart h)
  | logCollect => exact .next (.logCollect h)
  | logWrite => exact .next (.logWrite h)
  | limiterTick => exact .next (.limiterTick h)
  | droop => exact execDroop_keeps h
  | droopRelease => exact execDroopRelease_keeps h
  | railFault => exact .next (.ite (.raise (.update h)) h)
  | linFrameEnd => exact .next (.linEnd h)
  | pcieLinkUp => exact .next (.update h)
  | busMasterEnableSet => exact .next (.ite (.ifThen (.ite (.update h) h) fun h => .setInst h) h)
  | pinInterrupt => exact .next (.ite h (.ifThen (.update h) fun h => .send h))
  | halfFormWindow => exact .next (.halfWindow h)

theorem idle_keeps (h : s₀.Keeps s) : s₀.Keeps s.idle :=
  .settleHandover (.settleHost (.canSettleAll (.clockCycle h)))

theorem execLcAdvance_keeps_or_resets {m : Mbx} (h : s₀.Keeps s) :
    ∃ t, exec (.lcAdvance m) s = .next t ∧ (s₀.Keeps t ∨ ∃ u : State, t = u.deviceReset) :=
  ⟨_, rfl, State.serve_keeps_or_resets h fun _ _ => .ite h (State.svcLcAdvance_keepsOrResets h)⟩

end

/-- What a command that ends in a device reset answers: a state that keeps what stood, or one that a device reset leaves. -/
theorem exec_resetsDevice {s₀ s t : State} {c : Instr} (hc : resetsDevice c = true) (h : s₀.Keeps s) (he : exec c s = .next t) :
    s₀.Keeps t ∨ (c = .powerOnReset ∨ c = .powerFail ∨ c = .resetNFall ∨ ∃ m, c = .lcAdvance m) ∧
      ∃ (u : State) (p : PwrSt), t = { u.deviceReset with pwr := p } := by
  unfold resetsDevice at hc
  split at hc
  · cases he
    exact .inr ⟨.inl rfl, s, _, rfl⟩
  · cases he
    exact .inr ⟨.inr (.inl rfl), s, _, rfl⟩
  · cases he
    exact .inr ⟨.inr (.inr (.inl rfl)), s, _, rfl⟩
  next m =>
    obtain ⟨t', ht', hk⟩ := execLcAdvance_keeps_or_resets (m := m) h
    obtain rfl : t' = t := Host.Outcome.next.inj (ht'.symm.trans he)
    obtain hk | ⟨u, rfl⟩ := hk
    · exact .inl hk
    · exact .inr ⟨.inr (.inr (.inr ⟨m, rfl⟩)), u, _, rfl⟩
  · cases hc

/-- Settles O4: a command that ends in a device reset leaves what the reset leaves, every other command keeps
(`exec_keeps`), and so does a step with an empty queue. -/
theorem safeStateAndThePlanLastUntilReset : Obligations.SafeStateAndThePlanLastUntilReset := by
  unfold Obligations.SafeStateAndThePlanLastUntilReset
  intro s t hstep
  unfold step at hstep
  split at hstep
  next =>
    cases hstep
    obtain ⟨hsafe, hplan⟩ := idle_keeps (.refl s)
    exact .inl ⟨hsafe, hplan⟩
  next c rest hq =>
    have h : s.Keeps { s with pending := rest } := .update (.refl s)
    have ht : s.Keeps t ∨ (c = .powerOnReset ∨ c = .powerFail ∨ c = .resetNFall ∨ ∃ m, c = .lcAdvance m) ∧
        ∃ (u : State) (p : PwrSt), t = { u.deviceReset with pwr := p } := by
      cases hc : resetsDevice c with
      | true => exact exec_resetsDevice hc h hstep
      | false =>
        obtain ⟨t', ht', hk⟩ := exec_keeps hc h
        obtain rfl : t' = t := Host.Outcome.next.inj (ht'.symm.trans hstep)
        exact .inl hk
    obtain ⟨hsafe, hplan⟩ | ⟨hc, hreset⟩ := ht
    · exact .inl ⟨hsafe, hplan⟩
    · exact .inr ⟨⟨c, by rw [hq]; rfl, hc⟩, hreset⟩

end Sys2Proof.Machine
end

section
/-! SUPPORT. Results in the resident share (R134, R146, R158): what the scratchpads hold after a list of writes to one, and the
writes that an output bound to the share makes. Settles O27. -/

namespace Sys2Proof.Machine

section
variable {s : State} {c : Cand} {st : Stamp} {t : TensorRec} {bed off : Nat} {d : List Byte}

/-! ### Writes to a scratchpad -/

/-- The scratchpads are in canonical form. -/
def State.padsWf (s : State) : Prop := swf (padDefault s.padLost) s.pads = true

theorem State.padsWf_of_wf (h : s.wf = true) : s.padsWf := by
  simp only [State.wf, Bool.and_eq_true] at h
  obtain ⟨⟨⟨⟨-, hpads⟩, -⟩, -⟩, -⟩ := h
  exact hpads

theorem State.padsWf_padPut (h : s.padsWf) : (s.padPut bed off d).padsWf := swf_writeBytes _ _ _ _ h

theorem State.padBytes_padPut_self (h : s.padsWf) : (s.padPut bed off d).padBytes (padAddr bed off) d.length = d :=
  readBytes_self _ _ _ _ h

theorem State.padBytes_padPut_outside {k n : Nat} (h : k + n ≤ padAddr bed off ∨ padAddr bed off + d.length ≤ k) :
    (s.padPut bed off d).padBytes k n = s.padBytes k n := readBytes_outside _ _ _ _ _ _ h

/-! ### A list of writes, each bytes at an offset -/

/-- Write every piece of a list to a Bed's scratchpad, in order. -/
def State.padPuts (s : State) (bed : Nat) (l : List (Nat × List Byte)) : State := l.foldl (fun s p => s.padPut bed p.1 p.2) s

/-- Two pieces lie apart. -/
def PiecesApart (p q : Nat × List Byte) : Prop := p.1 + p.2.length ≤ q.1 ∨ q.1 + q.2.length ≤ p.1

theorem State.padPuts_cons (p : Nat × List Byte) (l : List (Nat × List Byte)) :
    s.padPuts bed (p :: l) = (s.padPut bed p.1 p.2).padPuts bed l := rfl

/-- Writes to a scratchpad change the scratchpads' cells alone. -/
theorem State.padPuts_frame (bed : Nat) (l : List (Nat × List Byte)) (s : State) :
    (s.padPuts bed l).dram = s.dram ∧ (s.padPuts bed l).regs = s.regs ∧ (s.padPuts bed l).padLost = s.padLost := by
  induction l generalizing s with
  | nil => exact ⟨rfl, rfl, rfl⟩
  | cons p l ih => exact ih (s.padPut bed p.1 p.2)

theorem State.padBytes_padPuts_outside {l : List (Nat × List Byte)} {k n : Nat}
    (h : ∀ p ∈ l, k + n ≤ padAddr bed p.1 ∨ padAddr bed p.1 + p.2.length ≤ k) :
    (s.padPuts bed l).padBytes k n = s.padBytes k n := by
  induction l generalizing s with
  | nil => rfl
  | cons p l ih =>
    obtain ⟨hp, hl⟩ := List.forall_mem_cons.1 h
    rw [padPuts_cons, ih hl, padBytes_padPut_outside hp]

/-- Of pieces that lie apart from each other, each reads back: the later ones leave it as it was written. -/
theorem State.padBytes_padPuts_of_mem {l : List (Nat × List Byte)} (hs : s.padsWf) (hl : l.Pairwise PiecesApart) :
    ∀ p ∈ l, (s.padPuts bed l).padBytes (padAddr bed p.1) p.2.length = p.2 := by
  induction l generalizing s with
  | nil => exact List.forall_mem_nil _
  | cons p l ih =>
    obtain ⟨hp, hl⟩ := List.pairwise_cons.1 hl
    refine List.forall_mem_cons.2 ⟨?_, ih (padsWf_padPut hs) hl⟩
    have hlater : ∀ q ∈ l, padAddr bed p.1 + p.2.length ≤ padAddr bed q.1 ∨ padAddr bed q.1 + q.2.length ≤ padAddr bed p.1 := by
      intro q hq
      have := hp q hq
      simp only [PiecesApart] at this
      simp only [padAddr]
      omega
    rw [padPuts_cons, padBytes_padPuts_outside hlater, padBytes_padPut_self hs]

/-! ### Outputs bound to the resident share (R158) -/

/-- BIND 2 and above name the share. -/
theorem State.bindAddr_of_share (h : 2 ≤ t.bind) : s.bindAddr c t off = .share off := by
  unfold State.bindAddr
  split
  · omega
  · omega
  · rfl

/-- An access within the share is not refused (R108). -/
theorem State.shareOff_inside {n : Nat} {write : Bool} (h : off + n ≤ (s.residentShare c.prog.ctx c.part.bed).2) :
    s.shareOff c st off n write = (s, some ((s.residentShare c.prog.ctx c.part.bed).1 + off)) :=
  if_neg (Nat.not_lt.2 h)

theorem State.bindWrite_share (hb : 2 ≤ t.bind) (h : off + d.length ≤ (s.residentShare c.prog.ctx c.part.bed).2) :
    s.bindWrite c st t off d = (s.padPut c.part.bed ((s.residentShare c.prog.ctx c.part.bed).1 + off) d, true) := by
  cases d with
  | nil => rfl
  | cons b d =>
    unfold State.bindWrite
    rw [bindAddr_of_share hb]
    simp only [List.isEmpty_cons, Bool.false_eq_true, if_false, shareOff_inside h]

/-- The bytes of an element of a tensor's format. -/
def TensorRec.elemBytes (t : TensorRec) : Nat := elemBits (fmtElem t.format) / 8

/-- The piece that a result makes at its element of a tensor in the share at `base`: the code into which it converts, least
significant byte first. -/
def TensorRec.resultPiece (t : TensorRec) (base : Nat) (e : Nat × Nat) : Nat × List Byte :=
  (base + (t.offset + t.elemBytes * e.1), leBytes t.elemBytes (convertElem (fmtElem t.format) (fmtSat t.format) e.2).1)

theorem State.putElem_share {i code : Nat} (hb : 2 ≤ t.bind) (hw : 8 ≤ elemBits (fmtElem t.format))
    (h : t.offset + t.elemBytes * i + t.elemBytes ≤ (s.residentShare c.prog.ctx c.part.bed).2) :
    s.putElem c st t i code =
      (s.padPut c.part.bed ((s.residentShare c.prog.ctx c.part.bed).1 + (t.offset + t.elemBytes * i)) (leBytes t.elemBytes code),
        true) := by
  unfold State.putElem
  rw [if_neg (Nat.not_lt.2 hw)]
  exact bindWrite_share hb (by rwa [leBytes_length])

/-- Results within the share are stored one after another, each as the piece at its element. -/
theorem State.putResults_share {g : NumFlags} {l : List (Nat × Nat)} (hb : 2 ≤ t.bind) (hw : 8 ≤ elemBits (fmtElem t.format))
    (h : ∀ e ∈ l, t.offset + t.elemBytes * e.1 + t.elemBytes ≤ (s.residentShare c.prog.ctx c.part.bed).2) :
    ∃ g', s.putResults c st t g l =
      (s.padPuts c.part.bed (l.map (t.resultPiece (s.residentShare c.prog.ctx c.part.bed).1)), .ok g') := by
  induction l generalizing s g with
  | nil => exact ⟨g, rfl⟩
  | cons e l ih =>
    obtain ⟨he, hl⟩ := List.forall_mem_cons.1 h
    unfold State.putResults
    simp only [putElem_share hb hw he]
    exact ih hl

@[simp] theorem TensorRec.resultPiece_length (base : Nat) (e : Nat × Nat) : (t.resultPiece base e).2.length = t.elemBytes :=
  leBytes_length _ _

/-- Pieces of distinct elements lie apart. -/
theorem TensorRec.resultPieces_pairwise_apart (t : TensorRec) (base : Nat) {l : List (Nat × Nat)} (h : (l.map (·.1)).Nodup) :
    (l.map (t.resultPiece base)).Pairwise PiecesApart := by
  have hstep {i j : Nat} (hij : i < j) : t.elemBytes * i + t.elemBytes ≤ t.elemBytes * j :=
    Nat.mul_le_mul_left t.elemBytes hij
  rw [List.pairwise_map]
  refine (List.pairwise_map.1 h).imp fun {e f} hne => ?_
  simp only [PiecesApart, resultPiece_length]
  simp only [resultPiece]
  obtain hlt | hlt := Nat.lt_or_gt_of_ne hne
  · have := hstep hlt
    omega
  · have := hstep hlt
    omega

end

/-- Settles O27: the results are a list of writes to the Bed's scratchpad (`putResults_share`), which lie apart from each other. -/
theorem resultsAreStoredWhereTheTensorLies : Obligations.ResultsAreStoredWhereTheTensorLies := by
  unfold Obligations.ResultsAreStoredWhereTheTensorLies
  intro s c st t g l hwf hb w hw _ hnodup share hin at_
  obtain ⟨g', hput⟩ := State.putResults_share (st := st) (g := g) hb hw hin
  obtain ⟨hdram, hregs, hlost⟩ := State.padPuts_frame c.part.bed (l.map (t.resultPiece share.1)) s
  refine ⟨_, g', hput, hdram, hregs, hlost, fun e he => ?_, fun k hk => ?_⟩
  · have hread := State.padBytes_padPuts_of_mem (bed := c.part.bed) (State.padsWf_of_wf hwf)
      (t.resultPieces_pairwise_apart share.1 hnodup) _ (List.mem_map_of_mem he)
    rwa [TensorRec.resultPiece_length] at hread
  · refine State.padBytes_padPuts_outside (List.forall_mem_map.2 fun e he => ?_)
    rw [TensorRec.resultPiece_length]
    exact hk e he

end Sys2Proof.Machine
end

section
/-! SUPPORT. The end of an operator (R180, R233) and the joint admission of a GROVE space (R215, R216): what they leave unchanged,
and O29. -/

namespace Sys2Proof.Machine
open Sys2Proof

/-! ### What a signal leaves unchanged -/

/-- The Beds and the bytes of memory: what no operation on a semaphore reaches. -/
def State.bedsAndBytes (s : State) : SMap BedSt × List Host.Cell × List Host.Cell := (s.tensor.beds, s.dram, s.pads)

section
variable {s : State}

theorem State.bedsAndBytes_congr {t : State} (ht : t.tensor = s.tensor) (hd : t.dram = s.dram) (hp : t.pads = s.pads) :
    t.bedsAndBytes = s.bedsAndBytes := by simp only [bedsAndBytes, ht, hd, hp]

@[simp] theorem State.touch_bedsAndBytes : s.touch.bedsAndBytes = s.bedsAndBytes := by
  obtain ⟨_, _, -, h⟩ := s.touch_eq
  rw [h]
  rfl

/-- A record may ask for the stop of a Plot (R19), which waits in the list of stops. -/
theorem State.raise_bedsAndBytes (r : FaultRec) : (s.raise r).bedsAndBytes = s.bedsAndBytes := by
  unfold raise
  dsimp only
  split
  · exact bedsAndBytes_congr (enterSafe_tensor ..) (enterSafe_dram ..) (enterSafe_pads ..)
  · split
    · unfold requestStop
      split <;> rfl
    · rfl

theorem State.writerRefused_bedsAndBytes {st : Stamp} {b : Block} {a : Nat} {w : WRefusal} :
    (s.writerRefused st b a w).bedsAndBytes = s.bedsAndBytes := by
  unfold writerRefused
  dsimp only
  rw [raise_bedsAndBytes]
  split
  · exact bedsAndBytes_congr (s.setErr_tensor ..) (s.setErr_dram ..) (s.setErr_pads ..)
  · rfl

theorem State.checkWatch_bedsAndBytes (w : Nat) : (s.checkWatch w).bedsAndBytes = s.bedsAndBytes := by
  unfold checkWatch
  dsimp only
  split
  · split <;> rfl
  · rfl

theorem State.checkWatches_bedsAndBytes (n : Nat) : (s.checkWatches n).bedsAndBytes = s.bedsAndBytes := by
  unfold checkWatches
  rw [touch_bedsAndBytes]
  exact List.foldlRecOn (motive := fun t : State => t.bedsAndBytes = s.bedsAndBytes) _ _ rfl
    fun _ ht w _ => (checkWatch_bedsAndBytes w).trans ht

theorem State.semAdd_bedsAndBytes {st : Stamp} {n a : Nat} : (s.semAdd st n a).bedsAndBytes = s.bedsAndBytes := by
  unfold semAdd
  dsimp only
  rw [checkWatches_bedsAndBytes]
  split
  · exact raise_bedsAndBytes _
  · rfl

theorem State.semAddBy_bedsAndBytes {st : Stamp} {n a : Nat} : (s.semAddBy st n a).bedsAndBytes = s.bedsAndBytes := by
  unfold semAddBy
  split
  · split
    · rfl
    · exact semAdd_bedsAndBytes
  · exact writerRefused_bedsAndBytes

end

/-! ### The end of an operator (R180, R233) -/

/-- The operator `r` of a Bed can end: the Bed is not still, and its merges and transfers are over. -/
structure State.OpOver (s : State) (n : Nat) (r : RunningOp) : Prop where
  running : (s.bed n).running = some r
  still : s.still (n / 8) = false
  merged : s.attendIdle r = true
  moved : ∀ d ∈ (s.bed n).dma, d.2.pend = 0 ∧ d.2.cur = none

/-- The Bed is free and counts its operator. -/
def State.freeBed (s : State) (n : Nat) : State :=
  (s.setBed n { s.bed n with running := none }).count .bedOpsDone n 1

section
variable {s : State} {n : Nat} {r : RunningOp} (h : s.OpOver n r)
include h

/-- None of the reasons for which OPERATOR_COMPLETE waits holds. -/
theorem State.OpOver.not_waiting :
    (s.still (n / 8) || !s.attendIdle r || (s.bed n).dma.any (fun d => d.2.pend ≠ 0 || d.2.cur.isSome)) = false := by
  have hmoved : (s.bed n).dma.any (fun d => d.2.pend ≠ 0 || d.2.cur.isSome) = false :=
    List.any_eq_false.2 fun d hd => by simp [h.moved d hd]
  rw [h.still, h.merged, hmoved]
  rfl

/-- Whatever the operator signals, the Beds and the bytes of memory are those of the freed Bed's state. -/
theorem State.OpOver.opComplete_bedsAndBytes : (s.opComplete n).bedsAndBytes = (s.freeBed n).bedsAndBytes := by
  unfold opComplete
  simp only [h.running, h.not_waiting, Bool.false_eq_true, if_false]
  split
  · exact touch_bedsAndBytes
  · split
    · exact touch_bedsAndBytes
    · split
      · rw [touch_bedsAndBytes]
        split
        · rfl
        · exact semAddBy_bedsAndBytes
      · exact touch_bedsAndBytes

theorem State.OpOver.opComplete_without_signal {f : Flight} {p : Prog} {o : OpRec} (hf : s.flight? r.queue r.seq = some f)
    (hp : s.cmdProg f.cmd = some p) (ho : p.ops[r.op]? = some o) (hsig : o.signalPsem = 0xFF) :
    s.opComplete n = (s.freeBed n).touch := by
  have hf' : (s.freeBed n).flight? r.queue r.seq = some f := hf
  have hp' : (s.freeBed n).cmdProg f.cmd = some p := hp
  unfold freeBed at hf' hp' ⊢
  unfold opComplete
  simp only [h.running, h.not_waiting, Bool.false_eq_true, if_false, hf', hp', ho, hsig, if_true]

end

/-! ### The space that a step is open for -/

section
variable {s : State} {k : Nat}

@[simp] theorem State.space?_setSpace_some (x : Space) : (s.setSpace k (some x)).space? k = some x := by
  simp only [space?, setSpace, sset, reduceCtorEq, if_false]
  exact sget_sins_self ..

@[simp] theorem State.space?_touch : s.touch.space? k = s.space? k := by
  obtain ⟨_, _, -, h⟩ := s.touch_eq
  rw [h]
  rfl

end

/-- The RUN that holds a space, and the epoch that the opening of its step gave. -/
def Space.opening (x : Space) : Option (Nat × Nat) × Nat := (x.open_, x.epoch)

@[simp] theorem Space.setSeq_opening (x : Space) (n : Nat) (q : SeqSt) : (x.setSeq n q).opening = x.opening := rfl

theorem Space.jointSeq_opening (x : Space) (leaves : List Nat) (runs : List (Nat × Nat)) (exhausted : List Nat) (n : Nat) :
    (x.jointSeq leaves runs exhausted n).opening = x.opening := by
  unfold jointSeq
  dsimp only
  split
  · exact setSeq_opening ..
  · split
    · rfl
    · split <;> exact setSeq_opening ..

section
variable {st : Stamp} {key : Nat}

theorem State.release_opening (s : State) (x : Space) (retire : Bool) (blk : Nat) :
    (s.release st key x retire blk).2.opening = x.opening := by
  unfold release
  dsimp only
  split <;> rfl

theorem State.releaseAll_opening (retire : Bool) : ∀ (l : List Nat) (s : State) (x : Space),
    (s.releaseAll st key x retire l).2.opening = x.opening
  | [], _, _ => rfl
  | b :: l, s, x => (releaseAll_opening retire l _ _).trans (s.release_opening x retire b)

theorem State.depart_opening (s : State) (x : Space) (n : Nat) : (s.depart st key x n).2.opening = x.opening := by
  unfold depart
  dsimp only
  split
  · rfl
  · rw [Space.setSeq_opening, releaseAll_opening]

end

/-! ### The joint admission (R215, R216) -/

/-- A member's report takes the place of its earlier one. -/
def Space.addReport (x : Space) (r : StepReport) : Space :=
  { x with reports := x.reports.filter (fun e => e.device ≠ r.device) ++ [r] }

section
variable {s : State} {key : Nat} {x : Space} (hx : s.space? key = some x)
include hx

/-- Without an open step that waits for its joint admission, or without the report of every member, nothing is judged. -/
theorem State.groveJudge_of_not_due
    (hwait : x.open_ = none ∨ x.agreed = true ∨ ∃ m ∈ bitList 8 s.elx.members, ∀ r ∈ x.reports, r.device ≠ m) :
    s.groveJudge key = s := by
  have hidle : (x.open_.isNone || x.agreed ||
      !(bitList 8 s.elx.members).all (fun d => x.reports.any (fun r => r.device == d))) = true := by
    obtain hopen | hagreed | ⟨m, hm, hmissing⟩ := hwait
    · simp [hopen]
    · simp [hagreed]
    · have hsome : (bitList 8 s.elx.members).all (fun d => x.reports.any (fun r => r.device == d)) = false :=
        List.all_eq_false.2 ⟨m, hm, by simpa using hmissing⟩
      rw [hsome, Bool.not_false, Bool.or_true]
  unfold groveJudge
  simp only [hx, hidle, if_true]

theorem State.groveReport_of_member {r : StepReport} (hg : x.grove = true) (h0 : s.self = 0) (hm : s.isMember r.device = true) :
    s.groveReport key r = (s.setSpace key (some (x.addReport r))).groveJudge key := by
  unfold groveReport
  simp [hx, hg, h0, hm, Space.addReport]

theorem State.groveResult_of_match {q seq : Nat} (hg : x.grove = true) (ha : x.agreed = false) (ho : x.open_ = some (q, seq))
    {runs : List (Nat × Nat)} {leaves exhausted : List Nat} :
    s.groveResult key none runs leaves exhausted = (s.applyJoint key runs leaves exhausted).touch := by
  simp [groveResult, hx, hg, ha, ho]

theorem State.groveResult_of_mismatch {q seq : Nat} (hg : x.grove = true) (ha : x.agreed = false) (ho : x.open_ = some (q, seq))
    (epochs : Bool) (runs : List (Nat × Nat)) (leaves exhausted : List Nat) :
    s.groveResult key (some epochs) runs leaves exhausted = (s.logAgree key x epochs).abortGroveStep key := by
  simp [groveResult, hx, hg, ha, ho]

theorem State.applyJoint_space? {q seq : Nat} (ho : x.open_ = some (q, seq)) (runs : List (Nat × Nat)) (leaves exhausted : List Nat) :
    ∃ y, (s.applyJoint key runs leaves exhausted).space? key = some y ∧ y.agreed = true ∧ y.opening = x.opening ∧ y.prov = [] := by
  unfold applyJoint
  simp only [hx, ho]
  refine ⟨_, space?_setSpace_some _, rfl, ?_, rfl⟩
  have hdeparted := List.foldlRecOn (motive := fun a : State × Space => a.2.opening = x.opening)
    (leaves.filter (fun n => (x.seq n).state == 3)) (fun a n => a.1.depart (s.trlStamp (key / 4) q x.ctx) key a.2 n)
    (b := (s, x)) rfl fun a ha n _ => (a.1.depart_opening a.2 n).trans ha
  exact List.foldlRecOn (motive := fun y : Space => y.opening = x.opening) _ _ hdeparted
    fun y hy n _ => (y.jointSeq_opening leaves runs exhausted n).trans hy

end

/-! ### A step that ends early -/

/-- The fault log and the bytes of DRAM: what the end of a command reaches neither of. -/
def State.logAndDram (s : State) : LogSt × List Host.Cell := (s.log, s.dram)

section
variable {s : State}

theorem State.touch_logAndDram : s.touch.logAndDram = s.logAndDram := by
  obtain ⟨_, _, -, h⟩ := s.touch_eq
  rw [h]
  rfl

theorem State.haltCopy_logAndDram (n q seq : Nat) : (s.haltCopy n q seq).logAndDram = s.logAndDram := by
  unfold haltCopy
  split <;> rfl

theorem State.haltBeds_logAndDram (q seq : Nat) : (s.haltBeds q seq).logAndDram = s.logAndDram :=
  List.foldlRecOn (motive := fun t : State => t.logAndDram = s.logAndDram) _ _ rfl fun _ ht _ _ => ht

theorem State.cancelOps_logAndDram (q seq : Nat) : (s.cancelOps q seq).logAndDram = s.logAndDram := by
  unfold cancelOps
  split
  · rfl
  next f _ =>
    dsimp only
    rw [haltBeds_logAndDram]
    have hcount := List.foldlRecOn (motive := fun t : State => t.logAndDram = s.logAndDram)
      (f.ops.filter (fun o => o.status.isNone)) (fun s o => s.count .pavCompleted o.pav 1) rfl fun _ ht _ _ => ht
    split
    · exact (haltCopy_logAndDram ..).trans hcount
    · exact hcount

theorem State.endCommand_logAndDram (q seq status pav : Nat) : (s.endCommand q seq status pav).logAndDram = s.logAndDram :=
  cancelOps_logAndDram ..

theorem State.abortGroveStep_logAndDram (key : Nat) : (s.abortGroveStep key).logAndDram = s.logAndDram := by
  unfold abortGroveStep
  split
  · exact touch_logAndDram.trans (endCommand_logAndDram ..)
  · rfl

end

/-- Settles O29: the end of an operator by `OpOver`, a report by `groveJudge_of_not_due`, a result by `applyJoint_space?` or, on a
mismatch, by the record that `logAgree` raises. -/
theorem operatorEndsAndJointAdmission : Obligations.OperatorEndsAndJointAdmission := by
  unfold Obligations.OperatorEndsAndJointAdmission
  refine ⟨?_, ?_, ?_⟩
  · intro s n r hrun hstill hmerged hmoved
    have hover : s.OpOver n.val r := ⟨hrun, hstill, hmerged, hmoved⟩
    obtain ⟨hbeds, hbytes⟩ := Prod.mk.inj hover.opComplete_bedsAndBytes
    obtain ⟨hdram, hpads⟩ := Prod.mk.inj hbytes
    refine ⟨_, rfl, hbeds, hdram, hpads, fun f p o hf hp hop hsig => ?_⟩
    rw [hover.opComplete_without_signal hf hp hop hsig, State.touch_sems, State.touch_regs]
    exact ⟨rfl, rfl⟩
  · intro s d tr sp e dig rows lv un x hx hg h0 hm y hwait
    have hjudge := State.groveJudge_of_not_due (s.space?_setSpace_some (k := 4 * tr.val + sp.val) y) hwait
    exact congrArg _ ((State.groveReport_of_member (r := ⟨d.val, e.toNat, dig, rows, lv, un⟩) hx hg h0 hm).trans hjudge)
  · intro s tr sp runs lv ex x q seq hx hg ha ho
    refine ⟨?_, fun b => ?_⟩
    · obtain ⟨y, hy, hagreed, hopening, hprov⟩ := State.applyJoint_space? hx ho runs lv ex
      obtain ⟨hopen, hepoch⟩ := Prod.mk.inj hopening
      refine ⟨_, y, rfl, ?_, hagreed, hepoch, hopen, hprov⟩
      rw [State.groveResult_of_match hx hg ha ho, State.space?_touch, hy]
    · have hmismatch := State.groveResult_of_mismatch hx hg ha ho b runs lv ex
      obtain ⟨hlog, hdram⟩ := Prod.mk.inj ((congrArg State.logAndDram hmismatch).trans (State.abortGroveStep_logAndDram _))
      have hraised := congrArg LogSt.raised (hlog.trans (State.raise_log ..))
      exact ⟨_, _, rfl, hraised, rfl, rfl, rfl, rfl, rfl, hdram.trans (State.raise_dram ..)⟩

end Sys2Proof.Machine
end
